-- ==== Sys2Proof/Word.lean ====
section
/-! DEFINITION. The words of the DM2 block model: a byte, little-endian byte strings (R4), and names for the counts
and addresses that the spec treats as numbers. -/

namespace Sys2Proof

/-- One byte of storage. -/
abbrev Byte := BitVec 8

/-- A device address (R28), an IOVA or an offset: a number, checked against its field where it is used. -/
abbrev Addr := Nat

/-- The number that a byte string holds, least significant byte first (R4). -/
def leNat : List Byte → Nat
  | [] => 0
  | b :: bs => b.toNat + 256 * leNat bs

/-- The `n` bytes of a number, least significant byte first (R4). -/
def natLE : Nat → Nat → List Byte
  | 0, _ => []
  | n + 1, v => BitVec.ofNat 8 v :: natLE n (v / 256)

/-- `len` bytes from position `off` of a byte string; bytes beyond its end read as 0. -/
def bytesAt (bs : List Byte) (off len : Nat) : List Byte :=
  let part := (bs.drop off).take len
  part ++ List.replicate (len - part.length) 0

/-- The unsigned little-endian field of `len` bytes at byte `off` (R4). -/
def fieldAt (bs : List Byte) (off len : Nat) : Nat := leNat (bytesAt bs off len)

/-- Bits `hi` down to `lo` of a number. -/
def bitsOf (v hi lo : Nat) : Nat := (v >>> lo) % 2 ^ (hi + 1 - lo)

/-- Bit `i` of a number. -/
def bitOf (v i : Nat) : Bool := v.testBit i

/-- A byte string with `src` laid over it from position `off`; the length does not change. -/
def overlay (bs : List Byte) (off : Nat) (src : List Byte) : List Byte :=
  (bs.take off ++ src ++ bs.drop (off + src.length)).take bs.length

/-- Are all bytes of a string zero? -/
def allZero (bs : List Byte) : Bool := bs.all (· == 0)

/-- A signed number read from `w` bits in two's complement. -/
def signedOf (w v : Nat) : Int := if v % 2 ^ w < 2 ^ (w - 1) then (v % 2 ^ w : Nat) else (v % 2 ^ w : Nat) - (2 ^ w : Nat)

/-- The low `w` bits of an integer in two's complement. -/
def unsignedOf (w : Nat) (z : Int) : Nat := (z % (2 ^ w : Nat)).toNat

end Sys2Proof
end

