-- ==== Sys2Proof/Machine/Code.lean ====
section
/-! DEFINITION. The outer code of a line of a stack (R238, R239): the field GF(2^8), the check bytes, and the decoding of symbol
errors and erasures. A symbol error is a symbol number, 0 to 71, and the bits of the symbol that are wrong. -/

namespace Sys2Proof

/-- What stands wrong in a stored line until a write of it: symbol errors, byte-lanes whose read parity fails, the severity that the
inner code reports (0 none, 1 corrected, 2 uncorrected), and bits of the stored tag that are flipped (R237, R239, R241). -/
structure LineFlaw where
  line : Nat
  syms : List (Nat × Nat)
  lanes : List Nat
  inner : Nat
  tag : Nat
  deriving DecidableEq, Repr

namespace Machine

/- The field GF(2^8) with polynomial x^8 + x^4 + x^3 + x^2 + 1 (R238). -/

/-- Multiplication by α = 0x02. -/
def gfDouble (a : Nat) : Nat := if 128 ≤ a then Nat.xor (2 * a - 256) 0x1D else 2 * a

/-- Product in the field. -/
def gfMul (a b : Nat) : Nat := (List.range 8).foldr (fun i acc => Nat.xor (gfDouble acc) (if b.testBit i then a else 0)) 0

/-- Power in the field. -/
def gfPow (a : Nat) : Nat → Nat
  | 0 => 1
  | n + 1 => gfMul a (gfPow a n)

/-- Sum in the field. -/
def gfSum (l : List Nat) : Nat := l.foldr Nat.xor 0

/-- The first `n` coefficients of a product of polynomials. -/
def gfPoly (n : Nat) (p q : List Nat) : List Nat :=
  (List.range n).map (fun k => gfSum ((List.range (k + 1)).map (fun i => gfMul (p.getD i 0) (q.getD (k - i) 0))))

/- The code. -/

/-- The place of symbol `j` in the codeword polynomial, α^(71 − j). -/
def rsPlace (j : Nat) : Nat := gfPow 2 (71 - j)

/-- g(x) = (x − α^0) … (x − α^7), lowest coefficient first (R238). -/
def rsGen : List Nat := (List.range 8).foldl (fun g i => gfPoly (i + 2) g [gfPow 2 i, 1]) [1]

/-- One step of the division by g(x): a data symbol enters the remainder, whose highest coefficient stands first. -/
def rsStep (r : List Nat) (d : Nat) : List Nat :=
  let f := Nat.xor d (r.headD 0)
  (List.range 8).map (fun i => Nat.xor (r.getD (i + 1) 0) (gfMul f (rsGen.getD (7 - i) 0)))

/-- The 8 check bytes of a line's 64 data bytes (R238). -/
def rsCheck (data : List Byte) : List Byte :=
  (data.foldl (fun r b => rsStep r b.toNat) (List.replicate 8 0)).map (BitVec.ofNat 8)

/-- The eight syndromes of symbol errors. -/
def rsSyndromes (e : List (Nat × Nat)) : List Nat :=
  (List.range 8).map (fun i => gfSum (e.map (fun p => gfMul p.2 (gfPow (rsPlace p.1) i))))

/-- Do the symbols of a line form a codeword: is their polynomial divisible by g(x) (R238)? -/
def rsCodeword (syms : List Byte) : Bool :=
  (rsSyndromes ((List.range 72).map (fun j => (j, (syms.getD j 0).toNat)))).all (· == 0)

/-- Does the decoder correct the line (R239)? At most eight erasures, and outside them at most floor((8 − |E|) / 2) symbols in error.
A success gives the line as it was written, whatever the bits are. -/
def rsDecodes (e : List (Nat × Nat)) (erased : List Nat) : Bool :=
  decide (erased.length ≤ 8 ∧ (e.filter (fun p => !erased.contains p.1)).length ≤ (8 - erased.length) / 2)

/-- The bits by which symbol `j` is wrong. -/
def symAt (e : List (Nat × Nat)) (j : Nat) : Nat := gfSum ((e.filter (fun p => p.1 == j)).map (·.2))

/-- Symbol errors with others added: one entry for each symbol that is wrong. -/
def symsAdd (a b : List (Nat × Nat)) : List (Nat × Nat) :=
  ((List.range 72).map (fun j => (j, symAt (a ++ b) j % 256))).filter (fun p => p.2 != 0)

end Machine

end Sys2Proof
end

