-- ==== Sys2Proof/Syntax.lean ====
section
/-! DEFINITION. The commands of the DM2 block: one constructor per row of spec/opcode_table.json. A command is one
whole step of the part (95_what_each_step_holds.md); its operands are what the outside, or the agent that acts,
supplies (log entry 4). -/

namespace Sys2Proof

/-- What salvage could not read of a failed tile (R430): scratchpad lines, and whether the counters, the gates and the table banks. -/
structure TileLoss where
  col : Nat
  row : Nat
  lines : List Nat
  counters : Bool
  gates : Bool
  banks : Bool
  deriving DecidableEq, Repr

/-- A module cold reset that may begin: its cause (R499), and whether the system reference is stable within 1 s (R528). -/
structure ColdRelease where
  cause : Nat
  sref : Bool
  deriving DecidableEq, Repr

/-- A low of MOD_RESET_N: its length in µs, whether the system reference is stable within 1 s of its end (R528), and the KIND of a firmware slot
that is being written (R525). -/
structure ResetPulse where
  us : Nat
  sref : Bool
  writing : Option Nat
  deriving DecidableEq, Repr

/-- A write of an entry of a function's MSI-X table: its address, its data and its mask bit (R377). -/
structure MsixWrite where
  entry : Nat
  addr : Nat
  data : Nat
  masked : Bool
  deriving DecidableEq, Repr

/-- A calendar time that comes over the sideband: SET_EPOCH with the operands of R485, or PLDM SetDateTime with its calendar second (R495, R497). -/
inductive SideEpoch where
  | vendor (entry : List Byte)
  | setDateTime (second : Nat)
  deriving DecidableEq, Repr

/-- A domain whose timing margin lies below the trim threshold: at its highest operating point too, or at others alone (R456). -/
structure AgeingLow where
  domain : Nat
  top : Bool
  deriving DecidableEq, Repr

/-- The seconds of a table of temperature bins (R498): one second lies in one bin of the hottest tile and one of the hottest stack. -/
def secondsOf (bins : List (Nat × Nat)) : Nat := bins.foldl (fun n e => n + e.2) 0

/-- The data of a host write, and whether it is poisoned: the EP bit (R370). -/
structure HostData where
  value : Nat
  ep : Bool
  deriving DecidableEq, Repr

/-- The core of a matrix work order, and the (pair, bit) places of its accumulator store that the reads find flipped (R102). -/
structure MatrixRun where
  core : Nat
  hits : List (Nat × Nat)
  deriving DecidableEq, Repr

/-- What a scrub finds beside wrong symbols and lanes: the severity of the inner code, and the flipped bits of the tag (R237, R241). -/
structure InnerTag where
  inner : Nat
  tag : Nat
  deriving DecidableEq, Repr

/-- A refresh of a bank, with the bank's activations since its last one, and what has come to stand wrong in its lines by then (R245). -/
structure BankRefresh where
  bank : Nat
  acts : Nat
  flaws : List LineFlaw
  deriving DecidableEq, Repr

/-- The lanes that a TRAIN flit names: those that its sender receives cleanly, and those on which either end asks precoding (R326, R329). -/
structure TrainLanes where
  mask : Nat
  precode : Nat
  deriving DecidableEq, Repr

/-- What the partners exchange in step 4 of training (R326, R328, R329): the partner's device identifier, fabric ID, root flags and port, the lanes
that each end receives cleanly, and the lanes for which either asks precoding. -/
structure Exchange where
  device : Nat
  fabricId : Nat
  root : Nat
  port : Nat
  mask : Nat
  localMask : Nat
  precode : Nat
  deriving DecidableEq, Repr

/-- The end of a port whose 4 µs pass: the sender of the oldest outstanding flit, or the receiver after its NAK (R333). -/
inductive ReplayEnd where
  | sender (port : Nat)
  | receiver (port : Nat)
  deriving DecidableEq, Repr

/-- What boot finds of the stacks: stacks k whose controller or PHY failed, or, as 24 + k, that trained fewer than 16 channels (R436); and
stacks with a channel that failed retraining (R247). -/
structure BootStacks where
  retired : List Nat
  badChannels : List Nat
  deriving DecidableEq, Repr

/-- The permissions that a translation lacks (R374). -/
structure Lacks where
  read : Bool
  write : Bool
  deriving DecidableEq, Repr

/-- Where an SPDM request travels: in a session, or outside of any over DOE or the sideband (R380). -/
inductive SpdmPath where
  | session (sid : Nat)
  | doe
  | sideband
  deriving DecidableEq, Repr

/-- The requester's proof in FINISH: whether it verifies, and with mutual authentication the digest of the root of its chain (R381). -/
structure FinishProof where
  pass : Bool
  root : Option (BitVec 384)
  deriving DecidableEq, Repr

/-- The associations of an IDE stream: its RID and at most four address blocks (R384). -/
structure IdeAssoc where
  rid : Nat
  addrs : List (Nat × Nat)
  deriving DecidableEq, Repr

inductive Instr where
  /-- SQ_TAIL_DOORBELL (R63). A `width`-byte write at doorbell offset 0x000 of queue `q` of function `fn` (0 to 11 a bay's VF, 12 the PF). -/
  | sqTailDoorbell (fn q width : Nat) (data : HostData)
  /-- CQ_HEAD_DOORBELL (R65). A `width`-byte write at doorbell offset 0x008. -/
  | cqHeadDoorbell (fn q width : Nat) (data : HostData)
  /-- FENCE_WINDOW_WRITE (R86). A `width`-byte write at offset `off` of the bay's fence window. -/
  | fenceWindowWrite (bay off width : Nat) (data : HostData)
  /-- ENTRY_FETCH (R62). The ridge fetches the next entry of a queue. -/
  | entryFetch (fn q : Nat)
  /-- LAUNCH (R69). The queue's next unstarted item, a LAUNCH, starts. -/
  | launch (fn q : Nat)
  /-- LAUNCH_READS_COMPLETE (R83). The batten and course reads of the launch in `slot` return. -/
  | launchReadsComplete (fn q slot : Nat)
  /-- COURSE_NODE_READ (R83). The ridge reads the launch's next node record. -/
  | courseNodeRead (fn q slot : Nat)
  /-- NODE_DISPATCH (R38). The ridge sends a ready node. -/
  | nodeDispatch (fn q slot node : Nat)
  /-- WORK_ORDER_ARRIVE (R105). A packet reaches core `unit` (column × 56 + row), or the eave engine of stack `unit` when `eave`. -/
  | workOrderArrive (eave : Bool) (unit : Nat)
  /-- WORK_ORDER_START (R105). The work order at the head of the core's queue starts. -/
  | workOrderStart (core : Nat)
  /-- WORK_ORDER_COMPLETE (R108). The last write of a work order is acknowledged. -/
  | workOrderComplete (eave : Bool) (unit lid node : Nat)
  /-- WORK_ORDER_REPORT (R112). The `n`-th completion report in flight reaches the ridge. -/
  | workOrderReport (n : Nat)
  /-- END_NOTICE (R111). The `n`-th end notice in flight reaches its core or engine. -/
  | endNotice (n : Nat)
  /-- COUNTER_WAIT_TIMEOUT (R110). The counter wait at the head of the core's queue exceeds its timeout. -/
  | counterWaitTimeout (core : Nat)
  /-- SYNC_ARRIVE (R533). A sync packet reaches the core. -/
  | syncArrive (core : Nat)
  /-- SYNC_REPORT (R533). The core reports its first sync whose prior work orders have completed. -/
  | syncReport (core : Nat)
  /-- SYNC_RELEASE (R533). The release of a sync node reaches its cores. -/
  | syncRelease (fn q slot node : Nat)
  /-- MATRIX_WORK_ORDER (R119). The matrix work order in progress at a core runs. -/
  | matrixWorkOrder (run : MatrixRun)
  /-- FUSED_CHAIN (R187). The vector work order in progress runs its chain (MODE 0x00). -/
  | fusedChain (core : Nat)
  /-- SPAR_PROGRAM (R188). The vector work order in progress runs its spar program (MODE 0x01). -/
  | sparProgram (core : Nat)
  /-- SOFTMAX (R224). The row-normalisation work order in progress runs (OP SOFTMAX). -/
  | softmax (core : Nat)
  /-- PARTIAL (R224). The row-normalisation work order in progress runs (OP PARTIAL). -/
  | partialState (core : Nat)
  /-- MERGE (R229). The row-normalisation work order in progress runs (OP MERGE). -/
  | mergeStates (core : Nat)
  /-- APPLY (R224). The row-normalisation work order in progress runs (OP APPLY). -/
  | applyState (core : Nat)
  /-- LAYERNORM (R230). The row-normalisation work order in progress runs (OP LAYERNORM). -/
  | layerNorm (core : Nat)
  /-- RMSNORM (R230). The row-normalisation work order in progress runs (OP RMSNORM). -/
  | rmsNorm (core : Nat)
  /-- SELECT (R303). The router work order in progress runs (OP SELECT). -/
  | routerSelect (core : Nat)
  /-- ADMIT (R304). The router work order in progress runs (OP ADMIT). -/
  | routerAdmit (core : Nat)
  /-- COMBINE (R307). The router work order in progress runs (OP COMBINE). -/
  | routerCombine (core : Nat)
  /-- EXIT_TEST (R323). The exit-test work order in progress runs. -/
  | exitTest (core : Nat)
  /-- DMA_COPY (R267). Stream `stream`, a COPY, of a copy work order runs. -/
  | dmaCopy (core lid node stream : Nat)
  /-- DMA_GATHER (R267). Stream `stream`, a GATHER, runs. -/
  | dmaGather (core lid node stream : Nat)
  /-- DMA_SCATTER (R267). Stream `stream`, a SCATTER, runs. -/
  | dmaScatter (core lid node stream : Nat)
  /-- DMA_FILL (R267). Stream `stream`, a FILL, runs. -/
  | dmaFill (core lid node stream : Nat)
  /-- ARRIVAL_SIGNAL (R271). A stream that ended OK signals its destination cores. -/
  | arrivalSignal (core lid node stream : Nat)
  /-- REMOTE_SCRATCHPAD_ACCESS (R274). A remote access at a core: `ecc` is 0 clean, 1 a single-bit error, 2 a double-bit error found by its read. -/
  | remoteScratchpadAccess (core off ecc : Nat) (write : Bool) (data : List Byte)
  /-- DISPATCH (R313). A DISPATCH valley work order sends its segments and DONEs. -/
  | valleyDispatch (core lid node : Nat)
  /-- RETURN (R313). A RETURN valley work order sends its segments and DONEs. -/
  | valleyReturn (core lid node : Nat)
  /-- VALLEY_SEGMENT (R316). The first packet of the `n`-th segment in flight reaches its gate. -/
  | valleySegment (n : Nat)
  /-- VALLEY_DONE (R316). The `n`-th message in flight, a DONE, reaches its gate. -/
  | valleyDone (n : Nat)
  /-- ATTEND (R290). The next work order of the stack's eave engine, an ATTEND, runs. -/
  | attend (stack : Nat)
  /-- PAGE_COPY (R297). The next work order of the stack's eave engine, a PAGE_COPY, runs. -/
  | pageCopy (stack : Nat)
  /-- EAVE_PARTIAL_RETURN (R292). The records of the engine's oldest finished request are visible. -/
  | eavePartialReturn (stack : Nat)
  /-- COPY (R70). The queue's next unstarted item, a COPY, starts. -/
  | copyStart (fn q : Nat)
  /-- COPY_COMPLETE (R70). The queue copy engine finishes the COPY in `slot`. -/
  | copyComplete (fn q slot : Nat)
  /-- FENCE_WAIT (R71). The queue's next unstarted item, a FENCE_WAIT, starts. -/
  | fenceWait (fn q : Nat)
  /-- FENCE_SIGNAL (R71). The queue's next unstarted item, a FENCE_SIGNAL, starts. -/
  | fenceSignal (fn q : Nat)
  /-- BARRIER (R72). The queue's next unstarted item, a BARRIER, starts. -/
  | barrierStart (fn q : Nat)
  /-- CANCEL (R92). The queue's next unstarted item, a CANCEL, starts. -/
  | cancelStart (fn q : Nat)
  /-- WAIT_TIMEOUT (R88). The fence wait of an item, or of node `node` of a launch, exceeds its timeout. -/
  | waitTimeout (fn q slot : Nat) (node : Option Nat)
  /-- COMPLETION_PATH_LOST (R95). The translation for the queue's next record write fails. -/
  | completionPathLost (fn q : Nat)
  /-- READ_RETAINED (R75). The PF queue's next unstarted item, a READ_RETAINED, runs. -/
  | readRetained (q : Nat)
  /-- RESET_QUEUE (R75). The PF queue's next unstarted item, a RESET_QUEUE, starts. -/
  | resetQueue (q : Nat)
  /-- QUEUE_STATE (R75). The PF queue's next unstarted item, a QUEUE_STATE, runs. -/
  | queueState (q : Nat)
  /-- APPROVAL_NONCE (R394). The PF queue's next unstarted item, an APPROVAL_NONCE, runs. -/
  | approvalNonce (q : Nat)
  /-- NONCE_EXPIRY (R394). The live nonce expires. -/
  | nonceExpiry
  /-- BAY_MAP (R393). The PF queue's next unstarted item, a BAY_MAP, runs. -/
  | bayMap (q : Nat)
  /-- BAY_CREATE (R400). The PF queue's next unstarted item, an APPROVED_CHANGE of this operation, runs. -/
  | bayCreate (q : Nat)
  /-- BAY_RESIZE (R400). As BAY_CREATE, operation BAY_RESIZE. -/
  | bayResize (q : Nat)
  /-- BAY_DESTROY (R400). As BAY_CREATE, operation BAY_DESTROY. -/
  | bayDestroy (q : Nat)
  /-- SET_MODE (R405). As BAY_CREATE, operation SET_MODE. -/
  | setMode (q : Nat)
  /-- RELEASE_LOCK (R398). As BAY_CREATE, operation RELEASE_LOCK. -/
  | releaseLock (q : Nat)
  /-- SET_DEBUG (R397). As BAY_CREATE, operation SET_DEBUG. -/
  | setDebug (q : Nat)
  /-- SET_POLICY (R397). As BAY_CREATE, operation SET_POLICY. -/
  | setPolicy (q : Nat)
  /-- LIFECYCLE (R413). As BAY_CREATE, operation LIFECYCLE. -/
  | lifecycleChange (q : Nat)
  /-- KEY_SLOT (R399). As BAY_CREATE, operation KEY_SLOT. -/
  | keySlot (q : Nat)
  /-- FUSE_WRITE (R397). As BAY_CREATE, operation FUSE_WRITE. -/
  | fuseWrite (q : Nat)
  /-- CERTIFICATE (R397). As BAY_CREATE, operation CERTIFICATE. -/
  | certificate (q : Nat)
  /-- CERTIFICATE_AUTHORISATION_EXPIRY (R397). The certificate authorisation lapses. -/
  | certificateExpiry
  /-- BAY_SCRUB_DONE (R401). The scrub of the bay's present strip finishes (12: the strip of a RESTORE_STRIP). -/
  | bayScrubDone (bay : Nat)
  /-- RIDGE_SLOT_BOUNDARY (R406). Device time reaches the next 2 us slot boundary. -/
  | ridgeSlotBoundary
  /-- EVIDENCE_GO (R518). GO is written to the bay's EVID_CTRL. -/
  | evidenceGo (bay : Nat)
  /-- FW_STAGE (R491). The PF queue's next unstarted item, a FW_STAGE, runs. -/
  | fwStage (q : Nat)
  /-- FW_ACTIVATE (R492). The PF queue's next unstarted item, a FW_ACTIVATE, starts. -/
  | fwActivate (q : Nat)
  /-- DRAIN_LIMIT_EXPIRY (R492). The activation drain reaches DRAIN_LIMIT. -/
  | drainLimitExpiry
  /-- FW_DRAIN_COMPLETE (R492). Nothing runs; the new image is loaded and its self-checks give `pass`. -/
  | fwDrainComplete (pass : Bool)
  /-- WARM_RESET (R483). The PF queue's next unstarted item, a WARM_RESET, starts. -/
  | warmReset (q : Nat)
  /-- COLD_RESET (R483). The PF queue's next unstarted item, a COLD_RESET, starts; or a sideband request with its OPERANDS in the places of an entry. -/
  | coldReset (q : Nat) (side : Option (List Byte))
  /-- BAY_RESET (R483). The PF queue's next unstarted item, a BAY_RESET, runs. -/
  | bayReset (q : Nat)
  /-- CORE_RESET (R485). The PF queue's next unstarted item, a CORE_RESET, runs. -/
  | coreReset (q : Nat)
  /-- LINK_RESET (R485). The PF queue's next unstarted item, a LINK_RESET, runs. -/
  | linkReset (q : Nat)
  /-- LIFETIME_READ (R499). The PF queue's next unstarted item, a LIFETIME_READ, runs; or a sideband request with its COUNT and OPERANDS in the places of an entry. -/
  | lifetimeRead (q : Nat) (side : Option (List Byte))
  /-- SET_EPOCH (R497). The PF queue's next unstarted item, a SET_EPOCH, runs; or a calendar time comes over the sideband. -/
  | setEpoch (q : Nat) (side : Option SideEpoch)
  /-- COLUMN_STATE (R442). The PF queue's next unstarted item, a COLUMN_STATE, runs. -/
  | columnState (q : Nat)
  /-- REHANG (R433). The PF queue's next unstarted item, a REHANG, starts. -/
  | rehang (q : Nat)
  /-- REHANG_CHECK_DONE (R433). The full check of a rehang ends. -/
  | rehangCheckDone (col row : Nat) (pass : Bool)
  /-- PLANNED_SLIP (R426). The PF queue's next unstarted item, a PLANNED_SLIP, starts. -/
  | plannedSlip (q : Nat)
  /-- PLANNED_SLIP_WAIT_EXPIRY (R426). The 10 ms wait of a planned slip of `owner` (a bay, or 16 + a strip of no bay) ends. -/
  | plannedSlipWaitExpiry (owner : Nat)
  /-- RETIRE_STRIP (R434). The PF queue's next unstarted item, a RETIRE_STRIP, runs. -/
  | retireStrip (q : Nat)
  /-- RESTORE_STRIP (R437). The PF queue's next unstarted item, a RESTORE_STRIP, starts. -/
  | restoreStrip (q : Nat)
  /-- RESTORE_QUIESCE (R437). Every adjacent bay has reached a quiesce point. -/
  | restoreQuiesce
  /-- RESTORE_QUIESCE_TIMEOUT (R437). The 10 s wait for quiesce points ends. -/
  | restoreQuiesceTimeout
  /-- READ_ERRORS (R424). The PF queue's next unstarted item, a READ_ERRORS, runs. -/
  | readErrors (q : Nat)
  /-- SNAPSHOT_STROBE (R472). The PF queue's next unstarted item, a SNAPSHOT_STROBE, runs. -/
  | snapshotStrobe (q : Nat)
  /-- SNAPSHOT_READ (R477). The PF queue's next unstarted item, a SNAPSHOT_READ, runs. -/
  | snapshotRead (q : Nat)
  /-- SNAPSHOT_RELEASE (R473). The PF queue's next unstarted item, a SNAPSHOT_RELEASE, runs. -/
  | snapshotRelease (q : Nat)
  /-- SNAPSHOT_HOLD_EXPIRY (R473). 60 s have passed since the capture. -/
  | snapshotHoldExpiry
  /-- SNAP_N (R472). SNAP_N is held low for `ns` nanoseconds. -/
  | snapN (ns : Nat)
  /-- TRACE_READ (R479). The PF queue's next unstarted item, a TRACE_READ, runs. -/
  | traceRead (q : Nat)
  /-- HALT (R480). The PF queue's next unstarted item, a HALT, runs. -/
  | haltBay (q : Nat)
  /-- STEP (R480). The PF queue's next unstarted item, a STEP, runs. -/
  | stepBay (q : Nat)
  /-- STEP_EXPIRY (R480). The bay's STEP cycle count runs out. -/
  | stepExpiry (bay : Nat)
  /-- RESUME (R480). The PF queue's next unstarted item, a RESUME, runs. -/
  | resumeBay (q : Nat)
  /-- DEBUG_ACCESS (R471). The PF queue's next unstarted item, a DEBUG_ACCESS, runs. -/
  | debugAccess (q : Nat)
  /-- ENABLE (R514). Q_CTRL command 1 is written. -/
  | enableQueue (fn q : Nat)
  /-- DISABLE (R514). Q_CTRL command 2 is written. -/
  | disableQueue (fn q : Nat)
  /-- RESTART (R514). Q_CTRL command 3 is written. -/
  | restartQueue (fn q : Nat)
  /-- WINDOW_OPEN (R516). The word of byte 0 of a window descriptor is written with OPEN = 1. -/
  | windowOpen (bay : Nat) (inbound : Bool) (w word : Nat)
  /-- WINDOW_CLOSE (R342). The word of byte 0 of a window descriptor is written with OPEN = 0. -/
  | windowClose (bay : Nat) (inbound : Bool) (w word : Nat)
  /-- SETUP_REGISTER_WRITE (R502). A `width`-byte write at BAR0 offset `off`. -/
  | setupRegisterWrite (fn off width : Nat) (data : HostData)
  /-- TILE_SELF_CHECK_FAILURE (R425). A parity or residue check fails in a physical tile. -/
  | tileSelfCheckFailure (col row : Nat)
  /-- TILE_HEARTBEAT (R113). The ridge's heartbeat to a tile is answered or not. -/
  | tileHeartbeat (col row : Nat) (answered : Bool)
  /-- SLIP_REPAIR (R428). The repair of the owner's failed tiles starts. -/
  | slipRepair (owner : Nat)
  /-- SLIP_MESH_DRAINED (R428). The owner's mesh drains. -/
  | slipMeshDrained (owner : Nat)
  /-- SPARE_CHECK_DONE (R428). A spare's check ends. -/
  | spareCheckDone (col row : Nat) (pass : Bool)
  /-- SLIP_MIGRATION_DONE (R428). Migration ends; `losses` tells what salvage could not read of the failed tiles. -/
  | slipMigrationDone (owner : Nat) (losses : List TileLoss)
  /-- SPARE_FULL_CHECK (R432). The ridge starts the hourly full check of the column's next spare. -/
  | spareFullCheck (col : Nat)
  /-- EAVE_ENGINE_FAILURE (R439). An eave engine fails its self-checks. -/
  | eaveEngineFailure (stack : Nat)
  /-- STACK_CONTROLLER_FAILURE (R434). A stack controller or PHY fails (3), or the stack loses over half its channels (4). -/
  | stackControllerFailure (stack cause : Nat)
  /-- DEVICE_FATAL (R440). A ridge-level fault (false) or a loss of NCLK or RCLK (true). -/
  | deviceFatal (clock : Bool)
  /-- PATROL_SCRUB_LINE (R243). The controller scrubs its next line and finds symbol errors, lanes with failed parity, an inner severity and flipped bits of the tag. -/
  | patrolScrubLine (stack : Nat) (syms : List (Nat × Nat)) (lanes : List Nat) (code : InnerTag)
  /-- REFRESH (R245). A pseudo-channel's refresh interval expires, and a bank of it is refreshed. -/
  | refresh (stack pc : Nat) (bank : BankRefresh)
  /-- ROW_REPAIR (R246). The first candidate row whose bank is free starts soft repair. -/
  | rowRepair (stack : Nat)
  /-- ROW_REPAIR_DONE (R246). The row's lines are migrated; `lost` are its columns found uncorrectable. -/
  | rowRepairDone (stack : Nat) (lost : List Nat)
  /-- MEMORY_HEALTH_RECORD (R252). The ridge writes the bay's memory health records. -/
  | memoryHealthRecord (bay : Nat)
  /-- LINK_HEALTH_RECORD (R350). The ridge writes the bay's link health records. -/
  | linkHealthRecord (bay : Nat)
  /-- POWER_RECORD (R459). The ridge writes the function's power record. -/
  | powerRecord (fn : Nat)
  /-- PORT_TRAINING (R328). Training of a port ends with the partner's TRAIN flit (device, fabric IDs, root, port, lanes) and the lanes that this end receives cleanly. -/
  | portTraining (port device fabricId prevId root partnerPort : Nat) (lanes : TrainLanes) (localMask : Nat)
  /-- TRAINING_RETRY (R329). A DOWN port restarts training. -/
  | trainingRetry (port : Nat)
  /-- LANE_MARGINAL (R331). A lane is marginal. -/
  | laneMarginal (port lane : Nat)
  /-- LANE_LOST (R331). A lane is lost. -/
  | laneLost (port lane : Nat)
  /-- DATA_FLIT (R333). A DATA flit arrives; `errs` are the (codeword, symbol) places its lanes received wrong (R327). -/
  | dataFlit (port : Nat) (bytes : List Byte) (errs : List (Nat × Nat))
  /-- IDLE_FLIT (R332). An IDLE flit arrives; `errs` as in DATA_FLIT. -/
  | idleFlit (port : Nat) (bytes : List Byte) (errs : List (Nat × Nat))
  /-- NAK (R333). A NAK flit arrives; `errs` as in DATA_FLIT. -/
  | nakFlit (port : Nat) (bytes : List Byte) (errs : List (Nat × Nat))
  /-- REPLAY_TIMEOUT (R333). 4 us pass without progress at an end of a port. -/
  | replayTimeout (port : ReplayEnd)
  /-- PORT_HOLD_EXPIRY (R335). The hold time of a RETRAINING port passes. -/
  | portHoldExpiry (port : Nat)
  /-- WRITE (R341). The port's oldest request message, a WRITE for this device, reaches its destination. -/
  | farWrite (port : Nat)
  /-- READ (R341). The oldest request message, a READ, reaches its destination. -/
  | farRead (port : Nat)
  /-- ATOMIC_ADD (R343). The oldest request message, an ATOMIC_ADD, reaches its destination. -/
  | farAtomicAdd (port : Nat)
  /-- WRITE_ACK (R349). The oldest response message, a WRITE_ACK, arrives. -/
  | farWriteAck (port : Nat)
  /-- READ_DATA (R349). The oldest response message, a READ_DATA, arrives. -/
  | farReadData (port : Nat)
  /-- ATOMIC_ACK (R361). The oldest response message, an ATOMIC_ACK, arrives. -/
  | farAtomicAck (port : Nat)
  /-- VALLEY (R341). The oldest request message, a VALLEY, reaches its destination. -/
  | farValley (port : Nat)
  /-- VALLEY_ACK (R313). The oldest response message, a VALLEY_ACK, arrives. -/
  | farValleyAck (port : Nat)
  /-- RESPONSE_TIMEOUT (R349). No response arrives for the request with this tag. -/
  | responseTimeout (port tag : Nat)
  /-- FAREF_FORWARD (R339). The oldest message of the VC, for another device, is forwarded. -/
  | farForward (port vc : Nat)
  /-- ENUM (R345). The oldest management message, an ENUM, arrives. -/
  | enumMessage (port : Nat)
  /-- TOPOLOGY (R346). The oldest management message, a TOPOLOGY, arrives. -/
  | topologyMessage (port : Nat)
  /-- ROOT_TAKEOVER (R347). One second has passed since the part lost its root. -/
  | rootTakeover
  /-- SNAPSHOT (R474). The oldest management message, a SNAPSHOT, arrives. -/
  | snapshotMessage (port : Nat)
  /-- ALL_REDUCE (R353). The `n`-th waiting collective of the bay, an ALL_REDUCE, starts. -/
  | allReduce (bay n : Nat)
  /-- REDUCE_SCATTER (R353). The `n`-th waiting collective, a REDUCE_SCATTER, starts. -/
  | reduceScatter (bay n : Nat)
  /-- ALL_GATHER (R353). The `n`-th waiting collective, an ALL_GATHER, starts. -/
  | allGather (bay n : Nat)
  /-- ALL_TO_ALL (R353). The `n`-th waiting collective, an ALL_TO_ALL, starts. -/
  | allToAll (bay n : Nat)
  /-- BROADCAST (R353). The `n`-th waiting collective, a BROADCAST, starts. -/
  | broadcast (bay n : Nat)
  /-- REMOTE_ADD (R361). The `n`-th waiting collective, a REMOTE_ADD, starts. -/
  | remoteAdd (bay n : Nat)
  /-- GRANT (R357). The oldest collective message, a GRANT, arrives. -/
  | collGrant (port : Nat)
  /-- DATA (R357). The oldest collective message, a DATA, arrives. -/
  | collData (port : Nat)
  /-- ABORT (R364). The oldest collective message, an ABORT, arrives. -/
  | collAbort (port : Nat)
  /-- FRAME_REDUCE (R358). The frame of a piece of the bay's `n`-th running collective is complete and is reduced. -/
  | frameReduce (bay n piece : Nat)
  /-- COLLECTIVE_TIMEOUT (R363). The `n`-th running collective has waited on a member beyond its timeout. -/
  | collectiveTimeout (bay n member : Nat)
  /-- CAP_TICK (R449). The 10 us tick with the measured device power, bay powers (bay order) and bays stretched in over 10 % of cycles. -/
  | capTick (power : Nat) (bays stretched : List Nat)
  /-- ACLK_STEP_SETTLE (R447). The bay's rising voltage settles. -/
  | aclkStepSettle (bay : Nat)
  /-- POWER_EMERGENCY (R452). A cause of R448 occurs: 1 over 3,600 W, 2 over the cap for 2 ms, 3 input below 44 V, 4 PWR_ALERT_N. -/
  | powerEmergency (cause : Nat)
  /-- EMERGENCY_RELEASE (R452). 1 ms has passed since every emergency cause cleared. -/
  | emergencyRelease
  /-- MAIN_INPUT_SHUTDOWN (R527). The main input stays below 40 V for 200 us, or above 59 V for 10 us (`tooHigh`). -/
  | mainInputShutdown (tooHigh : Bool)
  /-- MAIN_INPUT_RETURN (R489). The main input has been in range for 100 ms. -/
  | mainInputReturn
  /-- AUX_INPUT_LOSS (R527). The auxiliary input stays below 3.0 V for 10 us. -/
  | auxInputLoss
  /-- TEMPERATURE_SAMPLE (R455). The sensors in units of 0.25 °C: physical tiles (column × 60 + row) and stacks, those not listed read 0; the hottest converter or regulator. -/
  | temperatureSample (tiles stackList : List (Nat × Int)) (reg : Int)
  /-- DROOP_TRIP (R454). A droop detector trips: kind 0 tile domain (unit strip), 1 mesh, 2 stack controller, 3 ridge. -/
  | droopTrip (kind unit cycles : Nat)
  /-- AGEING_MEASUREMENT (R456). The measurement finds these domains below the trim threshold. -/
  | ageingMeasurement (low : List AgeingLow)
  /-- DOMAIN_GATE (R457). A domain's idle time expires. -/
  | domainGate (domain : Nat)
  /-- DOMAIN_WAKE (R457). A work order or packet wakes a domain. -/
  | domainWake (domain : Nat)
  /-- REGULATOR_FAULT (R458). A regulator shuts its domain off (189: a bus converter). -/
  | regulatorFault (domain : Nat)
  /-- INTERRUPT_DELIVERY (R462). The controller delivers to a ready target. -/
  | interruptDelivery (target : Nat)
  /-- ICTL_DONE (R463). ICTL_DONE of a target is written. -/
  | ictlDone (target : Nat)
  /-- ICTL_SOFT_SET (R466). ICTL_SOFT_SET is written. -/
  | ictlSoftSet (value : Nat)
  /-- ICTL_SRC_WRITE (R466). ICTL_SRC of a source is written. -/
  | ictlSrcWrite (src value : Nat)
  /-- ICTL_MASK_WRITE (R462). ICTL_MASK of a target is written. -/
  | ictlMaskWrite (target value : Nat)
  /-- WAIT_INSTRUCTION (R464). A processor executes its wait instruction. -/
  | waitInstruction (target : Nat)
  /-- WAIT_WAKE (R464). A waiting processor wakes. -/
  | waitWake (target : Nat)
  /-- MSIX_UNMASK (R469). An entry of the table is written, or (none) MSI-X Enable and Bus Master Enable are both 1 again. -/
  | msixUnmask (fn : Nat) (entry : Option MsixWrite)
  /-- VF_FLR (R373). An FLR of the bay's virtual function. -/
  | vfFlr (bay : Nat)
  /-- PF_FLR (R373). An FLR of the physical function. -/
  | pfFlr
  /-- VF_ENABLE_CLEARED (R371). NumVFs is lowered to `numVfs`, 0 for a cleared VF Enable. -/
  | vfEnableCleared (numVfs : Nat)
  /-- VF_CONFIG_CHANGE (R389). The host changes a function's BAR addresses (`bars`) or sets its enables and its Function Mask (`fmask`). -/
  | vfConfigChange (fn : Nat) (bars mem master ats pasid msix fmask : Bool)
  /-- PERST (R481). PERST# is asserted. -/
  | perst
  /-- HOT_RESET (R481). A PCIe hot reset, or the loss of REFCLK. -/
  | hotReset (refclk : Bool)
  /-- DEVICE_WARM_RESET (R482). The device warm reset takes effect; its re-run self-checks give `pass`. -/
  | deviceWarmReset (pass : Bool)
  /-- MOD_RESET_N (R524). MOD_RESET_N has been held low and is released. -/
  | modResetN (pulse : ResetPulse)
  /-- MODULE_COLD_RESET (R486). A module cold reset begins: cause of the RESET record (R499). -/
  | moduleColdReset (release : ColdRelease)
  /-- BOOT_READY (R486). Boot completes: tiles (column × 60 + row) that failed their tests; what it finds of the stacks; boot time. -/
  | bootReady (dead : List Nat) (found : BootStacks) (bootMs : Nat)
  /-- HOST_READ_COMPLETION (R370). A read completion: status 0 data, 1 UR or CA, 2 data with EP. -/
  | hostReadCompletion (fn : Nat) (pasid : Option Nat) (iova status : Nat) (data : List Byte)
  /-- COMPLETION_TIMEOUT (R370). A read of these bytes gets no completion. -/
  | completionTimeout (fn : Nat) (pasid : Option Nat) (iova len : Nat)
  /-- ATS_INVALIDATION (R375). An invalidation request; later translations of the range lack read or write permission, or are given. -/
  | atsInvalidation (fn : Nat) (pasid : Option Nat) (iova len : Nat) (lacks : Lacks)
  /-- NON_TEE_REQUEST (R387). A request to the bay's VF off its bound stream or without the T bit. -/
  | nonTeeRequest (bay : Nat) (write : Bool)
  /-- IDE_INTEGRITY_FAILURE (R385). A stream detects an integrity or sequence failure. -/
  | ideIntegrityFailure (stream : Nat)
  /-- GET_VERSION (R381). SPDM GET_VERSION. -/
  | getVersion (sideband : Bool)
  /-- GET_CAPABILITIES (R381). SPDM GET_CAPABILITIES with the requester's version (0x12 or 0x13). -/
  | getCapabilities (sideband : Bool) (version : Nat)
  /-- NEGOTIATE_ALGORITHMS (R381). SPDM NEGOTIATE_ALGORITHMS with the requester's algorithm numbers. -/
  | negotiateAlgorithms (sideband : Bool) (asym hash dhe aead : List Nat)
  /-- GET_DIGESTS (R382). SPDM GET_DIGESTS. -/
  | getDigests (path : SpdmPath)
  /-- GET_CERTIFICATE (R382). SPDM GET_CERTIFICATE. -/
  | getCertificate (path : SpdmPath) (certSlot off len : Nat)
  /-- CHALLENGE (R381). SPDM CHALLENGE. -/
  | challenge (path : SpdmPath) (certSlot : Nat) (nonce : List Byte)
  /-- GET_MEASUREMENTS (R383). SPDM GET_MEASUREMENTS: index 0 the count, 255 all. -/
  | getMeasurements (path : SpdmPath) (index : Nat) (signed : Bool) (nonce : List Byte)
  /-- KEY_EXCHANGE (R381). SPDM KEY_EXCHANGE. -/
  | keyExchange (sideband : Bool) (certSlot : Nat) (share : List Byte)
  /-- FINISH (R381). SPDM FINISH with the requester's proof. -/
  | spdmFinish (sid : Nat) (proof : FinishProof)
  /-- KEY_UPDATE (R381). SPDM KEY_UPDATE. -/
  | keyUpdate (sid : Nat)
  /-- HEARTBEAT (R381). SPDM HEARTBEAT. -/
  | heartbeat (sid : Nat)
  /-- SESSION_HEARTBEAT_EXPIRY (R381). A heartbeat period of a session passes without a message. -/
  | sessionHeartbeatExpiry (sid : Nat)
  /-- END_SESSION (R381). SPDM END_SESSION. -/
  | endSession (sid : Nat)
  /-- SET_CERTIFICATE (R382). SPDM SET_CERTIFICATE. -/
  | setCertificate (path : SpdmPath) (certSlot : Nat) (chain : List Byte)
  /-- SUBSCRIBE_EVENT_TYPES (R390). SPDM SUBSCRIBE_EVENT_TYPES. -/
  | subscribeEventTypes (sid : Nat) (subscribe : Bool)
  /-- PSK_EXCHANGE (R381). SPDM PSK_EXCHANGE. -/
  | pskExchange (sideband : Bool)
  /-- PSK_FINISH (R381). SPDM PSK_FINISH. -/
  | pskFinish (sideband : Bool)
  /-- KEY_PROG (R384). IDE_KM KEY_PROG, with the stream's associations. -/
  | keyProg (sid stream keySet sub dir : Nat) (assoc : IdeAssoc)
  /-- K_SET_GO (R384). IDE_KM K_SET_GO. -/
  | kSetGo (sid stream keySet sub dir : Nat)
  /-- GET_TDISP_VERSION (R386). TDISP GET_TDISP_VERSION. -/
  | getTdispVersion (sid bay : Nat)
  /-- GET_TDISP_CAPABILITIES (R386). TDISP GET_TDISP_CAPABILITIES. -/
  | getTdispCapabilities (sid bay : Nat)
  /-- LOCK_INTERFACE_REQUEST (R386). TDISP LOCK_INTERFACE_REQUEST. -/
  | lockInterface (sid bay stream : Nat)
  /-- GET_DEVICE_INTERFACE_REPORT (R388). TDISP GET_DEVICE_INTERFACE_REPORT. -/
  | getInterfaceReport (sid bay off len : Nat)
  /-- GET_DEVICE_INTERFACE_STATE (R386). TDISP GET_DEVICE_INTERFACE_STATE. -/
  | getInterfaceState (sid bay : Nat)
  /-- START_INTERFACE_REQUEST (R386). TDISP START_INTERFACE_REQUEST. -/
  | startInterface (sid bay : Nat) (nonce : BitVec 384)
  /-- STOP_INTERFACE_REQUEST (R389). TDISP STOP_INTERFACE_REQUEST. -/
  | stopInterface (sid bay : Nat)
  /-- ENTDAA (R494). The bus assigns a dynamic I3C address. -/
  | entdaa (address : Nat)
  /-- SET_ENDPOINT_ID (R495). The bus owner assigns the MCTP endpoint ID. -/
  | setEndpointId (eid : Nat)
  /-- PLDM_DISCOVERY (R495). A PLDM type 0 request. -/
  | pldmDiscovery (command : Nat)
  /-- PLDM_SENSOR_READ (R495). A PLDM type 2 request for a sensor: 0 device power, 1 + b the power of bay b, 13 the hottest tile, 14 the hottest stack, 15 + k the ACLK of strip k, 27 the input voltage, 28 READY, 29 DEVICE_FATAL. -/
  | pldmSensorRead (sensor : Nat)
  /-- PLDM_FIRMWARE_UPDATE (R495). A PLDM type 5 update: stage an image, or activate. -/
  | pldmFirmwareUpdate (kind : Nat) (image : List Byte) (activate : Bool)
  /-- LIFETIME_COMMIT (R496). A powered hour ends: commit, with the seconds since the last one that the hottest tile and the hottest stack spent in each bin. -/
  | lifetimeCommit (tileBins stackBins : List (Nat × Nat))
  /-- FREF_LOST (R528). The Faref reference is lost, or (`present`) returns. -/
  | frefLost (present : Bool)
  /-- PORT_RETRAINED (R328). Retraining of a port ends with the TRAIN exchange, as in PORT_TRAINING. -/
  | portRetrained (port : Nat) (x : Exchange)
  /-- VF_ENABLE_SET (R371). VF Enable is set, or NumVFs raised, to `numVfs`. -/
  | vfEnableSet (numVfs : Nat)
  /-- PERST_DEASSERTED (R490). PERST# is deasserted. -/
  | perstDeasserted
  /-- MAIN_INPUT_IN_RANGE (R486). The main input reaches its range while boot waits. -/
  | mainInputInRange
  deriving DecidableEq, Repr

end Sys2Proof
end

