-- ==== Sys2Proof/Config.lean ====
section
/-! DEFINITION. Constants of one part, and the free values: what the spec leaves open is an opaque constant here, so
that no proof can see what it is (log entry 2). The `draw` argument is the state's counter of free values. -/

namespace Sys2Proof.Config

/-- The byte that a host read returns at an IOVA which no HOST_READ_COMPLETION has supplied (log entry 3). -/
opaque hostByte (draw iova : Nat) : Byte

/-- Whether a destination byte of a failed item holds the would-be value (true) or its former content (R34). -/
opaque landed (draw addr : Nat) : Bool

/-- The value that a racing or undefined byte takes where the spec leaves it open (R48, R70). -/
opaque openByte (draw addr : Nat) : Byte

/-- The part of a timestamp below the 2 us slot, which the spec does not fix (R76, R410). -/
opaque subSlot (draw : Nat) : Nat

/-- A 384-bit random value of the security controller: nonces and key material (R394, R411). -/
opaque random384 (draw : Nat) : BitVec 384

/-- SHA-384 of a byte string (R381): the spec names the function and does not define it. -/
opaque sha384 (data : List Byte) : BitVec 384

/-- ECDSA P-384 verification under a 96-byte public key of a signature over a byte string (R381, R395). -/
opaque verifyP384 (key signed signature : List Byte) : Bool

/-- The 96-byte ECDSA P-384 signature over a byte string by the bay identity key of a serial number (R412). -/
opaque signP384 (keySerial : Nat) (signed : List Byte) : List Byte

/-- The 96-byte ECDSA P-384 signature over a byte string by the Alias key of a serial number (R381, R382, R412). -/
opaque aliasSign (aliasSerial : Nat) (signed : List Byte) : List Byte

/-- The 96-byte public key of a key serial number of the security controller (R382, R412). -/
opaque publicKey (keySerial : Nat) : List Byte

/-- The 64-bit device identifier in the fuses (R329). -/
opaque deviceId : BitVec 64

/-- The measurement digest of the security controller ROM (R383, index 1). -/
opaque romDigest : BitVec 384

/-- The certificates down to DeviceID of slot 0, and the Alias certificate of an Alias key serial, as bytes (R382). -/
opaque certChain : List Byte
opaque aliasCert (aliasSerial : Nat) : List Byte

/-- The first page of a VF's BAR as the host has set it a number of times, and its attributes, in an interface report (R388). -/
opaque barPage (bay bar set : Nat) : Nat
opaque barAttr (bay bar : Nat) : Nat

/-- Whether a firmware image verifies: signature, format (R491). -/
opaque imageVerifies (image : List Byte) : Bool

/-- The security version that a firmware image carries (R491). -/
opaque imageVersion (image : List Byte) : Nat

/-- The digest and security version of the image of a KIND with which the part leaves the factory (R491, log entry 53). -/
opaque fwDigest (kind : Nat) : BitVec 384
opaque fwVersion (kind : Nat) : Nat

/-- The bytes of a response whose content the spec does not lay out (log entry 54). -/
opaque reply (draw : Nat) : List Byte

/-- A free Boolean outcome of a check the spec leaves to the part (a self-check, a training step). -/
opaque outcome (draw : Nat) : Bool

/-- A free number where the spec leaves a value open. -/
opaque openNat (draw : Nat) : Nat

/-- The bytes in which a snapshot shows the content that it captured in a domain, and what of it the state does not hold: kind 0 status, 1
counters, 2 data, and of a shared block 3 + 2b the counters and 4 + 2b the data of bay b (R416, R476, R478). -/
opaque snapBytes (draw domain kind : Nat) (content : List Nat) : List Byte

/-- The count of a clock of R20 at the edge of a capture (R475). -/
opaque snapCycle (draw clock : Nat) : Nat

/-- The MIPI manufacturer ID of the management controller and the hash of its device identifier (R494). -/
opaque i3cMaker : BitVec 15
opaque i3cHash : BitVec 32

/-- The activations of a bank at which a refresh-management command is due, as the stack reports it at training (R245). -/
opaque actThreshold (stack : Nat) : Nat

/-- The content of an accumulator pair that a fault left part-way (R34, R54). -/
opaque openPair (draw p : Nat) : Nat × Nat

end Sys2Proof.Config
end

