-- ==== Sys2Proof/Machine/Num.lean ====
section
/-! DEFINITION. Number formats (R140 to R148), expanded elements (R151), the conversion cvt (R153, R154), the
rounding generator (R156) and output block scales (R158). A stored code is a Nat of the format's width; an exact
value is a rational. -/

namespace Sys2Proof.Machine

/-- The element formats of R140. -/
inductive Fmt where
  | fp32 | bf16 | fp16 | e4m3 | e5m2 | e3m2 | e2m3 | e2m1 | int8 | int4
  deriving DecidableEq, Repr

/-- The format that an 8-bit format code names (R140); a reserved code names none (R141). -/
def fmtOf : Nat → Option Fmt
  | 0 => some .fp32 | 1 => some .bf16 | 2 => some .fp16 | 3 => some .e4m3 | 4 => some .e5m2
  | 5 => some .e3m2 | 6 => some .e2m3 | 7 => some .e2m1 | 8 => some .int8 | 9 => some .int4
  | _ => none

/-- The width of an element in bits (R140). -/
def fmtWidth : Fmt → Nat
  | .fp32 => 32 | .bf16 => 16 | .fp16 => 16 | .e4m3 => 8 | .e5m2 => 8
  | .e3m2 => 6 | .e2m3 => 6 | .e2m1 => 4 | .int8 => 8 | .int4 => 4

/-- Is the format an integer format (R144)? -/
def fmtIsInt : Fmt → Bool
  | .int8 | .int4 => true
  | _ => false

/-- Fraction bits p (R142). -/
def fmtP : Fmt → Nat
  | .fp32 => 23 | .bf16 => 7 | .fp16 => 10 | .e4m3 => 3 | .e5m2 => 2
  | .e3m2 => 2 | .e2m3 => 3 | .e2m1 => 1 | .int8 => 0 | .int4 => 0

/-- Exponent bits e_w (R142). -/
def fmtEw : Fmt → Nat
  | .fp32 => 8 | .bf16 => 8 | .fp16 => 5 | .e4m3 => 4 | .e5m2 => 5
  | .e3m2 => 3 | .e2m3 => 2 | .e2m1 => 2 | .int8 => 0 | .int4 => 0

/-- The exponent bias (R142). -/
def fmtBias : Fmt → Nat
  | .fp32 => 127 | .bf16 => 127 | .fp16 => 15 | .e4m3 => 7 | .e5m2 => 15
  | .e3m2 => 3 | .e2m3 => 1 | .e2m1 => 1 | .int8 => 0 | .int4 => 0

/-- The magnitude code of the largest finite value (R142, R144 for a positive integer). -/
def fmtMaxCode : Fmt → Nat
  | .fp32 => 0x7F7FFFFF | .bf16 => 0x7F7F | .fp16 => 0x7BFF | .e4m3 => 0x7E | .e5m2 => 0x7B
  | .e3m2 => 0x1F | .e2m3 => 0x1F | .e2m1 => 0x7 | .int8 => 0x7F | .int4 => 0x7

/-- The canonical NaN of a format that has one (R142, R145). -/
def fmtNaN : Fmt → Option Nat
  | .fp32 => some 0x7FC00000 | .bf16 => some 0x7FC0 | .fp16 => some 0x7E00
  | .e4m3 => some 0x7F | .e5m2 => some 0x7E
  | _ => none

/-- The exact value of a number: a class, a sign and, when finite and not zero, its rational value. -/
inductive Num where
  /-- Not a number. -/
  | nan
  /-- An infinity; `neg` is its sign. -/
  | inf (neg : Bool)
  /-- A zero; `neg` is its sign. -/
  | zero (neg : Bool)
  /-- A finite value that is not 0. -/
  | fin (v : Rat)
  deriving DecidableEq, Repr

/-- The power of two with an integer exponent. -/
def pow2 (z : Int) : Rat := if 0 ≤ z then ((2 ^ z.toNat : Nat) : Rat) else mkRat 1 (2 ^ (-z).toNat)

/-- floor(log2 v) of a positive rational. -/
def ilog2 (v : Rat) : Int :=
  let k : Int := (v.num.natAbs.log2 : Int) - (v.den.log2 : Int)
  if pow2 (k + 1) ≤ v then k + 1 else if pow2 k ≤ v then k else k - 1

/-- A rational as a number; an exact 0 is +0 (R166). -/
def numOfRat (v : Rat) : Num := if v = 0 then .zero false else .fin v

/-- The sign of a number (a NaN has sign 0). -/
def numNeg : Num → Bool
  | .nan => false
  | .inf n => n
  | .zero n => n
  | .fin v => decide (v < 0)

/-- The rational value of a finite number; 0 where it has none. -/
def numRat : Num → Rat
  | .fin v => v
  | _ => 0

/-- Is the number finite (a zero counts)? -/
def numIsFinite : Num → Bool
  | .zero _ => true
  | .fin _ => true
  | _ => false

def numIsNaN : Num → Bool
  | .nan => true
  | _ => false

def numIsInf : Num → Bool
  | .inf _ => true
  | _ => false

/-- The number with its sign changed. -/
def numNegate : Num → Num
  | .nan => .nan
  | .inf n => .inf (!n)
  | .zero n => .zero (!n)
  | .fin v => .fin (-v)

/-- The number's magnitude. -/
def numAbs : Num → Num
  | .nan => .nan
  | .inf _ => .inf false
  | .zero _ => .zero false
  | .fin v => .fin (if v < 0 then -v else v)

/-- The value of a code of a floating-point or integer format (R142 to R145). -/
def decodeFmt (f : Fmt) (code : Nat) : Num :=
  if fmtIsInt f then
    let z := signedOf (fmtWidth f) code
    if z = 0 then .zero false else .fin (z : Rat)
  else
    let p := fmtP f
    let ew := fmtEw f
    let neg := code.testBit (p + ew)
    let ex := (code >>> p) % 2 ^ ew
    let t := code % 2 ^ p
    let sgn : Rat := if neg then -1 else 1
    let special : Bool := match f with
      | .fp32 | .bf16 | .fp16 | .e5m2 => ex == 2 ^ ew - 1
      | .e4m3 => ex == 15 && t == 7
      | _ => false
    if special then
      if f = .e4m3 then .nan else if t = 0 then .inf neg else .nan
    else if ex = 0 then
      if t = 0 then .zero neg else .fin (sgn * t * pow2 (1 - (fmtBias f : Int) - p))
    else .fin (sgn * ((2 ^ p + t : Nat) : Rat) * pow2 ((ex : Int) - fmtBias f - p))

/-- The largest finite magnitude of a format; for an integer format that of its sign (R153, R154). -/
def fmtMax (f : Fmt) (neg : Bool) : Rat :=
  match f with
  | .int8 => if neg then 128 else 127
  | .int4 => if neg then 8 else 7
  | _ => numRat (decodeFmt f (fmtMaxCode f))

/-- The overflow threshold of a floating-point format: largest finite plus half its ulp (R142). -/
def fmtThreshold (f : Fmt) : Rat :=
  let m := fmtMax f false
  m + pow2 (ilog2 m - fmtP f - 1)

/-- The code of sign and magnitude: `mag` is a multiple of the spacing and at most the largest finite value. -/
def encodeMag (f : Fmt) (neg : Bool) (mag : Rat) : Nat :=
  if fmtIsInt f then
    unsignedOf (fmtWidth f) (if neg then -mag.floor else mag.floor)
  else
    let p := fmtP f
    let sbit := if neg then 2 ^ (p + fmtEw f) else 0
    if mag = 0 then sbit
    else
      let emin : Int := 1 - (fmtBias f : Int)
      let e := ilog2 mag
      if e < emin then sbit + (mag / pow2 (emin - p)).floor.toNat
      else sbit + (e + fmtBias f).toNat * 2 ^ p + ((mag / pow2 (e - p)).floor.toNat - 2 ^ p)

/-- The code of an overflow or an infinity (R154); `ieee` is OVERFLOW = 1. -/
def ovfCode (f : Fmt) (neg ieee : Bool) : Nat :=
  match f with
  | .int8 => if neg then 0x80 else 0x7F
  | .int4 => if neg then 0x8 else 0x7
  | _ =>
    let sbit := if neg then 2 ^ (fmtP f + fmtEw f) else 0
    let infinite : Option Nat := match f with
      | .fp32 => some (0x7F800000 + sbit)
      | .bf16 => some (0x7F80 + sbit)
      | .fp16 => some (0x7C00 + sbit)
      | .e5m2 => some (0x7C + sbit)
      | .e4m3 => some 0x7F
      | _ => none
    match ieee, infinite with
    | true, some c => c
    | _, _ => fmtMaxCode f + sbit

/-- Rounding modes of a conversion. -/
inductive RMode where
  | rne | rtz | sr
  deriving DecidableEq, Repr

/-- The round function of the generator of R156, `n` rounds. -/
def rngRounds : Nat → Nat → Nat → Nat → Nat
  | 0, a, b, _ => a ^^^ b
  | n + 1, a, b, k =>
    let q := a * 0xCB1A5E2D
    rngRounds n ((q >>> 32) ^^^ b ^^^ k) (q % 2 ^ 32) ((k + 0x7F4A7C15) % 2 ^ 32)

/-- The rounding generator of R156: a 32-bit seed and a 64-bit index to 32 random bits. -/
def rng (seed index : Nat) : Nat :=
  rngRounds 6 (index % 2 ^ 32) (((index >>> 32) % 2 ^ 32) ^^^ (seed % 2 ^ 32)) (seed % 2 ^ 32)

/-- The rounding fields of a conversion: mode, OVERFLOW, random bits W, SEED (R153). -/
structure Rounding where
  mode : RMode
  ieee : Bool
  w : Nat
  seed : Nat
  deriving DecidableEq, Repr

/-- The conversion of R153, in the order of its pseudocode. -/
def cvt (x : Num) (f : Fmt) (r : Rounding) (index : Nat) : Nat :=
  match x with
  | .nan => (fmtNaN f).getD 0
  | .inf n => ovfCode f n r.ieee
  | .zero n => if fmtIsInt f then 0 else encodeMag f n 0
  | .fin v =>
    let neg := decide (v < 0)
    let a := if neg then -v else v
    if !fmtIsInt f && decide (fmtThreshold f ≤ a) then ovfCode f neg r.ieee
    else
      let e : Int := if fmtIsInt f then 0 else max (ilog2 a) (1 - (fmtBias f : Int))
      let u := pow2 (e - fmtP f)
      let n := (a / u).floor.toNat
      let d := a / u - (n : Rat)
      let up : Bool := match r.mode with
        | .rne => decide (mkRat 1 2 < d) || (decide (d = mkRat 1 2) && n % 2 == 1)
        | .rtz => false
        | .sr =>
          let t := (d * ((2 ^ r.w : Nat) : Rat)).floor.toNat
          let rho := rng r.seed index >>> (32 - r.w)
          decide (2 ^ r.w ≤ t + rho)
      let m := ((n + (if up then 1 else 0) : Nat) : Rat) * u
      encodeMag f neg (min m (fmtMax f neg))

/-- RNE with IEEE overflow (R155). -/
def rneFields : Rounding := ⟨.rne, true, 8, 0⟩
/-- RTZ with IEEE overflow (R155). -/
def rtzFields : Rounding := ⟨.rtz, true, 8, 0⟩
/-- rne(x, F) of R155. -/
def rneTo (x : Num) (f : Fmt) : Nat := cvt x f rneFields 0
/-- rtz(x, F) of R155. -/
def rtzTo (x : Num) (f : Fmt) : Nat := cvt x f rtzFields 0
/-- rne(x, FP32) of R155. -/
def rne32 (x : Num) : Nat := rneTo x .fp32
/-- The value of an FP32 code. -/
def dec32 (c : Nat) : Num := decodeFmt .fp32 c

/-- Exact addition with the special operands of R166. -/
def numAdd : Num → Num → Num
  | .nan, _ => .nan
  | _, .nan => .nan
  | .inf a, .inf b => if a = b then .inf a else .nan
  | .inf a, _ => .inf a
  | _, .inf b => .inf b
  | .zero a, .zero b => .zero (a && b)
  | .zero _, y => y
  | x, .zero _ => x
  | .fin x, .fin y => numOfRat (x + y)

/-- Exact multiplication with the special operands of R166. -/
def numMul (x y : Num) : Num :=
  let s := xor (numNeg x) (numNeg y)
  match x, y with
  | .nan, _ => .nan
  | _, .nan => .nan
  | .inf _, .zero _ => .nan
  | .zero _, .inf _ => .nan
  | .inf _, _ => .inf s
  | _, .inf _ => .inf s
  | .zero _, _ => .zero s
  | _, .zero _ => .zero s
  | .fin a, .fin b => .fin (a * b)

/-- One FP32 addition (R166). -/
def f32add (a b : Nat) : Nat := rne32 (numAdd (dec32 a) (dec32 b))
/-- One FP32 multiplication (R166). -/
def f32mul (a b : Nat) : Nat := rne32 (numMul (dec32 a) (dec32 b))
/-- One FP32 subtraction: the sum with the negated second operand. -/
def f32sub (a b : Nat) : Nat := rne32 (numAdd (dec32 a) (numNegate (dec32 b)))
/-- The fused form: the exact product and sum rounded once. -/
def f32fma (a b c : Nat) : Nat := rne32 (numAdd (numMul (dec32 a) (dec32 b)) (dec32 c))

/-- x < y over numbers, −0 and +0 equal; false with a NaN. -/
def numLt : Num → Num → Bool
  | .nan, _ => false
  | _, .nan => false
  | .inf a, .inf b => a && !b
  | .inf a, _ => a
  | _, .inf b => !b
  | x, y => decide (numRat x < numRat y)

/-- x = y over numbers, −0 and +0 equal; false with a NaN. -/
def numEq : Num → Num → Bool
  | .nan, _ => false
  | _, .nan => false
  | .inf a, .inf b => a == b
  | .inf _, _ => false
  | _, .inf _ => false
  | x, y => decide (numRat x = numRat y)

/-- The canonical FP32 NaN (R142). -/
def nan32 : Nat := 0x7FC00000

/-- Scale formats of a scale configuration (R147, R148). -/
inductive SFmt where
  | e8m0 | ue4m3
  deriving DecidableEq, Repr

/-- The value of a scale byte: none for NaN (R147, R148). -/
def scaleVal (sf : SFmt) (c : Nat) : Option Rat :=
  match sf with
  | .e8m0 => if c % 256 = 0xFF then none else some (pow2 ((c % 256 : Nat) - 127))
  | .ue4m3 => match decodeFmt .e4m3 (c % 128) with
    | .nan => none
    | x => some (numRat x)

/-- The classes of an expanded element (R151). -/
inductive ECls where
  | zero | finite | inf | nan
  deriving DecidableEq, Repr

/-- An expanded element: class, sign, exponent, significand (R151). -/
structure Expanded where
  cls : ECls
  neg : Bool
  e : Int
  f : Nat
  deriving DecidableEq, Repr

/-- The expanded element of R151: `scale` is none for no block scale. -/
def expand (code : Nat) (f : Fmt) (scale : Option (SFmt × Nat)) : Expanded :=
  let scaleNaN : Bool := match scale with
    | none => false
    | some (sf, c) => (scaleVal sf c).isNone
  let scaleZero : Bool := match scale with
    | none => false
    | some (sf, c) => scaleVal sf c == some 0
  let v := decodeFmt f code
  if numIsNaN v || scaleNaN then ⟨.nan, false, 0, 0⟩
  else
    let ms : Nat × Int := match scale with
      | none => (1, 0)
      | some (.e8m0, c) => (1, (c % 256 : Nat) - 127)
      | some (.ue4m3, c) =>
        let mag := c % 128
        if mag / 8 = 0 then (mag % 8, -9) else (8 + mag % 8, (mag / 8 : Nat) - 10)
    match v with
    | .inf n => if scaleZero then ⟨.nan, false, 0, 0⟩ else ⟨.inf, n, 0, 0⟩
    | _ =>
      let me : Bool × Nat × Int :=
        if fmtIsInt f then
          let z := signedOf (fmtWidth f) code
          (decide (z < 0), z.natAbs, 0)
        else
          let p := fmtP f
          let ex := (code >>> p) % 2 ^ fmtEw f
          let t := code % 2 ^ p
          (code.testBit (p + fmtEw f),
            if ex = 0 then (t, 1 - (fmtBias f : Int) - p) else (2 ^ p + t, (ex : Int) - fmtBias f - p))
      let fm := me.2.1 * ms.1
      if fm = 0 then ⟨.zero, me.1, 0, 0⟩ else ⟨.finite, me.1, me.2.2 + ms.2, fm⟩

/-- q_max(F) of R158. -/
def fmtQmax : Fmt → Int
  | .e4m3 => 8 | .e5m2 => 15 | .e3m2 => 4 | .e2m3 => 2 | .e2m1 => 2 | .int8 => 6 | .int4 => 2
  | _ => 0

/-- The smallest unsigned E4M3 code whose value is at least `x`, from code `c`; 0x7E (448) if none is (R158). -/
def ue4m3AtLeast (x : Rat) : Nat → Nat → Nat
  | 0, _ => 0x7E
  | fuel + 1, c => if x ≤ numRat (decodeFmt .e4m3 c) then c else ue4m3AtLeast x fuel (c + 1)

/-- The quantisation of one output block (R158, R159): its scale byte and its codes. -/
def quantiseBlock (v : List Nat) (f : Fmt) (sf : SFmt) (r : Rounding) (idx : List Nat) : Nat × List Nat :=
  let nums := v.map dec32
  if nums.any numIsNaN && (fmtNaN f).isNone then
    ((if sf = .e8m0 then 0xFF else 0x7F), v.map (fun _ => 0))
  else
    let amax : Rat := (nums.filter numIsFinite).foldl (fun m x => max m (numRat (numAbs x))) 0
    let sc : Nat × Rat := match sf with
      | .e8m0 =>
        let x : Int := if amax = 0 then 0 else min 127 (max (-127) (ilog2 amax - fmtQmax f))
        ((x + 127).toNat, pow2 x)
      | .ue4m3 =>
        if amax = 0 then (0x38, 1)
        else
          let c := ue4m3AtLeast (amax / fmtMax f false) 0x7E 1
          (c, numRat (decodeFmt .e4m3 c))
    (sc.1, (nums.zip idx).map fun xi =>
      let q : Num := match xi.1 with
        | .fin y => .fin (y / sc.2)
        | y => y
      cvt q f r xi.2)

end Sys2Proof.Machine
end

