-- ==== Sys2Proof/Machine/Types.lean ====
section
/-! DEFINITION. The types of the pieces of state: queues and items (chapter 3), launches and nodes, work orders and
cores (chapter 4), gates (R315), stacks (chapter 11), Faref ports (chapter 15), collectives (chapter 16), the host
interface and security state (chapters 17, 18), repair (19), power (20), interrupts (21), debug (22), lifetime (23).
Everything here is plain data. -/

namespace Sys2Proof.Machine

/-- The statuses of R77. -/
inductive Status where
  | ok | cancelled | notRun | lengthRange | addressRange | formatInvalid | descriptorInvalid | courseInvalid
  | poisonedData | slipped | linkLost | peerTimeout | splitPartial | fenceCycle | waitTimeout | completionPathLost
  | bayReset | securityStop | firmwareDrain | deviceFatal | adminRefused
  deriving DecidableEq, Repr

/-- The code of a status (R77). -/
def statusCode : Status → Nat
  | .ok => 0x00 | .cancelled => 0x01 | .notRun => 0x02 | .lengthRange => 0x10 | .addressRange => 0x11
  | .formatInvalid => 0x12 | .descriptorInvalid => 0x13 | .courseInvalid => 0x14 | .poisonedData => 0x20
  | .slipped => 0x21 | .linkLost => 0x22 | .peerTimeout => 0x23 | .splitPartial => 0x24 | .fenceCycle => 0x30
  | .waitTimeout => 0x31 | .completionPathLost => 0x32 | .bayReset => 0x40 | .securityStop => 0x41
  | .firmwareDrain => 0x42 | .deviceFatal => 0x50 | .adminRefused => 0x60

/-- Queue states (R94); the code is that of QUEUE_STATE (R75). -/
inductive QState where
  | disabled | running | stopped | pathLost | fetchFault
  deriving DecidableEq, Repr

/-- The progress of an outstanding item (R78, R92). -/
inductive ItemSt where
  /-- Fetched and not started. -/
  | fetched
  /-- Started and running. -/
  | running
  /-- Started and waiting: a fence wait, or the earlier items it must follow. -/
  | waiting
  /-- Completed with its final status; its record is not yet written (R65). -/
  | completed
  deriving DecidableEq, Repr

/-- The progress of a node of a running launch (R39, R83, R84). -/
inductive NodeSt where
  | unsent | sent | waiting | done | failed | withdrawn
  deriving DecidableEq, Repr

/-- One node that the ridge has read for a launch: its record after patches, its predecessors, and the reports so far. -/
structure NodeRun where
  rcd : List Byte
  preds : List Nat
  st : NodeSt
  /-- Work orders (or cores, for a sync) sent and not yet reported. -/
  owed : Nat
  /-- The failure with the lowest member index so far: member and status (R84). -/
  fail : Option (Nat × Status)
  /-- OR of the split masks of SPLIT_PARTIAL reports (R136). -/
  splits : Nat
  /-- OR of the masks that exit-test members returned (R324). -/
  exitMask : Nat
  /-- The queue's wait timeout when a fence wait began (R88). -/
  timeout : Nat
  deriving DecidableEq, Repr

/-- How a launch has ended, if it has (R84, R92, R93). -/
inductive LaunchEnd where
  | going | failed | cancelled | byStatus (st : Status)
  deriving DecidableEq, Repr

/-- The ridge's record of a running launch (R69, R83, R84). -/
structure Launch where
  /-- A serial number that names this launch in packets and notices. -/
  lid : Nat
  /-- Whether checks 2 to 4 have passed and node 0 may be read. -/
  ready : Bool
  header : List Byte
  batten : List Byte
  patches : List (List Byte)
  nodes : List NodeRun
  packets : Nat
  fin : LaunchEnd
  /-- The batten as far as it has come, where it lies in a fabric window (R69). -/
  far : Option (List Byte)
  deriving DecidableEq, Repr

/-- One fetched item whose record is not yet written (R59, R62). -/
structure Item where
  slot : Nat
  /-- The queue's fetch count at this item's fetch: PHASE is its pass (R65). -/
  seq : Nat
  /-- The fetch order over all queues, for BARRIER scope 1 (R72). -/
  order : Nat
  entry : List Byte
  st : ItemSt
  status : Status
  split : Nat
  node : Nat
  result : Nat
  launch : Option Launch
  /-- Bytes a COPY has moved, or the number that a running RESET_QUEUE or other ADMIN item keeps for its RESULT. -/
  moved : Nat
  /-- The queue's wait timeout when a FENCE_WAIT began (R88). -/
  timeout : Nat
  /-- The items that a CANCEL ended, by their fetch order (R92). -/
  targets : List Nat
  /-- An ending imposed on a running item, taken when its work completes (R92, R93). -/
  endAs : Option Status
  deriving DecidableEq, Repr

/-- A queue: its set-up registers (R513), pointers and outstanding items (R62 to R65, R94, R95). -/
structure Queue where
  sqBase : BitVec 64 := 0
  cqBase : BitVec 64 := 0
  cfg : BitVec 32 := 0x6000#32
  pasid : BitVec 32 := 0
  timeout : BitVec 32 := 10000#32
  st : QState := .disabled
  sqHead : Nat := 0
  sqTail : Nat := 0
  cqHead : Nat := 0
  /-- The slot of the next record that the ridge will write (R65). -/
  recHead : Nat := 0
  /-- Entries fetched since the queue was enabled (R64). -/
  fetched : Nat := 0
  items : List Item := []
  /-- The retained-completion buffer, oldest first (R95). -/
  retained : List (List Byte) := []
  deriving DecidableEq, Repr

/-- A function's error vector (R418 to R424) with its ring registers (R517). -/
structure ErrVec where
  seq : Nat := 0
  history : List (List Byte) := []
  dropped : Nat := 0
  /-- EVENT_COUNT by event code (R422). -/
  counts : List (Nat × Nat) := []
  base : BitVec 64 := 0
  cfg : BitVec 32 := 0
  deriving DecidableEq, Repr

/-- What a function holds: queues, error vector, set-up status, PCIe controls, MSI-X (R371 to R377, R469, R502). -/
structure FnState where
  queues : List (Nat × Queue) := []
  err : ErrVec := {}
  setupStatus : BitVec 32 := 0
  /-- Whether the virtual function exists (always for the PF) (R371). -/
  exists_ : Bool := false
  ats : Bool := false
  pasidEnable : Bool := false
  busMaster : Bool := false
  memSpace : Bool := false
  msixEnable : Bool := false
  functionMask : Bool := false
  /-- The MSI-X table: the address and data of each entry (R377); the entries that are unmasked, and those whose pending bit is 1. -/
  msixTab : List (Nat × Nat × Nat) := []
  msixOpen : List Nat := []
  msixPending : List Nat := []
  /-- Low halves of 64-bit registers whose high half has not followed: register offset and value (R500). -/
  lowHalf : List (Nat × Nat) := []
  /-- Errors reported through Advanced Error Reporting (R370). -/
  aer : Nat := 0
  /-- How often the host has set the function's BAR addresses: they are not the spec's (log entry 54). -/
  barGen : Nat := 0
  deriving DecidableEq, Repr

/-- TDI states (R386). -/
inductive Tdi where
  | unlocked | locked | run | error
  deriving DecidableEq, Repr

/-- An inbound or outbound window: its registers as bytes (R340, R341). -/
structure Window where
  bytes : List Byte := []
  deriving DecidableEq, Repr

/-- A collective that a context runs or holds (R351, R357 to R366). -/
structure Coll where
  /-- The launch, queue, slot and node that ran it. -/
  lid : Nat
  queue : Nat
  slot : Nat
  nodeIx : Nat
  rcd : List Byte
  /-- The group table as read at start. -/
  table : List Byte
  started : Bool
  /-- Pieces of this member's share reduced so far (d of R357). -/
  reduced : Nat
  /-- Contributions held in the reduction buffer: (piece, member, bytes). -/
  frames : List (Nat × Nat × List Byte)
  /-- Exclusive piece limit granted by each member, contributions and results. -/
  grants : List (Nat × Nat)
  grants1 : List (Nat × Nat)
  /-- Pieces sent to each member, contributions and results. -/
  sent : List (Nat × Nat)
  sent1 : List (Nat × Nat)
  /-- Pieces received from each member that went to DST, by member. -/
  got : List (Nat × Nat)
  startTime : Nat
  /-- First and last message time by member (R366). -/
  first : List (Nat × Nat)
  last : List (Nat × Nat)
  /-- Results of this member's share, in piece order, as they travel to every member (R358). -/
  results : List (List Byte)
  deriving DecidableEq, Repr

/-- The collective context of a bay (R351, R359). -/
structure CollCtx where
  running : List Coll := []
  waiting : List Coll := []
  lastSeq : List (Nat × Nat) := []
  /-- Headers of GRANTs that arrived before their collective started (R357). -/
  held : List (List Byte) := []
  stale : Nat := 0
  /-- Collectives that have ended, with their status and telemetry record, where the record waits for a core (R366, R429). -/
  owed : List (Coll × Status × List Byte) := []
  deriving DecidableEq, Repr

/-- An event to raise: its code and the fields of its record (R421, R422). -/
structure Ev where
  code : Nat
  loc0 : Nat := 0
  loc1 : Nat := 0
  detail : Nat := 0
  items : Nat := 0
  deriving DecidableEq, Repr

/-- Events that reach the ridge for a bay, held until its ridge slot when another bay's slot runs (R406). -/
inductive RidgeEvent where
  /-- A write to a queue's doorbell page (R63). -/
  | doorbell (q off width value : Nat)
  /-- A write to the fence window (R86). -/
  | fenceWrite (off width value : Nat)
  /-- A completion report of a work order or a collective: launch, node, member, status, split mask, exit mask (R112). -/
  | report (lid node member : Nat) (st : Status) (mask exit : Nat)
  /-- A core's report of a sync (R533). -/
  | syncReport (lid node core : Nat)
  /-- A Faref request to a fence (R343): TYPE of the message, fence, value; and for its answer the port of arrival, the
  source device, the tag and the inbound window. -/
  | remote (kind fence value port src tag win : Nat)
  /-- A write to the bay's BAR0 (R501). -/
  | setup (off width value : Nat)
  /-- An event to raise in the bay's error vector, and whether the ridge's snapshot trigger follows (R418, R472). -/
  | raise (e : Ev) (trig : Bool)
  /-- An MSI-X message for an entry of the bay's function (R468). -/
  | message (entry : Nat)
  deriving DecidableEq, Repr

/-- Evidence registers (R518). -/
structure Evidence where
  nonce : List (BitVec 32) := []
  addr : BitVec 64 := 0
  cfg : BitVec 32 := 0
  busy : Bool := false
  result : Nat := 0
  deriving DecidableEq, Repr

/-- A slip repair of a bay's strips (R426 to R431). -/
structure Repair where
  /-- Failed tiles in detection order: column, physical row, planned, logical row before. -/
  failed : List (Nat × Nat × Bool × Nat)
  /-- Spares already checked in this repair, by column and row. -/
  checked : List (Nat × Nat)
  /-- Where the repair is: 1 a planned slip not begun, 0 its wait, 2 a failed tile found, 3 the mesh drains, 5 the spares
  are checked, 6 migration (R426, R428). -/
  step : Nat
  /-- Moved cores: absolute column and logical row. -/
  moved : List (Nat × Nat)
  /-- The launches of the items that the repair ended. -/
  ended : List Nat
  /-- PF queue and slot of the PLANNED_SLIP entry that waits, if any. -/
  entry : Option (Nat × Nat)
  deriving DecidableEq, Repr

/-- A bay: strips, fences, resources, windows and the state the spec gives each bay. -/
structure BayState where
  /-- First strip and strip count; count 0 means the bay does not exist (R392). -/
  first : Nat := 0
  count : Nat := 0
  /-- The bay's BARs are live (R403). -/
  live : Bool := false
  fences : List (Nat × Nat) := []
  /-- FENCE_TYPE bits that are 1 (EXTERNAL): fence numbers (R87, R515). -/
  external : List Nat := []
  resPcie : BitVec 32 := 0
  resEnvelope : BitVec 32 := 0
  resAclkSet : BitVec 32 := 1100#32
  resAclkRange : BitVec 32 := BitVec.ofNat 32 (1400 * 2 ^ 16 + 600)
  resMode : BitVec 32 := 1#32
  outWin : List (Nat × Window) := []
  inWin : List (Nat × Window) := []
  memHealthDest : BitVec 64 := 0
  linkHealthDest : BitVec 64 := 0
  powerDest : BitVec 64 := 0
  evid : Evidence := {}
  tdi : Tdi := .unlocked
  /-- The IDE stream bound at LOCK, and the lock nonce (R386). -/
  boundStream : Nat := 0
  lockNonce : BitVec 384 := 0
  resetGen : Nat := 0
  /-- Serial number of the live bay identity key (R412). -/
  keySerial : Option Nat := none
  debugLevel : Nat := 0
  halted : Bool := false
  stepLeft : Nat := 0
  aclk : Nat := 1100
  /-- Reasons that hold raises down: 3 tile temperature, 5 emergency (R449, R455). -/
  heldDown : List Nat := []
  /-- A FIXED_FREQUENCY_VIOLATED episode is open (R453). -/
  violation : Bool := false
  violations : Nat := 0
  /-- Energy since bay creation in units of 10 µJ, and the record counts of R459 since the previous record: the sum and
  number of the 10 µs powers, their peak, and THROTTLE. -/
  energy : Nat := 0
  stretches : Nat := 0
  peak : Nat := 0
  powSum : Nat := 0
  powTicks : Nat := 0
  throttle : Nat := 0
  /-- The operating point that a rising voltage settles for (R447). -/
  aclkTarget : Option Nat := none
  coll : CollCtx := {}
  /-- The counts of each port of the bay when its records began: retrains, uncorrectable codewords, corrected symbols, NAKs and replays, late
  responses (R350). -/
  linkBase : List (Nat × List Nat) := []
  /-- Scrub in progress: absolute strips still to scrub, in order. -/
  scrub : List Nat := []
  /-- What follows the scrub: see Stop.lean. -/
  afterScrub : Nat := 0
  /-- The endings whose records are being written, in order: see Stop.lean (R483). -/
  resets : List Nat := []
  /-- A STOP_INTERFACE_REQUEST waits for the scrub that its stop starts (R389). -/
  stopping : Bool := false
  /-- The reset that waits also resets the virtual function's configuration space: an FLR, or the function ceases to exist. -/
  flr : Bool := false
  /-- Fetching is stopped: for RESTORE_STRIP, a repair, a drain (bit set of reasons). -/
  fetchHold : List Nat := []
  deriving DecidableEq, Repr

/-- The phase of a work order at a core or engine (R105, R108). -/
inductive WoSt where
  | queued | started | ran (st : Status) (mask exit : Nat)
  deriving DecidableEq, Repr

/-- A stream of a copy work order that has run (R267, R271, R275). -/
structure StreamRun where
  ix : Nat
  st : Status
  /-- The destination cores that it signals at its end, their counter and the increment. -/
  cores : List Nat
  ctr : Nat
  incr : Nat
  signalled : Bool
  deriving DecidableEq, Repr

/-- A work-order packet, as the dispatch tree carries it to one member (R58). -/
structure WorkOrder where
  bay : Nat
  lid : Nat
  queue : Nat
  slot : Nat
  nodeIx : Nat
  rcd : List Byte
  /-- Bay-relative core index or bay stack index. -/
  member : Nat
  /-- The wait timeout of the packet (R110). -/
  timeout : Nat
  pasid : Option Nat
  st : WoSt
  /-- Streams of a copy work order that have run. -/
  streams : List StreamRun
  /-- TABLE_SWAP of the descriptor as the run read it, and the entries that the run loaded into the standby bank (R191). -/
  swap : Bool
  table : Nat
  /-- REPORT_OFFSET of a valley descriptor as the run read it (R318). -/
  report : Option Nat
  /-- Streams that an invalidation found begun, with the runs that they had made (R375). -/
  begun : List (Nat × Nat)
  /-- Bytes that other work wrote while this was in progress, with their former values: of a scratchpad where the flag is set, else of a stack
  (R48). -/
  stale : List (Bool × Host.Cell)
  deriving DecidableEq, Repr

/-- An entry of a core's arrival order: a work order, or the barrier of a sync packet (R533). -/
inductive CoreEntry where
  | wo (w : WorkOrder)
  | barrier (bay lid nodeIx : Nat) (reported : Bool)
  deriving DecidableEq, Repr

/-- A gate of a core (R315). -/
structure Gate where
  epoch : Nat := 0
  gen : Nat := 0
  isOpen : Bool := false
  senders : Nat := 0
  dones : Nat := 0
  expected : Nat := 0
  arrived : Nat := 0
  stale : Nat := 0
  sigCtr : Nat := 0
  sigIncr : Nat := 0
  cancel : Nat := 0
  deriving DecidableEq, Repr

/-- A table bank (R189): its length n, its entries that are not +0, and its poisoned entries. -/
structure TableBank where
  n : Nat := 2048
  entries : List (Nat × Nat) := []
  poisoned : List Nat := []
  allPoisoned : Bool := false
  deriving DecidableEq, Repr

/-- A valley segment or DONE on its way to a core of this device: source launch identity and content (R313, R314). -/
structure ValleyMsg where
  bay : Nat
  core : Nat
  header : List Byte
  offset : Nat
  payload : List Byte
  /-- The local sender: core, launch and node. -/
  sender : Option (Nat × Nat × Nat)
  /-- The port, source device and tag of the request to answer, and its inbound window. -/
  port : Option (Nat × Nat × Nat × Nat)
  deriving DecidableEq, Repr

/-- A logical core of a bay's grid, by absolute column and logical row (R96 to R110, R315, R189). -/
structure Core where
  queue : List CoreEntry := []
  /-- Packets that the dispatch tree holds for this core, oldest first (R58). -/
  tree : List CoreEntry := []
  counters : List (Nat × Nat) := []
  gates : List (Nat × Gate) := []
  bank0 : TableBank := {}
  bank1 : TableBank := {}
  active : Nat := 0
  pairs : List (Nat × Nat × Nat) := []
  /-- Bit errors that stand in pairs: pair, 1 or 2 bits (R102). -/
  pairFlaws : List (Nat × Nat) := []
  /-- Launches whose end notice has reached this core (R111). -/
  ended : List Nat := []
  deriving DecidableEq, Repr

/-- A physical tile (R113, R114, R425, R432). -/
structure Tile where
  misses : Nat := 0
  spadCorr : Nat := 0
  accCorr : Nat := 0
  /-- CORE_CORRECTABLE has been raised for this tile (R425). -/
  corrRaised : Bool := false
  /-- Times declared failed in its life (R433, R496). -/
  failures : Nat := 0
  /-- Device time of the last full check (R428). -/
  lastCheck : Nat := 0
  /-- A full check is running: 0 none, 1 hourly, 2 rehang. -/
  checking : Nat := 0
  deriving DecidableEq, Repr

/-- A column: its holes, dead bits, ranks and repair counts (R261, R427, R442). -/
structure Column where
  holes : List Nat := [56, 57, 58, 59]
  dead : List Nat := []
  /-- Spares in pool-rank order, lowest first (R427). -/
  rank : List Nat := [56, 57, 58, 59]
  retired : Bool := false
  slips : Nat := 0
  deriving DecidableEq, Repr

/-- A stack: poison, lanes, repair and health (R239 to R252), and its eave engine (R277, R278). -/
structure Stack where
  /-- Poisoned lines: line numbers, ascending (R241). -/
  poison : List Nat := []
  /-- Channels with a marked lane: (channel, lane) (R240). -/
  marked : List (Nat × Nat) := []
  /-- Times of the last 16 reads with failed parity, under channel × 9 + lane (R240). -/
  parity : List (Nat × List Nat) := []
  failing : Bool := false
  corrected : Nat := 0
  innerCorrected : Nat := 0
  uncorrectable : Nat := 0
  softRepairs : Nat := 0
  /-- The rows repaired since the last module cold reset, which makes the repairs hard (R246). -/
  softRows : List Nat := []
  /-- Spare rows used in each bank of each channel (R246): key channel × 16 + bank. -/
  sparesUsed : List (Nat × Nat) := []
  scrubPos : Nat := 0
  scrubProgress : Nat := 0
  scrubPasses : Nat := 0
  lastPoison : Option Nat := none
  /-- Times at which lines became poisoned (R247). -/
  poisonTimes : List Nat := []
  /-- What stands wrong in stored lines, at most one entry for a line (R237, R239, R241). -/
  latent : List LineFlaw := []
  /-- Corrections in a row since its last scrub visit: (row key, count) (R246). -/
  rowCorr : List (Nat × Nat) := []
  /-- Rows that are repair candidates, and the row under repair: row key channel × 2^21 + bank × 2^17 + row. -/
  candidates : List Nat := []
  repairing : Option Nat := none
  doubled : Bool := false
  halfRate : Bool := false
  /-- By pseudo-channel × 16 + bank: refreshes, activations in the rolling count, and refresh-management commands (R245). -/
  refreshes : List (Nat × Nat) := []
  activations : List (Nat × Nat) := []
  managed : List (Nat × Nat) := []
  spareLow : Bool := false
  /-- The eave engine: work orders in arrival order, and whether it is held in reset (R278, R439). -/
  eave : List WorkOrder := []
  eaveTree : List WorkOrder := []
  eaveFailed : Bool := false
  /-- Finished requests whose partials are on their way: counter signals of their cores (R297): core, counter, increment. -/
  eaveSigs : List (List (Nat × Nat × Nat)) := []
  eaveEnded : List Nat := []
  deriving DecidableEq, Repr

/-- What an outstanding Faref request belongs to. -/
inductive ReqOwner where
  /-- A transfer work order: bay, member core, launch and node, stream. -/
  | wo (bay core lid nodeIx stream : Nat)
  /-- A COPY item: function, queue, slot. -/
  | item (fn q slot : Nat)
  /-- A REMOTE_ADD collective: bay, launch and node. -/
  | coll (bay lid nodeIx : Nat)
  deriving DecidableEq, Repr

/-- A request outstanding through a port (R336, R349). -/
structure FarReq where
  tag : Nat
  kind : Nat
  dst : Nat
  owner : ReqOwner
  /-- Where the data of a READ goes: position in the data, device address, length. -/
  pieces : List (Nat × Nat × Nat)
  /-- The sending bay, and the flits of buffer space reserved for the response (R334). -/
  bay : Nat
  room : Nat
  deriving DecidableEq, Repr

/-- A request that waits for a free tag, or for space for its response (R334, R336). -/
structure FarSpan where
  kind : Nat
  dst : Nat
  window : Nat
  bay : Nat
  offset : Nat
  len : Nat
  owner : ReqOwner
  data : List Byte
  pieces : List (Nat × Nat × Nat)
  deriving DecidableEq, Repr

/-- Faref port states (R328); the code is that of R350. -/
inductive PortSt where
  | disabled | down | training | up | retraining | self
  deriving DecidableEq, Repr

/-- A Faref port (R326 to R350). -/
structure Port where
  st : PortSt := .disabled
  width : Nat := 0
  spared : Option Nat := none
  /-- First logical lane of the group in use (R330). -/
  group : Nat := 0
  /-- Lanes replaced or lost since the link last trained from DOWN, and the width that a link reset alone raises (R330, R331). -/
  badLanes : List Nat := []
  limit : Nat := 16
  /-- The widest that the link has been since its link reset: below it, it has narrowed (R330). -/
  peak : Nat := 0
  /-- Lanes with precoding, a bit for each (R326). -/
  precode : Nat := 0
  /-- Marginal lanes counted while the spare was in use (R331). -/
  marginal : Nat := 0
  partnerId : Nat := 0xFF
  partnerDevice : BitVec 64 := 0
  partnerPort : Nat := 0
  partnerRoot : Bool := false
  /-- Next DATA sequence number to send, oldest unacknowledged number, and the number expected (R333). -/
  txSeq : Nat := 0
  ackSeq : Nat := 0
  rxSeq : Nat := 0
  nakOut : Bool := false
  resends : Nat := 0
  replay : List (Nat × List Byte) := []
  credits : List Nat := [0, 0, 0, 0]
  creditRet : List Nat := [0, 0, 0, 0]
  /-- The owners of the flits whose credit has not come back, per VC, oldest first: a bay, or 12 for the device (R407). -/
  flight : List (List Nat) := [[], [], [], []]
  /-- Messages to send per VC with the bay whose slots carry them, none for the device's (R408); the bytes of each head message already
  sent; the request/collective turn; and the place in the frame, in flits (R407). -/
  txq : List (List (Option Nat × List Byte)) := [[], [], [], []]
  txPos : List Nat := [0, 0, 0, 0]
  turn : Bool := false
  framePos : Nat := 0
  /-- Flits sent to the partner, oldest first (output of the model). -/
  sent : List (List Byte) := []
  /-- Bytes received and not yet a whole message, per VC; whole messages per VC, each with the flits of buffer that it frees (R334). -/
  rxPart : List (List Byte) := [[], [], [], []]
  rxMsgs : List (List (Nat × List Byte)) := [[], [], [], []]
  /-- Flits received in the present block of 1,285, and the uncorrectable codewords met in it (R327). -/
  rxFlits : Nat := 0
  rxWords : List Nat := []
  reqs : List FarReq := []
  spans : List FarSpan := []
  nextTag : Nat := 0
  retrains : Nat := 0
  fecUncorrectable : Nat := 0
  /-- Corrected symbols by physical lane (R327). -/
  laneFixed : List (Nat × Nat) := []
  replays : Nat := 0
  lateResponses : Nat := 0
  assign : BitVec 32 := 0
  hold : BitVec 32 := 200#32
  resp : BitVec 32 := 100#32
  slots : List (BitVec 32) := [0, 0, 0]
  /-- The assignment and slots of the frame under way, where the registers have changed in its middle (R402, R508). -/
  frame : Option (BitVec 32 × List (BitVec 32)) := none
  deriving DecidableEq, Repr

/-- Fabric state of the device (R344 to R348). -/
structure Fabric where
  id : Nat := 0xFF
  prevId : Nat := 0xFF
  ctrl : BitVec 32 := 0
  isRoot : Bool := false
  rootLost : Bool := false
  parent : Option Nat := none
  /-- Child ports and the IDs of their subtrees. -/
  children : List (Nat × List Nat) := []
  /-- The root's ID table: ID, state 1 HELD or 2 DETACHED, device identifier. -/
  table : List (Nat × Nat × Nat) := []
  /-- IDs that the last TOPOLOGY listed as reachable. -/
  reachable : List Nat := []
  /-- The last walk that reached this device: the root's device identifier and the root's count of its walks. -/
  walkTag : Nat × Nat := (0, 0)
  /-- Ports that the present walk has still to visit here, and the port that awaits a report. -/
  toVisit : List Nat := []
  awaiting : Option Nat := none
  /-- This device has presented its previous ID and awaits an assignment. -/
  presenting : Bool := false
  /-- The root walks again once the present walk has returned: a link came up, or another root was met. -/
  rewalk : Bool := false
  deriving DecidableEq, Repr

/-- IDE streams (R384, R385). -/
structure IdeStream where
  secure : Bool := false
  /-- Keys programmed: key set × 6 + sub-stream × 2 + direction. -/
  keys : List Nat := []
  /-- Keys in use, in the same numbers: a K_SET_GO has switched to them. -/
  going : List Nat := []
  /-- The RID association: 0 none, n virtual function n; and up to four address association blocks, as base and limit (R384). -/
  rid : Nat := 0
  addrs : List (Nat × Nat) := []
  deriving DecidableEq, Repr

/-- An SPDM session (R381). -/
structure Session where
  sid : Nat
  established : Bool
  misses : Nat
  subscribed : Bool
  sideband : Bool
  keyGen : Nat
  /-- The digest of the root of the requester's chain, after mutual authentication (R381). -/
  peer : Option (BitVec 384)
  deriving DecidableEq, Repr

/-- What a transport's SPDM connection has negotiated: the version (0 before GET_CAPABILITIES), whether the signature and hash
are agreed, and whether a session can be keyed (R381). -/
structure SpdmConn where
  versions : Bool := false
  version : Nat := 0
  algs : Bool := false
  keyed : Bool := false
  deriving DecidableEq, Repr

/-- The SPDM connections over DOE and over the sideband, the sessions, and the IDE streams (R380 to R385). -/
structure SpdmState where
  doe : SpdmConn := {}
  side : SpdmConn := {}
  sessions : List Session := []
  nextSid : Nat := 0
  /-- The chain of certificate slot 1, when installed (R382). -/
  slot1 : Option (List Byte) := none
  ide : List (Nat × IdeStream) := []
  deriving DecidableEq, Repr

/-- A firmware KIND's two slots (R491): image digest, security version, valid. -/
structure FwSlot where
  digest : BitVec 384 := 0
  version : Nat := 0
  valid : Bool := false
  deriving DecidableEq, Repr

/-- The images of one KIND (R491). -/
structure FwKind where
  slotA : FwSlot := {}
  slotB : FwSlot := {}
  running : Nat := 0
  selector : Nat := 0
  deriving DecidableEq, Repr

/-- An approved change in progress (R396 to R404). -/
structure Change where
  operation : Nat
  params : List Byte
  /-- PF queue and slot of the entry, until the entry has ended. -/
  entry : Option (Nat × Nat)
  /-- 0: the bays of `stops` are being stopped, or the operation waits (R398, R404); 1: it has been applied, and its
  scrubs run. -/
  stage : Nat
  stops : List Nat
  /-- The map before the change, for a strip that goes out of service (R404). -/
  before : List (Nat × Nat × Nat)
  deriving DecidableEq, Repr

/-- An entry of the fetch mirror: function, queue, slot, TAG, completion-ring address (R440). -/
structure MirrorEntry where
  fn : Nat
  q : Nat
  slot : Nat
  tag : Nat
  ring : Nat
  deriving DecidableEq, Repr

/-- State of the security controller (chapter 18, R396 to R415, R440, R491). -/
structure Sec where
  liveNonce : Option (BitVec 384) := none
  nonceSeq : Nat := 0
  change : Option Change := none
  /-- Approval key slots: role × 4 + slot to (1 live or 2 revoked, key bytes) (R399). -/
  keys : List (Nat × Nat × List Byte) := []
  policy : List Byte := []
  operatorBank : BitVec 256 := 0
  floorBank : BitVec 256 := 0
  certAuth : Option (BitVec 384) := none
  deviceIdKeyDisabled : Bool := false
  aliasSerial : Nat := 0
  nextKey : Nat := 0
  mirror : List MirrorEntry := []
  fw : List (Nat × FwKind) := []
  staged : List (Nat × BitVec 384) := []
  lifecycle : Nat := 0
  /-- An activation: KIND, PF queue, slot; stage 1 draining, 2 limit passed. -/
  activation : Option (Nat × Option (Nat × Nat) × Nat) := none
  recovery : Bool := false
  /-- Strip losses whose bay has not yet its new map: strip, cause of R422, items ended (R435). -/
  strips : List (Nat × Nat × Nat) := []
  deriving DecidableEq, Repr

/-- Why DEVICE_FATAL is in effect (R484). -/
inductive FatalCause where
  | selfCheck | clockLoss | regulator | shutdown | thermalTrip | image
  deriving DecidableEq, Repr

/-- Boot stage of R486. -/
inductive BootStage where
  /-- No auxiliary power. -/
  | off
  /-- ROM and security controller started; the main input is awaited at rail sequencing. -/
  | rails
  /-- Rails on; training and self-tests run. -/
  | testing
  /-- READY. -/
  | ready
  deriving DecidableEq, Repr

/-- Device-wide state (R481 to R490, R505, R524 to R529). -/
structure Dev where
  boot : BootStage := .rails
  ready : Bool := false
  fatal : Option FatalCause := none
  isolated : Bool := true
  /-- A change of mode that awaits the next ridge slot boundary (R405). -/
  nextMode : Option Bool := none
  debugLevel : Nat := 0
  auxPower : Bool := true
  mainInput : Bool := false
  mainOn : Bool := false
  /-- The system reference is present (R528). -/
  sref : Bool := true
  /-- Readiness Time Reporting of the PF: the reset time and the DL_Up time in ms (R490). -/
  readyResetMs : Nat := 100
  readyDlUpMs : Nat := 100
  faultN : Bool := false
  alertN : Bool := false
  perst : Bool := true
  configAnswers : Bool := false
  fref : Bool := true
  /-- A device warm reset has been requested and its records are being written (R483). -/
  warmPending : Bool := false
  /-- A module cold reset that waits: its cause in the RESET record, 2 for the sensors of R525, 3 for records (R483). -/
  coldCause : Option Nat := none
  /-- A COLD_RESET of the sideband waits for a firmware activation (R493). -/
  sideCold : Bool := false
  /-- The cause of the module cold reset that boots (R499). -/
  bootCause : Nat := 1
  vfEnable : Bool := false
  numVfs : Nat := 0
  pcieShare : BitVec 32 := 4#32
  recordCfg : BitVec 32 := 0
  powerDest : BitVec 64 := 0
  /-- The bays that existed at the last ridge slot boundary, and which of them has the present slot (R406). -/
  cycle : List Nat := []
  slotIx : Nat := 0
  /-- Round-robin pointers per function and priority (R59). -/
  rr : List (Nat × Nat) := []
  nextLid : Nat := 0
  /-- Entries fetched so far: the fetch order of items (R72). -/
  nextOrder : Nat := 0
  /-- Blocks whose last self-check failed (R440, R484). -/
  selfCheckBad : Bool := false
  outOfService : List Nat := []
  scrubHours : BitVec 32 := 24#32
  corrLimit : BitVec 32 := 1024#32
  /-- A RESTORE_STRIP: strip, PF queue, slot, and whether its bays have quiesced (R437). -/
  restore : Option (Nat × Nat × Nat × Bool) := none
  deriving DecidableEq, Repr

/-- Power, droop and temperature (chapter 20). -/
structure Power where
  deviceCap : BitVec 32 := 3300#32
  uncore : BitVec 32 := 300#32
  dutyMin : BitVec 32 := 1#32
  duty : Nat := 4
  /-- Causes of a power or thermal emergency in effect (R448, R455). -/
  causes : List Nat := []
  devicePower : Nat := 0
  overCap : Nat := 0
  trims : List (Nat × Nat) := []
  /-- The highest operating point left to a strip, in MHz, and the domains at full trim that wait for a module cold reset to
  withdraw one (R456). -/
  withdrawn : List (Nat × Nat) := []
  withdrawDue : List Nat := []
  /-- The hottest live tile of each bay (12: of no bay), the stacks, the hottest converter or regulator: units of 0.25 °C. -/
  tileTemp : List (Nat × Int) := []
  /-- The strips whose hottest live tile has reached 95 °C and not yet fallen to 92 °C (R455, R460). -/
  hotStrips : List Nat := []
  stackTemp : List (Nat × Int) := []
  regTemp : Int := 0
  pfViolations : Nat := 0
  pfEnergy : Nat := 0
  pfStretches : Nat := 0
  pfPeak : Nat := 0
  pfSum : Nat := 0
  pfTicks : Nat := 0
  pfThrottle : Nat := 0
  /-- Domains powered on and gated (R23, R457). -/
  on : List Nat := [185, 186, 188]
  gated : List Nat := []
  deriving DecidableEq, Repr

/-- Interrupt controller (chapter 21): sources that differ from reset, and the three targets. -/
structure IctlSrc where
  target : Nat
  enable : Bool
  pending : Bool
  deriving DecidableEq, Repr

structure IctlTarget where
  mask : Bool := true
  active : Nat := 0xFFFF
  waiting : Bool := false
  deriving DecidableEq, Repr

structure Ictl where
  src : List (Nat × IctlSrc) := []
  tgt : List (Nat × IctlTarget) := []
  locked : Bool := false
  deriving DecidableEq, Repr

/-- What a snapshot keeps of one power domain, or of a bay's part of the shared blocks: powered, its level and lock at capture (R416, R417,
R478), and its status, counters and data, as numbers (R476). -/
structure DomCap where
  on : Bool
  level : Nat
  locked : Bool
  status : List Nat := []
  counts : List Nat := []
  data : List Nat := []
  deriving DecidableEq, Repr

/-- A held snapshot (R472 to R478). The layout in bytes of the content that each block captures is not the spec's: `draw` names the part of the
content that the state does not hold (log entry 6). -/
structure Snapshot where
  source : Nat
  forwards : Nat
  snapId : Nat
  time : Nat
  fabricId : Nat
  level : Nat
  origin : Nat
  trigger : Nat
  /-- Domains 0 to 188 in order. -/
  doms : List DomCap
  /-- Bays 0 to 11: existence, level and lock at capture, for their parts of shared blocks (R416). -/
  bays : List DomCap
  /-- The columns, for their routers' slip-map entries (R262, R476). -/
  cols : List (Nat × Column)
  draw : Nat
  deriving DecidableEq, Repr

/-- Debug and snapshot (chapter 22). -/
structure Debug where
  ctrl : BitVec 32 := 1#32
  trig0 : BitVec 32 := 0
  trig1 : BitVec 32 := 0
  held : Option Snapshot := none
  missed : Nat := 0
  captures : Nat := 0
  ridgeTrace : List (List Byte) := []
  coreTrace : List (Nat × List (List Byte)) := []
  recording : Bool := true
  /-- SNAP_N pulses driven (output of the model). -/
  driven : Nat := 0
  deriving DecidableEq, Repr

/-- Lifetime records and the sideband (R494 to R499). -/
structure Life where
  poweredSeconds : Nat := 0
  coldResets : Nat := 0
  updates : Nat := 0
  mono : Nat := 0
  log : List (List Byte) := []
  /-- The calendar second last set, and the device time at that setting (R497). -/
  epoch : Nat := 0
  epochTime : Int := 0
  epochSet : Bool := false
  /-- The seconds for which each domain was powered and not gated, and those in each temperature bin (R498). -/
  domainSeconds : List (Nat × Nat) := []
  tileBins : List (Nat × Nat) := []
  stackBins : List (Nat × Nat) := []
  committed : Nat := 0
  /-- Records that are not committed for sure yet: MONO and device time (R496). -/
  fresh : List (Nat × Int) := []
  /-- The hottest tile reading, and the energy at the start, of the period that the next SUMMARY record covers (R499). -/
  sumHot : Option Int := none
  sumEnergy : Int := 0
  i3cAddress : Option Nat := none
  hotJoin : Bool := false
  eid : Option Nat := none
  /-- In-band interrupts that have announced MCTP data (R494). -/
  announced : Nat := 0
  deriving DecidableEq, Repr

/-- Where an end notice goes (R111): a core, the eave engine of a stack, or the collective engine. -/
inductive NoticeTo where
  | core (c : Nat)
  | eave (k : Nat)
  | coll
  deriving DecidableEq, Repr

/-- An end notice on its way (R111). -/
structure Notice where
  bay : Nat
  lid : Nat
  dest : NoticeTo
  /-- Every valley version of the launch's nodes (R319). -/
  versions : List (Nat × Nat)
  deriving DecidableEq, Repr

/-- A posted write of the device to the host: function, PASID, IOVA and bytes (R31, R376), and the IDE stream on which it leaves, that
of a locked function (R386). -/
structure HostWrite where
  fn : Nat
  pasid : Option Nat
  iova : Nat
  bytes : List Byte
  stream : Option Nat
  deriving DecidableEq, Repr

/-- A message that leaves for the host: function, entry, the address and data of the entry (R377, R468), and its IDE stream (R386). -/
structure MsixMsg where
  fn : Nat
  entry : Nat
  addr : Nat
  data : Nat
  stream : Option Nat
  deriving DecidableEq, Repr

/-- A range of host bytes whose translation lacks read or write permission: first host key and length (R31, R374, R375). -/
structure Refused where
  key : Nat
  len : Nat
  noRead : Bool
  noWrite : Bool
  deriving DecidableEq, Repr

/-- The host's side as the device sees it: memory, errors, refused translations, and what the device has sent. -/
structure HostView where
  /-- Bytes that read completions supplied or the device wrote, by host key (Ops.lean): function, PASID and IOVA. -/
  mem : List (Nat × Byte) := []
  /-- Byte ranges whose reads fail: first host key, length, poisoned (R370). -/
  errs : List (Nat × Nat × Bool) := []
  /-- Refused translations. -/
  refused : List Refused := []
  /-- Posted writes in order. -/
  writes : List HostWrite := []
  msix : List MsixMsg := []
  /-- Invalidate completions owed or sent, by function (R375). -/
  invalidations : List Nat := []
  /-- SPDM, TDISP, PLDM, MCTP and I3C responses, in order. -/
  responses : List (List Byte) := []
  /-- TLPs answered Unsupported Request (R387). -/
  unsupported : Nat := 0
  deriving DecidableEq, Repr

/- The values of the tables at reset: the defaults of the fields above (log entry 1). -/

def queueReset : Queue := {}

def fnReset : FnState := {}

def bayReset : BayState := {}

def coreReset : Core := {}

def tileReset : Tile := {}

def columnReset : Column := {}

def stackReset : Stack := {}

def portReset : Port := {}

def fabricReset : Fabric := {}

def devReset : Dev := {}

def secReset : Sec := {}

def spdmReset : SpdmState := {}

def powerReset : Power := {}

def debugReset : Debug := {}

def lifeReset : Life := {}

def ictlReset : Ictl := {}

def hostReset : HostView := {}

end Sys2Proof.Machine
end

