-- ==== Sys2Proof/Machine/State.lean ====
section
/-! DEFINITION. The state of one DM2 device, as plain data, and its value at reset (the start of a module cold reset,
R481, R482). The tables hold what differs from reset: an unlisted queue, bay, core, tile, column, stack or port is as
reset leaves it (the `…Reset` values of Types.lean), and an unlisted byte of a stack or scratchpad reads as 0 (R482). -/

namespace Sys2Proof.Machine

/-- Why a step may stop the block. No command of the opcode table raises one: the spec gives every command an effect
or says that it changes nothing. -/
inductive Fault where
  /-- Raised by nothing: the spec names no behaviour that stops the device for good. Safe. -/
  | never
  deriving DecidableEq, Repr

/-- Why a command has no meaning. -/
inductive Refusal where
  /-- Raised by the dispatch for a command whose meaning is not written yet. Safe: the run stops. -/
  | notModelled (mnemonic : String)
  deriving DecidableEq, Repr

/-- The state of the device. -/
structure State where
  /-- Device time in ns since the last module cold reset (R76, R505). -/
  time : Nat
  dev : Dev
  sec : Sec
  spdm : SpdmState
  /-- Functions: 0 to 11 the bays' virtual functions, 12 the physical function (R368). -/
  fns : List (Nat × FnState)
  bays : List (Nat × BayState)
  /-- Cores by absolute column × 56 + logical row (R96). -/
  cores : List (Nat × Core)
  /-- Physical tiles by column × 60 + physical row (R17, R261). -/
  tiles : List (Nat × Tile)
  columns : List (Nat × Column)
  /-- Stacks: k for stack Nk, 12 + k for stack Sk (R14). -/
  stackTab : List (Nat × Stack)
  ports : List (Nat × Port)
  fabric : Fabric
  power : Power
  dbg : Debug
  life : Life
  ictl : Ictl
  host : HostView
  /-- Bytes of the stacks: stack × 72 GiB + offset (R28, R29). -/
  stackMem : List Host.Cell
  /-- Bytes of the scratchpads: core × 0x180000 + offset (R97). -/
  spadMem : List Host.Cell
  /-- Poisoned scratchpad lines: core × 0x6000 + line (R101). -/
  spadPoison : List Nat
  /-- Bit errors that stand in scratchpad words: core × 0x30000 + word, 1 or 2 bits (R101). -/
  spadFlaws : List (Nat × Nat)
  /-- Completion and sync reports on their way to the ridge, with their bay, oldest first (R83, R109, R533). -/
  reports : List (Nat × RidgeEvent)
  /-- End notices on their way (R111). -/
  notices : List Notice
  /-- Valley segments and DONEs on their way to cores of this device (R313, R314). -/
  valley : List ValleyMsg
  /-- Slip repairs in progress: bay b under b, a strip k of no bay under 16 + k (R426). -/
  repairs : List (Nat × Repair)
  /-- The model's own counter of free values (log entry 2). -/
  draws : Nat
  /-- What waits for a bay's slot at the ridge, by bay, oldest first: events, set-up writes, and its error records and messages (R406). -/
  slotWork : List (Nat × List RidgeEvent)
  /-- The commands that wait, first in, first out (the model's own field). -/
  pending : List Instr
  /-- The items under way, by their fetch order: the bytes that other work wrote meanwhile, with their former values, of a scratchpad where
  the flag is set, else of a stack (R48). -/
  itemStale : List (Nat × List (Bool × Host.Cell))
  deriving DecidableEq, Repr

/-- The device at the start of a module cold reset, with every table at its reset values (log entry 1). -/
def State.reset : State where
  time := 0
  dev := devReset
  sec := secReset
  spdm := spdmReset
  fns := []
  bays := []
  cores := []
  tiles := []
  columns := []
  stackTab := []
  ports := []
  fabric := fabricReset
  power := powerReset
  dbg := debugReset
  life := lifeReset
  ictl := ictlReset
  host := hostReset
  stackMem := []
  spadMem := []
  spadPoison := []
  spadFlaws := []
  reports := []
  notices := []
  valley := []
  repairs := []
  draws := 0
  slotWork := []
  pending := []
  itemStale := []

end Sys2Proof.Machine
end

