-- ==== Sys2Proof/Machine/Store.lean ====
section
/-! DEFINITION. Tables and memory as sorted lists, and the accessors of the state: one home for each piece (State.lean),
one read and one write of it here. -/

namespace Sys2Proof.Machine

/-- The entry of a table at a key, or the table's reset value. -/
def tabGet {V : Type} (m : List (Nat × V)) (k : Nat) (d : V) : V :=
  match m with
  | [] => d
  | (j, v) :: rest => if j = k then v else tabGet rest k d

/-- A table with the entry at a key set; keys stay ascending. -/
def tabSet {V : Type} (m : List (Nat × V)) (k : Nat) (v : V) : List (Nat × V) :=
  match m with
  | [] => [(k, v)]
  | (j, w) :: rest => if j = k then (k, v) :: rest else if k < j then (k, v) :: (j, w) :: rest else (j, w) :: tabSet rest k v

/-- A table without a key. -/
def tabDel {V : Type} (m : List (Nat × V)) (k : Nat) : List (Nat × V) := m.filter (fun e => e.1 ≠ k)

/-- Is a key listed? -/
def tabHas {V : Type} (m : List (Nat × V)) (k : Nat) : Bool := m.any (fun e => e.1 == k)

/-- The entry of a key, if the table lists it. -/
def tabFind {V : Type} (m : List (Nat × V)) (k : Nat) : Option V := (m.find? (fun e => e.1 == k)).map (·.2)

/-- A count in a table, incremented and saturating at `top`. -/
def tabInc (m : List (Nat × Nat)) (k top : Nat) : List (Nat × Nat) := tabSet m k (min top (tabGet m k 0 + 1))

/-- A set of numbers, kept ascending, with one put in. -/
def setIns (l : List Nat) (k : Nat) : List Nat :=
  match l with
  | [] => [k]
  | j :: rest => if j = k then j :: rest else if k < j then k :: j :: rest else j :: setIns rest k

/-- A set of numbers without one. -/
def setDel (l : List Nat) (k : Nat) : List Nat := l.filter (· ≠ k)

/-- A list with the element at a position changed. -/
def setAt {V : Type} (l : List V) (i : Nat) (v : V) : List V := l.set i v

/-- The byte of a sparse memory at an address; an unlisted byte is 0. -/
def memGet (m : List Host.Cell) (a : Nat) : Byte := tabGet m a 0

/-- `n` bytes from an address. -/
def memRead (m : List Host.Cell) (a : Nat) : Nat → List Byte
  | 0 => []
  | n + 1 => memGet m a :: memRead m (a + 1) n

/-- The listed cells of a byte string from an address: its bytes that are not 0. -/
def cellsOf (a : Nat) : List Byte → List Host.Cell
  | [] => []
  | b :: bs => if b = 0 then cellsOf (a + 1) bs else (a, b) :: cellsOf (a + 1) bs

/-- A byte string written from an address: what lies below, the string, what lies above. -/
def memWrite (m : List Host.Cell) (a : Nat) (bs : List Byte) : List Host.Cell :=
  m.filter (fun c => decide (c.1 < a)) ++ (cellsOf a bs ++ m.filter (fun c => decide (a + bs.length ≤ c.1)))

/-- A memory without its listed bytes of a range: every byte of it reads 0. -/
def memZero (m : List Host.Cell) (a len : Nat) : List Host.Cell := m.filter (fun c => c.1 < a || a + len ≤ c.1)

/-- The canonical form of a memory: addresses strictly rising from a bound, no listed 0. -/
def memWfFrom (lo : Nat) : List Host.Cell → Bool
  | [] => true
  | (a, b) :: rest => decide (lo ≤ a) && b != 0 && memWfFrom (a + 1) rest

/-- The canonical form of a memory. -/
def memWf (m : List Host.Cell) : Bool := memWfFrom 0 m

/-- A saturating counter of `w` bits, incremented (R422, R496). -/
def satInc (w v : Nat) : Nat := min (2 ^ w - 1) (v + 1)

/-- Floor of a signed division by a positive number. -/
def idiv (a : Int) (b : Nat) : Int := a / (b : Int)

/-- The state of a function (0 to 11 the bays' VFs, 12 the PF). -/
def State.fnAt (s : State) (fn : Nat) : FnState := tabGet s.fns fn fnReset
def State.setFn (s : State) (fn : Nat) (v : FnState) : State := { s with fns := tabSet s.fns fn v }

/-- A queue of a function. -/
def State.queueAt (s : State) (fn q : Nat) : Queue := tabGet (s.fnAt fn).queues q queueReset
def State.setQueue (s : State) (fn q : Nat) (v : Queue) : State :=
  s.setFn fn { s.fnAt fn with queues := tabSet (s.fnAt fn).queues q v }

def State.bayAt (s : State) (b : Nat) : BayState := tabGet s.bays b bayReset
def State.setBay (s : State) (b : Nat) (v : BayState) : State := { s with bays := tabSet s.bays b v }

def State.heldAt (s : State) (b : Nat) : List RidgeEvent := tabGet s.slotWork b []
def State.setHeld (s : State) (b : Nat) (l : List RidgeEvent) : State := { s with slotWork := tabSet s.slotWork b l }

def State.coreAt (s : State) (c : Nat) : Core := tabGet s.cores c coreReset
def State.setCore (s : State) (c : Nat) (v : Core) : State := { s with cores := tabSet s.cores c v }

def State.tileAt (s : State) (col row : Nat) : Tile := tabGet s.tiles (col * 60 + row) tileReset
def State.setTile (s : State) (col row : Nat) (v : Tile) : State := { s with tiles := tabSet s.tiles (col * 60 + row) v }

def State.columnAt (s : State) (c : Nat) : Column := tabGet s.columns c columnReset
def State.setColumn (s : State) (c : Nat) (v : Column) : State := { s with columns := tabSet s.columns c v }

def State.stackAt (s : State) (k : Nat) : Stack := tabGet s.stackTab k stackReset
def State.setStack (s : State) (k : Nat) (v : Stack) : State := { s with stackTab := tabSet s.stackTab k v }

def State.portAt (s : State) (p : Nat) : Port := tabGet s.ports p portReset
def State.setPort (s : State) (p : Nat) (v : Port) : State := { s with ports := tabSet s.ports p v }

/-- A fresh number for a free value (log entry 2): the state advanced past it is `s.drawn`. -/
def State.drawn (s : State) : State := { s with draws := s.draws + 1 }

/-- A fence of a bay (R86). -/
def State.fenceAt (s : State) (b f : Nat) : Nat := tabGet (s.bayAt b).fences f 0

end Sys2Proof.Machine
end

