-- ==== Sys2Proof/Machine/Lines.lean ====
section
/-! DEFINITION. Lines of the stacks: their place (R235), what stands wrong in them, and when the outer code corrects it (R239,
R241). -/

namespace Sys2Proof.Machine

/-- The last `n` elements of a list. -/
def lastN {V : Type} (n : Nat) (l : List V) : List V := l.drop (l.length - n)

/-- The channel of a line number: the channel base xor the low five row bits (R235). -/
def lineChannel (line : Nat) : Nat := Nat.xor (line % 32) (line / 2 ^ 14 % 32)

/-- The bank of a line number (R235). -/
def lineBank (line : Nat) : Nat := line / 2 ^ 10 % 16

/-- The row of a line number (R235). -/
def lineRow (line : Nat) : Nat := line / 2 ^ 14

/-- The key of a row of a stack: channel, bank, row. -/
def rowKey (line : Nat) : Nat := lineChannel line * 2 ^ 21 + lineBank line * 2 ^ 17 + lineRow line

/-- The line number at column `c` of a row key (R235): the channel base is the channel xor the low row bits. -/
def rowLine (key c : Nat) : Nat :=
  let row := key % 2 ^ 17
  row * 2 ^ 14 + key / 2 ^ 17 % 16 * 2 ^ 10 + c * 32 + Nat.xor (key / 2 ^ 21) (row % 32)

/-- What stands wrong in a line. -/
def Stack.flawOf (st : Stack) (line : Nat) : LineFlaw := (st.latent.find? (fun f => f.line == line)).getD ⟨line, [], [], 0, 0⟩

/-- A stack with what stands wrong in a line replaced; a line with nothing wrong is not listed. -/
def Stack.setFlaw (st : Stack) (f : LineFlaw) : Stack :=
  let rest := st.latent.filter (fun g => g.line != f.line)
  { st with latent := if f.syms = [] ∧ f.lanes = [] ∧ f.inner = 0 ∧ f.tag = 0 then rest else rest ++ [f] }

/-- A flaw with another of the same line added, in legal form: symbols 0 to 71 with errors that are not 0, lanes 0 to 8, four bits of
tag. -/
def LineFlaw.add (f g : LineFlaw) : LineFlaw :=
  ⟨f.line, symsAdd f.syms g.syms, ((f.lanes ++ g.lanes).filter (· < 9)).eraseDups, min 2 (max f.inner g.inner), Nat.xor f.tag g.tag % 16⟩

/-- The symbols that are erasures in a read: those of the channel's marked lane and of the lanes whose parity fails (R239). -/
def erasedSyms (st : Stack) (line : Nat) (lanes : List Nat) : List Nat :=
  let all := match tabFind st.marked (lineChannel line) with
    | none => lanes.eraseDups
    | some m => (m :: lanes).eraseDups
  all.flatMap (fun l => (List.range 8).map (fun i => 8 * l + i))

/-- Does the outer code correct a line with a flaw (R239)? -/
def lineDecodes (st : Stack) (f : LineFlaw) : Bool := rsDecodes f.syms (erasedSyms st f.line f.lanes)

/-- The stored tag of a line: 0b1111 where it was poisoned, with the bits that are flipped (R241). -/
def lineTag (st : Stack) (line : Nat) : Nat := Nat.xor (if st.poison.contains line then 15 else 0) (st.flawOf line).tag

/-- Is a line read as poisoned (R241)? Its tag is not that of a valid line in both copies, or the read finds it uncorrectable. -/
def linePoisoned (st : Stack) (line : Nat) : Bool := lineTag st line != 0 || !lineDecodes st (st.flawOf line)

/-- A row becomes a repair candidate (R246). -/
def addCandidate (st : Stack) (key : Nat) : Stack :=
  if st.candidates.contains key || st.repairing == some key then st
  else { st with candidates := st.candidates ++ [key] }

/-- The counts of a read that the outer code corrected, with a symbol error outside the erasures or without (R246, R252). -/
def correctedRead (st : Stack) (line : Nat) (outside : Bool) : Stack :=
  let st1 := { st with corrected := st.corrected + 1 }
  if outside = false then st1 else
    let rows := tabInc st1.rowCorr (rowKey line) (2 ^ 32)
    let st2 := { st1 with rowCorr := rows }
    if 8 ≤ tabGet rows (rowKey line) 0 then addCandidate st2 (rowKey line) else st2

/- What a read of a line by any agent does to its stack (R237 to R241, R246, R247). -/

/-- What a read of a line brings about beside the counts: a lane is marked, the stack is FAILING, the line is poisoned. -/
inductive LineEv where
  | marked (ch lane : Nat)
  | failing
  | poisoned (line : Nat)
  deriving DecidableEq, Repr

/-- The event of R420, and LOCATION1 of its record (R421). -/
def LineEv.code : LineEv → Nat
  | .marked _ _ => 0x30 | .failing => 0x34 | .poisoned _ => 0x31
def LineEv.loc1 : LineEv → Nat
  | .poisoned line => line * 64 | _ => 0

/-- A stack becomes FAILING, once (R247). -/
def Stack.fail (st : Stack) : Stack × List LineEv := if st.failing then (st, []) else ({ st with failing := true }, [.failing])

/-- A line becomes poisoned: its tag, the counts and the candidate row; a poisoned line stays so (R241, R246, R247). -/
def Stack.poisonLine (st : Stack) (line now : Nat) : Stack × List LineEv :=
  let st0 := st.setFlaw ⟨line, [], [], 0, 0⟩
  if st.poison.contains line then (st0, [])
  else
    let times := st.poisonTimes.filter (fun t => decide (now < t + 86400000000000)) ++ [now]
    let st1 := addCandidate { st0 with poison := setIns st.poison line, lastPoison := some (line * 64), poisonTimes := times } (rowKey line)
    if 65536 < times.length then (st1.fail.1, .poisoned line :: st1.fail.2) else (st1, [.poisoned line])

/-- The 16 newest times of failed parity of a lane, with one more. -/
def parityTimes (st : Stack) (key now : Nat) : List Nat := lastN 16 (tabGet st.parity key [] ++ [now])

/-- Have 16 reads failed parity within 1 s (R240)? -/
def laneMeets (times : List Nat) (now : Nat) : Bool := decide (16 ≤ times.length ∧ now ≤ times.headD now + 1000000000)

/-- One read whose parity failed in a lane: the count, and the mark or the failing stack at the 16th (R240, R247). -/
def Stack.parityRead (st : Stack) (line lane now : Nat) : Stack × List LineEv :=
  let ch := lineChannel line
  let times := parityTimes st (ch * 9 + lane) now
  let st1 := { st with parity := tabSet st.parity (ch * 9 + lane) times }
  if laneMeets times now then
    match tabFind st.marked ch with
    | none => ({ st1 with marked := tabSet st.marked ch lane }, [.marked ch lane])
    | some m => if m = lane then (st1, []) else st1.fail
  else (st1, [])

/-- A read of a line meets what stands wrong in it: the inner code's report, the parity of its lanes, and the decode, which counts, or
poisons the line that is uncorrectable. The marks in force before the read decode it. -/
def Stack.lineRead (st : Stack) (f : LineFlaw) (now : Nat) : Stack × List LineEv :=
  let st1 := { st with innerCorrected := if f.inner = 1 then st.innerCorrected + 1 else st.innerCorrected }
  let p := f.lanes.foldl (fun (p : Stack × List LineEv) lane => let q := p.1.parityRead f.line lane now; (q.1, p.2 ++ q.2)) (st1, [])
  if lineDecodes st f then
    if f.syms = [] then p
    else (correctedRead p.1 f.line (f.syms.any (fun x => !(erasedSyms st f.line f.lanes).contains x.1)), p.2)
  else
    let q := { p.1 with uncorrectable := satInc 32 p.1.uncorrectable }.poisonLine f.line now
    (q.1, p.2 ++ q.2)

/-- A stack once a partial write has read and decoded a line and written it whole: the line has no flaw, and one that was read as poisoned
stays poisoned (R238, R241). -/
def Stack.rewritten (old : Stack) (line : Nat) (st : Stack) : Stack :=
  { st.setFlaw ⟨line, [], [], 0, 0⟩ with poison := if linePoisoned old line then setIns st.poison line else setDel st.poison line }

/- Columns and their slip maps. -/

/-- The physical row of a logical row in a column: the rows that are no holes, from north to south (R17, R261). -/
def physRow (holes : List Nat) (row : Nat) : Nat :=
  ((List.range 60).filter (fun f => !holes.contains f)).getD row 60

/-- The logical row of a physical row, unless it is a hole (R17). -/
def logRow (holes : List Nat) (f : Nat) : Option Nat :=
  if holes.contains f then none else some (((List.range f).filter (fun g => !holes.contains g)).length)

end Sys2Proof.Machine
end

