-- ==== Sys2Proof/Machine/Ops.lean ====
section
/-! DEFINITION. The operations that every family shares: which bay owns a strip, device addresses (R28, R33), posted
writes and messages to the host (R31, R374, R468, R469), the error vector (R418 to R424), the snapshot strobe (R472,
R473) and the traces (R479). -/

namespace Sys2Proof.Machine

/-- The number of the physical function among the functions of State. -/
def pfFn : Nat := 12

/-- The bytes of one stack, 72 GiB (R234). -/
def stackBytes : Nat := 0x1200000000

/-- The bytes of one scratchpad, 1.5 MiB (R97). -/
def spadBytes : Nat := 0x180000

/-- Does a bay exist (R392)? -/
def State.bayExists (s : State) (b : Nat) : Bool := decide (b < 12 ∧ (s.bayAt b).count ≠ 0)

/-- Does a bay hold a strip? -/
def State.ownsStrip (s : State) (b strip : Nat) : Bool :=
  decide ((s.bayAt b).first ≤ strip ∧ strip < (s.bayAt b).first + (s.bayAt b).count)

/-- The bay that owns a strip (R391). -/
def State.stripOwner (s : State) (strip : Nat) : Option Nat :=
  (List.range 12).find? (fun b => s.ownsStrip b strip)

/-- The strip of a stack key. -/
def stackStrip (k : Nat) : Nat := k % 12

/-- The stack key of a bay's stack index (R28): side 0 north, 1 south. -/
def State.stackOf (s : State) (b i : Nat) : Nat := (s.bayAt b).first + i / 2 + 12 * (i % 2)

/-- The bay stack index of a stack key (R28). -/
def State.stackIndex (s : State) (b k : Nat) : Nat := 2 * (stackStrip k - (s.bayAt b).first) + k / 12

/-- The core key of a bay-relative core index (R10, R26): six columns of 56 rows to a strip. -/
def State.coreOf (s : State) (b i : Nat) : Nat := 336 * (s.bayAt b).first + i

/-- The strip of a core key. -/
def coreStrip (c : Nat) : Nat := c / 336

/-- The bay-relative index of a core key. -/
def State.coreIndex (s : State) (b c : Nat) : Nat := c - 336 * (s.bayAt b).first

/-- Is a bay locked: its TDI in CONFIG_LOCKED or RUN (R398, R417)? -/
def State.locked (s : State) (b : Nat) : Bool := (s.bayAt b).tdi == .locked || (s.bayAt b).tdi == .run

/-- How many bays exist. -/
def State.bayCount (s : State) : Nat := ((List.range 12).filter (fun b => s.bayExists b)).length

/-- The existing bays, in order. -/
def State.bays' (s : State) : List Nat := (List.range 12).filter (fun b => s.bayExists b)

/- The lifetime log (R496, R497, R499). -/

/-- Bytes cut or filled to a length. -/
def fixLen (n : Nat) (bs : List Byte) : List Byte := bytesAt bs 0 n

/-- Device time as a record of this moment shows it: the slots that have passed, and a free part below the 2 us slot (R76, log entry 9). -/
def State.stamp (s : State) : Nat := s.time + Config.subSlot s.draws % 2000

/-- EPOCH now (R497). -/
def State.epochNow (s : State) : Nat :=
  if s.life.epochSet then s.life.epoch + ((s.time : Int) - s.life.epochTime).toNat / 1000000000 else 0

/-- Which of the records that may be uncommitted are so still: those of the last second (R496). -/
def State.uncommitted (s : State) : List (Nat × Int) := s.life.fresh.filter (fun e => decide ((s.time : Int) < e.2 + 1000000000))

/-- The MONO up to which every record is committed. -/
def State.committedNow (s : State) : Nat :=
  s.life.fresh.foldl (fun m e => if e.2 + 1000000000 ≤ (s.time : Int) then max m e.1 else m) s.life.committed

/-- A log record: TYPE and BODY from byte 24 (R499). The newest 131,072 are held. It is committed within 1 s, and with it the counters
(R496). -/
def State.lifeLog (s : State) (type : Nat) (body : List Byte) : State :=
  let mono := s.life.mono + 1
  let rcd := natLE 8 mono ++ natLE 8 s.epochNow ++ natLE 4 (s.life.poweredSeconds / 3600) ++ natLE 1 type ++ natLE 3 0 ++ fixLen 40 body
  { s with life := { s.life with mono := mono, log := lastN 131072 (s.life.log ++ [rcd]), committed := s.committedNow,
                                   fresh := s.uncommitted ++ [(mono, (s.time : Int))] } }

/- Failed tiles under repair (R428, R429). -/

/-- Does a logical core stand at a failed tile whose repair is not yet complete? -/
def State.coreDown (s : State) (core : Nat) : Bool :=
  s.repairs.any (fun p => p.2.failed.any (fun f => f.1 * 56 + f.2.2.2 == core && !f.2.2.1))

/-- The physical row of a core. -/
def State.coreTile (s : State) (core : Nat) : Nat := physRow (s.columnAt (core / 56)).holes (core % 56)

/-- The power domain of a physical tile (R23). -/
def tileDom (col row : Nat) : Nat := col / 6 * 10 + row / 6

/-- Is the tile domain of a core gated? A packet for the core waits until the domain has woken (R457). -/
def State.coreAsleep (s : State) (core : Nat) : Bool := s.power.gated.contains (tileDom (core / 56) (s.coreTile core))

/-- The state without its repairs: what the queue copy engine and the collective engine check, which wait for a repair and
do not fail (R429). -/
def State.calm (s : State) : State := { s with repairs := [] }

/- Device addresses (R28, R33). -/

/-- Where an access starts, after the checks of R33: bay memory by its offset, or one region. -/
inductive Region where
  | mem (off : Nat)
  | stack (k off : Nat)
  | spad (core off : Nat)
  | acc (core off : Nat)
  | host (iova : Nat)
  | fabric (w off : Nat)
  deriving DecidableEq, Repr

/-- An outbound window of a bay as its 16 bytes (R340). -/
def State.outWindow (s : State) (b w : Nat) : List Byte := (tabGet (s.bayAt b).outWin w ⟨[]⟩).bytes

/-- An inbound window of a bay as its 32 bytes (R341). -/
def State.inWindow (s : State) (b w : Nat) : List Byte := (tabGet (s.bayAt b).inWin w ⟨[]⟩).bytes

/-- Is bit `i` of byte `n` of a descriptor 1? -/
def byteBit (bs : List Byte) (n i : Nat) : Bool := bitOf (fieldAt bs n 1) i

/-- The end check of R33 against a region's size. -/
def endCheck (off len size : Nat) (r : Region) : Except Status Region :=
  if off < size then (if off + len ≤ size then .ok r else .error .lengthRange) else .error .addressRange

/-- A range of a core's scratchpad or accumulator store that passed its check; one of a failed tile that is under repair slips the access
(R429). -/
def State.coreRegion (s : State) (core : Nat) (c : Except Status Region) : Except Status Region :=
  match c with
  | .error e => .error e
  | .ok r => if s.coreDown core then .error .slipped else .ok r

/-- A range of a scratchpad. -/
def State.spadRegion (s : State) (core off len : Nat) : Except Status Region :=
  s.coreRegion core (endCheck off len spadBytes (.spad core off))

/-- The check of R33 for an access of a bay of non-zero length, in the order of the rule. -/
def State.resolve (s : State) (b addr len : Nat) : Except Status Region :=
  let n := (s.bayAt b).count
  match bitsOf addr 63 60 with
  | 0 => if bitsOf addr 59 44 ≠ 0 then .error .addressRange
         else endCheck (bitsOf addr 43 0) len (n * 2 * stackBytes) (.mem (bitsOf addr 43 0))
  | 1 => if bitsOf addr 59 48 ≠ 0 ∨ n ≤ bitsOf addr 47 44 then .error .addressRange
         else endCheck (bitsOf addr 42 0) len stackBytes (.stack (s.stackOf b (bitsOf addr 47 43)) (bitsOf addr 42 0))
  | 2 => if bitsOf addr 59 48 ≠ 0 ∨ bitsOf addr 35 21 ≠ 0 ∨ 336 * n ≤ bitsOf addr 47 36 then .error .addressRange
         else s.spadRegion (s.coreOf b (bitsOf addr 47 36)) (bitsOf addr 20 0) len
  | 3 => if bitsOf addr 59 48 ≠ 0 ∨ bitsOf addr 35 18 ≠ 0 ∨ 336 * n ≤ bitsOf addr 47 36 ∨ (s.bayAt b).debugLevel < 3
         then .error .addressRange
         else s.coreRegion (s.coreOf b (bitsOf addr 47 36))
           (endCheck (bitsOf addr 17 0) len (2 ^ 18) (.acc (s.coreOf b (bitsOf addr 47 36)) (bitsOf addr 17 0)))
  | 4 => endCheck (bitsOf addr 59 0) len (2 ^ 60) (.host (bitsOf addr 59 0))
  | 5 => let w := bitsOf addr 49 44
         let d := s.outWindow b w
         if bitsOf addr 59 50 ≠ 0 ∨ byteBit d 0 7 = false then .error .addressRange
         else endCheck (bitsOf addr 43 0) len (fieldAt d 8 8) (.fabric w (bitsOf addr 43 0))
  | _ => .error .addressRange

/-- Does an access to a device address of a bay wait: for the repair of a failed tile, or for a gated tile domain to wake (R429, R457)? -/
def State.addrWaits (s : State) (b addr : Nat) : Bool :=
  let core := s.coreOf b (bitsOf addr 47 36)
  (addr / 2 ^ 60 == 2 || addr / 2 ^ 60 == 3) && (s.coreDown core || s.coreAsleep core)

/-- The stack and stack offset of a byte of bay memory (R29). -/
def State.memPlace (s : State) (b off : Nat) : Nat × Nat :=
  let n := 2 * (s.bayAt b).count
  let u := off / 4096
  (s.stackOf b (u % n), u / n * 4096 + off % 4096)

/-- A range of bay memory as ranges of stacks, one for each 4 KiB unit that it meets (R29). -/
def State.memPieces (s : State) (b : Nat) : Nat → Nat → Nat → List (Nat × Nat × Nat)
  | 0, _, _ => []
  | fuel + 1, off, len =>
    if len = 0 then [] else
      let here := min len (4096 - off % 4096)
      let p := s.memPlace b off
      (p.1, p.2, here) :: s.memPieces b fuel (off + here) (len - here)

/-- The ranges of stacks that a region and a length name: none for a region that is not in a stack. -/
def State.stackRanges (s : State) (b : Nat) (r : Region) (len : Nat) : List (Nat × Nat × Nat) :=
  match r with
  | .mem off => s.memPieces b (len / 4096 + 2) off len
  | .stack k off => if len = 0 then [] else [(k, off, len)]
  | _ => []

/-- The stack range of the byte at `i` of a region in bay memory or a stack. -/
def State.stackByte (s : State) (b : Nat) (r : Region) (i : Nat) : Nat × Nat :=
  match r with
  | .mem off => s.memPlace b (off + i)
  | .stack k off => (k, off + i)
  | _ => (0, 0)

/- Host memory (R31, R370, R373 to R376). -/

/-- The key of a host byte: requests of one function and PASID see one address space (R376). -/
def hostKey (fn : Nat) (pasid : Option Nat) (iova : Nat) : Nat :=
  (fn * 2 ^ 21 + (match pasid with | none => 0 | some p => 2 ^ 20 + p)) * 2 ^ 60 + iova

/-- Does the translation of a host key refuse a read or a write, while the function has ATS enabled (R31, R374)? -/
def State.hostRefused (s : State) (fn key : Nat) (write : Bool) : Bool :=
  !(s.fnAt fn).busMaster ||
    ((s.fnAt fn).ats && s.host.refused.any (fun r => (if write then r.noWrite else r.noRead) && decide (r.key ≤ key ∧ key < r.key + r.len)))

/-- The byte that a device read of host memory finds, or the failure of R31 and R370. -/
def State.hostByte (s : State) (fn : Nat) (pasid : Option Nat) (iova : Nat) : Except Status Byte :=
  let key := hostKey fn pasid iova
  if s.hostRefused fn key false then .error .addressRange
  else match s.host.errs.find? (fun e => decide (e.1 ≤ key ∧ key < e.1 + e.2.1)) with
    | some e => if e.2.2 then .error .poisonedData else .error .addressRange
    | none => match tabFind s.host.mem key with
      | some b => .ok b
      | none => .ok (Config.hostByte s.draws key)

/-- `n` bytes of host memory, or the failure of the first byte that fails. -/
def State.hostRead (s : State) (fn : Nat) (pasid : Option Nat) (iova : Nat) : Nat → Except Status (List Byte)
  | 0 => .ok []
  | n + 1 => match s.hostByte fn pasid iova with
    | .error e => .error e
    | .ok b => match s.hostRead fn pasid (iova + 1) n with
      | .error e => .error e
      | .ok bs => .ok (b :: bs)

/-- Bytes laid into a table of host bytes. -/
def hostLay (m : List (Nat × Byte)) (key : Nat) : List Byte → List (Nat × Byte)
  | [] => m
  | b :: bs => hostLay (tabSet m key b) (key + 1) bs

/-- Error ranges that a supply of `len` bytes from a key does not replace. -/
def errsOutside (errs : List (Nat × Nat × Bool)) (key len : Nat) : List (Nat × Nat × Bool) :=
  errs.filter (fun e => decide (e.1 + e.2.1 ≤ key ∨ key + len ≤ e.1))

/-- The bytes of a host write that come before the first page whose translation is refused (R33). -/
def State.hostFits (s : State) (fn key len : Nat) : Nat :=
  ((List.range len).takeWhile (fun i => !s.hostRefused fn (key + i) true)).length

/-- The IDE stream on which a function's requests travel: the bound one while its TDI is locked (R386). -/
def State.streamOf (s : State) (fn : Nat) : Option Nat :=
  if fn != pfFn && s.locked fn then some (s.bayAt fn).boundStream else none

/-- A posted write to host memory; false when a translation is refused, and then the bytes before it move (R31, R33). -/
def State.hostWrite (s : State) (fn : Nat) (pasid : Option Nat) (iova : Nat) (bytes : List Byte) : State × Bool :=
  let key := hostKey fn pasid iova
  let n := s.hostFits fn key bytes.length
  let part := bytes.take n
  ({ s with host := { s.host with mem := hostLay s.host.mem key part, errs := errsOutside s.host.errs key n,
                                  writes := if n = 0 then s.host.writes else s.host.writes ++ [⟨fn, pasid, iova, part, s.streamOf fn⟩] } },
    n == bytes.length)

/-- The PASID of a register with PASID_EN in bit 31 and PASID in bits 19:0 (R513, R517, R518). -/
def regPasid (v : BitVec 32) : Option Nat := if bitOf v.toNat 31 then some (bitsOf v.toNat 19 0) else none

/-- The bay whose ridge slot it is: in isolated mode the one that the ridge serves (R406). -/
def State.slotOwner (s : State) : Option Nat := (s.dev.cycle.drop s.dev.slotIx ++ s.dev.cycle.take s.dev.slotIx).head?

/-- May the ridge raise events and send messages of a function now? In isolated mode those of a bay wait for its slot (R406, R468); in
DEVICE_FATAL there are no slots (R440), and a function without a bay has none. -/
def State.hasSlot (s : State) (fn : Nat) : Bool :=
  fn == pfFn || !s.dev.isolated || s.dev.fatal.isSome || !s.bayExists fn || s.slotOwner == some fn

/-- An event is held until the bay's slot (R406). -/
def State.hold (s : State) (b : Nat) (e : RidgeEvent) : State := s.setHeld b (s.heldAt b ++ [e])

/-- One MSI-X message for an entry: sent, or its pending bit set (R377, R469). -/
def State.msixNow (s : State) (fn entry : Nat) : State :=
  let f := s.fnAt fn
  if f.msixEnable && f.busMaster && !f.functionMask && f.msixOpen.contains entry then
    let m := tabGet f.msixTab entry (0, 0)
    { s with host := { s.host with msix := s.host.msix ++ [⟨fn, entry, m.1, m.2, s.streamOf fn⟩] } }
  else s.setFn fn { f with msixPending := setIns f.msixPending entry }

/-- One MSI-X message of a function: in isolated mode a bay's leaves in the bay's slot (R468). -/
def State.msix (s : State) (fn entry : Nat) : State := if s.hasSlot fn then s.msixNow fn entry else s.hold fn (.message entry)

/-- One message for each pending entry that is not masked, in ascending order, once the function may send. -/
def State.msixFlush (s : State) (fn : Nat) : State :=
  let f := s.fnAt fn
  if f.msixEnable && f.busMaster && !f.functionMask then
    let go := f.msixPending.filter (fun e => f.msixOpen.contains e)
    go.foldl (fun (t : State) e => t.msix fn e) (s.setFn fn { f with msixPending := f.msixPending.filter (fun e => !f.msixOpen.contains e) })
  else s

/- The snapshot strobe (R472, R473) and the traces (R479). -/

/-- The bay that a power domain belongs to, if any: tile, stack and eave domains follow their strip (R23, R416). -/
def State.domainBay (s : State) (d : Nat) : Option Nat :=
  if d < 120 then s.stripOwner (d / 10) else if d < 168 then s.stripOwner ((d - 120) % 12) else none

/-- The debug level of a power domain (R416, R417). -/
def State.domainLevel (s : State) (d : Nat) : Nat :=
  match s.domainBay d with
  | some b => (s.bayAt b).debugLevel
  | none => if d = 185 ∧ s.sec.lifecycle = 1 then 0 else s.dev.debugLevel

/- The content of a capture (R476), as numbers in an order of the model's (log entry 6). -/

/-- The state of a stack (R247): 0 NORMAL, 1 DEGRADED, 2 FAILING. -/
def Stack.stateCode (st : Stack) : Nat :=
  if st.failing then 2 else if st.marked != [] || st.sparesUsed.any (fun e => decide (2 ≤ e.2)) then 1 else 0

/-- The code of a port state (R350). -/
def portCode : PortSt → Nat
  | .disabled => 0 | .down => 1 | .training => 2 | .up => 3 | .retraining => 4 | .self => 5

/-- The code of a queue state (R75). -/
def qstateCode : QState → Nat
  | .disabled => 0 | .running => 1 | .stopped => 2 | .pathLost => 3 | .fetchFault => 4

/-- A byte string as numbers after its length; a table of numbers as numbers; a truth as 0 or 1. -/
def natsOf (bs : List Byte) : List Nat := bs.length :: bs.map (·.toNat)
def tabNats (m : List (Nat × Nat)) : List Nat := m.flatMap (fun e => [e.1, e.2])
def bit1 (b : Bool) : Nat := if b then 1 else 0

/-- A queued packet, and a gate. -/
def CoreEntry.packet : CoreEntry → List Nat
  | .wo w => natsOf w.rcd
  | .barrier b lid n done => [b, lid, n, bit1 done]
def Gate.nats (g : Gate) : List Nat :=
  [g.epoch, g.gen, bit1 g.isOpen, g.senders, g.dones, g.expected, g.arrived, g.stale, g.sigCtr, g.sigIncr, g.cancel]

/-- The physical tiles of a tile domain: columns and rows (R23). -/
def domainTiles (d : Nat) : List (Nat × Nat) :=
  (List.range 6).flatMap (fun i => (List.range 6).map (fun r => (d / 10 * 6 + i, d % 10 * 6 + r)))

/-- The core that a physical tile runs, if it holds a logical row. -/
def State.tileCore (s : State) (col row : Nat) : Option Core := (logRow (s.columnAt col).holes row).map (fun y => s.coreAt (col * 56 + y))

/-- The status of a tile: 0 live, 1 spare, 2 dead, 3 halted; queue occupancy; a work order in progress; the counts of R114. -/
def State.tileStatus (s : State) (col row : Nat) : List Nat :=
  let c := s.columnAt col
  let k := s.tileCore col row
  let t := s.tileAt col row
  [if c.dead.contains row then 2 else if k.isNone then 1 else bit1 ((s.stripOwner (col / 6)).any (fun b => (s.bayAt b).halted)) * 3,
   (k.map (fun x => x.queue.length)).getD 0, bit1 (k.any (fun x => x.queue.any (fun e => match e with | .wo w => w.st != .queued | _ => false))),
   t.spadCorr, t.accCorr]

/-- The data of a tile: queued packets, counters, gates, table banks, and the streams that have run. -/
def State.tileData (s : State) (col row : Nat) : List Nat :=
  match s.tileCore col row with
  | none => []
  | some k => k.queue.flatMap (·.packet) ++ tabNats k.counters ++ k.gates.flatMap (fun g => g.1 :: g.2.nats) ++ [k.bank0.n, k.bank1.n, k.active] ++
      k.queue.flatMap (fun e => match e with | .wo w => w.streams.map (·.ix) | _ => [])

/-- The status of a domain (R476). -/
def State.statusOf (s : State) (d : Nat) : List Nat :=
  let st := s.stackAt ((d - 120) % 24)
  if d < 120 then (domainTiles d).flatMap (fun p => s.tileStatus p.1 p.2)
  else if d < 144 then [st.stateCode, bit1 st.doubled, st.scrubPos] ++ tabNats st.marked
  else if d < 168 then [st.eave.length, bit1 (st.eave.any (fun w => w.st != .queued))]
  else if d < 184 then
    let p := s.portAt (d - 168)
    [portCode p.st, p.width, p.spared.getD 0xFF, p.txSeq, p.ackSeq, p.rxSeq] ++ p.credits
  else if d = 184 then
    (List.range 13).flatMap (fun fn => (s.fnAt fn).queues.flatMap (fun q => [fn, q.1, qstateCode q.2.st, q.2.retained.length])) ++
      (List.range 12).map (fun k => (s.stripOwner k).getD 12) ++ [s.dev.slotIx] ++
      (List.range 12).map (fun b => bit1 ((s.bayAt b).coll.running != []))
  else if d = 185 then
    s.ictl.src.flatMap (fun e => [e.1, e.2.target, bit1 e.2.enable, bit1 e.2.pending]) ++
      s.ictl.tgt.flatMap (fun e => [e.1, bit1 e.2.mask, e.2.active]) ++ [s.sec.lifecycle, s.sec.nonceSeq] ++
      (List.range 12).map (fun b => match (s.bayAt b).tdi with | .unlocked => 0 | .locked => 1 | .run => 2 | .error => 3)
  else if d = 186 then
    (List.range 12).map (fun b => (s.bayAt b).aclk) ++ (s.power.tileTemp ++ s.power.stackTemp ++ [(0, s.power.regTemp)]).map (fun (e : Nat × Int) => unsignedOf 16 e.2) ++
      tabNats s.power.trims
  else if d = 187 then [bit1 s.dev.configAnswers, bit1 s.dev.perst] ++ s.spdm.ide.flatMap (fun e => [e.1, bit1 e.2.secure])
  else [s.life.poweredSeconds, s.life.coldResets, s.life.updates, s.life.mono] ++ tabNats s.life.domainSeconds

/-- The counters of a domain that the state holds (R476). -/
def State.countsOf (s : State) (d : Nat) : List Nat :=
  if 168 ≤ d ∧ d < 184 then
    let p := s.portAt (d - 168)
    [p.fecUncorrectable, p.replays] ++ tabNats p.laneFixed
  else if d = 186 then [s.power.devicePower, s.power.overCap] else []

/-- The data of a domain (R476). -/
def State.dataOf (s : State) (d : Nat) : List Nat :=
  let st := s.stackAt ((d - 120) % 24)
  if d < 120 then (domainTiles d).flatMap (fun p => s.tileData p.1 p.2)
  else if 144 ≤ d ∧ d < 168 then st.eave.flatMap (fun w => natsOf w.rcd) ++ [st.eaveSigs.length]
  else if 168 ≤ d ∧ d < 184 then ((s.portAt (d - 168)).replay.take 16).flatMap (fun e => e.1 :: natsOf (e.2.take 16))
  else []

/-- The data of a bay in the ridge and the collective engine: fences, outstanding items, nodes, collectives (R476). -/
def State.bayData (s : State) (b : Nat) : List Nat :=
  let v := s.bayAt b
  tabNats v.fences ++ (s.fnAt b).queues.flatMap (fun q => q.2.items.flatMap (fun it =>
      [q.1, it.slot] ++ natsOf it.entry ++ (match it.launch with | some l => l.nodes.flatMap (fun n => natsOf n.rcd) | none => []))) ++
    tabNats v.coll.lastSeq ++ v.coll.running.map (·.reduced)

/-- What a capture keeps of a power domain (R417, R476, R478). -/
def State.domCap (s : State) (d : Nat) : DomCap :=
  { on := s.power.on.contains d && !s.power.gated.contains d, level := s.domainLevel d,
    locked := match s.domainBay d with | some b => s.locked b | none => false,
    status := s.statusOf d, counts := s.countsOf d, data := s.dataOf d }

/-- What a capture keeps of a bay, for its part of the shared blocks (R416, R417, R476): the packets sent, and its data. -/
def State.bayCap (s : State) (b : Nat) : DomCap :=
  { on := s.bayExists b, level := (s.bayAt b).debugLevel, locked := s.locked b, data := s.bayData b,
    counts := (s.fnAt b).queues.flatMap (fun q => q.2.items.map (fun it => (it.launch.map (·.packets)).getD 0)) }

/-- The event code of DEVICE_FATAL (R420). -/
def evDeviceFatal : Nat := 0x70

/-- A strobe captures when none is held, or replaces one that no DEVICE_FATAL trigger took when it is such a trigger. -/
def State.strobeTakes (s : State) (trigger : Nat) : Bool :=
  match s.dbg.held with
  | none => true
  | some h => trigger == evDeviceFatal && h.trigger != evDeviceFatal

/-- A strobe: it captures, or counts as missed (R473). `snapId` is none for sources 2 and 3. -/
def State.strobe (s : State) (source forwards : Nat) (snapId : Option Nat) (origin : Option Nat) (trigger : Nat) : State :=
  let d := s.dbg
  if s.strobeTakes trigger then
    let snap : Snapshot :=
      { source := source, forwards := forwards, snapId := snapId.getD (d.captures + 1), time := s.stamp,
        fabricId := s.fabric.id, level := s.dev.debugLevel, origin := origin.getD s.fabric.id, trigger := trigger,
        doms := (List.range 189).map (fun k => s.domCap k), bays := (List.range 12).map (fun b => s.bayCap b),
        cols := s.columns, draw := s.draws }
    { s with draws := s.draws + 1,
             dbg := { d with held := some snap, captures := d.captures + 1, recording := false,
                               driven := if bitOf d.ctrl.toNat 1 then d.driven + 1 else d.driven } }
  else { s with dbg := { d with missed := min (2 ^ 32 - 1) (d.missed + 1) } }

/-- Does the ridge trigger a strobe when it raises an event (R472)? -/
def State.triggersOn (s : State) (code : Nat) : Bool :=
  code == evDeviceFatal || (code != 0 && ([bitsOf s.dbg.trig0.toNat 15 0, bitsOf s.dbg.trig0.toNat 31 16,
    bitsOf s.dbg.trig1.toNat 15 0, bitsOf s.dbg.trig1.toNat 31 16]).contains code)

/-- A trace entry (R479). -/
def traceEntry (ev b2 b3 b4 : Nat) (a c time : Nat) : List Byte :=
  natLE 1 ev ++ natLE 1 b2 ++ natLE 1 b3 ++ natLE 1 b4 ++ natLE 2 a ++ natLE 2 c ++ natLE 8 time

/-- An entry of the ridge trace: event, bay, queue, status, slot, node (R479). -/
def State.traceRidge (s : State) (ev bay q st slot node : Nat) : State :=
  if s.dbg.recording then
    { s with draws := s.draws + 1,
             dbg := { s.dbg with ridgeTrace := lastN 32768 (s.dbg.ridgeTrace ++ [traceEntry ev bay q st slot node s.stamp]) } }
  else s

/-- An entry of a strip's core trace: event, engine class, bay, status, core index, node (R479). -/
def State.traceCore (s : State) (strip ev cls bay st core node : Nat) : State :=
  if s.dbg.recording then
    let old := tabGet s.dbg.coreTrace strip []
    { s with draws := s.draws + 1, dbg := { s.dbg with
        coreTrace := tabSet s.dbg.coreTrace strip (lastN 8192 (old ++ [traceEntry ev cls bay st core node s.stamp])) } }
  else s

/- The interrupt controller's sources (R460, R461). -/

/-- Is a source listed in R460, and not reserved? -/
def srcListed (n : Nat) : Bool :=
  decide (n ≤ 5 ∨ (8 ≤ n ∧ n ≤ 25) ∨ (32 ≤ n ∧ n ≤ 172) ∨ (176 ≤ n ∧ n ≤ 187) ∨ n = 192 ∨ n = 200 ∨ (232 ≤ n ∧ n ≤ 235) ∨
    (240 ≤ n ∧ n ≤ 243) ∨ (256 ≤ n ∧ n ≤ 511))

/-- The target of a source after reset (R460): 0 ridge, 1 security controller, 2 management controller. -/
def srcTarget (n : Nat) : Nat :=
  if n ≤ 3 then 2 else if n ≤ 25 then 1 else if 120 ≤ n ∧ n ≤ 155 then 2 else if n = 200 ∨ (232 ≤ n ∧ n ≤ 235) then 2
  else if 240 ≤ n ∧ n ≤ 243 then 1 else 0

/-- A source after reset (R466). -/
def srcReset (n : Nat) : IctlSrc := ⟨srcTarget n, decide (n ≤ 5), false⟩

/-- A source of the interrupt controller. -/
def State.srcAt (s : State) (n : Nat) : IctlSrc := tabGet s.ictl.src n (srcReset n)
def State.setSrc (s : State) (n : Nat) (v : IctlSrc) : State := { s with ictl := { s.ictl with src := tabSet s.ictl.src n v } }

/-- An event of a source sets its PENDING, whether or not it is enabled (R461). -/
def State.pend (s : State) (n : Nat) : State := s.setSrc n { s.srcAt n with pending := true }

/- The error vector (R418 to R424). -/

/-- The severity and SOURCE of an event code (R420). -/
def evClass (code : Nat) : Nat × Nat :=
  match code with
  | 0x01 => (0, 0) | 0x10 => (0, 4) | 0x11 => (0, 4) | 0x12 => (2, 4) | 0x13 => (0, 5) | 0x20 => (2, 1)
  | 0x21 => (1, 1) | 0x22 => (3, 1) | 0x23 => (3, 1) | 0x24 => (0, 1) | 0x25 => (4, 7) | 0x26 => (0, 7)
  | 0x30 => (3, 2) | 0x31 => (2, 2) | 0x32 => (3, 2) | 0x33 => (3, 2) | 0x34 => (3, 2) | 0x35 => (3, 2)
  | 0x40 => (3, 3) | 0x41 => (3, 3) | 0x42 => (1, 3) | 0x43 => (2, 3) | 0x44 => (0, 3) | 0x45 => (0, 3)
  | 0x46 => (0, 3) | 0x47 => (2, 3) | 0x48 => (0, 0) | 0x49 => (0, 6) | 0x50 => (0, 0) | 0x60 => (3, 0)
  | 0x61 => (3, 0) | 0x62 => (3, 0) | 0x70 => (5, 0)
  | _ => (0, 0)

/-- The SOURCE of a record: THERMAL_EMERGENCY names its sensor's, which its DETAIL tells (R422, R455). -/
def Ev.source (e : Ev) : Nat := if e.code = 0x60 ∧ e.detail ≤ 2 then e.detail else (evClass e.code).2

/-- The 64 bytes of an error record (R422). -/
def errRecord (seq : Nat) (e : Ev) (time dropped count : Nat) : List Byte :=
  natLE 8 seq ++ natLE 2 e.code ++ natLE 1 (evClass e.code).1 ++ natLE 1 e.source ++ natLE 4 e.loc0 ++
    natLE 8 e.loc1 ++ natLE 8 e.detail ++ natLE 8 time ++ natLE 4 e.items ++ natLE 2 dropped ++ natLE 2 0 ++
    natLE 4 count ++ List.replicate 12 0

/-- The lifetime record and the interrupt source of what a read of a line brought about (R460, R499). -/
def State.lineLog (s : State) (k : Nat) (e : LineEv) : State :=
  match e with
  | .marked ch lane => (s.pend (32 + k)).lifeLog 5 (natLE 1 k ++ natLE 1 1 ++ natLE 1 ch ++ natLE 1 lane)
  | .failing => (s.pend (32 + k)).lifeLog 5 (natLE 1 k ++ natLE 1 4)
  | .poisoned _ => s.pend (32 + k)

/-- The bytes of a line that an uncorrectable read returns: its data with the errors that stand in them (R241). -/
def State.asRead (s : State) (k : Nat) (f : LineFlaw) : List Byte :=
  (memRead s.stackMem (k * stackBytes + f.line * 64) 64).zipIdx.map (fun p => p.1 ^^^ BitVec.ofNat 8 (symAt f.syms p.2))

/-- The line of a partial write once it has been read and is written whole with new check bytes, and what the read brought about (R238,
R241). An uncorrectable line keeps the bytes as read. -/
def State.merged (s : State) (k line : Nat) : State × List LineEv :=
  let st := s.stackAt k
  if st.latent.any (fun f => f.line == line) then
    let f := st.flawOf line
    let r := st.lineRead f s.time
    let s1 := s.setStack k (st.rewritten line r.1)
    (if lineDecodes st f then s1 else { s1 with stackMem := memWrite s1.stackMem (k * stackBytes + line * 64) (s.asRead k f) }, r.2)
  else (s, [])

/-- Bytes laid into stacks inside one line of each range, which stays poisoned where it was: the writes of a ring record, whose reads count as
any other, and raise no event (R237, R423). -/
def State.layStack (s : State) : List (Nat × Nat × Nat) → List Byte → State
  | [], _ => s
  | (k, off, len) :: rest, bs =>
    let r := s.merged k (off / 64)
    let t := r.2.foldl (fun u e => u.lineLog k e) r.1
    State.layStack { t with stackMem := memWrite t.stackMem (k * stackBytes + off) (bs.take len) } rest (bs.drop len)

/-- The three writes of a ring record, in order: zeros to bytes 0 to 7, bytes 8 to 63, SEQ (R423). -/
def ringParts (rcd : List Byte) : List (Nat × List Byte) := [(0, natLE 8 0), (8, bytesAt rcd 8 56), (0, bytesAt rcd 0 8)]

/-- One of these writes; false when its translation is refused. -/
def State.ringPart (s : State) (fn : Nat) (r : Region) (p : Nat × List Byte) : State × Bool :=
  match r with
  | .host iova => s.hostWrite fn (regPasid (s.fnAt fn).err.cfg) (iova + p.1) p.2
  | .mem off => (s.layStack (s.stackRanges fn (.mem (off + p.1)) p.2.length) p.2, true)
  | .stack k off => (s.layStack (s.stackRanges fn (.stack k (off + p.1)) p.2.length) p.2, true)
  | _ => (s, false)

/-- A record written to a function's ring; false when there is none or the write fails (R423). -/
def State.ringWrite (s : State) (fn : Nat) (rcd : List Byte) (seq : Nat) : State × Bool :=
  let e := (s.fnAt fn).err
  let lg := bitsOf e.cfg.toNat 24 20
  if lg = 0 then (s, false) else
    let addr := e.base.toNat + 64 * (seq % 2 ^ lg)
    match s.resolve fn addr 64 with
    | .error _ => (s, false)
    | .ok r => (ringParts rcd).foldl (fun w p => if w.2 then w.1.ringPart fn r p else w) (s, true)

/-- The error vector of a function with one record more (R422, R424). -/
def errPush (v : ErrVec) (e : Ev) (time : Nat) : ErrVec × List Byte :=
  let seq := v.seq + 1
  let counts := tabInc v.counts e.code (2 ^ 32 - 1)
  let rcd := errRecord seq e time v.dropped (tabGet counts e.code 0)
  ({ v with seq := seq, counts := counts, history := lastN 64 (v.history ++ [rcd]) }, rcd)

/-- One error record of a function: record, history, ring (R418). -/
def State.raiseLog (s : State) (fn : Nat) (e : Ev) : State :=
  let p := errPush (s.fnAt fn).err e s.stamp
  let s1 := s.drawn.setFn fn { s.fnAt fn with err := p.1 }
  let w := s1.ringWrite fn p.2 p.1.seq
  let v := (w.1.fnAt fn).err
  w.1.setFn fn { w.1.fnAt fn with err := { v with dropped := if w.2 then 0 else min 65535 (v.dropped + 1) } }

/-- The MSI-X entry of a function's error vector (R468). -/
def errEntry (fn : Nat) : Nat := if fn = pfFn then 0 else 64

/-- A raise of a function: its record, and the message that announces it (R418, R468). -/
def State.raiseNow (s : State) (fn : Nat) (e : Ev) : State := (s.raiseLog fn e).msix fn (errEntry fn)

/-- The ridge's snapshot trigger after it raised an event (R472). -/
def State.trigger (s : State) (code : Nat) : State := if s.triggersOn code then s.strobe 2 0 none none code else s

/-- Raise the error vector of a function, now or in the bay's slot (R406, R418); `trig`: the snapshot trigger follows. -/
def State.raiseWith (s : State) (fn : Nat) (e : Ev) (trig : Bool) : State :=
  if s.hasSlot fn then (if trig then (s.raiseNow fn e).trigger e.code else s.raiseNow fn e) else s.hold fn (.raise e trig)

/-- Raise the error vector of a function with an event (R418, R472). -/
def State.raiseIn (s : State) (fn : Nat) (e : Ev) : State := s.raiseWith fn e true

/-- Raise it where the trigger is that of another function's record of the same event. -/
def State.raiseRec (s : State) (fn : Nat) (e : Ev) : State := s.raiseWith fn e false

/-- What waits to be raised or sent for a bay leaves at once: the bay ends, or the device does (R404, R440). -/
def State.flushRaises (s : State) (b : Nat) : State :=
  (s.heldAt b).foldl (fun (t : State) e => match e with
    | .raise ev trig =>
      let u := (t.raiseLog b ev).msixNow b (errEntry b)
      if trig then u.trigger ev.code else u
    | .message en => t.msixNow b en
    | _ => t) s

/-- Raise a bay's error vector, or the PF's with the location of a PF record when the bay does not exist (R418). -/
def State.raiseBay (s : State) (b : Nat) (e pf : Ev) : State :=
  if s.bayExists b then s.raiseIn b e else s.raiseIn pfFn pf

/-- Raise an event of a strip: its bay's vector, or the PF's when no bay holds it (R251, R418). -/
def State.raiseStrip (s : State) (strip : Nat) (e : Nat → Ev) (pf : Ev) : State :=
  match s.stripOwner strip with
  | some b => s.raiseIn b (e b)
  | none => s.raiseIn pfFn pf

/-- Raise an event in the PF and in some bays, each with the items that it ended there; the ridge triggers once (R350, R418, R422). -/
def State.raiseSet (s : State) (bays : List Nat) (e : Ev) (items : Nat → Nat) : State :=
  (bays.foldl (fun t b => t.raiseRec b { e with items := items b }) (s.raiseRec pfFn { e with items := items pfFn })).trigger e.code

/-- Raise an event in the PF and in every bay, whose records name no bay, no location and no detail, and count their own items (R418,
R422). -/
def State.raiseAll (s : State) (e : Ev) (items : Nat → Nat) : State :=
  (((List.range 12).filter (fun b => s.bayExists b)).foldl (fun (t : State) b => t.raiseRec b ⟨e.code, 0, 0, 0, items b⟩)
    (s.raiseRec pfFn { e with items := items pfFn })).trigger e.code

end Sys2Proof.Machine
end

