-- ==== Sys2Proof/Machine/Memory.lean ====
section
/-! DEFINITION. Reads of the lines of the stacks: lane marks, poison and stack states (R239 to R242, R247), lines of the scratchpads
(R101), and failed tiles (R425). -/

namespace Sys2Proof.Machine

/-- The 72 symbols that a line stores: its data, the check bytes that its last write computed, and the errors that stand in them
(R235, R238). -/
def State.lineSyms (s : State) (k line : Nat) : List Byte :=
  let data := memRead s.stackMem (k * stackBytes + line * 64) 64
  let f := (s.stackAt k).flawOf line
  (data ++ rsCheck data).zipIdx.map (fun p => p.1 ^^^ BitVec.ofNat 8 (symAt f.syms p.2))

/-- Event of a stack to the owner of its strip, and its interrupt source (R251, R421, R460). -/
def State.raiseStack (s : State) (k code loc1 : Nat) : State :=
  (s.pend (32 + k)).raiseStrip (stackStrip k) (fun b => ⟨code, s.stackIndex b k, loc1, 0, 0⟩) ⟨code, k, loc1, 0, 0⟩

/-- The events of what a read of a line brought about, with their lifetime records. -/
def State.lineEvents (s : State) (k : Nat) (es : List LineEv) : State := es.foldl (fun t e => (t.raiseStack k e.code e.loc1).lineLog k e) s

/-- Make a stack FAILING, once (R247, R499). -/
def State.stackFailing (s : State) (k : Nat) : State :=
  (s.setStack k (s.stackAt k).fail.1).lineEvents k (s.stackAt k).fail.2

/-- A line becomes poisoned, with MEMORY_POISON (R241). -/
def State.poisonLine (s : State) (k line : Nat) : State :=
  let r := (s.stackAt k).poisonLine line s.time
  (s.setStack k r.1).lineEvents k r.2

/-- A read of a line by any agent meets what stands wrong in it, with the events of what it brings about (R237 to R241). -/
def State.lineRead (s : State) (k : Nat) (f : LineFlaw) : State :=
  let r := (s.stackAt k).lineRead f s.time
  (s.setStack k r.1).lineEvents k r.2

/-- The reads of a range of a stack meet what stands in its lines (R239). -/
def State.touchStack (s : State) (k off len : Nat) : State :=
  let hits := (s.stackAt k).latent.filter (fun f => decide (off / 64 ≤ f.line ∧ f.line ≤ (off + len - 1) / 64 ∧ len ≠ 0))
  hits.foldl (fun t f => t.lineRead k f) s

/-- The tile event fields of a logical core (R421). -/
def State.tileEv (s : State) (b core code : Nat) (col row : Nat) : Ev :=
  ⟨code, col + row * 256 + core % 56 * 65536, s.coreIndex b core, 0, 0⟩

/-- Are the engines of a core stopped: the device in DEVICE_FATAL (R440), its bay halted with no step left (R480), its
tile failed and under repair (R428), or its tile domain gated (R457)? -/
def State.engineStopped (s : State) (b core : Nat) : Bool :=
  s.dev.fatal.isSome || ((s.bayAt b).halted && (s.bayAt b).stepLeft == 0) || s.coreDown core || s.coreAsleep core

/-- A scratchpad line becomes poisoned and SCRATCHPAD_POISON is raised (R101). -/
def State.poisonSpad (s : State) (core line : Nat) : State :=
  if s.spadPoison.contains (core * 0x6000 + line) then s
  else
    let s1 := { s with spadPoison := setIns s.spadPoison (core * 0x6000 + line) }
    let col := core / 56
    let row := s.coreTile core
    s1.raiseStrip (coreStrip core) (fun b => s.tileEv b core 0x20 col row) ⟨0x20, col + row * 256 + core % 56 * 65536, 0xFFFF, 0, 0⟩

/- Failed tiles (R425 to R427, R432, R433). -/

/-- Bits 27:0 of DETAIL: DEAD and the four holes of a column (R262, R422). -/
def Column.slipBits (c : Column) : Nat :=
  ((List.range 4).zip c.holes).foldl (fun n e => n + (if c.dead.contains e.2 then 2 ^ e.1 else 0) + e.2 * 2 ^ (4 + 6 * e.1)) 0

/-- The difference of the physical rows of a logical row in another column and in one, as s4; 0 beside the grid (R262). -/
def rowOffset (cols : List (Nat × Column)) (here there row : Nat) : Nat :=
  if there < 72 then
    unsignedOf 4 ((physRow (tabGet cols there columnReset).holes row : Int) - (physRow (tabGet cols here columnReset).holes row : Int))
  else 0

/-- The slip-map entry of the router at a column and physical row (R262). The router of a hole has no logical row, and its offsets are 0. -/
def routerEntry (cols : List (Nat × Column)) (col f : Nat) : Nat :=
  let c := tabGet cols col columnReset
  c.slipBits * 2 ^ 28 + (match logRow c.holes f with
    | some y => rowOffset cols col (col + 1) y * 2 ^ 20 + (if col = 0 then 0 else rowOffset cols col (col - 1) y * 2 ^ 16) + y * 2 ^ 8 + 2 ^ 7
    | none => 0)

/-- The event of a tile that holds no logical row, for its bay or the PF (R421). -/
def holeEv (code col row detail : Nat) : Ev := ⟨code, col + row * 256 + 0xFF * 65536, 0xFFFF, detail, 0⟩

/-- A tile is declared failed: its lifetime count, the column's SLIPS, and the log (R433, R442, R499). -/
def State.countFailure (s : State) (col row kind : Nat) : State :=
  let t := s.tileAt col row
  let c := s.columnAt col
  let n := t.failures + 1
  ((s.setTile col row { t with failures := n, misses := 0, checking := 0 }).setColumn col { c with slips := satInc 16 c.slips }).lifeLog 3
    (natLE 1 col ++ natLE 1 row ++ natLE 1 kind ++ natLE 1 n)

/-- A spare becomes a dead hole (R425, R432). -/
def State.spareDies (s : State) (col row : Nat) (planned : Bool) : State :=
  let s1 := s.countFailure col row 3
  let c := s1.columnAt col
  let c1 := { c with dead := setIns c.dead row, rank := c.rank.filter (fun r => r != row) }
  let e := holeEv 0x23 col row (c1.slipBits + (if planned then 2 ^ 55 else 0))
  (s1.setColumn col c1).raiseStrip (col / 6) (fun _ => e) e

/-- The key of the repair of a strip: its bay, or 16 and the strip. -/
def State.repairKey (s : State) (strip : Nat) : Nat := (s.stripOwner strip).getD (16 + strip)

/-- A failed tile joins the repair of its owner (R431). A planned one waits first, unless a repair already holds the bay. -/
def Repair.join (r : Repair) (col row : Nat) (planned : Bool) (lrow : Nat) : Repair :=
  { r with failed := r.failed ++ [(col, row, planned, lrow)], step := if planned && (r.step == 0 || r.step == 1) then 1 else 2 }

/-- A planned slip whose tile meets an unplanned cause becomes unplanned (R426). -/
def Repair.unplan (r : Repair) (col row : Nat) : Repair :=
  { r with failed := r.failed.map (fun f => if f.1 = col ∧ f.2.1 = row then (col, row, false, f.2.2.2) else f), step := 2 }

/-- Does a RESTORE_STRIP test a strip's tiles, whose maps it will rebuild (R437)? -/
def State.retesting (s : State) (strip : Nat) : Bool := match s.dev.restore with | some r => r.1 == strip && r.2.2.2 | none => false

/-- Is a tile of a tile domain under a full check (R432, R433)? -/
def State.tileChecked (s : State) (d : Nat) : Bool :=
  s.tiles.any (fun e => e.2.checking != 0 && tileDom (e.1 / 60) (e.1 % 60) == d)

/-- A tile is declared failed (R425). In a retired column nothing is left to repair; a strip under test has its maps rebuilt. -/
def State.tileFails (s : State) (col row : Nat) (planned : Bool) : State :=
  let c := s.columnAt col
  if c.dead.contains row then s
  else match logRow c.holes row with
    | none => s.spareDies col row planned
    | some y =>
      if c.retired || s.retesting (col / 6) then
        let s1 := s.countFailure col row 1
        s1.setColumn col { s1.columnAt col with dead := setIns c.dead row }
      else
      let key := s.repairKey (col / 6)
      let r := tabGet s.repairs key ⟨[], [], 1, [], [], none⟩
      if r.failed.any (fun f => f.1 == col && f.2.1 == row) then
        if planned || r.failed.any (fun f => f.1 == col && f.2.1 == row && !f.2.2.1) then s
        else { s with repairs := tabSet s.repairs key (r.unplan col row) }
      else { s.countFailure col row 1 with repairs := tabSet s.repairs key (r.join col row planned y) }

/-- A correction brings a count of a tile to CORR_LIMIT: CORE_CORRECTABLE once, and a planned slip (R425, R509). -/
def State.correctLimit (s : State) (core col row : Nat) : State :=
  let t := s.tileAt col row
  let limit := bitsOf s.dev.corrLimit.toNat 15 0
  if t.spadCorr < limit ∧ t.accCorr < limit then s
  else
    let s1 := if t.corrRaised then s
      else ((s.setTile col row { t with corrRaised := true }).pend (96 + col / 6)).raiseStrip (coreStrip core) (fun b => s.tileEv b core 0x21 col row)
        ⟨0x21, col + row * 256 + core % 56 * 65536, 0xFFFF, 0, 0⟩
    s1.tileFails col row true

/-- A single-bit error of a scratchpad word is corrected and counted (R101, R114). -/
def State.correctSpad (s : State) (core word : Nat) : State :=
  let col := core / 56
  let row := s.coreTile core
  let t := s.tileAt col row
  (({ s with spadFlaws := tabDel s.spadFlaws (core * 0x30000 + word) }).setTile col row { t with spadCorr := satInc 16 t.spadCorr }).correctLimit
    core col row

/-- A read of one flawed scratchpad word (R101): corrected, or its line poisoned. -/
def State.readFlaw (s : State) (core word bits : Nat) : State :=
  if bits = 1 then s.correctSpad core word
  else ({ s with spadFlaws := tabDel s.spadFlaws (core * 0x30000 + word) }).poisonSpad core (word / 8)

/-- The flawed words of a scratchpad range: those that its bytes lie in, of a range that the check of R33 passes. DESIGN CHOICE (log entry 77):
a read of part of a line checks the 8-byte words of its own bytes and no other word of the line that the bank reads (R97). -/
def State.flawsIn (s : State) (core off len : Nat) : List (Nat × Nat) :=
  s.spadFlaws.filter (fun f => decide (len ≠ 0 ∧ off + len ≤ spadBytes ∧ core * 0x30000 + off / 8 ≤ f.1 ∧ f.1 ≤ core * 0x30000 + (off + len - 1) / 8))

/-- The reads of a scratchpad range meet what stands in its words (R101). -/
def State.touchSpad (s : State) (core off len : Nat) : State :=
  (s.flawsIn core off len).foldl (fun t f => t.readFlaw core (f.1 - core * 0x30000) f.2) s

/-- Does a read of a scratchpad byte meet poison: of its line, or an uncorrectable error of its word (R101)? -/
def State.spadPoisoned (s : State) (core off : Nat) : Bool :=
  s.spadPoison.contains (core * 0x6000 + off / 64) || s.spadFlaws.any (fun f => f.2 != 1 && f.1 == core * 0x30000 + off / 8)

/-- A single-bit error of an accumulator pair is corrected and counted (R102, R113, R114). -/
def State.correctPair (s : State) (core p : Nat) : State :=
  let col := core / 56
  let row := s.coreTile core
  let t := s.tileAt col row
  ((s.setCore core { s.coreAt core with pairFlaws := tabDel (s.coreAt core).pairFlaws p }).setTile col row
    { t with accCorr := satInc 16 t.accCorr }).correctLimit core col row

/-- The reads of a range of pairs meet what stands in them: a single-bit error is corrected, another stays (R102). -/
def State.touchPairs (s : State) (core first last : Nat) : State :=
  ((s.coreAt core).pairFlaws.filter (fun f => decide (first ≤ f.1 ∧ f.1 ≤ last) && f.2 == 1)).foldl (fun t f => t.correctPair core f.1) s

/-- The reads of a region meet what stands in its lines. -/
def State.touch (s : State) (b : Nat) (r : Region) (len : Nat) : State :=
  match r with
  | .spad core off => s.touchSpad core off len
  | .mem _ | .stack _ _ => (s.stackRanges b r len).foldl (fun t p => t.touchStack p.1 p.2.1 p.2.2) s
  | .acc core off => s.touchPairs core (off / 8) ((off + len - 1) / 8)
  | _ => s

end Sys2Proof.Machine
end

