-- ==== Sys2Proof/Machine/Access.lean ====
section
/-! DEFINITION. Reads and writes of a bay's agents through device addresses: bay memory, stack windows, scratchpads, the
accumulator store at debug level 3, and host memory (R28 to R34, R101, R241, R242). Fabric windows are in Faref.lean. -/

namespace Sys2Proof.Machine

/-- Who makes an access: the bay, the function and PASID of its host requests (R31, R376). -/
structure Agent where
  bay : Nat
  fn : Nat
  pasid : Option Nat
  deriving DecidableEq, Repr

/-- A byte of the accumulator store (R30): main word then underlay of each pair. -/
def accByte (c : Core) (off : Nat) : Byte :=
  let p := tabGet c.pairs (off / 8) (0, 0)
  (natLE 4 p.1 ++ natLE 4 p.2).getD (off % 8) 0

/-- A byte of a stack, unless its line is read as poisoned (R242). -/
def State.readStackByte (s : State) (k off : Nat) : Except Status Byte :=
  if linePoisoned (s.stackAt k) (off / 64) then .error .poisonedData else .ok (memGet s.stackMem (k * stackBytes + off))

/-- A byte of a scratchpad, unless its line is read as poisoned (R101). -/
def State.readSpadByte (s : State) (core off : Nat) : Except Status Byte :=
  if s.spadPoisoned core off then .error .poisonedData else .ok (memGet s.spadMem (core * spadBytes + off))

/-- The byte at `i` of a region. -/
def State.readByte (s : State) (a : Agent) (r : Region) (i : Nat) : Except Status Byte :=
  match r with
  | .mem off => let p := s.memPlace a.bay (off + i); s.readStackByte p.1 p.2
  | .stack k off => s.readStackByte k (off + i)
  | .spad core off => s.readSpadByte core (off + i)
  | .acc core off =>
    if (s.coreAt core).pairFlaws.any (fun f => f.1 == (off + i) / 8 && f.2 != 1) then .error .poisonedData else .ok (accByte (s.coreAt core) (off + i))
  | .host iova => s.hostByte a.fn a.pasid (iova + i)
  | .fabric _ _ => .error .addressRange

/-- `n` bytes of a region from byte `i`, or the failure of the first byte that fails. -/
def State.readFrom (s : State) (a : Agent) (r : Region) (i : Nat) : Nat → Except Status (List Byte)
  | 0 => .ok []
  | n + 1 => match s.readByte a r i with
    | .error e => .error e
    | .ok b => match s.readFrom a r (i + 1) n with
      | .error e => .error e
      | .ok bs => .ok (b :: bs)

/-- An access that reads `n` bytes at a device address (R33). -/
def State.readAt (s : State) (a : Agent) (addr n : Nat) : Except Status (List Byte) :=
  if n = 0 then .ok [] else
    match s.resolve a.bay addr n with
    | .error e => .error e
    | .ok r => s.readFrom a r 0 n

/-- The check alone of an access (R33). -/
def State.checkAt (s : State) (b addr n : Nat) : Option Status :=
  if n = 0 then none else match s.resolve b addr n with | .error e => some e | .ok _ => none

/-- What stands in the lines of the range that an access reads comes to notice (R101, R239). -/
def State.touchAt (s : State) (b addr n : Nat) : State :=
  if n = 0 then s else match s.resolve b addr n with | .error _ => s | .ok r => s.touch b r n

/-- Lines of a range that a write covers in full: first and end. -/
def fullLines (off len unit : Nat) : Nat × Nat := ((off + unit - 1) / unit, (off + len) / unit)

/-- A partial line of a write is read, decoded and written whole, with the events of its read (R238, R241). -/
def State.mergeLine (s : State) (k line : Nat) : State := (s.merged k line).1.lineEvents k (s.merged k line).2

/-- A write of a range of a stack (R241): partial lines merge, full lines become valid. -/
def State.writeStack (s : State) (k off : Nat) (bytes : List Byte) : State :=
  let len := bytes.length
  if len = 0 then s else
    let s1 := if off % 64 = 0 ∧ 64 ≤ len then s else s.mergeLine k (off / 64)
    let s2 := if (off + len) % 64 = 0 ∨ (off + len - 1) / 64 = off / 64 then s1 else s1.mergeLine k ((off + len - 1) / 64)
    let f := fullLines off len 64
    let st := s2.stackAt k
    let st1 := { st with poison := st.poison.filter (fun l => decide (l < f.1 ∨ f.2 ≤ l)),
                         latent := st.latent.filter (fun l => decide (l.line < f.1 ∨ f.2 ≤ l.line)) }
    { s2.setStack k st1 with stackMem := memWrite s2.stackMem (k * stackBytes + off) bytes }

/-- The words that a write covers only in part are read first (R101). -/
def State.mergeWords (s : State) (core off len : Nat) : State :=
  let part := (s.flawsIn core off len).filter (fun f =>
    let w := (f.1 - core * 0x30000) * 8
    decide (w < off ∨ off + len < w + 8))
  part.foldl (fun t f => t.readFlaw core (f.1 - core * 0x30000) f.2) s

/-- A write of a range of a scratchpad (R101): whole words lose their errors, whole lines their poison. -/
def State.writeSpad (s : State) (core off : Nat) (bytes : List Byte) : State :=
  let len := bytes.length
  if len = 0 then s else
    let s1 := s.mergeWords core off len
    let w := fullLines off len 8
    let l := fullLines off len 64
    { s1 with spadFlaws := s1.spadFlaws.filter (fun f => decide (f.1 < core * 0x30000 + w.1 ∨ core * 0x30000 + w.2 ≤ f.1)),
              spadPoison := s1.spadPoison.filter (fun p => decide (p < core * 0x6000 + l.1 ∨ core * 0x6000 + l.2 ≤ p)),
              spadMem := memWrite s1.spadMem (core * spadBytes + off) bytes }

/-- Bytes written over a list of stack ranges, in order. -/
def State.writePieces (s : State) : List (Nat × Nat × Nat) → List Byte → State
  | [], _ => s
  | (k, off, len) :: rest, bs => State.writePieces (s.writeStack k off (bs.take len)) rest (bs.drop len)

/-- A write of bytes at a region, and the failure of a host page that refuses it (R31). The accumulator store takes no
write (R175). -/
def State.writeRegion (s : State) (a : Agent) (r : Region) (bytes : List Byte) : State × Option Status :=
  match r with
  | .mem _ | .stack _ _ => (s.writePieces (s.stackRanges a.bay r bytes.length) bytes, none)
  | .spad core off => (s.writeSpad core off bytes, none)
  | .acc _ _ => (s, some .addressRange)
  | .host iova => let w := s.hostWrite a.fn a.pasid iova bytes; (w.1, if w.2 then none else some .addressRange)
  | .fabric _ _ => (s, some .addressRange)

/-- An access that writes bytes at a device address. -/
def State.writeAt (s : State) (a : Agent) (addr : Nat) (bytes : List Byte) : State × Option Status :=
  if bytes = [] then (s, none) else
    match s.resolve a.bay addr bytes.length with
    | .error e => (s, some e)
    | .ok r => s.writeRegion a r bytes

/-- A list of writes in order; the first failure ends it (R34). -/
def State.writeAll (s : State) (a : Agent) : List (Nat × List Byte) → State × Option Status
  | [] => (s, none)
  | (addr, bs) :: rest => match s.writeAt a addr bs with
    | (t, none) => State.writeAll t a rest
    | (t, some e) => (t, some e)

/-- The would-be bytes of a failed access that landed, as runs inside one 64-byte line each: each byte is its former content or the would-be
value, and which is a free value (R34, log entry 7). A byte that is none is not known. -/
def landRuns (land : Nat → Bool) (addr : Nat) : List (Option Byte) → List (Nat × List Byte)
  | [] => []
  | b :: bs =>
    let rest := landRuns land (addr + 1) bs
    match (if land addr then b else none), rest with
    | none, _ => rest
    | some x, (a, run) :: more => if a = addr + 1 ∧ a % 64 ≠ 0 then (addr, x :: run) :: more else (addr, [x]) :: rest
    | some x, [] => [(addr, [x])]

/-- The would-be bytes of a failed item, of which any may have landed (R34): a line or a word that landed whole was written whole. -/
def State.landBytes (s : State) (a : Agent) (addr : Nat) (bs : List Byte) : State :=
  (landRuns (Config.landed s.draws) addr (bs.map some)).foldl (fun t r => (t.writeAt a r.1 r.2).1) s

/-- The would-be writes of a failed item. -/
def State.landAll (s : State) (a : Agent) : List (Nat × List Byte) → State
  | [] => s
  | (addr, bs) :: rest => State.landAll (s.landBytes a addr bs) a rest

end Sys2Proof.Machine
end

