-- ==== Sys2Proof/Machine/Tables.lean ====
section
/-! DEFINITION. The tables and constants of the special functions, as the formulas of R206 and R218 give them. -/

namespace Sys2Proof.Machine

/-- T[j] of R206: nint(2^(j/64) × 2^30). -/
def tabT : List Nat :=
  [1073741824, 1085434106, 1097253708, 1109202018, 1121280436, 1133490379, 1145833280, 1158310587, 1170923762, 1183674286, 1196563654, 1209593378, 1222764986, 1236080024, 1249540052, 1263146652, 1276901417, 1290805962, 1304861917, 1319070932, 1333434672, 1347954824, 1362633090, 1377471191, 1392470869, 1407633882, 1422962010, 1438457051, 1454120821, 1469955159, 1485961921, 1502142985] ++
  [1518500250, 1535035634, 1551751076, 1568648537, 1585730000, 1602997467, 1620452965, 1638098541, 1655936265, 1673968228, 1692196547, 1710623359, 1729250827, 1748081133, 1767116489, 1786359126, 1805811301, 1825475297, 1845353420, 1865448001, 1885761398, 1906295993, 1927054196, 1948038440, 1969251188, 1990694927, 2012372174, 2034285470, 2056437387, 2078830522, 2101467502, 2124350982] ++
  [2147483648]

/-- RQ[i] of R206: nint(2^10 / √(2^h × (1 + (k + 1/2) / 64))), i = 64h + k. -/
def tabRQ : List Nat :=
  [1020, 1012, 1005, 997, 990, 983, 976, 969, 962, 956, 949, 943, 937, 931, 925, 919, 913, 907, 902, 896, 891, 886, 881, 876, 871, 866, 861, 856, 852, 847, 843, 838] ++
  [834, 830, 825, 821, 817, 813, 809, 805, 801, 798, 794, 790, 786, 783, 779, 776, 772, 769, 766, 762, 759, 756, 753, 749, 746, 743, 740, 737, 734, 731, 728, 725] ++
  [721, 716, 710, 705, 700, 695, 690, 685, 680, 676, 671, 667, 662, 658, 654, 650, 646, 642, 638, 634, 630, 626, 623, 619, 616, 612, 609, 606, 602, 599, 596, 593] ++
  [590, 587, 584, 581, 578, 575, 572, 569, 567, 564, 561, 559, 556, 554, 551, 549, 546, 544, 541, 539, 537, 534, 532, 530, 528, 526, 523, 521, 519, 517, 515, 513]

/-- Q[i] of R206: floor(2^31 / √(2^h × (1 + k / 64))), and Q[128] = 2^30. -/
def tabQ : List Nat :=
  [2147483648, 2130900514, 2114695712, 2098855072, 2083365155, 2068213207, 2053387115, 2038875363, 2024666999, 2010751597, 1997119226, 1983760419, 1970666148, 1957827795, 1945237132, 1932886295, 1920767766, 1908874353, 1897199171, 1885735627, 1874477403, 1863418443, 1852552937, 1841875309, 1831380208, 1821062491, 1810917217, 1800939636, 1791125178, 1781469446, 1771968208, 1762617387] ++
  [1753413056, 1744351429, 1735428857, 1726641819, 1717986918, 1709460876, 1701060526, 1692782810, 1684624773, 1676583558, 1668656405, 1660840641, 1653133683, 1645533028, 1638036255, 1630641020, 1623345050, 1616146145, 1609042172, 1602031061, 1595110808, 1588279467, 1581535150, 1574876026, 1568300314, 1561806289, 1555392273, 1549056637, 1542797796, 1536614213, 1530504391, 1524466875] ++
  [1518500249, 1506774203, 1495315678, 1484114654, 1473161628, 1462447584, 1451963953, 1441702595, 1431655765, 1421816090, 1412176547, 1402730444, 1393471396, 1384393310, 1375490367, 1366757007, 1358187913, 1349777999, 1341522399, 1333416449, 1325455683, 1317635817, 1309952744, 1302402521, 1294981364, 1287685636, 1280511844, 1273456629, 1266516759, 1259689126, 1252970736, 1246358707] ++
  [1239850262, 1233442724, 1227133513, 1220920138, 1214800199, 1208771377, 1202831433, 1196978204, 1191209600, 1185523603, 1179918259, 1174391680, 1168942037, 1163567562, 1158266544, 1153037323, 1147878293, 1142787899, 1137764631, 1132807027, 1127913669, 1123083182, 1118314229, 1113605517, 1108955787, 1104363818, 1099828423, 1095348452, 1090922784, 1086550330, 1082230033, 1077960865] ++
  [1073741824]

/-- LL[j] of R206: nint(−log2(RL[j] / 1,024) × 2^40). -/
def tabLL : List Int :=
  [-447795642405, -431357568124, -415939592803, -399166294811, -383430660510, -367537364050, -352723933692, -336518386343, -321411034316, -306158417061, -292046832122, -276507834658, -262128783005, -247618195581, -232973643643, -219542064893, -204634770471, -190960030844, -177166378947, -163251728557, -149213938069, -136472825611, -122194961684, -109234072732, -96166410953, -82990202517, -69703629021, -56304825982, -44299016748, -30682967713, -18480907754, 0] ++
  [0, 18698762371, 31288193316, 42386509264, 55166114924, 66433356420, 77781202271, 90850359394, 102374872784, 113983727325, 125678166610, 135771053085, 147627829922, 159573900163, 169885485594, 182001005276, 192459900129, 202988212935, 213586871336, 224256821697, 234999029609, 245814480414, 256704179745, 267669154093, 278710451383, 287970605952, 299154623888, 308535254258, 317971688826, 329370013124, 338931585008, 348551141310] ++
  [358229389593, 367967050454, 377764857841, 387623559387, 397543916754, 407526705981, 417572717853, 425655588707, 435817442632, 446044815087, 454274457270, 464621917138, 472948760263, 483419161135, 491845528747, 500316897200, 508833749729, 519544526228, 528165525561, 536833634414, 545549370477, 554313260022, 563125838093, 571987648699, 580899245018, 587615952186, 596616032913, 605667469586, 614770851660, 621632837730, 630828573470, 640077928964]

/-- A[k] of R206: nint((−1)^k / ((k + 1) × ln 2) × 2^31). -/
def tabA : List Int :=
  [3098164009, -1549082005, 1032721336, -774541002, 619632802]

/-- G[j] of R206: floor(log2(3/4 + j / 128) × 2^65). -/
def tabG : List Int :=
  [-15312181060378489025, -14760610814703801210, -14214697799452824372, -13674327144012278160, -13139387441322872860, -12609770610020610594, -12085371763369493448, -11566089084588070004, -11051823708199142190, -10542479607056786025, -10037963484727788434, -9538184672925826914, -9043055033716363843, -8552488866228423674, -8066402817626288156, -7584715798109790466, -7107348899726412186, -6634225318791877369, -6165270281728477235, -5700410974142022278, -5239576472969173836, -4782697681537017007, -4329707267386158282, -3880539602717416609, -3435130707330373839, -2993418193929703453, -2555341215682345498, -2120840415915277829, -1689857879849882974, -1262337088274757674, -838222873064287004, -417461374455433687] ++
  [0, 414212614885872735, 825226644848972997, 1233091111073092333, 1637853916366210865, 2039561878923599604, 2438260764826350951, 2833995319331751344, 3226809297008995577, 3616745490770998620, 4003845759850476743, 4388151056766035001, 4769701453321703000, 5148536165681196410, 5524693578556139645, 5898211268545557700, 6269126026662125182, 6637473880078941351, 7003290113128975351, 7366609287587789835, 7727465262268698559, 8085891211958139139, 8441919645717741347, 8795582424578339615, 9146910778650011790, 9495935323671120760, 9842686077018287704, 10187192473198232212, 10529483378841472018, 10869587107216980856, 11207531432286054092, 11543343602312825773] ++
  [11877050353048115186, 12208677920502553582, 12538252053324250365, 12865798024795600681, 13191340644463211196, 13514904269414326051, 13836512815212568981, 14156189766505278757, 14473958187314202021, 14789840731020818853, 15103859650057110763, 15416036805312136973, 15726393675264361760, 16034951364849272154, 16341730614071440371, 16646751806369818186, 16950034976744699889, 17251599819654455925, 17551465696689819746, 17849651644033205224, 18146176379710240368, 18441058310640424398, 18734315539493548857, 19025965871358268709, 19316026820228965768, 19604515615316813745, 19891449207190731233, 20176844273753695467, 20460717226059685435, 20743084213976327204, 21023961131698126976, 21303363623114997847] ++
  [21581307087040614207]

/-- TS[j] of R206: nint(sin(πj / 128) × 2^30). -/
def tabTS : List Nat :=
  [0, 26350943, 52686014, 78989349, 105245103, 131437462, 157550647, 183568930, 209476638, 235258165, 260897982, 286380643, 311690799, 336813204, 361732726, 386434353, 410903207, 435124548, 459083786, 482766489, 506158392, 529245404, 552013618, 574449320, 596538995, 618269338, 639627258, 660599890, 681174602, 701339000, 721080937, 740388522] ++
  [759250125, 777654384, 795590213, 813046808, 830013654, 846480531, 862437520, 877875009, 892783698, 907154608, 920979082, 934248793, 946955747, 959092290, 970651112, 981625251, 992008094, 1001793390, 1010975242, 1019548121, 1027506862, 1034846671, 1041563127, 1047652185, 1053110176, 1057933813, 1062120190, 1065666786, 1068571464, 1070832474, 1072448455, 1073418433] ++
  [1073741824]

/-- TC[j] of R206: nint(cos(πj / 128) × 2^30). -/
def tabTC : List Nat :=
  [1073741824, 1073418433, 1072448455, 1070832474, 1068571464, 1065666786, 1062120190, 1057933813, 1053110176, 1047652185, 1041563127, 1034846671, 1027506862, 1019548121, 1010975242, 1001793390, 992008094, 981625251, 970651112, 959092290, 946955747, 934248793, 920979082, 907154608, 892783698, 877875009, 862437520, 846480531, 830013654, 813046808, 795590213, 777654384] ++
  [759250125, 740388522, 721080937, 701339000, 681174602, 660599890, 639627258, 618269338, 596538995, 574449320, 552013618, 529245404, 506158392, 482766489, 459083786, 435124548, 410903207, 386434353, 361732726, 336813204, 311690799, 286380643, 260897982, 235258165, 209476638, 183568930, 157550647, 131437462, 105245103, 78989349, 52686014, 26350943] ++
  [0]

/-- nint(2^(j/32) × 2^7) of dm1_exp2 (R218). -/
def tabDm1Exp : List Nat :=
  [128, 131, 134, 137, 140, 143, 146, 149, 152, 156, 159, 162, 166, 170, 173, 177, 181, 185, 189, 193, 197, 202, 206, 211, 215, 220, 225, 230, 235, 240, 245, 251]

/-- The 7-bit seeds of dm1_rsqrt (R218), index 32h + k. -/
def tabDm1Rsqrt : List Nat :=
  [127, 125, 123, 122, 120, 118, 117, 115, 114, 112, 111, 110, 109, 107, 106, 105, 104, 103, 102, 101, 100, 99, 98, 97, 96, 95, 95, 94, 93, 92, 92, 91] ++
  [90, 88, 87, 86, 85, 84, 83, 81, 80, 79, 79, 78, 77, 76, 75, 74, 74, 73, 72, 71, 71, 70, 69, 69, 68, 68, 67, 66, 66, 65, 65, 64]

/-- nint(128 × log2 c) of dm1_log2 (R218), c = 1 + j/32. -/
def tabDm1Log : List Nat :=
  [0, 6, 11, 17, 22, 27, 32, 37, 41, 46, 50, 55, 59, 63, 67, 71, 75, 79, 82, 86, 90, 93, 97, 100, 103, 107, 110, 113, 116, 119, 122, 125]

/-- nint(128 / (c × ln 2)) of dm1_log2 (R218), c = 1 + j/32. -/
def tabDm1Slope : List Nat :=
  [185, 179, 174, 169, 164, 160, 156, 152, 148, 144, 141, 137, 134, 131, 128, 126, 123, 121, 118, 116, 114, 111, 109, 107, 106, 104, 102, 100, 98, 97, 95, 94]

/-- nint(128 × sin(πj/64)) of dm1_sinturn (R218). -/
def tabDm1Sin : List Nat :=
  [0, 6, 13, 19, 25, 31, 37, 43, 49, 55, 60, 66, 71, 76, 81, 86, 91, 95, 99, 103, 106, 110, 113, 116, 118, 121, 122, 124, 126, 127, 127, 128] ++
  [128]

/-- nint(128 × cos(πj/64)) of dm1_sinturn (R218). -/
def tabDm1Cos : List Nat :=
  [128, 128, 127, 127, 126, 124, 122, 121, 118, 116, 113, 110, 106, 103, 99, 95, 91, 86, 81, 76, 71, 66, 60, 55, 49, 43, 37, 31, 25, 19, 13, 6] ++
  [0]

/-- c1 of R206: nint(ln 2 × 2^30). -/
def cst1 : Nat := 744261118

/-- c2 of R206: nint((ln 2)^2 / 2 × 2^30). -/
def cst2 : Nat := 257941248

/-- c3 of R206: nint((ln 2)^3 / 6 × 2^30). -/
def cst3 : Nat := 59597083

/-- L2E of R206: nint(log2(e) × 2^62). -/
def cstL2E : Nat := 6653256548922161246

/-- K_LN2 of R206: nint(ln 2 × 2^64). -/
def cstLn2 : Nat := 12786308645202655660

/-- K2PI of R206: nint(2π × 2^28). -/
def cst2Pi : Nat := 1686629713

end Sys2Proof.Machine
end

