-- ==== Sys2Proof/Machine/Special.lean ====
section
/-! DEFINITION. The special functions in standard mode (R203 to R214) and in DM1 compatibility mode (R217, R218).
Operands and results are FP32 codes; in DM1 mode the result is the FP32 value of the code in O. -/

namespace Sys2Proof.Machine

/-- floor of a rational as a natural number; 0 below 0. -/
def ratFloorNat (v : Rat) : Nat := v.floor.toNat

/-- The unpacking of R204 of a finite operand that is not 0: sign, 24-bit mant, ex. -/
def unpack (x : Nat) : Bool × Nat × Int :=
  let s := x.testBit 31
  let ex := (x >>> 23) % 256
  let t := x % 2 ^ 23
  if ex = 0 then
    let z := 23 - t.log2
    (s, t <<< z, -126 - (z : Int))
  else (s, 2 ^ 23 + t, (ex : Int) - 127)

/-- An FP32 1.0. -/
def one32 : Nat := 0x3F800000
/-- FP32 infinities. -/
def inf32 (neg : Bool) : Nat := if neg then 0xFF800000 else 0x7F800000
/-- An FP32 zero of a sign. -/
def zero32 (neg : Bool) : Nat := if neg then 0x80000000 else 0

/-- Is the FP32 code a zero? -/
def isZero32 (x : Nat) : Bool := x % 2 ^ 31 == 0
/-- Is the FP32 code a NaN? -/
def isNaN32 (x : Nat) : Bool := decide (0x7F800000 < x % 2 ^ 31)
/-- Is the FP32 code an infinity? -/
def isInf32 (x : Nat) : Bool := x % 2 ^ 31 == 0x7F800000
/-- The sign bit of an FP32 code. -/
def sign32 (x : Nat) : Bool := x.testBit 31
/-- The exact real of an FP32 code (0 where it has none). -/
def rat32 (x : Nat) : Rat := numRat (dec32 x)
/-- rne of an exact real into FP32 (R204): an exact 0 is +0. -/
def rneR (v : Rat) : Nat := rne32 (numOfRat v)

/-- exp2_fixed of R207: (P, n). -/
def exp2Fixed (x : Int) : Nat × Int :=
  let n := x / (2 ^ 32 : Nat)
  let f := (x - n * (2 ^ 32 : Nat)).toNat
  let j := f / 2 ^ 26
  let r := f % 2 ^ 26
  let a := cst2 + cst3 * r / 2 ^ 32
  let a := cst1 + a * r / 2 ^ 32
  let g := 2 ^ 30 + a * r / 2 ^ 32
  let p := tabT.getD j 0 * g / 2 ^ 30
  (min p (tabT.getD (j + 1) 0), n)

/-- exp2_core of R207. -/
def exp2Core (x : Int) : Nat :=
  if ((128 * 2 ^ 32 : Nat) : Int) ≤ x then inf32 false
  else if x < -((151 * 2 ^ 32 : Nat) : Int) then 0
  else
    let pn := exp2Fixed x
    rneR ((pn.1 : Rat) * pow2 (pn.2 - 30))

/-- A finite operand brought into [−256, 256] (R207). -/
def clamp256 (v : Rat) : Rat := max (-256) (min 256 v)

/-- EXP2 (R205, R207). -/
def sfExp2 (x : Nat) : Nat :=
  if isNaN32 x then nan32
  else if isInf32 x then (if sign32 x then 0 else inf32 false)
  else exp2Core (clamp256 (rat32 x) * ((2 ^ 32 : Nat) : Rat)).floor

/-- EXP (R205, R207). -/
def sfExp (x : Nat) : Nat :=
  if isNaN32 x then nan32
  else if isInf32 x then (if sign32 x then 0 else inf32 false)
  else exp2Core (clamp256 (rat32 x) * (cstL2E : Rat) * pow2 (-30)).floor

/-- RS[i] of R206. -/
def tabRS (i : Nat) : Nat := (2 * 2 ^ 10 * 256 + (256 + 2 * i + 1)) / (2 * (256 + 2 * i + 1))
/-- B[i] of R206. -/
def tabB (i : Nat) : Nat := 2 ^ 62 / (2 ^ 31 + 2 ^ 24 * i)

/-- Newton steps of rcp_core (R208). -/
def rcpNewton (d : Nat) : Nat → Nat → Nat
  | 0, y => y
  | k + 1, y =>
    let p := d * y / 2 ^ 31
    rcpNewton d k (y * (2 ^ 32 - p) / 2 ^ 31)

/-- rcp_core of R208. -/
def rcpCore (d : Nat) : Nat :=
  let i := d / 2 ^ 24 % 128
  let y := rcpNewton d 2 (tabRS i * 2 ^ 21)
  min (max y (tabB (i + 1))) (tabB i)

/-- RCP (R205, R208). -/
def sfRcp (x : Nat) : Nat :=
  if isNaN32 x then nan32
  else if isInf32 x then zero32 (sign32 x)
  else if isZero32 x then inf32 (sign32 x)
  else
    let u := unpack x
    let m := (rcpCore (u.2.1 * 256) : Rat) * pow2 (-31 - u.2.2)
    rneTo (.fin (if u.1 then -m else m)) .fp32

/-- Newton steps of rsqrt_core (R209). -/
def rsqrtNewton (v h : Nat) : Nat → Nat → Nat
  | 0, y => y
  | k + 1, y =>
    let y2 := y * y / 2 ^ 31
    let p := v * y2 / 2 ^ (31 - h)
    rsqrtNewton v h k (y * (3 * 2 ^ 31 - p) / 2 ^ 32)

/-- rsqrt_core of R209. -/
def rsqrtCore (v h : Nat) : Nat :=
  let i := 64 * h + v / 2 ^ 25 % 64
  let y := rsqrtNewton v h 2 (tabRQ.getD i 0 * 2 ^ 21)
  min (max y (tabQ.getD (i + 1) 0)) (tabQ.getD i 0)

/-- RSQRT (R205, R209). -/
def sfRsqrt (x : Nat) : Nat :=
  if isNaN32 x then nan32
  else if isZero32 x then inf32 (sign32 x)
  else if sign32 x then nan32
  else if isInf32 x then 0
  else
    let u := unpack x
    let h := (u.2.2 % 2).toNat
    let e2 := (u.2.2 - h) / 2
    rneR ((rsqrtCore (u.2.1 * 256) h : Rat) * pow2 (-31 - e2))

/-- RL[j] of R206. -/
def tabRL (j : Nat) : Nat :=
  if j = 31 ∨ j = 32 then 1024 else (2 * 2 ^ 10 * 256 + (192 + 2 * j + 1)) / (2 * (192 + 2 * j + 1))

/-- The polynomial steps of log2_fixed (R210), from the highest coefficient down. -/
def logHorner (z : Int) : List Int → Int → Int
  | [], h => h
  | a :: as, h => logHorner z as (a + h * z / (2 ^ 34 : Nat))

/-- log2_fixed of R210: (e, W). -/
def log2Fixed (mant : Nat) (ex : Int) : Int × Int :=
  let big : Bool := decide (0xC00000 ≤ mant)
  let m : Nat := if big then mant else mant * 2
  let e := if big then ex + 1 else ex
  let j : Nat := m / 2 ^ 17 - 96
  let z : Int := (m * tabRL j : Nat) - (2 ^ 34 : Nat)
  let h := logHorner z ((tabA.take 4).reverse) (tabA.getD 4 0)
  let w := tabLL.getD j 0 * (2 ^ 25 : Nat) + z * h
  (e, min (max w (tabG.getD j 0)) (tabG.getD (j + 1) 0))

/-- LOG2 and LOG outside the computed range (R205). -/
def logSpecial (x : Nat) : Option Nat :=
  if isNaN32 x then some nan32
  else if isZero32 x then some (inf32 true)
  else if sign32 x then some nan32
  else if isInf32 x then some (inf32 false)
  else none

/-- LOG2 (R205, R210). -/
def sfLog2 (x : Nat) : Nat :=
  match logSpecial x with
  | some r => r
  | none =>
    let u := unpack x
    let ew := log2Fixed u.2.1 u.2.2
    rneR ((ew.1 : Rat) + (ew.2 : Rat) * pow2 (-65))

/-- LOG (R205, R210). -/
def sfLog (x : Nat) : Nat :=
  match logSpecial x with
  | some r => r
  | none =>
    let u := unpack x
    let ew := log2Fixed u.2.1 u.2.2
    rneR (((ew.1 * (2 ^ 65 : Nat) + ew.2) * cstLn2 : Int) * pow2 (-129))

/-- LOGISTIC (R205, R211). -/
def sfLogistic (x : Nat) : Nat :=
  if isNaN32 x then nan32
  else if isInf32 x then (if sign32 x then 0 else one32)
  else
    let v := rat32 x
    if 32 ≤ v then one32
    else if v ≤ -128 then 0
    else
      let pn := exp2Fixed (-v * (cstL2E : Rat) * pow2 (-30)).floor
      let y := 1 + (pn.1 : Rat) * pow2 (pn.2 - 30)
      let k := ilog2 y
      let d := ratFloorNat (y * pow2 (31 - k))
      rneR ((rcpCore d : Rat) * pow2 (-31 - k))

/-- k3, k5, k7 of R206. -/
def tanhK3 : Rat := -(((2 ^ 40 + 1) / 3 : Nat) : Rat) * pow2 (-40)
def tanhK5 : Rat := (((2 ^ 41 + 7) / 15 : Nat) : Rat) * pow2 (-40)
def tanhK7 : Rat := -(((17 * 2 ^ 40 + 157) / 315 : Nat) : Rat) * pow2 (-40)

/-- The polynomial line of R212 for a magnitude below 2^−4. -/
def tanhPoly (a : Rat) : Nat :=
  let x2 := a * a
  rneR (a + a * x2 * (tanhK3 + x2 * (tanhK5 + x2 * tanhK7)))

/-- TANH (R205, R212). -/
def sfTanh (x : Nat) : Nat :=
  if isNaN32 x then nan32
  else if isZero32 x then zero32 (sign32 x)
  else
    let sb := if sign32 x then 2 ^ 31 else 0
    if isInf32 x then sb + one32
    else
      let a := rat32 (x % 2 ^ 31)
      let mag :=
        if 16 ≤ a then one32
        else if a < mkRat 1 16 then tanhPoly a
        else
          let pn := exp2Fixed (-2 * a * (cstL2E : Rat) * pow2 (-30)).floor
          let d := ratFloorNat ((1 + (pn.1 : Rat) * pow2 (pn.2 - 30)) * pow2 31)
          max (rneR ((rcpCore d : Rat) * pow2 (-30) - 1)) (tanhPoly (rat32 0x3D7FFFFF))
      sb + mag

/-- The angle θ of R213 from two finite operands. -/
def turnAngle (a b : Nat) : Nat := ((rat32 a * rat32 b * pow2 32).floor % (2 ^ 32 : Nat)).toNat

/-- The sine of R214 at angle θ. -/
def sinAtTurn (th : Nat) : Nat :=
  let q := th / 2 ^ 30 % 4
  let phi := th % 2 ^ 30
  let j := phi / 2 ^ 24
  let v := phi % 2 ^ 24
  let dl : Nat := v * cst2Pi / 2 ^ 28
  let d2 := dl * dl / 2 ^ 33
  let d3 := d2 * dl / 2 ^ 32
  let sd : Int := dl - (d3 / 3 : Nat)
  let cd : Int := (2 ^ 32 : Nat) - (d2 : Int)
  let ts : Int := tabTS.getD j 0
  let tc : Int := tabTC.getD j 0
  let s := (ts * cd + tc * sd) / (2 ^ 32 : Nat)
  let c := (tc * cd - ts * sd) / (2 ^ 32 : Nat)
  let s := min (max s ts) (tabTS.getD (j + 1) 0)
  let c := min (max c (tabTC.getD (j + 1) 0)) tc
  let r : Int := if q = 0 then s else if q = 1 then c else if q = 2 then -s else -c
  rneR ((r : Rat) * pow2 (-30))

/-- Are both operands of a turn function finite? -/
def turnFinite (a b : Nat) : Bool := !(isNaN32 a || isInf32 a || isNaN32 b || isInf32 b)

/-- SINTURN (R205, R213, R214). -/
def sfSinTurn (a b : Nat) : Nat := if turnFinite a b then sinAtTurn (turnAngle a b) else nan32
/-- COSTURN (R213): SINTURN at θ + 2^30. -/
def sfCosTurn (a b : Nat) : Nat :=
  if turnFinite a b then sinAtTurn ((turnAngle a b + 2 ^ 30) % 2 ^ 32) else nan32

/-! DM1 compatibility mode. -/

/-- A code of a format with subnormals replaced by a zero of their sign (R217). -/
def flushSub (f : Fmt) (c : Nat) : Nat :=
  if (c >>> fmtP f) % 2 ^ fmtEw f = 0 then c - c % 2 ^ fmtP f else c

/-- rne_O of R217 of a number, answered as the FP32 code of the value in O. -/
def rneO (o : Fmt) (x : Num) : Nat := rneTo (decodeFmt o (flushSub o (rneTo x o))) .fp32

/-- An FP32 code with R217's replacement of a subnormal operand. -/
def dm1In (x : Nat) : Nat := flushSub .fp32 x

/-- dm1_rcp of R218, with R205. -/
def dm1Rcp (o : Fmt) (x : Nat) : Nat :=
  let x := dm1In x
  if isNaN32 x then nan32
  else if isInf32 x then zero32 (sign32 x)
  else if isZero32 x then inf32 (sign32 x)
  else
    let u := unpack x
    let i := u.2.1 / 2 ^ 17 % 64
    let sg : Rat := mkRat ((2 * 128 * 128 + (128 + 2 * i + 1)) / (2 * (128 + 2 * i + 1)) : Nat) 128
    let m := (u.2.1 : Rat) * pow2 (-23)
    let v := sg * (2 - m * sg) * pow2 (-u.2.2)
    rneO o (.fin (if u.1 then -v else v))

/-- dm1_rsqrt of R218, with R205. -/
def dm1Rsqrt (o : Fmt) (x : Nat) : Nat :=
  let x := dm1In x
  if isNaN32 x then nan32
  else if isZero32 x then inf32 (sign32 x)
  else if sign32 x then nan32
  else if isInf32 x then 0
  else
    let u := unpack x
    let h := (u.2.2 % 2).toNat
    let k := u.2.1 / 2 ^ 18 % 32
    let sg : Rat := mkRat (tabDm1Rsqrt.getD (32 * h + k) 0) 128
    let m := (u.2.1 : Rat) * pow2 (-23)
    rneO o (numOfRat (sg * (3 - pow2 h * m * sg * sg) / 2 * pow2 (-((u.2.2 - h) / 2))))

/-- dm1_exp2 of R218 of an exact finite real. -/
def dm1Exp2R (o : Fmt) (v : Rat) : Nat :=
  let n := v.floor
  if 20000 < n then rneO o (.inf false)
  else if n < -20000 then 0
  else
    let f := v - (n : Rat)
    let j := ratFloorNat (32 * f)
    let r := f - mkRat j 32
    rneO o (numOfRat (mkRat (tabDm1Exp.getD j 0) 128 * (1 + r * mkRat 89 128) * pow2 n))

/-- EXP2 and EXP in DM1 mode (R205, R217, R218); `k` is the factor on the operand. -/
def dm1ExpK (o : Fmt) (k : Rat) (x : Nat) : Nat :=
  let x := dm1In x
  if isNaN32 x then nan32
  else if isInf32 x then (if sign32 x then 0 else inf32 false)
  else if isZero32 x then one32
  else dm1Exp2R o (rat32 x * k)

/-- w of dm1_log2 (R218). -/
def dm1LogW (x : Nat) : Rat :=
  let u := unpack x
  let j : Nat := u.2.1 / 2 ^ 18 % 32
  let c : Rat := 1 + mkRat j 32
  let m := (u.2.1 : Rat) * pow2 (-23)
  (u.2.2 : Rat) + mkRat (tabDm1Log.getD j 0) 128 + (m - c) * mkRat (tabDm1Slope.getD j 0) 128

/-- LOG2 and LOG in DM1 mode; `k` is the factor on w (R218). -/
def dm1LogK (o : Fmt) (k : Rat) (x : Nat) : Nat :=
  let x := dm1In x
  match logSpecial x with
  | some r => r
  | none => rneO o (numOfRat (dm1LogW x * k))

/-- dm1_logistic of R218, with R205. -/
def dm1Logistic (o : Fmt) (x : Nat) : Nat :=
  let x := dm1In x
  if isNaN32 x then nan32
  else if isInf32 x then (if sign32 x then 0 else one32)
  else
    let e := dm1ExpK o (mkRat 185 128) (if sign32 x then x - 2 ^ 31 else x + 2 ^ 31)
    dm1Rcp o (rneO o (numAdd (.fin 1) (dec32 e)))

/-- dm1_tanh of R218, with R205. -/
def dm1Tanh (o : Fmt) (x : Nat) : Nat :=
  let x := dm1In x
  let sb := if sign32 x then 2 ^ 31 else 0
  if isNaN32 x then nan32
  else if isZero32 x then x
  else if isInf32 x then sb + one32
  else
    let u := dm1Exp2R o (2 * rat32 (x % 2 ^ 31) * mkRat 185 128)
    let t := dm1Rcp o (rneO o (numAdd (.fin 1) (dec32 u)))
    let r := rneO o (numAdd (.fin 1) (numMul (.fin (-2)) (dec32 t)))
    r % 2 ^ 31 + (if sign32 x then (2 ^ 31 - r / 2 ^ 31 * 2 ^ 31) else r / 2 ^ 31 * 2 ^ 31)

/-- dm1_sinturn of R218 at θ. -/
def dm1SinAt (o : Fmt) (th : Nat) : Nat :=
  let q := th / 2 ^ 30 % 4
  let phi := th % 2 ^ 30
  let j := phi / 2 ^ 25
  let dl : Rat := ((phi % 2 ^ 25 : Nat) : Rat) * pow2 (-30) * mkRat 201 128
  let s7 := mkRat (tabDm1Sin.getD j 0) 128
  let c7 := mkRat (tabDm1Cos.getD j 0) 128
  let s := s7 + dl * c7
  let c := c7 - dl * s7
  let v := if q = 0 then s else if q = 1 then c else if q = 2 then -s else -c
  rneO o (numOfRat v)

/-- SINTURN and COSTURN in DM1 mode. -/
def dm1SinTurn (o : Fmt) (quarter : Nat) (a b : Nat) : Nat :=
  let a := dm1In a
  let b := dm1In b
  if turnFinite a b then dm1SinAt o ((turnAngle a b + quarter * 2 ^ 30) % 2 ^ 32) else nan32

/-- The special functions of R203. -/
inductive SFun where
  | exp | exp2 | log | log2 | rcp | rsqrt | tanh | logistic | sinturn | costurn
  deriving DecidableEq, Repr

/-- A special function by DM1 field (R178, R203, R217): 0 standard, 1 BF16 results, 2 FP16 results. -/
def sfEval (dm1 : Nat) (fn : SFun) (a b : Nat) : Nat :=
  if dm1 = 0 then
    match fn with
    | .exp => sfExp a | .exp2 => sfExp2 a | .log => sfLog a | .log2 => sfLog2 a | .rcp => sfRcp a
    | .rsqrt => sfRsqrt a | .tanh => sfTanh a | .logistic => sfLogistic a
    | .sinturn => sfSinTurn a b | .costurn => sfCosTurn a b
  else
    let o : Fmt := if dm1 = 1 then .bf16 else .fp16
    match fn with
    | .exp => dm1ExpK o (mkRat 185 128) a | .exp2 => dm1ExpK o 1 a
    | .log => dm1LogK o (mkRat 89 128) a | .log2 => dm1LogK o 1 a
    | .rcp => dm1Rcp o a | .rsqrt => dm1Rsqrt o a | .tanh => dm1Tanh o a | .logistic => dm1Logistic o a
    | .sinturn => dm1SinTurn o 0 a b | .costurn => dm1SinTurn o 1 a b

end Sys2Proof.Machine
end

