-- ==== Sys2Proof/Machine/Accum.lean ====
section
/-! DEFINITION. Group sums (R161, R162), the accumulator pair (R167, R168), the drain and the epilogue (R170 to
R172). FP32 words are codes. -/

namespace Sys2Proof.Machine

/-- The exact integer product of two finite expanded elements with its exponent; (0, 0) with a zero (R161, R162). -/
def groupProduct (a b : Expanded) : Int × Int :=
  if a.cls = .zero || b.cls = .zero then (0, 0)
  else
    let m : Int := (a.f * b.f : Nat)
    (if xor a.neg b.neg then -m else m, a.e + b.e)

/-- floor(m × 2^sh) for an integer m (R162: truncation toward −∞). -/
def shiftFloor (m : Int) (sh : Int) : Int :=
  if 0 ≤ sh then m * (2 ^ sh.toNat : Nat) else m / (2 ^ (-sh).toNat : Nat)

/-- group_sum of R162. -/
def groupSum (ab : List (Expanded × Expanded)) : Num :=
  let isNan (p : Expanded × Expanded) : Bool :=
    p.1.cls = .nan || p.2.cls = .nan || (p.1.cls = .inf && p.2.cls = .zero) || (p.1.cls = .zero && p.2.cls = .inf)
  let isInf (p : Expanded × Expanded) : Bool := !isNan p && (p.1.cls = .inf || p.2.cls = .inf)
  let nan := ab.any isNan
  let pinf := ab.any fun p => isInf p && !(xor p.1.neg p.2.neg)
  let ninf := ab.any fun p => isInf p && xor p.1.neg p.2.neg
  if nan || (pinf && ninf) then .nan
  else if pinf then .inf false
  else if ninf then .inf true
  else
    let ps := (ab.map fun p => groupProduct p.1 p.2).filter fun p => p.1 != 0
    match ps with
    | [] => .zero false
    | p :: rest =>
      let lead (q : Int × Int) : Int := q.1.natAbs.log2 + q.2
      let l := rest.foldl (fun m q => max m (lead q)) (lead p)
      let q := ps.foldl (fun acc pr => acc + shiftFloor pr.1 (pr.2 - (l - 27))) 0
      if q = 0 then .zero false else .fin ((q : Rat) * pow2 (l - 27))

/-- accumulate of R167 over FP32 codes (main, und). -/
def accumulate (p : Nat × Nat) (g : Num) : Nat × Nat :=
  match g with
  | .zero _ => p
  | _ =>
    let hi := rne32 g
    let exact := numAdd (dec32 p.1) (dec32 hi)
    let s := rne32 exact
    if numIsFinite (dec32 s) then
      let err := numRat exact - rat32 s
      let lo := numRat g - rat32 hi
      (s, rne32 (numAdd (dec32 p.2) (numOfRat (err + lo))))
    else (s, p.2)

/-- A list of positions cut into groups of 64, in order. -/
def groupsOf (fuel : Nat) (xs : List (Expanded × Expanded)) : List (List (Expanded × Expanded)) :=
  match fuel, xs with
  | 0, _ => []
  | _, [] => []
  | fuel + 1, xs => xs.take 64 :: groupsOf fuel (xs.drop 64)

/-- The pair of one output after every group, from its preload word (R168). -/
def accumulateAll (main : Nat) (ab : List (Expanded × Expanded)) : Nat × Nat :=
  (groupsOf ab.length ab).foldl (fun p g => accumulate p (groupSum g)) (main, 0)

/-- The drained value (R168). -/
def drain (p : Nat × Nat) : Nat := f32add p.1 p.2

/-- GELU in tanh form for a finite operand (R171). -/
def actGelu (x : Nat) : Nat :=
  let x2 := f32mul x x
  let x3 := f32mul x2 x
  let t1 := f32mul 0x3D372713 x3
  let t2 := f32add x t1
  let t3 := f32mul 0x3F4C422A t2
  let th := sfTanh t3
  let t4 := f32add one32 th
  let t5 := f32mul 0x3F000000 t4
  f32mul x t5

/-- The activation of stage 3 (R171) with the clamp bounds lo and hi. -/
def activate (a : Nat) (lo hi : Nat) (x : Nat) : Nat :=
  if isNaN32 x then nan32
  else
    match a with
    | 1 => if numLt (.zero false) (dec32 x) then x else 0
    | 2 => if isInf32 x then (if sign32 x then zero32 true else x)
           else if isZero32 x then x else actGelu x
    | 3 => if isInf32 x then (if sign32 x then zero32 true else x)
           else if isZero32 x then x else f32mul x (sfLogistic x)
    | 4 => sfLogistic x
    | 5 => sfTanh x
    | 6 => if numLt (dec32 x) (dec32 lo) then lo else if numLt (dec32 hi) (dec32 x) then hi else x
    | _ => x

/-- Stages 1 to 3 of the epilogue on one drained value (R170, R171). -/
def epilogue (scale : Nat) (bias : Option Nat) (act lo hi : Nat) (d : Nat) : Nat :=
  let y := f32mul d scale
  let y := match bias with
    | some b => f32add y b
    | none => y
  activate act lo hi y

end Sys2Proof.Machine
end

