-- ==== Sys2Proof/Machine/Elems.lean ====
section
/-! DEFINITION. Elements in a scratchpad (R146), scale configurations (R126, R150), rows and their ranges (R129, R131),
and the work order in progress at a core (R96, R108). -/

namespace Sys2Proof.Machine

/-- Why a read or check of a work order failed, as a status. -/
abbrev Chk := Except Status

/-- A check of one condition. -/
def need (ok : Bool) (st : Status) : Chk Unit := if ok then .ok () else .error st

/-- The check of R33 on a range of the local scratchpad. -/
def spadRange (off len : Nat) : Chk Unit :=
  if len = 0 then .ok () else if spadBytes ≤ off then .error .addressRange
  else if spadBytes < off + len then .error .lengthRange else .ok ()

/-- `n` bytes of a scratchpad, with poison (R101). -/
def State.spadGet (s : State) (core off : Nat) : Nat → Chk (List Byte)
  | 0 => .ok []
  | n + 1 => do
    let b ← s.readSpadByte core off
    let bs ← s.spadGet core (off + 1) n
    return b :: bs

/-- A checked read of `n` bytes of a scratchpad (R33). -/
def State.spadRead (s : State) (core off n : Nat) : Chk (List Byte) := do
  spadRange off n
  s.spadGet core off n

/-- The bytes that element `i` of width `b` bits has in the row at an offset: first and count (R146). -/
def elemPiece (row b i : Nat) : Nat × Nat := (row + b * i / 8, (b * i % 8 + b + 7) / 8)

/-- Element `i` of width `b` bits in the row at a scratchpad offset (R146). -/
def State.elemAt (s : State) (core row b i : Nat) : Chk Nat := do
  let p := elemPiece row b i
  let bs ← s.spadGet core p.1 p.2
  return leNat bs >>> (b * i % 8) % 2 ^ b

/-- An unsigned integer made of codes of `b` bits, the first lowest (R146). -/
def packBits (b : Nat) : List Nat → Nat
  | [] => 0
  | c :: cs => c % 2 ^ b + 2 ^ b * packBits b cs

/-- The bytes that hold `nbits` bits of a row, the bits above them in the last byte kept as they stand (R146). -/
def rowBytes (old : Byte) (nbits v : Nat) : List Byte :=
  let whole := natLE (nbits / 8) v
  if nbits % 8 = 0 then whole
  else whole ++ [BitVec.ofNat 8 (v >>> (nbits / 8 * 8) % 2 ^ (nbits % 8) + old.toNat / 2 ^ (nbits % 8) * 2 ^ (nbits % 8))]

/-- The bytes of a row of codes at a scratchpad offset (R146). -/
def State.rowAt (s : State) (core off b : Nat) (codes : List Nat) : List Byte :=
  let nbits := b * codes.length
  rowBytes (memGet s.spadMem (core * spadBytes + off + nbits / 8)) nbits (packBits b codes)

/-- Write a row of codes into a scratchpad. -/
def State.putRow (s : State) (core off b : Nat) (codes : List Nat) : State :=
  s.writeSpad core off (s.rowAt core off b codes)

/-- The would-be bytes of a row whose codes are known where `some`: a byte may land when every element that meets it is
known, and what lands of a word or a line whole is written whole (R34, R101, log entry 7). -/
def State.landRow (s : State) (core off b : Nat) (codes : List (Option Nat)) : State :=
  let bytes := s.rowAt core off b (codes.map (·.getD 0))
  let known (i : Nat) : Bool := ((List.range codes.length).filter (fun j => decide (b * j < 8 * i + 8 ∧ 8 * i < b * j + b))).all
    (fun j => (codes.getD j none).isSome)
  (landRuns (fun p => Config.landed s.draws (core * spadBytes + p)) off
    (bytes.zipIdx.map (fun p => if known p.2 then some p.1 else none))).foldl (fun t r => t.writeSpad core r.1 r.2) s

/-- Block sizes of a scale configuration (R126); 0 for BLOCK 0. -/
def scaleBlock (c : Nat) : Nat :=
  match c % 8 with
  | 0 => 0 | 1 => 8 | 2 => 16 | 3 => 32 | 4 => 64 | 5 => 128 | _ => 0

/-- AXIS of a scale configuration (R126). -/
def scaleAxis (c : Nat) : Nat := c / 8 % 2

/-- SFMT of a scale configuration (R126). -/
def scaleFmt (c : Nat) : SFmt := if c / 16 % 2 = 1 then .ue4m3 else .e8m0

/-- A format that the array takes as an operand (R117, R140). -/
def fmtOperand (c : Nat) : Bool := decide (1 ≤ c ∧ c ≤ 9)

/-- A format that a preload may have (R127, R140). -/
def fmtPreload (c : Nat) : Bool := decide (c ≤ 4 ∨ c = 8)

/-- The width of a format code; 0 for a reserved one. -/
def codeWidth (c : Nat) : Nat := match fmtOf c with | some f => fmtWidth f | none => 0

/-- Is an input scale configuration legal for a format (R126, R150)? -/
def scaleInOk (c fmt : Nat) : Bool :=
  decide (c % 8 < 6) && !(scaleAxis c == 1 && scaleFmt c == .ue4m3) &&
    !(scaleBlock c != 0 && fmt == 2 && scaleFmt c == .ue4m3)

/-- Is an output scale configuration legal for a format and a width of columns (R126, R150)? -/
def scaleOutOk (c fmt width : Nat) : Bool :=
  decide (c % 8 < 5) && scaleAxis c == 0 &&
    (scaleBlock c == 0 || (decide (3 ≤ fmt) && decide (scaleBlock c ≤ width)))

/-- Division rounded up. -/
def ceilDiv (a b : Nat) : Nat := (a + b - 1) / b

/-- A range of rows: the extent that R33 checks, from the first byte of row 0 to the last of the last row. -/
def rowsExtent (stride rows len : Nat) : Nat := if rows = 0 ∨ len = 0 then 0 else (rows - 1) * stride + len

/-- The bytes that rows cover, as ranges: one for each row (R131 step 4). -/
def rowsPieces (off stride rows len : Nat) : List (Nat × Nat) :=
  if len = 0 then [] else (List.range rows).map (fun r => (off + r * stride, len))

/-- The bytes of the rows that a read takes of a matrix: one range for each (R55, R129). -/
def someRows (off stride len : Nat) (rows : List Nat) : List (Nat × Nat) :=
  if len = 0 then [] else rows.map (fun r => (off + r * stride, len))

/-- Do two ranges share a byte? -/
def rangesMeet (a b : Nat × Nat) : Bool := decide (a.1 < b.1 + b.2 ∧ b.1 < a.1 + a.2)

/-- Do two lists of ranges share a byte? -/
def listsMeet (a b : List (Nat × Nat)) : Bool := a.any (fun x => b.any (fun y => rangesMeet x y))

/-- Do two different ranges of a list share a byte? -/
def selfMeet : List (Nat × Nat) → Bool
  | [] => false
  | a :: rest => rest.any (fun b => rangesMeet a b) || selfMeet rest

/-- Every list of a list of range lists is disjoint from every later one. -/
def allApart : List (List (Nat × Nat)) → Bool
  | [] => true
  | a :: rest => rest.all (fun b => !listsMeet a b) && allApart rest

/-- Is row `r` active: below m and, with a mask, its mask bit 1 (R55)? -/
def rowActive (m : Nat) (maskEn : Bool) (mask : List Byte) (r : Nat) : Bool :=
  decide (r < m) && (!maskEn || byteBit mask (r / 8) (r % 8))

/-- The rounding fields ROUND, SR_BITS, OVERFLOW of one byte, with a seed (R127, R155). -/
def roundingOf (b seed : Nat) : Rounding :=
  { mode := match b % 4 with | 0 => .rne | 1 => .rtz | _ => .sr
    ieee := bitOf b 4
    w := match b / 4 % 4 with | 0 => 8 | 1 => 12 | _ => 16
    seed := seed }

/-- Are ROUND and SR_BITS legal (R127)? -/
def roundOk (b : Nat) : Bool := decide (b % 4 < 3 ∧ b / 4 % 4 < 3 ∧ (b / 4 % 4 = 0 ∨ b % 4 = 2))

/- The work order in progress. -/

/-- Engine classes (R96). -/
inductive Engine where
  | matrix | vector | transfer
  deriving DecidableEq, Repr

/-- The engine class of a node type (R96). -/
def engineOf (type : Nat) : Engine :=
  match type with
  | 1 => .matrix | 2 => .vector | 6 => .vector | _ => .transfer

/-- The reads of ranges of a scratchpad meet what stands in their words (R101). -/
def State.touchAll (s : State) (core : Nat) (rs : List (Nat × Nat)) : State := rs.foldl (fun t p => t.touchSpad core p.1 p.2) s

/-- What running a work order's accesses gives: the state and the work order's outcome. -/
structure Ran where
  s : State
  st : Status
  mask : Nat := 0
  exit : Nat := 0
  /-- TABLE_SWAP of a vector descriptor, and the entries that its run loaded into the standby bank (R191). -/
  swap : Bool := false
  table : Nat := 0

/-- The first started work order of a queue that a test picks. -/
def pickStarted (q : List CoreEntry) (p : WorkOrder → Bool) : Option WorkOrder :=
  q.findSome? (fun e => match e with | .wo w => if w.st == .started && p w then some w else none | _ => none)

/-- A queue with the work order of a launch and node replaced. -/
def putWo (q : List CoreEntry) (w : WorkOrder) : List CoreEntry :=
  q.map (fun e => match e with
    | .wo v => if v.bay = w.bay ∧ v.lid = w.lid ∧ v.nodeIx = w.nodeIx then .wo w else e
    | _ => e)

/-- The core holds a work order's outcome until its last write is acknowledged (R108). -/
def State.putRan (s : State) (core : Nat) (w : WorkOrder) (r : Ran) : State :=
  let c := s.coreAt core
  s.setCore core { c with queue := putWo c.queue { w with st := .ran r.st r.mask r.exit, swap := r.swap, table := r.table } }

/- Races (R48, log entry 7). -/

/-- The addresses at which a memory differs from an older one, with the newer bytes. -/
def changedCells (old new : List Host.Cell) : List Host.Cell :=
  new.filter (fun c => memGet old c.1 != c.2) ++ (old.filter (fun c => memGet new c.1 == 0)).map (fun c => (c.1, 0))

/-- A byte of a scratchpad or a stack, and one laid there without a write of its line. -/
def State.byteAt (s : State) (spad : Bool) (a : Nat) : Byte := memGet (if spad then s.spadMem else s.stackMem) a
def State.layByte (s : State) (spad : Bool) (a : Nat) (b : Byte) : State :=
  if spad then { s with spadMem := memWrite s.spadMem a [b] } else { s with stackMem := memWrite s.stackMem a [b] }

/-- The bytes of memory that a command changed, with their former values. -/
def formerCells (s t : State) : List (Bool × Host.Cell) :=
  (changedCells t.stackMem s.stackMem).map (fun c => (false, c)) ++ (changedCells t.spadMem s.spadMem).map (fun c => (true, c))

/-- A work order in progress remembers bytes that other work has written. -/
def WorkOrder.remember (w : WorkOrder) (f : List (Bool × Host.Cell)) : WorkOrder := { w with stale := w.stale ++ f }
def CoreEntry.remember (f : List (Bool × Host.Cell)) (e : CoreEntry) : CoreEntry :=
  match e with | .wo w => if w.st == .started then .wo (w.remember f) else e | _ => e

/-- The work order at the head of an eave engine remembers them too, unless it has run. -/
def rememberHead (f : List (Bool × Host.Cell)) (q : List WorkOrder) : List WorkOrder :=
  match q with | w :: rest => (if w.st == .queued then w.remember f else w) :: rest | [] => []

/-- The items under way, by their fetch order, remember bytes that other work has written. -/
def State.itemsRemember (s : State) (f : List (Bool × Host.Cell)) : List (Nat × List (Bool × Host.Cell)) :=
  (s.fns.flatMap (fun e => e.2.queues.flatMap (fun q => (q.2.items.filter (fun it => it.st == .running)).map (·.order)))).map
    (fun o => (o, tabGet s.itemStale o [] ++ f))

/-- After work has written memory: what it wrote is not ordered before the accesses of a work order or an item that was in progress (R47,
R48), which remembers the former bytes. -/
def State.raced (s t : State) : State :=
  let f := formerCells s t
  if f = [] then t else
    let u := t.cores.foldl (fun (x : State) e => x.setCore e.1 { e.2 with queue := e.2.queue.map (CoreEntry.remember f) }) t
    let v := t.stackTab.foldl (fun (x : State) e => x.setStack e.1 { e.2 with eave := rememberHead f e.2.eave }) u
    { v with itemStale := t.itemsRemember f }

/-- Memory as a work order in progress may read it: each byte that raced holds its value now or a former one, and which is a free value for
each byte (R48). -/
def State.raceView (s : State) (stale : List (Bool × Host.Cell)) : State :=
  ((List.range stale.length).zip stale).foldl (fun t p =>
    if Config.landed s.draws (2 ^ 96 + p.1) then t.layByte p.2.1 p.2.2.1 p.2.2.2 else t) s

/-- Memory after work `r` that ran on such a view `v` of `s`: a byte that raced and that the work wrote holds its value or that of the other
write, a free value for each byte (R48); one that it did not write is as it was. -/
def State.raceEnd (s v r : State) (stale : List (Bool × Host.Cell)) : State :=
  ((stale.map (fun p => (p.1, p.2.1))).eraseDups).foldl (fun t p =>
    if r.byteAt p.1 p.2 = v.byteAt p.1 p.2 ∨ Config.landed s.draws (2 ^ 97 + 2 * p.2 + (if p.1 then 1 else 0)) then
      t.layByte p.1 p.2 (s.byteAt p.1 p.2)
    else t) r

/-- Work in progress runs beside other work: on what it may read, with the bytes that raced decided one by one, and remembered by the work
orders in progress (R48). -/
def State.raceRun (s : State) (w : WorkOrder) (run : State → State) : State :=
  let v := s.raceView w.stale
  s.raced (s.raceEnd v (run v) w.stale)

/-- Memory as an item under way may read it. -/
def State.itemView (s : State) (it : Item) : State := s.raceView (tabGet s.itemStale it.order [])

/-- An item under way moves bytes beside other work, with the bytes that raced decided one by one (R48). -/
def State.itemRace (s : State) (it : Item) (run : State → State × Nat × Option Status) : State × Nat × Option Status :=
  let v := s.itemView it
  let r := run v
  (s.raceEnd v r.1 (tabGet s.itemStale it.order []), r.2)

/-- A work order runs at its core and is marked as run. -/
def State.ranBy (s : State) (core : Nat) (w : WorkOrder) (run : State → WorkOrder → Ran) : State :=
  let r := run s w
  { r.s.putRan core w r with draws := r.s.draws + 1 }

/-- Run the started work order that a test picks at a core; with none the state is unchanged (log entry 4). -/
def State.runWork (s : State) (core : Nat) (p : WorkOrder → Bool) (run : State → WorkOrder → Ran) : State :=
  match pickStarted (s.coreAt core).queue p with
  | none => s
  | some w => if s.engineStopped w.bay core then s else s.raceRun w (fun v => v.ranBy core w run)

end Sys2Proof.Machine
end

