-- ==== Sys2Proof/Machine/FarLink.lean ====
section
/-! DEFINITION. The sending side of a Faref port: messages and their headers (R336), DATA flits, credits, the replay
buffer and the order of the virtual channels (R332 to R334), and the requests that this device issues (R336, R340,
R349). The model forms flits as soon as a message, a credit and replay space are there (log entry 17). -/

namespace Sys2Proof.Machine

/-- Eight steps of the reflected CRC-32C of RFC 3720 (R332). -/
def crcStep (c : Nat) : Nat := if c % 2 = 1 then Nat.xor (c / 2) 0x82F63B78 else c / 2

/-- CRC-32C over a byte string. -/
def crc32c (bs : List Byte) : Nat :=
  Nat.xor 0xFFFFFFFF (bs.foldl (fun c b =>
    crcStep (crcStep (crcStep (crcStep (crcStep (crcStep (crcStep (crcStep (Nat.xor c b.toNat))))))))) 0xFFFFFFFF)

/-- A flit of 256 bytes (R332). -/
def flitOf (ftype vc first seq ack : Nat) (credit : List Nat) (payload : List Byte) : List Byte :=
  let body := bytesAt (natLE 1 (ftype * 16 + vc * 4) ++ natLE 1 first ++ natLE 2 seq ++ natLE 2 ack ++ credit.flatMap (natLE 1) ++
    natLE 2 0 ++ payload) 0 252
  body ++ natLE 4 (crc32c body)

/-- A transaction-layer header (R336). -/
def farHeader (kind hops dst src tag window bay offset len : Nat) : List Byte :=
  natLE 1 kind ++ natLE 1 hops ++ natLE 1 dst ++ natLE 1 src ++ natLE 2 tag ++ natLE 1 window ++ natLE 1 bay ++
    natLE 6 offset ++ natLE 2 len

/-- The virtual channel of a message type (R337). -/
def farVc (kind : Nat) : Nat :=
  match kind with
  | 0x04 | 0x05 | 0x06 | 0x12 => 1
  | 0x10 => 2
  | 0x20 | 0x21 | 0x22 => 3
  | _ => 0

/-- The payload bytes that follow a header (R337). A VALLEY message holds the header of R314 and then the bytes of the
segment that this header gives, none for a DONE; `more` is what is known of the bytes after the message's own header
(log entry 18). -/
def farPayloadLen (h : List Byte) (more : List Byte) : Nat :=
  match fieldAt h 0 1 with
  | 0x02 => 0
  | 0x04 | 0x12 => 0
  | 0x11 => if byteBit more 6 1 then 16 else 16 + fieldAt more 12 4
  | 0x05 | 0x06 => if fieldAt h 7 1 = 0 then fieldAt h 14 2 else 0
  | _ => fieldAt h 14 2

/- Slots (R407, R408, R508). -/

/-- The slots of a bay in a slotted port (R508). -/
def Port.slotsOf (p : Port) (b : Nat) : Nat := bitsOf ((p.slots.getD (b / 4) 0).toNat >>> (8 * (b % 4))) 5 0

/-- Does a port serve a bay: its exclusive owner, or a bay with slots (R348, R508)? -/
def Port.servesBay (p : Port) (b : Nat) : Bool :=
  (bitsOf p.assign.toNat 31 30 == 1 && bitsOf p.assign.toNat 27 24 == b) ||
    (bitsOf p.assign.toNat 31 30 == 2 && decide (0 < p.slotsOf b))

/-- The number of the device among the owners of slots. -/
def deviceOwner : Nat := 12

/-- A port with the assignment and slots of the frame under way: a change of its registers takes effect at the next frame boundary (R402,
R508). -/
def Port.now (p : Port) : Port := match p.frame with | none => p | some f => { p with assign := f.1, slots := f.2 }

/-- The next frame begins. -/
def Port.frameTurn (p : Port) : Port := { p with frame := none, framePos := 0 }

/-- Does a change of a port's registers fall in the middle of a frame? -/
def Port.midFrame (p : Port) : Bool := p.st == .up && p.framePos != 0

/-- A port whose registers change to those of `v`: the frame under way keeps the former ones. -/
def Port.remap (p v : Port) : Port :=
  if p.midFrame then { v with frame := some (p.frame.getD (p.assign, p.slots)) } else { v with frame := none }

/-- The slots of a frame that an owner has: slot 0 the device, 63 an exclusive owner, else its count (R407). -/
def Port.slotCount (p : Port) (own : Nat) : Nat :=
  let q := p.now
  if own = deviceOwner then 1
  else if bitsOf q.assign.toNat 31 30 = 1 then (if bitsOf q.assign.toNat 27 24 = own then 63 else 0)
  else if bitsOf q.assign.toNat 31 30 = 2 then q.slotsOf own else 0

/-- The owners of slots 1 to 63, in order: bays in contiguous runs, then none (R508). -/
def Port.runs (p : Port) : List (Option Nat) :=
  let own := (List.range 12).flatMap (fun b => List.replicate (p.slotCount b) (some b))
  (own ++ List.replicate (63 - own.length) none).take 63

/-- The owner of a slot of the frame. -/
def Port.slotOwner (p : Port) (i : Nat) : Option Nat := if i = 0 then some deviceOwner else p.runs.getD (i - 1) none

/-- The owner in whose slots a message travels: its bay, or the device for management, forwarded messages and bays that the port does not
serve (R407, R408, log entry 63). -/
def Port.ownerOf (p : Port) (own : Option Nat) : Nat :=
  match own with
  | some b => if p.now.servesBay b then b else deviceOwner
  | none => deviceOwner

/-- The flits of buffer that a receiver has for each VC (R334). -/
def bufferFlits (v : Nat) : Nat := match v with | 2 => 1536 | 3 => 64 | _ => 1024

/-- An owner's part of these buffers, in proportion to its slots; management is the device's alone (R407). -/
def Port.share (p : Port) (own v : Nat) : Nat := if v = 3 then 64 else bufferFlits v * p.slotCount own / 64

/-- The messages of a VC that travel in an owner's slots. A message that is under way goes on before another begins on its VC
(log entry 63). -/
def Port.waiting (p : Port) (own v : Nat) : List (Option Nat × List Byte) :=
  let q := p.txq.getD v []
  if decide (0 < p.txPos.getD v 0) && (match q with | m :: _ => p.ownerOf m.1 != own | [] => false) then []
  else q.filter (fun m => p.ownerOf m.1 == own)

/-- May a VC send a flit for an owner: it has a message, a credit and a part of the buffers left (R334, R407)? -/
def Port.ready (p : Port) (own v : Nat) : Bool :=
  !(p.waiting own v).isEmpty && decide (0 < p.credits.getD v 0 ∧ (p.flight.getD v []).count own < p.share own v)

/-- The VC that the transmitter serves next for an owner (R334). -/
def Port.pickVc (p : Port) (own : Nat) : Option Nat :=
  if p.ready own 3 then some 3
  else if p.ready own 1 then some 1
  else match p.ready own 0, p.ready own 2 with
    | true, true => some (if p.turn then 2 else 0)
    | true, false => some 0
    | false, true => some 2
    | false, false => none

/-- The next slot from the present one whose owner has a flit to send, as its distance, with the owner and the VC. -/
def Port.nextSlot (p : Port) : Option (Nat × Nat × Nat) :=
  (List.range 65).findSome? (fun d => (p.slotOwner ((p.framePos / 64 + d) % 64)).bind (fun own => (p.pickVc own).map (fun v => (d, own, v))))

/-- The owner and VC of the next flit, and its place in the frame (R407). In isolated mode IDLE flits fill the slots of owners with nothing
to send. In shared mode the slot passes to the next owner that has a flit, and management may take any. -/
def Port.nextFlit (p : Port) (isolated : Bool) : Option (Nat × Nat × Nat) :=
  if !isolated && p.ready deviceOwner 3 then some (deviceOwner, 3, p.framePos)
  else p.nextSlot.map (fun x => (x.2.1, x.2.2,
    if isolated && x.1 != 0 then (p.framePos / 64 + x.1) % 64 * 64 else p.framePos))

/-- Fill a payload of 240 bytes from a VC's messages: the bytes, FIRST, what remains, and the position in it. -/
def fillFlit : List (List Byte) → Nat → Nat → Nat → List Byte → List Byte × Nat × List (List Byte) × Nat
  | [], _, _, first, acc => (acc, first, [], 0)
  | m :: rest, pos, room, first, acc =>
    let first1 := if pos = 0 ∧ first = 0xFF then acc.length else first
    let part := (m.drop pos).take room
    if pos + part.length = m.length then
      if room = part.length then (acc ++ part, first1, rest, 0)
      else fillFlit rest 0 (room - part.length) first1 (acc ++ part)
    else (acc ++ part, first1, m :: rest, pos + part.length)

/-- The credits that the next flit returns, and those that stay to return (R332). -/
def creditNow (p : Port) : List Nat := p.creditRet.map (fun c => min c 255)
def creditLater (p : Port) : List Nat := p.creditRet.map (fun c => c - 255)

/-- An IDLE or NAK flit leaves, with ACK and the credits to return. -/
def Port.sendBare (q : Port) (ftype seq : Nat) : Port :=
  { q with sent := q.sent ++ [flitOf ftype 0 0 seq q.rxSeq (creditNow q) []], creditRet := creditLater q }

/-- The port sends one DATA flit of a VC, with messages of one owner, at a place in the frame. -/
def Port.sendFlit (p : Port) (own v place : Nat) : Port :=
  let mine := p.waiting own v
  let f := fillFlit (mine.map (·.2)) (p.txPos.getD v 0) 240 0xFF []
  let left := mine.drop (mine.length - f.2.2.1.length)
  let others := (p.txq.getD v []).filter (fun m => p.ownerOf m.1 != own)
  let flit := flitOf 1 v f.2.1 p.txSeq p.rxSeq (creditNow p) f.1
  { p with txq := p.txq.set v (left ++ others), txPos := p.txPos.set v f.2.2.2, credits := p.credits.set v (p.credits.getD v 0 - 1),
           flight := p.flight.set v (p.flight.getD v [] ++ [own]), framePos := (place + 1) % 4096,
           creditRet := creditLater p, turn := if v = 0 then true else if v = 2 then false else p.turn,
           replay := p.replay ++ [(p.txSeq, flit)], sent := p.sent ++ [flit], txSeq := (p.txSeq + 1) % 65536 }

/-- The port sends flits while it is UP and has messages, credits and replay space (R333, R334). A change of its slots waits for the end of the
frame, which IDLE flits fill where nothing is left to send in it (R508). -/
def Port.pump (isolated : Bool) : Nat → Port → Port
  | 0, p => p
  | n + 1, p =>
    if p.st = .up ∧ p.replay.length < 4096 then
      match p.nextFlit isolated with
      | none => if p.frame.isSome then Port.pump isolated n p.frameTurn else p
      | some x =>
        if p.frame.isSome && decide (x.2.2 < p.framePos) then Port.pump isolated n p.frameTurn
        else
          let q := p.sendFlit x.1 x.2.1 x.2.2
          Port.pump isolated n (if q.framePos = 0 then q.frameTurn else q)
    else p

/-- The bytes of the messages that wait, which bounds the flits that they fill. -/
def Port.backlog (p : Port) : Nat := p.txq.foldl (fun n q => q.foldl (fun k m => k + m.2.length) n) 0

/-- Are slots kept for their owners: in isolated mode, where more than one bay exists (R405)? -/
def State.slotsKept (s : State) : Bool := s.dev.isolated && decide (1 < s.dev.cycle.length)

/-- A port sends what it can. -/
def State.pumpPort (s : State) (p : Nat) : State := s.setPort p ((s.portAt p).pump s.slotsKept ((s.portAt p).backlog + 2))

/-- A message is put on its VC of a port, for the slots of a bay or of the device (R408). -/
def State.farPush (s : State) (p : Nat) (own : Option Nat) (msg : List Byte) : State :=
  let v := farVc (fieldAt msg 0 1)
  let q := s.portAt p
  (s.setPort p { q with txq := q.txq.set v (q.txq.getD v [] ++ [(own, msg)]) }).pumpPort p

/- Requests. -/

/-- A free tag from a first candidate; at most 4,096 are in use. -/
def freeTag (used : List Nat) : Nat → Nat → Nat
  | 0, t => t
  | n + 1, t => if used.contains t then freeTag used n ((t + 1) % 65536) else t

/-- The flits of response that a request needs space for: a READ's data or an ATOMIC_ADD's word (R334). -/
def respFlits (kind len : Nat) : Nat := if kind = 2 then (16 + len + 239) / 240 else if kind = 3 then 1 else 0

/-- May a request leave: fewer than 4,096 are outstanding, and its response has space in its bay's part of the response buffers, or is
alone there (R334, R336, log entry 63)? -/
def Port.takes (p : Port) (r : FarSpan) : Bool :=
  let held := (p.reqs.filter (fun x => x.bay == r.bay)).foldl (fun n x => n + x.room) 0
  decide (p.reqs.length < 4096 ∧ (respFlits r.kind r.len = 0 ∨ held = 0 ∨ held + respFlits r.kind r.len ≤ p.share (p.ownerOf (some r.bay)) 1))

/-- A request takes a tag and leaves. -/
def State.farLeave (s : State) (p : Nat) (r : FarSpan) : State :=
  let q := s.portAt p
  let tag := freeTag (q.reqs.map (·.tag)) 4097 q.nextTag
  let req : FarReq := ⟨tag, r.kind, r.dst, r.owner, r.pieces, r.bay, respFlits r.kind r.len⟩
  (s.setPort p { q with nextTag := (tag + 1) % 65536, reqs := q.reqs ++ [req] }).farPush p (some r.bay)
    (farHeader r.kind 255 r.dst s.fabric.id tag r.window r.bay r.offset r.len ++ r.data)

/-- Issue a request through a port: it leaves, or waits behind its bay's that wait. -/
def State.farIssue (s : State) (p : Nat) (r : FarSpan) : State :=
  let q := s.portAt p
  if q.takes r && !q.spans.any (fun x => x.bay == r.bay) then s.farLeave p r
  else s.setPort p { q with spans := q.spans ++ [r] }

/-- The oldest waiting request of some bay that may leave, and the others. -/
def Port.nextSpan (q : Port) : Option (FarSpan × List FarSpan) :=
  ((List.range 12).findSome? (fun b => match q.spans.find? (fun r => r.bay == b) with
    | some r => if q.takes r then some r else none
    | none => none)).map (fun r => (r, q.spans.erase r))

/-- Once requests end, waiting ones leave, each bay's in order. -/
def State.farDrain : Nat → State → Nat → State
  | 0, s, _ => s
  | n + 1, s, p => match (s.portAt p).nextSpan with
    | none => s
    | some x => State.farDrain n ((s.setPort p { s.portAt p with spans := x.2 }).farLeave p x.1) p

/-- Once a request ends, the waiting ones that may leave do. -/
def State.farNext (s : State) (p : Nat) : State := s.farDrain (s.portAt p).spans.length p

/-- Waiting requests of the owners that a test picks are never issued (R275). -/
def State.dropSpans (s : State) (own : ReqOwner → Bool) : State :=
  { s with ports := s.ports.map (fun e => (e.1, { e.2 with spans := e.2.spans.filter (fun r => !own r.owner) })) }

/-- The requests of the owners that a test picks are given up: their responses will be late ones (R349). -/
def State.dropOwner (s : State) (own : ReqOwner → Bool) : State :=
  let t := { s with ports := s.ports.map (fun e => (e.1, { e.2 with reqs := e.2.reqs.filter (fun r => !own r.owner), spans := e.2.spans.filter (fun r => !own r.owner) })) }
  (List.range 16).foldl (fun u p => u.farNext p) t

/-- A range of a destination without the part that a later write takes: position in the data, device address, length. -/
def cutPiece (lo len : Nat) (x : Nat × Nat × Nat) : List (Nat × Nat × Nat) :=
  let hi := max x.2.1 (lo + len)
  [(x.1, x.2.1, min x.2.2 (lo - x.2.1)), (x.1 + (hi - x.2.1), hi, x.2.1 + x.2.2 - hi)].filter (fun y => y.2.2 != 0)

/-- A later write of a stream takes bytes from the data that its earlier READs still await (R272). -/
def State.cutReads (s : State) (own : ReqOwner) (lo len : Nat) : State :=
  let cut (o : ReqOwner) (ps : List (Nat × Nat × Nat)) := if o = own then ps.flatMap (cutPiece lo len) else ps
  { s with ports := s.ports.map (fun e => (e.1, { e.2 with
      reqs := e.2.reqs.map (fun r => { r with pieces := cut r.owner r.pieces }),
      spans := e.2.spans.map (fun r => { r with pieces := cut r.owner r.pieces }) })) }

/-- Is a port able to take traffic: UP, or RETRAINING within its hold time (R335, R349)? -/
def Port.carries (p : Port) : Bool := p.st == .up || p.st == .retraining

/-- The route to a device: a direct partner, a child's subtree, the parent (R345). -/
def State.route (s : State) (d : Nat) : Option Nat :=
  match (List.range 16).find? (fun p => (s.portAt p).carries && (s.portAt p).partnerId == d) with
  | some p => some p
  | none => match s.fabric.children.find? (fun c => c.2.contains d) with
    | some c => some c.1
    | none => s.fabric.parent

/-- Is a device reachable: a direct partner, or listed by the last TOPOLOGY and on a route (R345)? -/
def State.farReach (s : State) (d : Nat) : Bool :=
  (List.range 16).any (fun p => (s.portAt p).carries && (s.portAt p).partnerId == d) ||
    (s.fabric.reachable.contains d && (s.route d).isSome)

/-- Fields of an outbound window (R340). -/
def owPort (d : List Byte) : Nat := fieldAt d 0 1 % 16
def owTarget (d : List Byte) : Nat := fieldAt d 1 1
def owWindow (d : List Byte) : Nat := fieldAt d 2 1 % 64

/-- The link check when a bay issues an access through a window (R349, R508). A device without an ID carries management alone (R346). -/
def State.farCheck (s : State) (b : Nat) (d : List Byte) : Option Status :=
  if s.fabric.id != 0xFF && (s.portAt (owPort d)).carries && (s.portAt (owPort d)).now.servesBay b && s.farReach (owTarget d) then none else some .linkLost

/-- The port by which an answer to a request leaves (R338, R345). -/
def State.answerPort (s : State) (p src : Nat) : Nat := (s.route src).getD p

/-- A response to a request (R336, R337): TYPE, STATUS and payload. It travels in the slots of the bay that owns the inbound window (R408). -/
def State.farAnswer (s : State) (own : Option Nat) (p src tag kind status : Nat) (data : List Byte) : State :=
  s.farPush (s.answerPort p src) own (farHeader kind 255 src s.fabric.id tag 0 status 0 data.length ++ data)

/-- Has a bay messages of an inbound window that passed their checks and are not yet applied (R342)? -/
def State.windowBusy (s : State) (b w : Nat) : Bool :=
  (s.heldAt b).any (fun e => match e with
    | .remote _ _ _ _ _ _ x => x == w
    | _ => false) || s.valley.any (fun m => m.bay == b && m.port.any (fun p => p.2.2.2 == w))

/-- CLOSING falls once the last of them has been applied (R341, R342). -/
def State.windowIdle (s : State) (b w : Nat) : State :=
  let d := s.inWindow b w
  if byteBit d 0 1 && !s.windowBusy b w then
    s.setBay b { s.bayAt b with inWin := tabSet (s.bayAt b).inWin w ⟨overlay d 0 (natLE 1 (fieldAt d 0 1 - 2))⟩ }
  else s

/-- A range of window offsets as one range in each 4 KiB unit, with its position (R336): position, offset, length. -/
def farUnits : Nat → Nat → Nat → Nat → List (Nat × Nat × Nat)
  | 0, _, _, _ => []
  | fuel + 1, pos, off, len =>
    if len = 0 then [] else
      let n := min len (4096 - off % 4096)
      (pos, off, n) :: farUnits fuel (pos + n) (off + n) (len - n)

/-- A write through a fabric window of a bay: one WRITE for each unit (R336, R338). -/
def State.farWriteOut (s : State) (b w off : Nat) (bytes : List Byte) (owner : ReqOwner) : State × Option Status :=
  let d := s.outWindow b w
  match s.farCheck b d with
  | some e => (s, some e)
  | none =>
    ((farUnits (bytes.length / 4096 + 2) 0 off bytes.length).foldl (fun t u =>
      t.farIssue (owPort d) ⟨0x01, owTarget d, owWindow d, b, u.2.1, u.2.2, owner, (bytes.drop u.1).take u.2.2, []⟩) s, none)

/-- A read through a fabric window whose data goes to each of the device addresses `dsts`: one READ for each unit. -/
def State.farReadOut (s : State) (b w off len : Nat) (owner : ReqOwner) (dsts : List Nat) : State × Option Status :=
  let d := s.outWindow b w
  match s.farCheck b d with
  | some e => (s, some e)
  | none =>
    ((farUnits (len / 4096 + 2) 0 off len).foldl (fun t u =>
      t.farIssue (owPort d) ⟨0x02, owTarget d, owWindow d, b, u.2.1, u.2.2, owner, [], dsts.map (fun a => (0, a + u.1, u.2.2))⟩) s, none)

/-- Has an owner a request outstanding or waiting? -/
def State.farPending (s : State) (own : ReqOwner → Bool) : Bool :=
  s.ports.any (fun p => p.2.reqs.any (fun r => own r.owner) || p.2.spans.any (fun r => own r.owner))

/-- A write at a device address by an agent, through a fabric window too. -/
def State.putAt (s : State) (a : Agent) (owner : ReqOwner) (addr : Nat) (bytes : List Byte) : State × Option Status :=
  if bytes = [] then (s, none) else
    match s.resolve a.bay addr bytes.length with
    | .error e => (s, some e)
    | .ok (.fabric w off) => s.farWriteOut a.bay w off bytes owner
    | .ok r => s.writeRegion a r bytes

/-- A write at several device addresses in order; the first failure ends it. -/
def State.putEach (s : State) (a : Agent) (owner : ReqOwner) (bytes : List Byte) : List Nat → State × Option Status
  | [] => (s, none)
  | addr :: rest => match s.putAt a owner addr bytes with
    | (t, none) => State.putEach t a owner bytes rest
    | (t, some e) => (t, some e)

/-- Move `n` bytes from a device address to each of several: a read through a fabric window is issued and its data goes
there when it comes. -/
def State.moveRun (s : State) (a : Agent) (owner : ReqOwner) (src n : Nat) (dsts : List Nat) : State × Option Status :=
  if n = 0 then (s, none) else
    match s.resolve a.bay src n with
    | .error e => (s, some e)
    | .ok (.fabric w off) => s.farReadOut a.bay w off n owner dsts
    | .ok r => match s.readFrom a r 0 n with
      | .error e => (s, some e)
      | .ok bs => s.putEach a owner bs dsts

end Sys2Proof.Machine
end

