-- ==== Sys2Proof/Machine/Dma.lean ====
section
/-! DEFINITION. Copy work orders of the core DMA (R265 to R275): descriptors and their checks, COPY, GATHER, SCATTER and
FILL streams, multicast, arrival signals, faults, and remote scratchpad accesses (R274). -/

namespace Sys2Proof.Machine

/-- A stream as it runs: its work order's core, agent and node, its index and its descriptor (R266). -/
structure Dma where
  core : Nat
  ag : Agent
  rcd : List Byte
  owner : ReqOwner
  d : List Byte

def Dma.op (m : Dma) : Nat := fieldAt m.d 0 1
def Dma.mcast (m : Dma) : Bool := byteBit m.d 1 3
def Dma.network (m : Dma) : Nat := fieldAt m.d 1 1 / 2 % 4
def Dma.rowDim (m : Dma) : Bool := byteBit m.d 1 0
def Dma.skip (m : Dma) : Bool := byteBit m.d 2 2
def Dma.ixWidth (m : Dma) : Nat := 2 * 2 ^ (fieldAt m.d 2 1 % 4)
def Dma.c0 (m : Dma) : Nat := fieldAt m.d 4 4
def Dma.c1 (m : Dma) : Nat := fieldAt m.d 8 2
def Dma.c2 (m : Dma) : Nat := fieldAt m.d 10 2
def Dma.c3 (m : Dma) : Nat := fieldAt m.d 12 2
def Dma.src (m : Dma) : Nat := fieldAt m.d 16 8
def Dma.dst (m : Dma) : Nat := fieldAt m.d 24 8
/-- Stride k of the source or the destination, k from 1 to 3. -/
def Dma.sStride (m : Dma) (k : Nat) : Int := signedOf 64 (fieldAt m.d (24 + 8 * k) 8)
def Dma.dStride (m : Dma) (k : Nat) : Int := signedOf 64 (fieldAt m.d (48 + 8 * k) 8)
def Dma.ixAddr (m : Dma) : Nat := fieldAt m.d 80 8
def Dma.arriveEn (m : Dma) : Bool := byteBit m.d 96 7
def Dma.indexed (m : Dma) : Bool := m.op == 2 || m.op == 3
def Dma.mMax (m : Dma) : Nat := fieldAt m.rcd 48 2
def Dma.rowOn (m : Dma) (r : Nat) : Bool := !m.rowDim || rowActive (fieldAt m.rcd 50 2) (byteBit m.rcd 52 5) (bytesAt m.rcd 64 64) r
/-- Does the stream move nothing for a count of 0 (R267)? -/
def Dma.empty (m : Dma) : Bool := m.c0 == 0 || m.c1 == 0 || m.c2 == 0 || m.c3 == 0

/-- Step 1 of R269: the field rules of R266, R260, R270 and R271, the lowest byte first (R534). -/
def Dma.fields (m : Dma) : Chk Unit := do
  need (decide (1 ≤ m.op ∧ m.op ≤ 4)) .descriptorInvalid
  need (fieldAt m.d 1 1 / 16 == 0 && m.network != 3 && !(m.mcast && m.op == 3)) .descriptorInvalid
  need (fieldAt m.d 2 1 / 8 == 0 && (if m.indexed then fieldAt m.d 2 1 % 4 != 3 else fieldAt m.d 2 1 == 0) && fieldAt m.d 3 1 == 0)
    .descriptorInvalid
  need (!m.rowDim || decide (m.c3 ≤ m.mMax)) .lengthRange
  need (fieldAt m.d 14 2 == 0 && (m.op != 4 || m.src == 0)) .descriptorInvalid
  need (if m.indexed then decide (m.ixAddr / 2 ^ 60 < 3) && m.ixAddr % m.ixWidth == 0 else m.ixAddr == 0) .descriptorInvalid
  need (m.op == 4 || fieldAt m.d 88 8 == 0) .descriptorInvalid
  need (!byteBit m.d 96 6 && (if m.arriveEn then m.dst / 2 ^ 60 == 2 else fieldAt m.d 96 1 == 0) && fieldAt m.d 97 1 == 0 &&
    (m.arriveEn || fieldAt m.d 98 2 == 0)) .descriptorInvalid
  need (if m.mcast then m.dst / 2 ^ 60 == 2 && bitsOf m.dst 47 36 == 0 &&
      decide (1 ≤ fieldAt m.d 102 1 ∧ fieldAt m.d 102 1 ≤ 72 ∧ 1 ≤ fieldAt m.d 103 1 ∧ fieldAt m.d 103 1 ≤ 56 ∧
        1 ≤ fieldAt m.d 104 1 ∧ fieldAt m.d 104 1 ≤ 8 ∧ 1 ≤ fieldAt m.d 105 1 ∧ fieldAt m.d 105 1 ≤ 8)
    else allZero (bytesAt m.d 100 6)) .descriptorInvalid
  need (allZero (bytesAt m.d 106 22)) .descriptorInvalid

/-- The members of a multicast as column and row (R270). -/
def Dma.members (m : Dma) : List (Nat × Nat) :=
  (List.range (fieldAt m.d 102 1)).flatMap (fun i => (List.range (fieldAt m.d 103 1)).map (fun k =>
    (fieldAt m.d 100 1 + i * fieldAt m.d 104 1, fieldAt m.d 101 1 + k * fieldAt m.d 105 1)))

/-- The destination bases: one, or one for each member (R270). -/
def Dma.bases (m : Dma) : List Nat :=
  if m.mcast then m.members.map (fun p => m.dst + (p.1 * 56 + p.2) * 2 ^ 36) else [m.dst]

/-- The smallest byte address and the byte after the largest that strides can form from a base (R269). -/
def strideBounds (base : Nat) (c0 : Nat) (st : List (Int × Nat)) : Int × Int :=
  let ends := st.map (fun p => p.1 * ((p.2 : Int) - 1))
  ((base : Int) + (ends.map (fun e => min 0 e)).foldl (· + ·) 0, (base : Int) + (ends.map (fun e => max 0 e)).foldl (· + ·) 0 + (c0 : Int))

/-- An exact address as a device address (R267). -/
def addrOf (z : Int) : Chk Nat := if 0 ≤ z ∧ z < 2 ^ 64 then .ok z.toNat else .error .addressRange

/-- The check of a range of exact addresses: arithmetic, the accumulator store, which takes no write (R175), then R33 (R267, R269). -/
def State.formedRange (s : State) (b : Nat) (write : Bool) (lo hi : Int) : Chk (Region × Nat) := do
  let a ← addrOf lo
  need (decide (hi ≤ 2 ^ 64) && !(write && a / 2 ^ 60 == 3)) .addressRange
  let r ← s.resolve b a (hi - lo).toNat
  return (r, (hi - lo).toNat)

/-- The bytes of bay memory from `off` in each stack of the bay, one range to a stack (R29). -/
def State.memSpans (s : State) (b off len : Nat) : List (Nat × Nat × Nat) :=
  if len = 0 then [] else
    let n := 2 * (s.bayAt b).count
    let u0 := off / 4096
    let u1 := (off + len - 1) / 4096
    (List.range n).filterMap (fun i =>
      let f := u0 + (i + n - u0 % n) % n
      let l := u1 - (u1 % n + n - i) % n
      if u1 < f then none else
        let lo := f / n * 4096 + (if f = u0 then off % 4096 else 0)
        let hi := l / n * 4096 + (if l = u1 then (off + len - 1) % 4096 + 1 else 4096)
        some (s.stackOf b i, lo, hi - lo))

/-- The storage that a range covers: kind and unit, offset, length; none for host and fabric ranges (R269 step 3). -/
def State.storage (s : State) (b : Nat) (r : Region) (len : Nat) : List (Nat × Nat × Nat) :=
  match r with
  | .mem off => s.memSpans b off len
  | .stack k off => [(k, off, len)]
  | .spad core off => [(100 + core, off, len)]
  | .acc core off => [(10000 + core, off, len)]
  | _ => []

/-- Do two lists of storage ranges share a byte? -/
def storageMeets (x y : List (Nat × Nat × Nat)) : Bool :=
  x.any (fun a => y.any (fun b => a.1 == b.1 && rangesMeet a.2 b.2))

/-- The fixed range of the source, that of a destination base, and that of the index list, where the stream has one (R269 step 2). A count of
0 forms no address, but the index list has its elements whatever COUNT0 is (R267). -/
def Dma.fixedSrc (m : Dma) : Option (Int × Int) :=
  if m.empty || !(m.op == 1 || m.op == 3) then none
  else some (strideBounds m.src m.c0 [(m.sStride 1, m.c1), (m.sStride 2, m.c2), (m.sStride 3, m.c3)])
def Dma.fixedDst (m : Dma) (a : Nat) : Option (Int × Int) :=
  if m.empty || m.op == 3 then none else some (strideBounds a m.c0 [(m.dStride 1, m.c1), (m.dStride 2, m.c2), (m.dStride 3, m.c3)])
def Dma.fixedList (m : Dma) : Option (Int × Int) :=
  let list := m.c1 * m.c2 * m.c3 * m.ixWidth
  if m.indexed && list != 0 then some ((m.ixAddr : Int), ((m.ixAddr + list : Nat) : Int)) else none

/-- The storage of a fixed range that passes its check (R269). -/
def State.fixedPart (s : State) (m : Dma) (write : Bool) (r : Option (Int × Int)) : Chk (List (Nat × Nat × Nat)) :=
  match r with
  | none => .ok []
  | some p => do
    let x ← s.formedRange m.ag.bay write p.1 p.2
    return s.storage m.ag.bay x.1 x.2

/-- The members of a multicast lie in the bay (R270). -/
def State.memberIn (s : State) (m : Dma) (p : Nat × Nat) : Bool := decide (p.1 < 6 * (s.bayAt m.ag.bay).count ∧ p.2 < 56)

/-- Steps 2 and 3 of R269: the source, the destination of each member in turn, which must lie in the bay (R270), the index list; then the
overlap of what is read with what is written. -/
def State.dmaRanges (s : State) (m : Dma) : Chk Unit := do
  let src ← s.fixedPart m false m.fixedSrc
  let dsts ← ((List.range m.bases.length).zip m.bases).mapM (fun b => do
    need (!m.mcast || s.memberIn m (m.members.getD b.1 (0, 0))) .addressRange
    s.fixedPart m true (m.fixedDst b.2))
  let list ← s.fixedPart m false m.fixedList
  need (!storageMeets (src ++ list) dsts.flatten) .descriptorInvalid

/-- One run of a stream: indices d1, d2, d3. -/
structure Run where
  d1 : Nat
  d2 : Nat
  d3 : Nat

/-- The runs of a stream in ascending j, but for inactive rows (R267). -/
def Dma.runs (m : Dma) : List Run :=
  if m.empty then [] else
    ((List.range m.c3).filter m.rowOn).flatMap (fun d3 => (List.range m.c2).flatMap (fun d2 => (List.range m.c1).map (fun d1 => ⟨d1, d2, d3⟩)))

/-- j of R267. -/
def Dma.runIx (m : Dma) (r : Run) : Nat := (r.d3 * m.c2 + r.d2) * m.c1 + r.d1

/-- The address of the index element of a run. -/
def Dma.ixAt (m : Dma) (r : Run) : Nat := m.ixAddr + m.runIx r * m.ixWidth

/-- The factor of stride 1 for a run: d1, or its index element; none when the run is skipped (R268). -/
def State.runFactor (s : State) (m : Dma) (r : Run) : Chk (Option Nat) :=
  if !m.indexed then .ok (some r.d1) else do
    let b ← s.readAt m.ag (m.ixAt r) m.ixWidth
    return (if m.skip && leNat b == 2 ^ (8 * m.ixWidth) - 1 then none else some (leNat b))

/-- An address of a run from its base, its strides and its factor (R267). -/
def runAddr (base : Nat) (st : Nat → Int) (f : Nat) (r : Run) : Int :=
  (base : Int) + (f : Int) * st 1 + (r.d2 : Int) * st 2 + (r.d3 : Int) * st 3

/-- The source of a run; GATHER's is checked as it is formed (R268). -/
def State.runSrc (s : State) (m : Dma) (r : Run) (f : Nat) : Chk Nat := do
  let z := runAddr m.src m.sStride (if m.op = 2 then f else r.d1) r
  if m.op = 2 then discard (s.formedRange m.ag.bay false z (z + m.c0)) else pure ()
  addrOf z

/-- The destinations of a run; SCATTER's is checked as it is formed (R268). -/
def State.runDsts (s : State) (m : Dma) (r : Run) (f : Nat) : Chk (List Nat) :=
  m.bases.mapM (fun b => do
    let z := runAddr b m.dStride (if m.op = 3 then f else r.d1) r
    if m.op = 3 then discard (s.formedRange m.ag.bay true z (z + m.c0)) else pure ()
    addrOf z)

/-- The bytes of a FILL run (R267). -/
def Dma.fillBytes (m : Dma) : List Byte := (List.range m.c0).map (fun i => (bytesAt m.d 88 8).getD (i % 8) 0)

/-- A source byte that the stream itself may have written is its value before the stream or the value now, and which is
a free value (R48, R272). -/
def raceBytes (draw addr : Nat) (before now : List Byte) : List Byte :=
  (List.range now.length).map (fun i => if Config.landed draw (addr + i) then now.getD i 0 else before.getD i 0)

/-- The bytes of a host source before the first page that the host refuses: they move as they would without the failure (R33). -/
def State.hostPart (s : State) (m : Dma) (src : Nat) : List Byte :=
  match s.resolve m.ag.bay src m.c0 with
  | .ok (.host _) => ((List.range m.c0).map (fun i => s.readAt m.ag (src + i) 1)).takeWhile Except.isOk |>.flatMap (fun r => r.toOption.getD [])
  | _ => []

/-- One run: `s0` is the state before the stream. Its writes come after those of the runs before it, though a READ of one of these is not yet
answered (R272). -/
def State.dmaRun (s0 s : State) (m : Dma) (r : Run) : State × Option Status :=
  let t := if m.indexed then s.touchAt m.ag.bay (m.ixAt r) m.ixWidth else s
  match t.runFactor m r with
  | .error e => (t, some e)
  | .ok none => (t, none)
  | .ok (some f) =>
    match t.runDsts m r f with
    | .error e => (t, some e)
    | .ok dsts =>
      let cut (t : State) : State := dsts.foldl (fun t a => t.cutReads m.owner a m.c0) t
      if m.op = 4 then (cut t).putEach m.ag m.owner m.fillBytes dsts
      else
        match t.runSrc m r f with
        | .error e => (t, some e)
        | .ok src =>
          let u := cut (t.touchAt m.ag.bay src m.c0)
          match u.readAt m.ag src m.c0, s0.readAt m.ag src m.c0 with
          | .ok now, .ok before => u.putEach m.ag m.owner (raceBytes s0.draws src before now) dsts
          | _, _ => match u.moveRun m.ag m.owner src m.c0 dsts with
            | (v, none) => (v, none)
            | (v, some e) => ((v.putEach m.ag m.owner (v.hostPart m src) dsts).1, some e)

/-- Is it a host page that a run meets refused (R33)? -/
def State.hostStops (s : State) (m : Dma) (r : Run) : Bool :=
  match s.runFactor m r with
  | .ok (some f) => match s.runDsts m r f, s.runSrc m r f with
    | .ok dsts, .ok src =>
      let dst := dsts.any (fun a => match s.resolve m.ag.bay a m.c0 with
        | .ok (.host iova) => s.hostFits m.ag.fn (hostKey m.ag.fn m.ag.pasid iova) m.c0 != m.c0
        | _ => false)
      dst || (m.op != 4 && (match s.resolve m.ag.bay src m.c0 with
        | .ok (.host _) => (s.hostPart m src).length != m.c0
        | _ => false))
    | _, _ => false
  | _ => false

/-- Runs in order until one fails; the number that ran. -/
def State.dmaRuns (s0 : State) (m : Dma) : List Run → Nat → State → State × Nat × Option Status
  | [], n, s => (s, n, none)
  | r :: rest, n, s => match State.dmaRun s0 s m r with
    | (t, none) => State.dmaRuns s0 m rest (n + 1) t
    | (t, some e) => (t, n, some e)

/-- What the reads of a run meet (R101, R239). -/
def State.touchRun (s : State) (m : Dma) (r : Run) : State :=
  let t := if m.indexed then s.touchAt m.ag.bay (m.ixAt r) m.ixWidth else s
  match t.runFactor m r with
  | .ok (some f) => match t.runSrc m r f with
    | .ok src => if m.op = 4 then t else t.touchAt m.ag.bay src m.c0
    | .error _ => t
  | _ => t

/-- What a run would write, where it is known: for the bytes that a failed work order may have written (R34). -/
def State.runWould (s : State) (m : Dma) (r : Run) : List (Nat × List Byte) :=
  match s.runFactor m r with
  | .ok (some f) =>
    match s.runDsts m r f with
    | .error _ => []
    | .ok dsts =>
      if m.op = 4 then dsts.map (fun a => (a, m.fillBytes))
      else match s.runSrc m r f with
        | .error _ => []
        | .ok src => (List.range m.c0).flatMap (fun i => match s.readAt m.ag (src + i) 1 with
          | .ok b => dsts.map (fun a => (a + i, b))
          | .error _ => [])
  | _ => []

/-- The bytes of runs of a stream that may have landed before a stop (R34, R275). -/
def State.dmaLand (s0 s : State) (m : Dma) (rs : List Run) : State := s.landAll m.ag (rs.flatMap (fun r => s0.runWould m r))

/- The work order. -/

/-- The number of streams and descriptor s of a copy work order (R265). -/
def dmaStreams (w : WorkOrder) : Nat := fieldAt w.rcd 53 1
def State.dmaDesc (s : State) (core : Nat) (w : WorkOrder) (k : Nat) : Chk Dma := do
  let d ← s.spadRead core (fieldAt w.rcd 56 4 + 128 * k) 128
  return { core := core, ag := ⟨w.bay, w.bay, w.pasid⟩, rcd := w.rcd, owner := .wo w.bay core w.lid w.nodeIx k, d := d }

/-- The checks of a descriptor (R269). -/
def State.dmaCheck (s : State) (core : Nat) (w : WorkOrder) (k : Nat) : Chk Dma := do
  let m ← s.dmaDesc core w k
  m.fields
  s.dmaRanges m
  return m

/-- The first stream whose check fails, before any access (R34, R269, R275). -/
def State.dmaFirstBad (s : State) (core : Nat) (w : WorkOrder) : Option Status :=
  (List.range (dmaStreams w)).findSome? (fun k => match s.dmaCheck core w k with | .error e => some e | .ok _ => none)

/-- The cores that a stream signals at its end (R271). -/
def State.dmaCores (s : State) (m : Dma) : List Nat :=
  if !m.arriveEn || fieldAt m.d 98 2 == 0 then []
  else ((if m.mcast then m.members.map (fun p => p.1 * 56 + p.2) else [bitsOf m.dst 47 36]).filter
    (fun i => decide (i < 336 * (s.bayAt m.ag.bay).count))).map (s.coreOf m.ag.bay)

/-- The record of a stream that has run. -/
def State.dmaRan (s : State) (m : Dma) (k : Nat) (st : Status) : StreamRun :=
  ⟨k, st, s.dmaCores m, fieldAt m.d 96 1 % 64, fieldAt m.d 98 2, false⟩

/-- The operation that a stream's descriptor names, COPY where it names none. -/
def State.dmaOp (s : State) (core : Nat) (w : WorkOrder) (k : Nat) : Nat :=
  match s.dmaDesc core w k with
  | .ok m => if 1 ≤ m.op ∧ m.op ≤ 4 then m.op else 1
  | .error _ => 1

/-- A copy work order of a launch and node that is in progress at a core, with a stream of an operation not yet run. -/
def State.dmaPick (s : State) (core lid node k op : Nat) (w : WorkOrder) : Bool :=
  fieldAt w.rcd 0 1 == 3 && w.lid == lid && w.nodeIx == node && decide (k < dmaStreams w) &&
    !w.streams.any (fun r => r.ix == k) && s.dmaOp core w k == op

/-- Put a work order back into its core's queue. -/
def State.putWork (s : State) (core : Nat) (w : WorkOrder) : State :=
  s.setCore core { s.coreAt core with queue := putWo (s.coreAt core).queue w }

/-- The work order ends with a status once the accesses already issued are answered; those that wait are not issued (R275). -/
def State.dmaFail (s : State) (core : Nat) (w : WorkOrder) (st : Status) : State :=
  (s.dropSpans (fun o => match o with
    | .wo b c lid node _ => b == w.bay && c == core && lid == w.lid && node == w.nodeIx
    | _ => false)).putWork core { w with st := .ran st 0 0 }

/-- The runs that a stream has still to make: an invalidation may have found it begun (R375). -/
def WorkOrder.runsLeft (w : WorkOrder) (m : Dma) (k : Nat) : List Run := m.runs.drop (tabGet w.begun k 0)

/-- A stream that met a fault at its run `n`: a free number of the runs before it were issued in full, and any other
would-be byte of it and of the streams that have not run may have landed (R34, R275). Where a host page refuses the run, all before that page
has moved (R33). -/
def State.dmaStop (s0 : State) (core : Nat) (w : WorkOrder) (m : Dma) (k n : Nat) : State :=
  let rs := w.runsLeft m k
  let t0 := (State.dmaRuns s0 m (rs.take n) 0 s0).1
  let host := (rs.drop n).head?.any (t0.hostStops m)
  let p := if host then n + 1 else Config.openNat s0.draws % (n + 1)
  let t1 := (State.dmaRuns s0 m (rs.take p) 0 s0).1
  let t2 := ((rs.drop p).take (n + 1 - p)).foldl (fun t r => t.touchRun m r) t1
  ((List.range (dmaStreams w)).filter (fun j => !w.streams.any (fun r => r.ix == j))).foldl (fun t j =>
    match s0.dmaDesc core w j with
    | .ok q => s0.dmaLand t q (if j = k then rs.drop p else w.runsLeft q j)
    | .error _ => t) t2

/-- Every stream has run OK: the work order has its outcome once its requests are answered. -/
def State.dmaDone (s : State) (core : Nat) (w : WorkOrder) : State :=
  if w.streams.length = dmaStreams w then s.putWork core { w with st := .ran .ok 0 0 } else s.putWork core w

/-- The state in which a stream's accesses begin: its descriptors have been read. -/
def State.dmaRead (s : State) (core : Nat) (w : WorkOrder) : State :=
  { s.touchAll core ((List.range (dmaStreams w)).map (fun k => (fieldAt w.rcd 56 4 + 128 * k, 128))) with draws := s.draws + 1 }

/-- A stream of a copy work order makes its runs (R267). Before the first stream every descriptor is checked. -/
def State.dmaGo (s : State) (core : Nat) (w : WorkOrder) (k : Nat) : State :=
  let s0 := s.dmaRead core w
  match (if w.streams = [] then s0.dmaFirstBad core w else none) with
  | some e => s0.dmaFail core w e
  | none => match s0.dmaDesc core w k with
    | .error e => s0.dmaFail core w e
    | .ok m => match State.dmaRuns s0 m (w.runsLeft m k) 0 s0 with
      | (t, _, none) => t.dmaDone core { w with streams := w.streams ++ [t.dmaRan m k .ok] }
      | (_, n, some e) => (s0.dmaStop core w m k n).dmaFail core { w with streams := w.streams ++ [s0.dmaRan m k e] } e

/-- The device addresses that the runs of a stream name: index elements, sources, destinations. -/
def State.dmaAddrs (s : State) (m : Dma) : List Nat :=
  m.runs.flatMap (fun r => (if m.indexed then [m.ixAt r] else []) ++ (match s.runFactor m r with
    | .ok (some f) => (match s.runSrc m r f with | .ok a => if m.op = 4 then [] else [a] | .error _ => []) ++
        (match s.runDsts m r f with | .ok l => l | .error _ => [])
    | _ => []))

/-- Does a device address of a bay name a core whose tile domain is gated? The packet waits for the wake (R457). -/
def State.asleepAt (s : State) (b addr : Nat) : Bool := (addr / 2 ^ 60 == 2 || addr / 2 ^ 60 == 3) && s.coreAsleep (s.coreOf b (bitsOf addr 47 36))

/-- Does a stream wait for a core of a gated tile domain? -/
def State.dmaWaits (s : State) (core : Nat) (w : WorkOrder) (k : Nat) : Bool :=
  match s.dmaCheck core w k with
  | .ok m => (s.dmaAddrs m).any (s.asleepAt w.bay)
  | .error _ => false

/-- A stream runs, once no core that it addresses sleeps. -/
def State.dmaStream (s : State) (core lid node k op : Nat) : State :=
  match pickStarted (s.coreAt core).queue (fun w => s.dmaPick core lid node k op w && !s.engineStopped w.bay core) with
  | none => s
  | some w => if s.dmaWaits core w k then s else s.raceRun w (fun v => v.dmaGo core w k)

/-- A stream has made a free part of its runs by now (R375). -/
def State.dmaPart (s : State) (core : Nat) (w : WorkOrder) (k : Nat) : State :=
  if s.engineStopped w.bay core || s.dmaWaits core w k then s
  else
    let s0 := s.dmaRead core w
    match (if w.streams = [] then s0.dmaFirstBad core w else none), s0.dmaDesc core w k with
    | none, .ok m =>
      let rs := w.runsLeft m k
      let n := Config.openNat s0.draws % (rs.length + 1)
      match State.dmaRuns s0 m (rs.take n) 0 s0 with
      | (t, _, none) => t.putWork core { w with begun := tabSet w.begun k (tabGet w.begun k 0 + n) }
      | (_, _, some _) => s
    | _, _ => s

/-- The streams of the copy work orders of a function's cores that are in progress have made a free part of their runs by now (R375). -/
def State.streamsSoFar (s : State) (b : Nat) : State :=
  (s.cores.map (·.1)).foldl (fun t core => (List.range 16).foldl (fun u k =>
    (u.coreAt core).queue.foldl (fun x e => match e with
      | .wo w => if w.bay == b && w.st == .started && fieldAt w.rcd 0 1 == 3 && decide (k < dmaStreams w) && !w.streams.any (fun r => r.ix == k)
          then match pickStarted (x.coreAt core).queue (fun v => v.bay == w.bay && v.lid == w.lid && v.nodeIx == w.nodeIx) with
            | none => x
            | some v => x.raceRun v (fun y => y.dmaPart core v k)
          else x
      | _ => x) u) t) s

/-- DMA_COPY (R267). A descriptor whose OP names nothing fails here. -/
def execDmaCopy (core lid node stream : Nat) (s : State) : Host.Outcome State Fault Refusal :=
  .next (s.dmaStream core lid node stream 1)

/-- DMA_GATHER (R267, R268). -/
def execDmaGather (core lid node stream : Nat) (s : State) : Host.Outcome State Fault Refusal :=
  .next (s.dmaStream core lid node stream 2)

/-- DMA_SCATTER (R267, R268). -/
def execDmaScatter (core lid node stream : Nat) (s : State) : Host.Outcome State Fault Refusal :=
  .next (s.dmaStream core lid node stream 3)

/-- DMA_FILL (R267). -/
def execDmaFill (core lid node stream : Nat) (s : State) : Host.Outcome State Fault Refusal :=
  .next (s.dmaStream core lid node stream 4)

/-- Add to a counter of a core, modulo 2^32 (R106). -/
def State.addCounter (s : State) (core ctr incr : Nat) : State :=
  let c := s.coreAt core
  s.setCore core { c with counters := tabSet c.counters ctr ((tabGet c.counters ctr 0 + incr) % 2 ^ 32) }

/-- Has a stream of a work order requests outstanding? -/
def State.streamWaits (s : State) (core lid node k : Nat) : Bool :=
  s.farPending (fun o => match o with
    | .wo _ c l n j => c == core && l == lid && n == node && j == k
    | _ => false)

/-- Did the work order fail? -/
def woFailed (w : WorkOrder) : Bool :=
  match w.st with
  | .ran st _ _ => st != .ok
  | _ => false

/-- A copy work order, started or run, of a launch and node. -/
def findWo (q : List CoreEntry) (lid node : Nat) : Option WorkOrder :=
  q.findSome? (fun e => match e with | .wo w => if w.lid == lid && w.nodeIx == node && w.st != .queued then some w else none | _ => none)

/-- ARRIVAL_SIGNAL (R271): a stream that ended OK, with every write acknowledged, signals its destination cores once. -/
def State.arriveSignal (s : State) (core lid node stream : Nat) : State :=
  match findWo (s.coreAt core).queue lid node with
  | none => s
  | some w =>
    match w.streams.find? (fun r => r.ix == stream) with
    | none => s
    | some r =>
      if woFailed w || r.st != .ok || r.signalled || s.streamWaits core lid node stream || r.cores.any s.coreAsleep then s
      else
        let s1 := s.putWork core { w with streams := w.streams.map (fun x => if x.ix = stream then { x with signalled := true } else x) }
        r.cores.foldl (fun t c => t.addCounter c r.ctr r.incr) s1

/-- ARRIVAL_SIGNAL (R271). -/
def execArrivalSignal (core lid node stream : Nat) (s : State) : Host.Outcome State Fault Refusal :=
  .next (s.arriveSignal core lid node stream)

/-- A remote access at a core (R274, R101): `ecc` is an error that the access finds standing in its first word. A read
corrects or poisons; a write is merged, and races with the work in progress (R48). -/
def State.remoteAccess (s : State) (core off ecc : Nat) (write : Bool) (data : List Byte) : State :=
  if spadBytes < off + data.length ∨ (s.stripOwner (coreStrip core)).isNone ∨ s.coreAsleep core then s else
    let s1 := if ecc = 0 then s else { s with spadFlaws := tabSet s.spadFlaws (core * 0x30000 + off / 8) (min ecc 2) }
    if write then s.raced (s1.writeSpad core off data) else s1.touchSpad core off data.length

/-- REMOTE_SCRATCHPAD_ACCESS (R274). -/
def execRemoteScratchpadAccess (core off ecc : Nat) (write : Bool) (data : List Byte) (s : State) : Host.Outcome State Fault Refusal :=
  .next (s.remoteAccess core off ecc write data)

end Sys2Proof.Machine
end

