-- ==== Sys2Proof/Machine/VStream.lean ====
section
/-! DEFINITION. Streams of the vector engine: stream records and their checks (R179), reading and writing elements (R180,
R181), filled rows (R199), lengths and masks (R194), ranges and overlap (R200), and the compensated sum (R195). -/

namespace Sys2Proof.Machine

/-- A vector work order as it runs: its core, member index, node record and descriptor bytes (R177, R178). -/
structure Vec where
  core : Nat
  member : Nat
  rcd : List Byte
  d : List Byte

def Vec.mMax (v : Vec) : Nat := fieldAt v.rcd 48 2
def Vec.active (v : Vec) (r : Nat) : Bool := rowActive (fieldAt v.rcd 50 2) (byteBit v.rcd 52 5) (bytesAt v.rcd 64 64) r
def Vec.fill (v : Vec) : Bool := byteBit v.rcd 52 4
def Vec.seed (v : Vec) : Nat := fieldAt v.rcd 56 4
def Vec.vdesc (v : Vec) : Nat := fieldAt v.rcd 60 4
def Vec.mode (v : Vec) : Nat := fieldAt v.d 0 1
def Vec.count (v : Vec) : Nat := fieldAt v.d 1 1
def Vec.lenEn (v : Vec) : Bool := byteBit v.d 2 4
def Vec.tableSwap (v : Vec) : Bool := byteBit v.d 2 3
def Vec.dm1 (v : Vec) : Nat := fieldAt v.d 2 1 / 2 % 4
def Vec.nanIgnore (v : Vec) : Bool := byteBit v.d 2 0
def Vec.n (v : Vec) : Nat := fieldAt v.d 4 4
def Vec.tableCount (v : Vec) : Nat := fieldAt v.d 24 2

/-- The header checks of R178, in byte order (R200 step 1, R534). A TABLE_SRC that is misaligned for a TABLE_COUNT above 2,048 has two
faults that count at byte 24; the model takes DESCRIPTOR_INVALID first (DESIGN CHOICE, log entry 22). -/
def Vec.headerCheck (v : Vec) : Chk Unit := do
  need (decide (v.mode ≤ 3)) .descriptorInvalid
  need (match v.mode with
    | 0 => decide (v.count ≤ 8)
    | 1 => decide (1 ≤ v.count ∧ v.count ≤ 64)
    | _ => v.count == 0) .descriptorInvalid
  need (fieldAt v.d 2 1 / 32 == 0) .descriptorInvalid
  need (v.dm1 != 3) .formatInvalid
  need (fieldAt v.d 3 1 == 0) .descriptorInvalid
  need (decide (v.n ≤ 1048576)) .lengthRange
  need (!v.lenEn || fieldAt v.d 8 4 % 4 == 0) .descriptorInvalid
  need (v.tableCount == 0 || fieldAt v.d 20 4 % 4 == 0) .descriptorInvalid
  need (decide (v.tableCount ≤ 2048)) .lengthRange
  need (allZero (bytesAt v.d 26 6)) .descriptorInvalid

/- Fields of a stream record of 32 bytes (R179). -/

def stFormat (r : List Byte) : Nat := fieldAt r 0 1
def stScale (r : List Byte) : Nat := fieldAt r 1 1
def stScalar (r : List Byte) : Bool := byteBit r 2 0
def stEn (r : List Byte) : Bool := byteBit r 3 7
def stSource (r : List Byte) : Nat := fieldAt r 4 1
def stOffset (r : List Byte) : Nat := fieldAt r 8 4
def stStride (r : List Byte) : Nat := fieldAt r 12 4
def stBlock (r : List Byte) : Nat := scaleBlock (stScale r)
def stWidth (r : List Byte) : Nat := codeWidth (stFormat r)

/-- The elements that the range of a row of a stream holds for N of them: one when SCALAR, whatever N is (R180, R200 step 4). -/
def stElems (out : Bool) (r : List Byte) (n : Nat) : Nat := if !out && stScalar r then 1 else n

/-- The reserved fields of an enabled stream record (R179). -/
def stReserved (out : Bool) (r : List Byte) : Bool :=
  fieldAt r 3 1 % 128 == 0 && allZero (bytesAt r 5 3) && allZero (bytesAt r 24 8) && stScale r / 32 == 0 &&
    (if out then fieldAt r 2 1 / 32 == 0 else decide (fieldAt r 2 1 < 2) && stSource r == 0)

/-- Are SCALE and its combination with FORMAT legal (R179)? -/
def stScaleOk (out : Bool) (r : List Byte) : Bool :=
  decide (stScale r % 8 < 6) &&
    (if out then scaleAxis (stScale r) == 0 && decide (stScale r % 8 < 5) && (stBlock r == 0 || decide (3 ≤ stFormat r))
     else (stBlock r == 0 || stFormat r != 0) && scaleInOk (stScale r) (stFormat r))

/-- The scale bytes that one row of a stream's scale matrix holds for N elements (R180). -/
def stScaleRow (out : Bool) (r : List Byte) (n : Nat) : Nat :=
  let k := stElems out r n
  if stBlock r = 0 then 0 else if scaleAxis (stScale r) = 0 then ceilDiv k (stBlock r) else k

/-- Are the strides of a stream wide enough: STRIDE of an output, SCALE_STRIDE of any stream (R179; of an input, DEDUCED, log entry 60; one row of a
SCALAR input has the scale bytes of one element, and a stream of N = 0 has no row to check, DESIGN CHOICE, log entry 80)? -/
def stStridesOk (out : Bool) (n : Nat) (r : List Byte) : Bool :=
  (!out || decide (ceilDiv (n * stWidth r) 8 ≤ stStride r)) && (n == 0 || decide (stScaleRow out r n ≤ fieldAt r 20 4))

/-- The checks of one stream record for rows of N elements, in the sequence of R200 step 2: reserved fields and EN; FORMAT and SCALE; the
rounding byte; the strides. -/
def streamCheck (out : Bool) (n : Nat) (r : List Byte) : Chk Unit :=
  if !stEn r then need (allZero r) .descriptorInvalid
  else do
    need (stReserved out r) .descriptorInvalid
    need (decide (stFormat r ≤ 9) && stScaleOk out r) .formatInvalid
    need (!out || roundOk (fieldAt r 2 1)) .formatInvalid
    need (stStridesOk out n r) .descriptorInvalid

/-- The same checks where a step names no sequence: the fault at the lowest byte decides, in a byte that of the higher bits
(R232, R308, R534). -/
def streamBytes (out : Bool) (n : Nat) (r : List Byte) : Chk Unit :=
  if !stEn r then need (allZero r) .descriptorInvalid
  else do
    need (decide (stFormat r ≤ 9)) .formatInvalid
    need (stScale r / 32 == 0) .descriptorInvalid
    need (stScaleOk out r) .formatInvalid
    need (if out then fieldAt r 2 1 / 32 == 0 else decide (fieldAt r 2 1 < 2)) .descriptorInvalid
    need (!out || roundOk (fieldAt r 2 1)) .formatInvalid
    need (stReserved out r && stStridesOk out n r) .descriptorInvalid

/-- The ranges of a stream and of its scale matrix over M rows of k elements: offset, stride, rows, row length (R180). -/
def streamRangesOf (m k : Nat) (r : List Byte) : List (Nat × Nat × Nat × Nat) :=
  if !stEn r then [] else
    let b := stBlock r
    let rows := if stStride r = 0 then 1 else m
    (stOffset r, stStride r, rows, ceilDiv (k * stWidth r) 8) ::
      (if b = 0 then []
       else if scaleAxis (stScale r) = 0 then [(fieldAt r 16 4, fieldAt r 20 4, rows, ceilDiv k b)]
       else [(fieldAt r 16 4, fieldAt r 20 4, ceilDiv rows b, k)])

/-- Those ranges for rows of N elements, or of one when SCALAR (R200 step 4). -/
def streamRanges (out : Bool) (m n : Nat) (r : List Byte) : List (Nat × Nat × Nat × Nat) := streamRangesOf m (stElems out r n) r

/-- The bytes that row `r` of an input stream takes when `k` of its elements are read: elements, then scales (R180). -/
def streamReads (st : List Byte) (r k : Nat) : List (Nat × Nat) :=
  if !stEn st || k == 0 then [] else
    let n := if stScalar st then 1 else k
    let b := stBlock st
    let rr := if stStride st = 0 then 0 else r
    (stOffset st + r * stStride st, ceilDiv (n * stWidth st) 8) ::
      (if b = 0 then []
       else if scaleAxis (stScale st) = 0 then [(fieldAt st 16 4 + rr * fieldAt st 20 4, ceilDiv n b)]
       else [(fieldAt st 16 4 + rr / b * fieldAt st 20 4, n)])

/-- An expanded element as the FP32 word that enters the engine (R180). -/
def expandedFp32 (x : Expanded) : Nat :=
  match x.cls with
  | .nan => nan32
  | .inf => inf32 x.neg
  | .zero => zero32 x.neg
  | .finite => rne32 (.fin ((if x.neg then -((x.f : Nat) : Rat) else ((x.f : Nat) : Rat)) * pow2 x.e))

/-- Element i of row r of an input stream, as an FP32 word (R180). -/
def State.streamIn (s : State) (core : Nat) (st : List Byte) (r i : Nat) : Chk Nat := do
  let f := (fmtOf (stFormat st)).getD .fp32
  let k := if stScalar st then 0 else i
  let c ← s.elemAt core (stOffset st + r * stStride st) (fmtWidth f) k
  let b := stBlock st
  if b = 0 then return expandedFp32 (expand c f none)
  else
    let rr := if stStride st = 0 then 0 else r
    let pos := if scaleAxis (stScale st) = 0 then (rr, k / b) else (rr / b, k)
    let x ← s.spadGet core (fieldAt st 16 4 + pos.1 * fieldAt st 20 4 + pos.2) 1
    return expandedFp32 (expand c f (some (scaleFmt (stScale st), leNat x)))

/-- The codes and scale bytes of a row of an output stream (R181). -/
def streamCodes (seed member o r : Nat) (st : List Byte) (vals : List Nat) : List Nat × List Nat :=
  let f := (fmtOf (stFormat st)).getD .fp32
  let rd := roundingOf (fieldAt st 2 1) seed
  let ix (i : Nat) : Nat := member * 2 ^ 40 + o * 2 ^ 36 + r * 2 ^ 20 + i
  let b := stBlock st
  if b = 0 then ((List.range vals.length).map (fun i => cvt (dec32 (vals.getD i 0)) f rd (ix i)), [])
  else
    let blocks := (List.range (ceilDiv vals.length b)).map (fun j =>
      let v := (vals.drop (j * b)).take b
      quantiseBlock v f (scaleFmt (stScale st)) rd ((List.range v.length).map (fun i => ix (j * b + i))))
    (blocks.flatMap (·.2), blocks.map (·.1))

/-- Write a row of an output stream with its scales (R181). -/
def State.streamOut (s : State) (core seed member o r : Nat) (st : List Byte) (vals : List Nat) : State :=
  if !stEn st then s else
    let q := streamCodes seed member o r st vals
    let s1 := s.putRow core (stOffset st + r * stStride st) (stWidth st) q.1
    if stBlock st = 0 then s1
    else s1.writeSpad core (fieldAt st 16 4 + r * fieldAt st 20 4) (q.2.map (BitVec.ofNat 8))

/-- A filled row: N elements of +0, and the scale of R159 for each block (R199). -/
def State.streamFill (s : State) (core r n : Nat) (st : List Byte) : State :=
  s.streamOut core 0 0 0 r st (List.replicate n 0)

/-- The would-be bytes of a row of a failed work order, where its values are known (R34). -/
def State.streamLand (s : State) (core seed member o r : Nat) (st : List Byte) (vals : List (Option Nat)) : State :=
  if !stEn st then s else
    let q := streamCodes seed member o r st (vals.map (·.getD 0))
    let b := if stBlock st = 0 then 1 else stBlock st
    let ok (j : Nat) : Bool := ((vals.drop (j * b)).take b).all (·.isSome)
    let s1 := s.landRow core (stOffset st + r * stStride st) (stWidth st)
      ((List.range vals.length).map (fun i => if ok (i / b) then q.1[i]? else none))
    if stBlock st = 0 then s1
    else s1.landRow core (fieldAt st 16 4 + r * fieldAt st 20 4) 8
      ((List.range q.2.length).map (fun j => if ok j then q.2[j]? else none))

/-- The length of a row (R194). -/
def State.rowLength (s : State) (v : Vec) (r : Nat) : Chk Nat :=
  if !v.lenEn then .ok v.n else do
    let bs ← s.spadGet v.core (fieldAt v.d 8 4 + 4 * r) 4
    need (decide (leNat bs ≤ v.n)) .lengthRange
    return leNat bs

/-- Bit `i` of an element-mask row (R194). -/
def State.maskBit (s : State) (v : Vec) (r i : Nat) : Chk Bool := do
  let b ← s.elemAt v.core (fieldAt v.d 12 4 + r * fieldAt v.d 16 4) 1 i
  return b == 1

/-- Is an output stream in place over an input stream (R200 step 5)? -/
def inPlace (i o : List Byte) : Bool :=
  stEn i && stEn o && !stScalar i && stOffset i == stOffset o && stStride i == stStride o && stWidth i == stWidth o &&
    stBlock i == 0 && stBlock o == 0

/-- The overlap check of R200 step 5: ranges read, each with its input stream if it has one, and ranges written, each with
its output stream if it has one. -/
def vecOverlap (reads writes : List (Option (List Byte) × List (Nat × Nat))) : Bool :=
  writes.any (fun w => reads.any (fun r =>
    (match r.1, w.1 with
     | some i, some o => !inPlace i o
     | _, _ => true) && listsMeet r.2 w.2)) || !allApart (writes.map (·.2))

/- The compensated sum (R195). -/

/-- One slot: its sum and its correction. -/
abbrev Slot := Nat × Nat

/-- A value enters a slot. -/
def slotAdd (p : Slot) (x : Num) : Slot :=
  let t := rne32 (numAdd (dec32 p.1) x)
  if numIsFinite (dec32 t) then
    (t, rne32 (numAdd (dec32 p.2) (numOfRat (rat32 p.1 + numRat x - rat32 t))))
  else (t, p.2)

/-- Two slots meet in the tree. -/
def slotMerge (p q : Slot) : Slot :=
  let t := f32add p.1 q.1
  if numIsFinite (dec32 t) then (t, rneR (rat32 p.2 + rat32 q.2 + (rat32 p.1 + rat32 q.1 - rat32 t))) else (t, p.2)

/-- The values of slot j in increasing index. -/
def slotOf (xs : List (Nat × Num)) (j : Nat) : Slot :=
  (xs.filter (fun x => x.1 % 64 == j)).foldl (fun p x => slotAdd p x.2) (0, 0)

/-- Neighbouring slots merged pairwise: one level of the tree. -/
def pairLevel : List Slot → List Slot
  | a :: b :: rest => slotMerge a b :: pairLevel rest
  | l => l

/-- The fixed pairwise tree over 64 slots. -/
def slotTree (l : List Slot) : Slot :=
  (pairLevel (pairLevel (pairLevel (pairLevel (pairLevel (pairLevel l)))))).headD (0, 0)

/-- The compensated sum of indexed values, before its last rounding. -/
def compSum (xs : List (Nat × Num)) : Slot := slotTree ((List.range 64).map (slotOf xs))

end Sys2Proof.Machine
end

