-- ==== Sys2Proof/Machine/Vector.lean ====
section
/-! DEFINITION. Vector work orders: operations (R185, R186), fused chains and spar programs (R187, R188), table look-ups
and loads (R189 to R191), reductions (R193 to R198), inactive rows (R199), checks and faults (R200, R201). -/

namespace Sys2Proof.Machine

/-- MIN or MAX of two words (R186): −0 ranks below +0. -/
def minMax32 (big : Bool) (a b : Nat) : Nat :=
  if isNaN32 a || isNaN32 b then nan32
  else
    let less := numLt (dec32 a) (dec32 b) || (isZero32 a && isZero32 b && sign32 a && !sign32 b)
    if big then (if less then b else a) else (if less then a else b)

/-- A word rounded to an integer by one of FLOOR, CEIL, TRUNC and RINT (R186). -/
def toInt32 (op a : Nat) : Nat :=
  if isNaN32 a then nan32
  else if isInf32 a || isZero32 a then a
  else
    let x := rat32 a
    let fl := x.floor
    let fr := x - (fl : Rat)
    let z : Int := match op with
      | 0x0C => fl
      | 0x0D => x.ceil
      | 0x0E => if x < 0 then x.ceil else fl
      | _ => if fr < mkRat 1 2 then fl else if mkRat 1 2 < fr then fl + 1 else if fl % 2 = 0 then fl else fl + 1
    if z = 0 then zero32 (sign32 a) else rneR (z : Rat)

/-- CMP by its relation (R185, R186). -/
def cmp32 (rel a b : Nat) : Nat :=
  let x := dec32 a
  let y := dec32 b
  let holds := if isNaN32 a || isNaN32 b then rel == 3
    else match rel with
      | 0 => numEq x y
      | 1 => numLt x y
      | 2 => numLt x y || numEq x y
      | _ => !numEq x y
  if holds then one32 else 0

/-- The special function of an operation code (R185). -/
def opSfun (op : Nat) : Option SFun :=
  match op with
  | 0x20 => some .exp | 0x21 => some .exp2 | 0x22 => some .log | 0x23 => some .log2 | 0x24 => some .rcp
  | 0x25 => some .rsqrt | 0x26 => some .tanh | 0x27 => some .logistic | 0x28 => some .sinturn | 0x29 => some .costurn
  | _ => none

/-- The operands that an operation takes (R185); 0 for a code that names none. -/
def opArity (op : Nat) : Nat :=
  match op with
  | 0x01 | 0x02 | 0x03 | 0x05 | 0x06 | 0x09 | 0x0A | 0x28 | 0x29 => 2
  | 0x04 | 0x0B | 0x10 | 0x30 => 3
  | 0x07 | 0x08 | 0x0C | 0x0D | 0x0E | 0x0F | 0x11 | 0x20 | 0x21 | 0x22 | 0x23 | 0x24 | 0x25 | 0x26 | 0x27 => 1
  | _ => 0

/-- A lane operation but LUT, on FP32 words (R185, R186). A NaN has no sign: COPYSIGN takes + from one (R145). -/
def laneOp (dm1 op mod a b c : Nat) : Nat :=
  match op with
  | 0x01 => f32add a b
  | 0x02 => f32sub a b
  | 0x03 => f32mul a b
  | 0x04 => f32fma a b c
  | 0x05 => minMax32 false a b
  | 0x06 => minMax32 true a b
  | 0x07 => if isNaN32 a then nan32 else a % 2 ^ 31
  | 0x08 => if isNaN32 a then nan32 else a ^^^ 2 ^ 31
  | 0x09 => if isNaN32 a then nan32 else a % 2 ^ 31 + (if sign32 b && !isNaN32 b then 2 ^ 31 else 0)
  | 0x0A => cmp32 mod a b
  | 0x0B => if isZero32 a then c else b
  | 0x0C | 0x0D | 0x0E | 0x0F => toInt32 op a
  | 0x10 => minMax32 false (minMax32 true a b) c
  | 0x11 =>
    let f := (fmtOf mod).getD .fp32
    rne32 (decodeFmt f (cvt (dec32 a) f ⟨.rne, false, 8, 0⟩ 0))
  | _ => match opSfun op with
    | some fn => sfEval dm1 fn a b
    | none => 0

/- Look-up tables (R189 to R191). -/

/-- A bank of a core. -/
def coreBank (c : Core) (bank : Nat) : TableBank := if bank = 0 then c.bank0 else c.bank1
def setBank (c : Core) (bank : Nat) (t : TableBank) : Core := if bank = 0 then { c with bank0 := t } else { c with bank1 := t }

/-- An entry of a bank; a poisoned one fails the look-up (R189). -/
def bankEntry (t : TableBank) (i : Nat) : Chk Nat :=
  if t.allPoisoned || t.poisoned.contains i then .error .poisonedData else .ok (tabGet t.entries i 0)

/-- LUT (R190). -/
def lutOp (t : TableBank) (step : Bool) (x slope off : Nat) : Chk Nat :=
  if isNaN32 x || isNaN32 slope || isNaN32 off then .ok nan32
  else
    let u := f32fma x slope off
    if isNaN32 u then .ok nan32
    else if isInf32 u then bankEntry t (if sign32 u then 0 else t.n - 1)
    else if rat32 u ≤ 0 then bankEntry t 0
    else if ((t.n : Nat) : Rat) - 1 ≤ rat32 u then bankEntry t (t.n - 1)
    else
      let i := (rat32 u).floor.toNat
      let f := rat32 u - ((i : Nat) : Rat)
      if step || f = 0 then bankEntry t i
      else do
        let a ← bankEntry t i
        let b ← bankEntry t (i + 1)
        return rne32 (numAdd (dec32 a) (numMul (numOfRat f) (dec32 (f32sub b a))))

/-- Bytes of instruction `k` of a program, and of input, output and reduction records (R178). -/
def Vec.instr (v : Vec) (k : Nat) : List Byte := bytesAt v.d (320 + 8 * k) 8
def Vec.input (v : Vec) (j : Nat) : List Byte := bytesAt v.d (64 + 32 * j) 32
def Vec.output (v : Vec) (o : Nat) : List Byte := bytesAt v.d (192 + 32 * o) 32
def Vec.red (v : Vec) (j : Nat) : List Byte := bytesAt v.d (256 + 16 * j) 16

/-- Is an operand selector legal where `limit` chain results may be read (R183, R187, R188)? -/
def Vec.selOk (v : Vec) (limit sel : Nat) : Bool :=
  if sel ≤ 3 then stEn (v.input sel)
  else if 0x08 ≤ sel ∧ sel ≤ 0x0F then true
  else if 0x10 ≤ sel ∧ sel ≤ 0x17 then v.mode == 0 && decide (sel - 0x10 < limit)
  else if 0x20 ≤ sel ∧ sel ≤ 0x2F then v.mode == 1
  else sel == 0x30 || sel == 0x31

/-- The checks of a reduction record (R193, R200 step 3). -/
def Vec.redCheck (v : Vec) (r : List Byte) : Chk Unit :=
  if fieldAt r 0 1 = 0 then need (allZero r) .descriptorInvalid
  else need (decide (fieldAt r 0 1 ≤ 0x0A) && v.selOk v.count (fieldAt r 1 1) && fieldAt r 2 1 / 2 == 0 && fieldAt r 3 1 == 0 &&
    fieldAt r 4 4 % 4 == 0 && allZero (bytesAt r 8 8)) .descriptorInvalid

/-- The checks of a stage or instruction, in byte order (R184, R185, R187, R188, R191, R200 step 3). -/
def Vec.instrCheck (v : Vec) (k : Nat) : Chk Unit := do
  let b := v.instr k
  let op := fieldAt b 0 1
  let n := opArity op
  let mod := fieldAt b 5 1
  need (n != 0) .descriptorInvalid
  need (if v.mode = 1 then decide (0x20 ≤ fieldAt b 1 1 ∧ fieldAt b 1 1 ≤ 0x2F) else fieldAt b 1 1 == 0) .descriptorInvalid
  need ((List.range 3).all (fun p => if p < n then v.selOk k (fieldAt b (2 + p) 1) else fieldAt b (2 + p) 1 == 0)) .descriptorInvalid
  need (op != 0x11 || decide (1 ≤ mod ∧ mod ≤ 9)) .formatInvalid
  need (match op with
    | 0x0A => decide (mod ≤ 3)
    | 0x11 => true
    | 0x30 => decide (mod < 4) && (mod % 2 == 0 || v.tableCount == 0)
    | _ => mod == 0) .descriptorInvalid
  need (allZero (bytesAt b 6 2)) .descriptorInvalid

/-- Checks over a list, in order. -/
def checkEach {V : Type} (f : V → Chk Unit) : List V → Chk Unit
  | [] => .ok ()
  | x :: xs => do
    f x
    checkEach f xs

/-- Reductions in use, and whether one takes the element mask. -/
def Vec.reds (v : Vec) : List (List Byte) := ((List.range 2).map v.red).filter (fun r => fieldAt r 0 1 != 0)
def Vec.masked (v : Vec) : Bool := v.reds.any (fun r => byteBit r 2 0)

/-- The element-mask rows and the length array, as ranges (R194). -/
def Vec.maskRanges (v : Vec) : List (Nat × Nat × Nat × Nat) :=
  if v.masked then [(fieldAt v.d 12 4, fieldAt v.d 16 4, v.mMax, ceilDiv v.n 8)] else []
def Vec.lenRanges (v : Vec) : List (Nat × Nat × Nat × Nat) := if v.lenEn then [(fieldAt v.d 8 4, 0, 1, 4 * v.mMax)] else []
def Vec.redRanges (v : Vec) : List (Nat × Nat × Nat × Nat) := v.reds.map (fun r => (fieldAt r 4 4, 0, 1, 4 * v.mMax))
def Vec.tableRanges (v : Vec) : List (Nat × Nat × Nat × Nat) :=
  if v.tableCount = 0 then [] else [(fieldAt v.d 20 4, 0, 1, 4 * v.tableCount)]

/-- The ranges that a chain or spar work order reads, with the input streams (R200 step 5). -/
def Vec.readLists (v : Vec) : List (Option (List Byte) × List (Nat × Nat)) :=
  ((List.range 4).map (fun j => (some (v.input j), piecesOf' (streamRanges false v.mMax v.n (v.input j))))) ++
    [(none, piecesOf' (v.maskRanges ++ v.lenRanges ++ v.tableRanges)), (none, [(v.vdesc, 320 + 8 * v.count)])]
where
  piecesOf' (rs : List (Nat × Nat × Nat × Nat)) : List (Nat × Nat) := rs.flatMap (fun r => rowsPieces r.1 r.2.1 r.2.2.1 r.2.2.2)

/-- The ranges that it writes, with the output streams: elements, then scales, then reductions. -/
def Vec.writeLists (v : Vec) : List (Option (List Byte) × List (Nat × Nat)) :=
  ((List.range 2).flatMap (fun o => (streamRanges true v.mMax v.n (v.output o)).map (fun r =>
    (some (v.output o), rowsPieces r.1 r.2.1 r.2.2.1 r.2.2.2)))) ++
    v.redRanges.map (fun r => (none, rowsPieces r.1 r.2.1 r.2.2.1 r.2.2.2))

/-- R33 on ranges of rows, in order. -/
def rangesCheck : List (Nat × Nat × Nat × Nat) → Chk Unit :=
  checkEach (fun r => spadRange r.1 (rowsExtent r.2.1 r.2.2.1 r.2.2.2))

/-- The instructions of the program that lie in the scratchpad: where it runs past its end, step 4 fails, after step 3 checked these. -/
def Vec.held (v : Vec) : Nat := min v.count ((v.d.length - 320) / 8)

/-- Steps 2 to 5 of R200 for a chain or a spar program. DESIGN CHOICE (log entry 80): the SOURCE selectors of the outputs are checked after both
output records and before the reductions. -/
def Vec.bodyCheck (v : Vec) : Chk Unit := do
  need (allZero (bytesAt v.d 288 32)) .descriptorInvalid
  checkEach (streamCheck false v.n) ((List.range 4).map v.input)
  checkEach (streamCheck true v.n) ((List.range 2).map v.output)
  need ((List.range 2).all (fun o => !stEn (v.output o) || v.selOk v.count (stSource (v.output o)))) .descriptorInvalid
  checkEach v.redCheck ((List.range 2).map v.red)
  checkEach v.instrCheck (List.range v.held)
  rangesCheck (((List.range 4).flatMap (fun j => streamRanges false v.mMax v.n (v.input j))) ++
    ((List.range 2).flatMap (fun o => streamRanges true v.mMax v.n (v.output o))) ++ v.maskRanges ++ v.lenRanges ++
    v.redRanges ++ v.tableRanges ++ [(v.vdesc + 320, 0, 1, 8 * v.count)])
  need (!vecOverlap v.readLists v.writeLists) .descriptorInvalid

/-- A small natural number as an FP32 word (R183). -/
def natFp32 (n : Nat) : Nat := rneR ((n : Nat) : Rat)

/-- The value of an operand selector: inputs are read as they are needed; `tmp` holds the stage results or the
temporaries (R183). -/
def State.selVal (s : State) (v : Vec) (tmp : List Nat) (r i sel : Nat) : Chk Nat :=
  if sel ≤ 3 then s.streamIn v.core (v.input sel) r i
  else if sel ≤ 0x0F then .ok (fieldAt v.d (32 + 4 * (sel - 8)) 4)
  else if sel ≤ 0x17 then .ok (tmp.getD (sel - 0x10) 0)
  else if sel ≤ 0x2F then .ok (tmp.getD (sel - 0x20) 0)
  else .ok (natFp32 (if sel = 0x30 then i else r))

/-- One stage or instruction on one element. -/
def State.instrVal (s : State) (v : Vec) (tmp : List Nat) (r i k : Nat) : Chk Nat := do
  let b := v.instr k
  let op := fieldAt b 0 1
  let mod := fieldAt b 5 1
  let arg (p : Nat) : Chk Nat := if p < opArity op then s.selVal v tmp r i (fieldAt b (2 + p) 1) else .ok 0
  let x ← arg 0
  let y ← arg 1
  let z ← arg 2
  if op = 0x30 then
    let c := s.coreAt v.core
    lutOp (coreBank c (if mod % 2 = 1 then 1 - c.active else c.active)) (bitOf mod 1) x y z
  else return laneOp v.dm1 op mod x y z

/-- The stage results of a chain, or the temporaries of a spar program, for one element: instructions `k` onwards. -/
def State.runElem (s : State) (v : Vec) (r i : Nat) : Nat → Nat → List Nat → Chk (List Nat)
  | 0, _, tmp => .ok tmp
  | n + 1, k, tmp => do
    let x ← s.instrVal v tmp r i k
    s.runElem v r i n (k + 1) (if v.mode = 1 then tmp.set (fieldAt (v.instr k) 1 1 - 0x20) x else tmp ++ [x])

/-- The results of the program for one element (R187, R188). -/
def State.elemTmp (s : State) (v : Vec) (r i : Nat) : Chk (List Nat) :=
  s.runElem v r i v.count 0 (if v.mode = 1 then List.replicate 16 0 else [])

/-- The value that a SOURCE selects for one element. -/
def State.elemVal (s : State) (v : Vec) (r i sel : Nat) : Chk Nat := do
  let tmp ← s.elemTmp v r i
  s.selVal v tmp r i sel

/-- The values of a row that a SOURCE selects. -/
def State.rowVals (s : State) (v : Vec) (r nr sel : Nat) : List (Chk Nat) := (List.range nr).map (fun i => s.elemVal v r i sel)

/-- The result of an empty reduction (R198). -/
def redEmpty (op : Nat) : Nat :=
  match op with
  | 2 => inf32 true | 3 => inf32 false | 4 | 5 => 0xFFFFFFFF | 6 => nan32
  | _ => 0

/-- Is `x` a better maximum (or minimum) than `y`, strictly (R196)? -/
def better32 (big : Bool) (x y : Nat) : Bool :=
  let lt (a b : Nat) : Bool := numLt (dec32 a) (dec32 b) || (isZero32 a && isZero32 b && sign32 a && !sign32 b)
  if big then lt y x else lt x y

/-- The best indexed element, the lowest index among equals (R196). -/
def best32 (big : Bool) (xs : List (Nat × Nat)) : Option (Nat × Nat) :=
  xs.foldl (fun a x => match a with
    | none => some x
    | some y => if better32 big x.2 y.2 then some x else some y) none

/-- A reduction over its taking-part elements, as (index, word) in increasing index (R195 to R198). -/
def reduce (op : Nat) (nanIgnore : Bool) (xs : List (Nat × Nat)) : Nat :=
  if op = 1 ∨ op = 6 ∨ op = 7 then
    if xs = [] then redEmpty op else
      let p := compSum (xs.map (fun x => (x.1, if op = 7 then numMul (dec32 x.2) (dec32 x.2) else dec32 x.2)))
      if op = 6 then
        match numAdd (dec32 p.1) (dec32 p.2) with
        | .fin t => rne32 (.fin (t / ((xs.length : Nat) : Rat)))
        | t => rne32 t
      else f32add p.1 p.2
  else if op = 8 then (xs.filter (fun x => !isZero32 x.2)).length
  else if op = 9 then (xs.filter (fun x => isNaN32 x.2)).length
  else if op = 10 then (xs.filter (fun x => isInf32 x.2)).length
  else
    let value := op == 2 || op == 3
    match (xs.filter (fun x => isNaN32 x.2)).head?, nanIgnore with
    | some x, false => if value then nan32 else x.1
    | _, _ => match best32 (op == 2 || op == 4) (xs.filter (fun x => !isNaN32 x.2)) with
      | none => redEmpty op
      | some x => if value then x.2 else x.1

/-- The result of one reduction record for one row. -/
def State.rowRed (s : State) (v : Vec) (r nr : Nat) (rec : List Byte) : Chk Nat := do
  let xs ← (List.range nr).mapM (fun i => do
    let x ← s.elemVal v r i (fieldAt rec 1 1)
    let on ← if byteBit rec 2 0 then s.maskBit v r i else .ok true
    return (i, x, on))
  return reduce (fieldAt rec 0 1) v.nanIgnore ((xs.filter (fun x => x.2.2)).map (fun x => (x.1, x.2.1)))

/-- Every input of an element is read before its outputs, whichever selectors name it (R176). -/
def State.rowReads (s : State) (v : Vec) (r nr : Nat) : Chk Unit :=
  checkEach (fun j => if stEn (v.input j) then checkEach (fun i => (s.streamIn v.core (v.input j) r i).map (fun _ => ())) (List.range nr)
    else .ok ()) (List.range 4)

/-- What one active row writes: the values of each output stream and the reduction results. -/
def State.rowOut (s : State) (v : Vec) (r : Nat) : Chk (List (List Nat) × List Nat) := do
  let nr ← s.rowLength v r
  s.rowReads v r nr
  let outs ← (List.range 2).mapM (fun o => if stEn (v.output o) then (s.rowVals v r nr (stSource (v.output o))).mapM id else .ok [])
  let reds ← v.reds.mapM (s.rowRed v r nr)
  return (outs, reds)

/-- Write the results of one row (R176, R181, R193). -/
def State.putRowOut (s : State) (v : Vec) (r : Nat) (p : List (List Nat) × List Nat) : State :=
  let s1 := (List.range 2).foldl (fun t o => t.streamOut v.core v.seed v.member o r (v.output o) (p.1.getD o [])) s
  (v.reds.zip p.2).foldl (fun t q => t.writeSpad v.core (fieldAt q.1 4 4 + 4 * r) (natLE 4 q.2)) s1

/-- A filled row (R199). -/
def State.fillRowOut (s : State) (v : Vec) (r : Nat) : State :=
  let s1 := (List.range 2).foldl (fun t o => t.streamFill v.core r v.n (v.output o)) s
  v.reds.foldl (fun t q => t.writeSpad v.core (fieldAt q 4 4 + 4 * r) (natLE 4 (redEmpty (fieldAt q 0 1)))) s1

/-- The would-be bytes of a row at or after a fault (R34). -/
def State.landRowOut (s0 s : State) (v : Vec) (r : Nat) : State :=
  match s0.rowLength v r with
  | .error _ => s
  | .ok nr =>
    let s1 := (List.range 2).foldl (fun t o => t.streamLand v.core v.seed v.member o r (v.output o)
      ((s0.rowVals v r nr (stSource (v.output o))).map (fun c => match c with | .ok x => some x | .error _ => none))) s
    v.reds.foldl (fun t q => match s0.rowRed v r nr q with
      | .ok x => t.landRow v.core (fieldAt q 4 4 + 4 * r) 32 [some x]
      | .error _ => t) s1

/-- The bytes that an active row reads: its length, and its elements, scales and mask bits below it (R194, R199). -/
def State.rowReadsOf (s : State) (v : Vec) (r : Nat) : List (Nat × Nat) :=
  (if v.lenEn then [(fieldAt v.d 8 4 + 4 * r, 4)] else []) ++
    match s.rowLength v r with
    | .error _ => []
    | .ok nr => (List.range 4).flatMap (fun j => streamReads (v.input j) r nr) ++
      (if v.masked then [(fieldAt v.d 12 4 + r * fieldAt v.d 16 4, ceilDiv nr 8)] else [])

/-- Rows in order until a fault, each active one meeting what stands in the words that it reads; then the rest may have landed in part. DESIGN CHOICE (log
entry 80): of a work order that fails, the FILL rows before the failing row are written and those after it are not (R199, R201). -/
def State.runRows (s0 : State) (v : Vec) : List Nat → State → State × Option Status
  | [], s => (s, none)
  | r :: rest, s =>
    if v.active r then
      let t := s.touchAll v.core (s0.rowReadsOf v r)
      match s0.rowOut v r with
      | .ok p => State.runRows s0 v rest (t.putRowOut v r p)
      | .error e => (((r :: rest).filter v.active).foldl (fun t q => s0.landRowOut t v q) t, some e)
    else State.runRows s0 v rest (if v.fill then s.fillRowOut v r else s)

/-- The entries that a table load reads (R191). -/
def State.tableLoad (s : State) (v : Vec) : Chk (List Nat) :=
  (List.range v.tableCount).mapM (fun i => do
    let b ← s.spadGet v.core (fieldAt v.d 20 4 + 4 * i) 4
    return leNat b)

/-- The standby bank after a load: entries and poison. Its length changes when the work order completes (R191). -/
def State.putTable (s : State) (core : Nat) (es : List Nat) : State :=
  if es = [] then s else
    let c := s.coreAt core
    let sb := 1 - c.active
    let t := coreBank c sb
    let n := es.length
    s.setCore core (setBank c sb
      { n := t.n, entries := (List.range n).foldl (fun m i => tabSet m i (es.getD i 0)) t.entries,
        poisoned := (if t.allPoisoned then List.range 2048 else t.poisoned).filter (fun i => decide (n ≤ i)), allPoisoned := false })

/-- The standby bank after a load that failed: each entry its former or its loaded value, n unchanged (R191). -/
def State.landTable (s : State) (v : Vec) : State :=
  let c := s.coreAt v.core
  let sb := 1 - c.active
  let t := coreBank c sb
  (List.range v.tableCount).foldl (fun u i =>
    match s.spadGet v.core (fieldAt v.d 20 4 + 4 * i) 4 with
    | .ok b => if Config.landed s.draws (2 ^ 60 + v.core * 4096 + sb * 2048 + i) then
        let cu := u.coreAt v.core
        let tu := coreBank cu sb
        u.setCore v.core (setBank cu sb { tu with
          entries := tabSet tu.entries i (leNat b),
          poisoned := (if tu.allPoisoned then List.range 2048 else tu.poisoned).filter (· ≠ i), allPoisoned := false })
      else u
    | .error _ => u) (s.setCore v.core (setBank c sb t))

/-- The run of a chain or spar program after its checks. DESIGN CHOICE (log entry 80): the table source is read whole before the streams, so that its
read failure decides where a stream has one too (R201). -/
def State.vecRun (s : State) (v : Vec) : Ran :=
  let t := s.touchAll v.core [(fieldAt v.d 20 4, 4 * v.tableCount)]
  match s.tableLoad v with
  | .error e => { s := ((List.range v.mMax).filter v.active).foldl (fun t r => s.landRowOut t v r) (t.landTable v), st := e }
  | .ok es =>
    let q := State.runRows s v (List.range v.mMax) t
    match q.2 with
    | some e => { s := q.1.landTable v, st := e }
    | none => { s := q.1.putTable v.core es, st := .ok, swap := v.tableSwap, table := es.length }

/-- The bytes of a vector descriptor after its first 64, as far as they lie in the scratchpad: the records, then COUNT instructions
(R178). -/
def vecRest (core vdesc count : Nat) (s : State) : Chk (List Byte) := do
  let records ← s.spadRead core (vdesc + 64) 256
  let program ← s.spadGet core (vdesc + 320) (min (8 * count) (spadBytes - (vdesc + 320)))
  return records ++ program

/-- The descriptor of a vector work order: the header, then what its mode and COUNT add (R178, R200 step 1). DESIGN CHOICE (log entry 80): a read
failure beyond the header decides after step 1 and before step 2. -/
def State.vecHeader (s : State) (core : Nat) (w : WorkOrder) : Chk Vec := do
  let h ← s.spadRead core (fieldAt w.rcd 60 4) 64
  let v : Vec := ⟨core, w.member, w.rcd, h⟩
  v.headerCheck
  let rest ← vecRest core v.vdesc v.count s
  return { v with d := h ++ rest }

/-- What the reads of a vector descriptor meet in the scratchpad: its header, and the rest of one whose header passes (R101). -/
def State.touchDesc (s : State) (core : Nat) (w : WorkOrder) : State :=
  let at_ := fieldAt w.rcd 60 4
  let s1 := s.touchSpad core at_ 64
  match s.spadRead core at_ 64 with
  | .error _ => s1
  | .ok h => match (Vec.mk core w.member w.rcd h).headerCheck with
    | .error _ => s1
    | .ok _ => s1.touchSpad core (at_ + 64) (min (256 + 8 * fieldAt h 1 1) (spadBytes - (at_ + 64)))

/-- A chain or spar work order (R200, R201). -/
def State.vecWork (s : State) (core : Nat) (w : WorkOrder) : Ran :=
  let t := s.touchDesc core w
  match s.vecHeader core w with
  | .error e => { s := t, st := e }
  | .ok v =>
    match v.bodyCheck with
    | .error e => { s := t, st := e }
    | .ok _ => t.vecRun v

/-- The MODE that a vector work order's descriptor names, as far as it can be read: 0 otherwise (R178). -/
def State.vecMode (s : State) (core : Nat) (w : WorkOrder) : Nat :=
  match s.spadGet core (fieldAt w.rcd 60 4) 64 with
  | .ok h => if fieldAt h 0 1 ≤ 3 then fieldAt h 0 1 else 0
  | .error _ => 0

/-- FUSED_CHAIN (R187): the vector work order in progress runs its chain. A descriptor that cannot be read, or whose
MODE names nothing, fails here too. -/
def execFusedChain (core : Nat) (s : State) : Host.Outcome State Fault Refusal :=
  .next (s.runWork core (fun w => fieldAt w.rcd 0 1 == 2 && s.vecMode core w == 0) (fun t w => t.vecWork core w))

/-- SPAR_PROGRAM (R188): the vector work order in progress runs its spar program. -/
def execSparProgram (core : Nat) (s : State) : Host.Outcome State Fault Refusal :=
  .next (s.runWork core (fun w => fieldAt w.rcd 0 1 == 2 && s.vecMode core w == 1) (fun t w => t.vecWork core w))

end Sys2Proof.Machine
end

