-- ==== Sys2Proof/Machine/RowNorm.lean ====
section
/-! DEFINITION. Row normalisation (chapter 10): SOFTMAX, PARTIAL, MERGE, APPLY, LAYERNORM and RMSNORM, partial states and
their merging, statistics, filled rows, checks. -/

namespace Sys2Proof.Machine

/- The operation block (R219), as fields of the descriptor. -/

def Vec.op (v : Vec) : Nat := fieldAt v.d 64 1
def Vec.emaskEn (v : Vec) : Bool := byteBit v.d 65 5
def Vec.epsSrc (v : Vec) : Bool := byteBit v.d 65 4
def Vec.final (v : Vec) : Bool := byteBit v.d 65 3
def Vec.statEn (v : Vec) : Bool := byteBit v.d 65 2
def Vec.causalEn (v : Vec) : Bool := byteBit v.d 65 1
def Vec.capEn (v : Vec) : Bool := byteBit v.d 65 0
def Vec.parts (v : Vec) : Nat := fieldAt v.d 66 2
def Vec.rnIn (v : Vec) : List Byte := bytesAt v.d 96 32
def Vec.rnOut (v : Vec) : List Byte := bytesAt v.d 128 32
def Vec.gamma (v : Vec) : List Byte := bytesAt v.d 160 32
def Vec.beta (v : Vec) : List Byte := bytesAt v.d 192 32
def Vec.k (v : Vec) (j : Nat) : Nat := fieldAt v.d (32 + 4 * j) 4

/-- Is the operation one of SOFTMAX, PARTIAL and APPLY; is it a norm? -/
def Vec.isAttn (v : Vec) : Bool := v.op == 1 || v.op == 2 || v.op == 4
def Vec.isNorm (v : Vec) : Bool := v.op == 5 || v.op == 6

/-- Step 1 of R232: the fields of R219 and R220, the lowest byte first (R534). A MERGE with N above 1,024 and LEN_EN = 1 has two faults
that count at byte 64; the model takes LENGTH_RANGE first (DESIGN CHOICE, log entry 22). A PARTS that its OP does not allow gives
DESCRIPTOR_INVALID (DESIGN CHOICE, log entry 80). -/
def Vec.rnFields (v : Vec) : Chk Unit := do
  need (!v.nanIgnore && !v.tableSwap && v.dm1 == 0 && v.tableCount == 0) .descriptorInvalid
  need (decide (1 ≤ v.op ∧ v.op ≤ 6)) .descriptorInvalid
  need (v.op != 3 || decide (v.n ≤ 1024)) .lengthRange
  need (v.op != 3 || !v.lenEn) .descriptorInvalid
  need (fieldAt v.d 65 1 / 64 == 0 && allZero (bytesAt v.d 76 20) && allZero (bytesAt v.d 248 72)) .descriptorInvalid
  need ((v.isAttn || (!v.emaskEn && !v.causalEn && !v.capEn)) && (v.isNorm || !v.epsSrc) && (v.op == 3 || !v.final)) .descriptorInvalid
  need (if v.op = 3 then decide (1 ≤ v.parts ∧ v.parts ≤ 64) else v.parts == 0) .descriptorInvalid
  need (!(v.epsSrc && fieldAt v.rnOut 2 1 % 4 == 2)) .descriptorInvalid
  need (!v.capEn || (numIsFinite (dec32 (v.k 1)) && numLt (.zero false) (dec32 (v.k 1)))) .descriptorInvalid
  need (stEn v.rnIn == (v.op != 3)) .descriptorInvalid
  need (match v.op with
    | 2 => true
    | 3 => stEn v.rnOut == v.final
    | _ => stEn v.rnOut) .descriptorInvalid
  need (v.isNorm || (!stEn v.gamma && !stEn v.beta)) .descriptorInvalid

/-- The bytes of a record of a partial state: m and l, and D values in MERGE (R227). -/
def Vec.stateLen (v : Vec) : Nat := if v.op = 3 then 8 + 4 * v.n else 8

/-- The partial-state records, as pieces; and their extent (R232 step 3). -/
def Vec.statePieces (v : Vec) : List (Nat × Nat) :=
  if v.op = 2 ∨ v.op = 4 then rowsPieces (fieldAt v.d 224 4) (fieldAt v.d 228 4) v.mMax 8
  else if v.op = 3 then (List.range v.mMax).flatMap (fun r =>
    rowsPieces (fieldAt v.d 224 4 + r * fieldAt v.d 228 4) (fieldAt v.d 232 4) v.parts v.stateLen)
  else []
def Vec.stateExtent (v : Vec) : Nat :=
  (v.mMax - 1) * fieldAt v.d 228 4 + (v.parts - 1) * fieldAt v.d 232 4 + v.stateLen

/-- The merged records and the statistics records, as ranges. -/
def Vec.mergedRanges (v : Vec) : List (Nat × Nat × Nat × Nat) :=
  if v.op = 3 ∧ !v.final then [(fieldAt v.d 240 4, fieldAt v.d 244 4, v.mMax, 8 + 4 * v.n)] else []
def Vec.statRanges (v : Vec) : List (Nat × Nat × Nat × Nat) := if v.statEn then [(fieldAt v.d 236 4, 0, 1, 16 * v.mMax)] else []
def Vec.rnMaskRanges (v : Vec) : List (Nat × Nat × Nat × Nat) :=
  if v.emaskEn then [(fieldAt v.d 12 4, fieldAt v.d 16 4, v.mMax, ceilDiv v.n 8)] else []

/-- The bytes of ranges of rows. -/
def rangePieces (rs : List (Nat × Nat × Nat × Nat)) : List (Nat × Nat) := rs.flatMap (fun r => rowsPieces r.1 r.2.1 r.2.2.1 r.2.2.2)

/-- Ranges read and written (R232 step 4). -/
def Vec.rnReads (v : Vec) : List (Option (List Byte) × List (Nat × Nat)) :=
  [(some v.rnIn, rangePieces (streamRanges false v.mMax v.n v.rnIn)),
   (none, rangePieces (streamRanges false v.mMax v.n v.gamma ++ streamRanges false v.mMax v.n v.beta ++ v.rnMaskRanges ++ v.lenRanges)),
   (none, if v.op = 2 then [] else v.statePieces), (none, [(v.vdesc, 320)])]
def Vec.rnWrites (v : Vec) : List (Option (List Byte) × List (Nat × Nat)) :=
  (streamRanges true v.mMax v.n v.rnOut).map (fun r => (some v.rnOut, rowsPieces r.1 r.2.1 r.2.2.1 r.2.2.2)) ++
    [(none, if v.op = 2 then v.statePieces else []), (none, rangePieces v.mergedRanges), (none, rangePieces v.statRanges)]

/-- Steps 1 to 4 of R232. A SCALAR stream's range is that of N elements in step 3 and of one in step 4 (DEDUCED, log entry 62). -/
def Vec.rnCheck (v : Vec) : Chk Unit := do
  v.rnFields
  checkEach (fun p : Bool × List Byte => streamBytes p.1 v.n p.2) [(false, v.rnIn), (true, v.rnOut), (false, v.gamma), (false, v.beta)]
  rangesCheck ([v.rnIn, v.rnOut, v.gamma, v.beta].flatMap (streamRangesOf v.mMax v.n) ++ v.rnMaskRanges ++ v.lenRanges)
  (if v.statePieces = [] then .ok () else spadRange (fieldAt v.d 224 4) v.stateExtent)
  rangesCheck (v.mergedRanges ++ v.statRanges ++ [(v.vdesc, 0, 1, 320)])
  need (!vecOverlap v.rnReads v.rnWrites && (v.op != 2 && v.op != 3 || !selfMeet (if v.op = 2 then v.statePieces else rangePieces v.mergedRanges)))
    .descriptorInvalid

/- Scores and row states (R221 to R224). -/

/-- One rounding of the exact quotient of a word and a positive finite one (R222, R224). -/
def divPos32 (a b : Nat) : Nat :=
  match dec32 a with
  | .fin x => rne32 (.fin (x / rat32 b))
  | x => rne32 x

/-- The score of an element (R222). -/
def Vec.score (v : Vec) (x : Nat) : Nat :=
  let u := f32mul x (v.k 0)
  if v.capEn then f32mul (v.k 1) (sfTanh (divPos32 u (v.k 1))) else u

/-- Does position i of row r take part, but for the mask (R221)? -/
def Vec.inWindow (v : Vec) (r i : Nat) : Bool :=
  if v.causalEn then
    let lim : Int := (r : Int) + signedOf 32 (fieldAt v.d 68 4)
    let w := fieldAt v.d 72 4
    decide ((i : Int) ≤ lim) && (w == 0 || decide (lim - (w : Int) < (i : Int)))
  else true

/-- Is a word −∞; is it +∞? -/
def isNegInf (x : Nat) : Bool := isInf32 x && sign32 x
def isPosInf (x : Nat) : Bool := isInf32 x && !sign32 x

/-- exp2_core of the scaled difference of two finite words (R223, R228). -/
def expDiff (z m : Nat) : Nat := exp2Core ((rat32 z - rat32 m) * (cstL2E : Rat) * pow2 (-30)).floor

/-- The exponential of a score under a state's m (R223, R224). -/
def expUnder (m z : Nat) : Nat :=
  if isNaN32 m then nan32
  else if isInf32 m then (if !sign32 m && isPosInf z then one32 else 0)
  else if isNaN32 z then nan32
  else if isInf32 z then (if sign32 z then 0 else inf32 false)
  else expDiff z m

/-- The state of a row over its taking-part positions, as (index, score) ascending (R223). -/
def rowState (zs : List (Nat × Nat)) : Nat × Nat :=
  if zs = [] then (inf32 true, 0)
  else if zs.any (fun z => isNaN32 z.2) then (nan32, nan32)
  else
    let k := (zs.filter (fun z => isPosInf z.2)).length
    if k ≠ 0 then (inf32 false, natFp32 k)
    else match best32 true zs with
      | none => (inf32 true, 0)
      | some m =>
        if isNegInf m.2 then (inf32 true, 0)
        else
          let p := compSum (zs.map (fun z => (z.1, dec32 (expUnder m.2 z.2))))
          (m.2, f32add p.1 p.2)

/-- The probability at a position (R224): e is its exponential or merged value, `part` whether it takes part. -/
def probOf (m l : Nat) (part : Bool) (e : Nat) : Nat :=
  if isNaN32 m then nan32
  else if isNegInf m then 0
  else if isNaN32 l || isInf32 l || isZero32 l || sign32 l then nan32
  else if !part then 0
  else if isInf32 m then divPos32 e l
  else f32mul e (sfRcp l)

/-- The log-sum-exp (R225). -/
def lseOf (m l : Nat) : Nat :=
  if isNaN32 m then nan32
  else if isInf32 m then m
  else if isNaN32 l || isInf32 l || isZero32 l || sign32 l then nan32
  else
    let u := unpack l
    let ew := log2Fixed u.2.1 u.2.2
    rne32 (numAdd (dec32 m) (numOfRat (((ew.1 * (2 ^ 65 : Nat) + ew.2) * cstLn2 : Int) * pow2 (-129))))

/-- A partial state: m, l and o (R227). -/
structure Partial where
  m : Nat
  l : Nat
  o : List (Chk Nat)

/-- Two known words combined. -/
def bothOk (f : Nat → Nat → Nat) (a b : Chk Nat) : Chk Nat := do
  let x ← a
  let y ← b
  return f x y

/-- α_a × x + α_b × y with one rounding (R228). -/
def axpy2 (a b x y : Nat) : Nat := rne32 (numAdd (numMul (dec32 a) (dec32 x)) (numMul (dec32 b) (dec32 y)))

/-- The larger of two finite words (R228). -/
def max32 (a b : Nat) : Nat := minMax32 true a b

/-- merge of R228. -/
def mergePartial (a b : Partial) : Partial :=
  if isNaN32 a.m || isNaN32 b.m then ⟨nan32, nan32, a.o.map (fun _ => .ok nan32)⟩
  else if isNegInf b.m then a
  else if isNegInf a.m then b
  else if isPosInf a.m && isPosInf b.m then ⟨inf32 false, f32add a.l b.l, List.zipWith (bothOk f32add) a.o b.o⟩
  else if isPosInf a.m then a
  else if isPosInf b.m then b
  else
    let m := max32 a.m b.m
    let ea := expDiff a.m m
    let eb := expDiff b.m m
    ⟨m, axpy2 ea eb a.l b.l, List.zipWith (bothOk (axpy2 ea eb)) a.o b.o⟩

/- Rows. -/

/-- What one row writes: the values of OUT, and records by offset. -/
structure RowRes where
  vals : List (Chk Nat)
  recs : List (Nat × Chk (List Byte))

/-- The first fault among the parts of a row's result. -/
def RowRes.fault (p : RowRes) : Option Status :=
  match p.vals.findSome? (fun c => match c with | .error e => some e | .ok _ => none) with
  | some e => some e
  | none => p.recs.findSome? (fun c => match c.2 with | .error e => some e | .ok _ => none)

/-- FP32 words as bytes. -/
def words (l : List Nat) : List Byte := l.flatMap (natLE 4)

/-- The statistics record of a row, when there is one (R225). -/
def Vec.stat (v : Vec) (r : Nat) (ws : List Nat) : List (Nat × Chk (List Byte)) :=
  if v.statEn then [(fieldAt v.d 236 4 + 16 * r, .ok (words ws))] else []

/-- A word of a record; every NaN is the canonical one (R145). -/
def State.recWord (s : State) (core off : Nat) : Chk Nat := do
  let b ← s.spadGet core off 4
  return (if isNaN32 (leNat b) then nan32 else leNat b)

/-- The offset of partial k of row r (R227). -/
def Vec.stateAt (v : Vec) (r k : Nat) : Nat := fieldAt v.d 224 4 + r * fieldAt v.d 228 4 + k * fieldAt v.d 232 4

/-- Which positions of a row take part (R221). -/
def State.rnParts (s : State) (v : Vec) (r nr : Nat) : Chk (List Bool) :=
  (List.range nr).mapM (fun i => do
    let on ← if v.emaskEn then s.maskBit v r i else .ok true
    return (on && v.inWindow r i))

/-- The scores of the taking-part positions, with their index; every element below the row's length is read. -/
def State.rnScores (s : State) (v : Vec) (r nr : Nat) (part : List Bool) : Chk (List (Nat × Nat)) := do
  let xs ← (List.range nr).mapM (fun i => s.streamIn v.core v.rnIn r i)
  return ((List.range nr).filter (fun i => part.getD i false)).map (fun i => (i, v.score (xs.getD i 0)))

/-- The state that APPLY takes from the row's state record (R224). -/
def State.rnGiven (s : State) (v : Vec) (r : Nat) (zs : List (Nat × Nat)) : Chk (Nat × Nat) := do
  let m ← s.recWord v.core (v.stateAt r 0)
  let l ← s.recWord v.core (v.stateAt r 0 + 4)
  return (if zs.any (fun z => isNaN32 z.2) then (nan32, nan32) else (m, l))

/-- The row of SOFTMAX, PARTIAL or APPLY (R223, R224). -/
def State.rnAttn (s : State) (v : Vec) (r : Nat) : Chk RowRes := do
  let nr ← s.rowLength v r
  let part ← s.rnParts v r nr
  let zs ← s.rnScores v r nr part
  let st ← if v.op = 4 then s.rnGiven v r zs else .ok (rowState zs)
  let e (i : Nat) : Nat := match zs.find? (fun z => z.1 == i) with
    | some z => if isNegInf st.1 then 0 else expUnder st.1 z.2
    | none => if isNaN32 st.1 then nan32 else 0
  let vals := (List.range nr).map (fun i => if v.op = 2 then e i else probOf st.1 st.2 (part.getD i false) (e i))
  return ⟨if stEn v.rnOut then vals.map .ok else [],
    (if v.op = 2 then [(v.stateAt r 0, .ok (words [st.1, st.2]))] else []) ++
      v.stat r [st.1, st.2, lseOf st.1 st.2, zs.length]⟩

/-- Partial k of row r (R227). -/
def State.rnPartial (s : State) (v : Vec) (r k : Nat) : Chk Partial := do
  let m ← s.recWord v.core (v.stateAt r k)
  let l ← s.recWord v.core (v.stateAt r k + 4)
  return ⟨m, l, (List.range v.n).map (fun j => s.recWord v.core (v.stateAt r k + 8 + 4 * j))⟩

/-- The row of MERGE (R229). -/
def State.rnMerge (s : State) (v : Vec) (r : Nat) : Chk RowRes := do
  let ps ← (List.range v.parts).mapM (s.rnPartial v r)
  let bad : Option Status := ps.findSome? (fun p => p.o.findSome? (fun c => match c with | .error e => some e | .ok _ => none))
  let c := (ps.drop 1).foldl mergePartial (ps.headD ⟨inf32 true, 0, []⟩)
  let fail : List (Nat × Chk (List Byte)) := match bad with | some e => [(0, .error e)] | none => []
  let stat := v.stat r [c.m, c.l, lseOf c.m c.l, (ps.filter (fun p => !isNegInf p.m)).length]
  if v.final then return ⟨c.o.map (fun x => x.map (probOf c.m c.l true)), fail ++ stat⟩
  else
    let at0 := fieldAt v.d 240 4 + r * fieldAt v.d 244 4
    return ⟨[], fail ++ (at0, .ok (words [c.m, c.l])) ::
      ((List.range v.n).map (fun j => (at0 + 8 + 4 * j, (c.o.getD j (.ok 0)).map (natLE 4)))) ++ stat⟩

/-- The mean of values from their compensated sum (R195): one rounding of the exact quotient. -/
def meanOf (p : Slot) (n : Nat) : Nat :=
  match numAdd (dec32 p.1) (dec32 p.2) with
  | .fin t => rne32 (.fin (t / ((n : Nat) : Rat)))
  | t => rne32 t

/-- Is a word NaN or infinite? -/
def notFinite32 (x : Nat) : Bool := isNaN32 x || isInf32 x

/-- The row of LAYERNORM or RMSNORM (R230). A row that holds a NaN or an infinity writes NaN throughout, as the rule says, though the
pseudocode gives an RMSNORM row with an infinity zeros at its finite elements (DEDUCED, log entry 61). -/
def State.rnNorm (s : State) (v : Vec) (r : Nat) : Chk RowRes := do
  let nr ← s.rowLength v r
  if nr = 0 then return ⟨[], v.stat r [nan32, 0, 0, 0]⟩
  else
    let xs ← (List.range nr).mapM (fun i => s.streamIn v.core v.rnIn r i)
    let ix (f : Nat → Num) : List (Nat × Num) := (List.range nr).map (fun i => (i, f i))
    let x (i : Nat) : Num := dec32 (xs.getD i 0)
    let mu := if v.op = 5 then meanOf (compSum (ix x)) nr else 0
    let d (i : Nat) : Num := numAdd (x i) (numNegate (dec32 mu))
    let var := meanOf (compSum (ix (fun i => numMul (d i) (d i)))) nr
    let eps := if v.epsSrc then v.seed else v.k 2
    let rho := sfRsqrt (f32add var eps)
    let y (i : Nat) : Chk Nat := do
      let g ← if stEn v.gamma then s.streamIn v.core v.gamma r i else .ok one32
      let b ← if stEn v.beta then s.streamIn v.core v.beta r i else .ok 0
      return (if xs.any notFinite32 then nan32 else rne32 (numAdd (numMul (numMul (d i) (dec32 rho)) (dec32 g)) (dec32 b)))
    return ⟨(List.range nr).map y, v.stat r [mu, var, rho, nr]⟩

/-- The bytes that an active row reads (R194, R231). -/
def State.rnRowReads (s : State) (v : Vec) (r : Nat) : List (Nat × Nat) :=
  if v.op = 3 then (List.range v.parts).map (fun k => (v.stateAt r k, v.stateLen))
  else (if v.lenEn then [(fieldAt v.d 8 4 + 4 * r, 4)] else []) ++
    match s.rowLength v r with
    | .error _ => []
    | .ok nr => [v.rnIn, v.gamma, v.beta].flatMap (fun st => streamReads st r nr) ++
      (if v.emaskEn then [(fieldAt v.d 12 4 + r * fieldAt v.d 16 4, ceilDiv nr 8)] else []) ++
      (if v.op = 4 then [(v.stateAt r 0, 8)] else [])

/-- One active row of an operation. -/
def State.rnRow (s : State) (v : Vec) (r : Nat) : Chk RowRes :=
  if v.op = 3 then s.rnMerge v r else if v.isNorm then s.rnNorm v r else s.rnAttn v r

/-- Write a row whose parts are all known (R220). -/
def State.rnPut (s : State) (v : Vec) (r : Nat) (p : RowRes) : State :=
  let s1 := s.streamOut v.core v.seed v.member 0 r v.rnOut (p.vals.map (fun c => match c with | .ok x => x | .error _ => 0))
  p.recs.foldl (fun t q => match q.2 with | .ok b => t.writeSpad v.core q.1 b | .error _ => t) s1

/-- A filled row (R231). -/
def State.rnFill (s : State) (v : Vec) (r : Nat) : State :=
  let s1 := s.streamFill v.core r v.n v.rnOut
  let recs := (if v.op = 2 then [(v.stateAt r 0, words [inf32 true, 0])] else []) ++
    (if v.op = 3 ∧ !v.final then
      [(fieldAt v.d 240 4 + r * fieldAt v.d 244 4, words (inf32 true :: 0 :: List.replicate v.n 0))] else []) ++
    (if v.statEn then [(fieldAt v.d 236 4 + 16 * r, words (if v.isNorm then [nan32, 0, 0, 0] else [inf32 true, 0, inf32 true, 0]))] else [])
  recs.foldl (fun t q => t.writeSpad v.core q.1 q.2) s1

/-- The would-be bytes of a row at or after a fault (R34). -/
def State.rowLand (s : State) (v : Vec) (r : Nat) (c : Chk RowRes) : State :=
  match c with
  | .error _ => s
  | .ok p =>
    let s1 := s.streamLand v.core v.seed v.member 0 r v.rnOut (p.vals.map (fun c => match c with | .ok x => some x | .error _ => none))
    p.recs.foldl (fun t q => match q.2 with
      | .ok b => t.landRow v.core q.1 8 (b.map (fun x => some x.toNat))
      | .error _ => t) s1

/-- Rows in order until a fault: what each active row reads and writes, and what an inactive one gets (R199, R201). -/
def rowsRun (v : Vec) (reads : Nat → List (Nat × Nat)) (row : Nat → Chk RowRes) (fillRow : State → Nat → State) : List Nat → State → Ran
  | [], s => { s := s, st := .ok }
  | r :: rest, s =>
    if v.active r then
      let u := s.touchAll v.core (reads r)
      let fail (e : Status) : Ran := { s := ((r :: rest).filter v.active).foldl (fun t q => t.rowLand v q (row q)) u, st := e }
      match row r with
      | .error e => fail e
      | .ok p => match p.fault with
        | some e => fail e
        | none => rowsRun v reads row fillRow rest (u.rnPut v r p)
    else rowsRun v reads row fillRow rest (fillRow s r)

/-- A row-normalisation work order: steps 1 to 4 of R232 after step 1 of R200, then its rows. -/
def State.rnWork (s : State) (core : Nat) (w : WorkOrder) : Ran :=
  let t := s.touchDesc core w
  match s.vecHeader core w with
  | .error e => { s := t, st := e }
  | .ok v =>
    match v.rnCheck with
    | .error e => { s := t, st := e }
    | .ok _ => rowsRun v (s.rnRowReads v) (s.rnRow v) (fun t r => if v.fill then t.rnFill v r else t) (List.range v.mMax) t

/-- The OP of the row-normalisation work order in progress, 1 (SOFTMAX) where it names none (R219). -/
def State.rnOp (s : State) (core : Nat) (w : WorkOrder) : Nat :=
  match s.spadGet core (fieldAt w.rcd 60 4 + 64) 1 with
  | .ok b => if 1 ≤ leNat b ∧ leNat b ≤ 6 then leNat b else 1
  | .error _ => 1

/-- Is a work order a row normalisation of an operation? -/
def State.isRn (s : State) (core op : Nat) (w : WorkOrder) : Bool :=
  fieldAt w.rcd 0 1 == 2 && s.vecMode core w == 2 && s.rnOp core w == op

/-- Run the row normalisation of an operation that is in progress at a core. -/
def State.rnRun (s : State) (core op : Nat) : State := s.runWork core (s.isRn core op) (fun t w => t.rnWork core w)

/-- SOFTMAX (R223, R224). A block whose OP names nothing fails here. -/
def execSoftmax (core : Nat) (s : State) : Host.Outcome State Fault Refusal := .next (s.rnRun core 1)

/-- PARTIAL (R223). -/
def execPartialState (core : Nat) (s : State) : Host.Outcome State Fault Refusal := .next (s.rnRun core 2)

/-- MERGE (R229). -/
def execMergeStates (core : Nat) (s : State) : Host.Outcome State Fault Refusal := .next (s.rnRun core 3)

/-- APPLY (R224). -/
def execApplyState (core : Nat) (s : State) : Host.Outcome State Fault Refusal := .next (s.rnRun core 4)

/-- LAYERNORM (R230). -/
def execLayerNorm (core : Nat) (s : State) : Host.Outcome State Fault Refusal := .next (s.rnRun core 5)

/-- RMSNORM (R230). -/
def execRmsNorm (core : Nat) (s : State) : Host.Outcome State Fault Refusal := .next (s.rnRun core 6)

end Sys2Proof.Machine
end

