-- ==== Sys2Proof/Machine/Router.lean ====
section
/-! DEFINITION. The router: SELECT, ADMIT and COMBINE (R301 to R308), and the exit test (R321 to R323). -/

namespace Sys2Proof.Machine

/- The operation block of MODE 0x03 (R301). -/

def Vec.rtPre (v : Vec) : Nat := fieldAt v.d 65 1 / 16 % 4
def Vec.rtPostNorm (v : Vec) : Bool := byteBit v.d 65 3
def Vec.rtRenorm (v : Vec) : Bool := byteBit v.d 65 2
def Vec.rtAccum (v : Vec) : Bool := byteBit v.d 65 1
def Vec.rtK (v : Vec) : Nat := fieldAt v.d 66 1
def Vec.rtCap (v : Vec) : Nat := fieldAt v.d 68 4
def Vec.rtAssign (v : Vec) (r : Nat) : Nat := fieldAt v.d 72 4 + r * fieldAt v.d 76 4
def Vec.rtList (v : Vec) : Nat := fieldAt v.d 80 4
def Vec.rtListStride (v : Vec) : Nat := fieldAt v.d 84 4
def Vec.rtTelem (v : Vec) : Nat := fieldAt v.d 88 4
def Vec.rtSlotStride (v : Vec) : Nat := fieldAt v.d 92 4
def Vec.rtScaleStride (v : Vec) : Nat := fieldAt v.d 192 4
/-- RESID stands where the norms have GAMMA. -/
def Vec.rtResid (v : Vec) : List Byte := v.gamma

/-- A 32-bit field of the block that an operation uses, aligned, or else 0. -/
def Vec.rtField (v : Vec) (used : Bool) (off align : Nat) : Chk Unit :=
  need (if used then fieldAt v.d off 4 % align == 0 else fieldAt v.d off 4 == 0) .descriptorInvalid

/-- Step 1 of R308: the fields of R301, the lowest byte first (R534). An ADMIT with FILL whose N is out of range has two faults that count
at byte 64; the model takes LENGTH_RANGE first (DESIGN CHOICE, log entry 22). -/
def Vec.rtFields (v : Vec) : Chk Unit := do
  let isAdmit := v.op == 2
  let combine := v.op == 3
  need (!v.lenEn && !v.tableSwap && v.dm1 == 0 && !v.nanIgnore && v.tableCount == 0) .descriptorInvalid
  need (decide (1 ≤ v.op ∧ v.op ≤ 3)) .descriptorInvalid
  need (combine || decide (1 ≤ v.n ∧ v.n ≤ 512)) .lengthRange
  need (!(isAdmit && v.fill)) .descriptorInvalid
  need (fieldAt v.d 65 1 / 64 == 0 && !byteBit v.d 65 0 && (if v.op = 1 then v.rtPre != 3 else v.rtPre == 0 && !v.rtPostNorm) &&
    (isAdmit || (!v.rtRenorm && !v.rtAccum))) .descriptorInvalid
  need (decide (1 ≤ v.rtK ∧ v.rtK ≤ 8) && (combine || decide (v.rtK ≤ v.n)) && fieldAt v.d 67 1 == 0) .descriptorInvalid
  need (if isAdmit then decide (1 ≤ v.rtCap ∧ v.rtCap ≤ 65535) else v.rtCap == 0) .descriptorInvalid
  v.rtField true 72 16
  need (decide (16 * v.rtK ≤ fieldAt v.d 76 4)) .descriptorInvalid
  v.rtField isAdmit 80 4
  v.rtField isAdmit 84 1
  need (!isAdmit || decide (4 * v.rtCap ≤ v.rtListStride)) .descriptorInvalid
  v.rtField isAdmit 88 16
  v.rtField combine 92 1
  need (stEn v.rnIn == !isAdmit && stEn v.rnOut == combine && (combine || !stEn v.rtResid)) .descriptorInvalid
  v.rtField (combine && stBlock v.rnIn != 0) 192 1
  need (allZero (bytesAt v.d 196 124)) .descriptorInvalid

/-- The ranges of COMBINE's return slot j: R180's, each moved by its slot stride (R307). -/
def Vec.rtSlotRanges (v : Vec) (j : Nat) : List (Nat × Nat × Nat × Nat) :=
  match streamRanges false v.mMax v.n v.rnIn with
  | [] => []
  | e :: sc => (e.1 + j * v.rtSlotStride, e.2) :: sc.map (fun q => (q.1 + j * v.rtScaleStride, q.2))

/-- The ranges of every slot that an operation reads; SELECT has the one of its logits. -/
def Vec.rtInRanges (v : Vec) : List (Nat × Nat × Nat × Nat) :=
  if v.op = 3 then (List.range v.rtK).flatMap v.rtSlotRanges else streamRanges false v.mMax v.n v.rnIn

/-- Assignment rows, lists and telemetry block (R308 step 3). -/
def Vec.rtAssignRanges (v : Vec) : List (Nat × Nat × Nat × Nat) := [(v.rtAssign 0, fieldAt v.d 76 4, v.mMax, 16 * v.rtK)]
def Vec.rtAdmitRanges (v : Vec) : List (Nat × Nat × Nat × Nat) :=
  if v.op = 2 then [(v.rtList, 0, 1, v.n * v.rtListStride), (v.rtTelem, 0, 1, 16 + 16 * v.n)] else []

/-- Ranges read and written (R308 step 4). The rows of ADMIT are one range, read and written in place. -/
def Vec.rtReads (v : Vec) : List (Option (List Byte) × List (Nat × Nat)) :=
  [(some v.rnIn, rangePieces (if v.op = 3 then v.rtSlotRanges 0 else v.rtInRanges)),
   (none, if v.op = 3 then (List.range (v.rtK - 1)).flatMap (fun j => rangePieces (v.rtSlotRanges (j + 1))) else []),
   (some v.rtResid, rangePieces (streamRanges false v.mMax v.n v.rtResid)),
   (none, if v.op = 3 then rangePieces v.rtAssignRanges else []), (none, [(v.vdesc, 320)])]
def Vec.rtWrites (v : Vec) : List (Option (List Byte) × List (Nat × Nat)) :=
  (streamRanges true v.mMax v.n v.rnOut).map (fun r => (some v.rnOut, rangePieces [r])) ++
    [(none, if v.op = 3 then [] else rangePieces v.rtAssignRanges)] ++ v.rtAdmitRanges.map (fun r => (none, rangePieces [r]))

/-- R308. -/
def Vec.rtCheck (v : Vec) : Chk Unit := do
  v.rtFields
  checkEach (fun p : Bool × List Byte => streamBytes p.1 v.n p.2) [(false, v.rnIn), (true, v.rnOut), (false, v.rtResid)]
  rangesCheck (v.rtAssignRanges ++ v.rtInRanges ++ streamRanges true v.mMax v.n v.rnOut ++
    streamRanges false v.mMax v.n v.rtResid ++ v.rtAdmitRanges ++ [(v.vdesc, 0, 1, 320)])
  need (!vecOverlap v.rtReads v.rtWrites) .descriptorInvalid

/- Assignment entries (R302) and ranking. -/

/-- An assignment entry. -/
structure Assign where
  score : Nat
  weight : Nat
  expert : Nat
  pos : Nat
  state : Nat
  deriving DecidableEq, Repr

/-- The entry of no expert (R303). -/
def assignNone : Assign := ⟨0, 0, 0xFFFF, 0xFFFF, 3⟩

/-- A word as the device writes it: every NaN is the canonical one (R145). -/
def canon32 (x : Nat) : Nat := if isNaN32 x then nan32 else x

/-- The 16 bytes of an entry. -/
def assignBytes (a : Assign) : List Byte :=
  natLE 4 a.score ++ natLE 4 (canon32 a.weight) ++ natLE 2 a.expert ++ natLE 2 a.pos ++ natLE 4 a.state

/-- Entry j of the assignment row at an offset, read and checked (R302). -/
def State.assignAt (s : State) (core row j : Nat) : Chk Assign := do
  let b ← s.spadGet core (row + 16 * j) 16
  need (decide (fieldAt b 12 1 ≤ 3) && allZero (bytesAt b 13 3)) .descriptorInvalid
  return ⟨fieldAt b 0 4, fieldAt b 4 4, fieldAt b 8 2, fieldAt b 10 2, fieldAt b 12 1⟩

/-- A number that orders FP32 words as R303 and R304 rank them: NaN lowest, −0 below +0. -/
def scoreKey (x : Nat) : Nat :=
  if isNaN32 x then 0 else if sign32 x then 2 ^ 31 - x % 2 ^ 31 else 2 ^ 31 + 1 + x % 2 ^ 31

/-- An element put into a list in descending order of its key, after every equal key. -/
def insDesc {V : Type} (k : Nat) (x : V) : List (Nat × V) → List (Nat × V)
  | [] => [(k, x)]
  | y :: rest => if y.1 < k then (k, x) :: y :: rest else y :: insDesc k x rest

/-- A list in descending order of a key, equal keys in their former order. -/
def sortDesc {V : Type} (key : V → Nat) (l : List V) : List V :=
  (l.foldl (fun acc x => insDesc (key x) x acc) []).map (·.2)

/-- One rounding of the exact quotient of two FP32 words. -/
def f32div (a b : Nat) : Nat :=
  let neg := sign32 a != sign32 b
  if isNaN32 a || isNaN32 b || (isInf32 a && isInf32 b) || (isZero32 a && isZero32 b) then nan32
  else if isInf32 a || isZero32 b then inf32 neg
  else if isZero32 a || isInf32 b then zero32 neg
  else rneR (rat32 a / rat32 b)

/-- One rounding of the exact sum of FP32 words (R166). -/
def f32sum (ws : List Nat) : Nat := rne32 (ws.foldl (fun t w => numAdd t (dec32 w)) (.zero false))

/-- Weights divided by a sum that is not ±0. -/
def normalised (t : Nat) (w : Nat) : Nat := if isZero32 t then w else f32div w t

/-- The probabilities of a row of logits with K0 = 1.0, no cap, and every position taking part (R223, R224). -/
def softmaxRow (xs : List Nat) : List Nat :=
  let zs := (List.range xs.length).map (fun i => (i, f32mul (xs.getD i 0) one32))
  let st := rowState zs
  zs.map (fun z => probOf st.1 st.2 true (if isNegInf st.1 then 0 else expUnder st.1 z.2))

/- SELECT (R303). -/

/-- The K entries of a row of logits. -/
def selectEntries (pre k : Nat) (postNorm : Bool) (xs : List Nat) : List Assign :=
  let none' := List.replicate k assignNone
  if xs.any isNaN32 then none' else
    let sc := match pre with
      | 0 => xs
      | 1 => softmaxRow xs
      | _ => xs.map (fun x => sfEval 0 .logistic x 0)
    let sel := (sortDesc (fun e => scoreKey (sc.getD e 0)) (List.range xs.length)).take k
    let w := sel.map (fun e => sc.getD e 0)
    let w1 := if postNorm then w.map (normalised (f32sum w)) else w
    if w1.any isNaN32 then none'
    else (sel.zip w1).map (fun p => ⟨sc.getD p.1 0, p.2, p.1, 0xFFFF, 0⟩)

/-- SELECT on one row. -/
def State.rtSelect (s : State) (v : Vec) (r : Nat) : Chk RowRes := do
  let xs ← (List.range v.n).mapM (fun e => s.streamIn v.core v.rnIn r e)
  return ⟨[], [(v.rtAssign r, .ok ((selectEntries v.rtPre v.rtK v.rtPostNorm xs).flatMap assignBytes))]⟩

/-- A filled row of SELECT. -/
def State.rtSelectFill (s : State) (v : Vec) (r : Nat) : State :=
  s.writeSpad v.core (v.rtAssign r) ((List.replicate v.rtK assignNone).flatMap assignBytes)

/- COMBINE (R307). -/

/-- The stream record of return slot j. -/
def Vec.rtSlotRec (v : Vec) (j : Nat) : List Byte :=
  overlay (overlay v.rnIn 8 (natLE 4 (stOffset v.rnIn + j * v.rtSlotStride))) 16 (natLE 4 (fieldAt v.rnIn 16 4 + j * v.rtScaleStride))

/-- Element i of return slot j of row r. -/
def State.rtSlot (s : State) (v : Vec) (r j i : Nat) : Chk Nat := s.streamIn v.core (v.rtSlotRec j) r i

/-- COMBINE on one row. A row of no elements reads nothing (R178). -/
def State.rtCombine (s : State) (v : Vec) (r : Nat) : Chk RowRes :=
  if v.n = 0 then .ok ⟨[], []⟩ else do
    let es ← (List.range v.rtK).mapM (fun j => do
      let a ← s.assignAt v.core (v.rtAssign r) j
      return (j, a))
    let adm := es.filter (fun e => e.2.state == 1)
    return ⟨(List.range v.n).map (fun i => do
      let a0 ← if stEn v.rtResid then s.streamIn v.core v.rtResid r i else .ok 0
      adm.foldlM (fun acc e => do
        let o ← s.rtSlot v r e.1 i
        return rne32 (numAdd (dec32 acc) (numMul (dec32 e.2.weight) (dec32 o)))) a0), []⟩

/- ADMIT (R304 to R306). -/

/-- Every entry of the active rows, as (row, rank, entry). -/
def State.rtEntries (s : State) (v : Vec) : Chk (List (Nat × Nat × Assign)) := do
  let rows ← ((List.range v.mMax).filter v.active).mapM (fun t => (List.range v.rtK).mapM (fun j => do
    let a ← s.assignAt v.core (v.rtAssign t) j
    need (a.state == 3 || decide (a.expert < v.n)) .descriptorInvalid
    return (t, j, a)))
  return rows.flatten

/-- The candidates of an expert in rank order: equal scores by row, then rank. -/
def candidates (es : List (Nat × Nat × Assign)) (e : Nat) : List (Nat × Nat × Assign) :=
  sortDesc (fun x => scoreKey x.2.2.score) (es.filter (fun x => x.2.2.state != 3 && x.2.2.expert == e))

/-- The entry of a candidate after admission: its place among the expert's candidates decides. -/
def admitted (es : List (Nat × Nat × Assign)) (cap : Nat) (x : Nat × Nat × Assign) : Assign :=
  let a := x.2.2
  if a.state = 3 then a else
    let p := (candidates es a.expert).findIdx (fun y => y.1 == x.1 && y.2.1 == x.2.1)
    if p < cap then { a with state := 1, pos := p } else { a with state := 2, pos := 0xFFFF, weight := 0 }

/-- The rank-ordered entries of a token after renormalisation (R304). -/
def renormRow (row : List (Nat × Nat × Assign)) : List (Nat × Nat × Assign) :=
  let adm := row.filter (fun x => x.2.2.state == 1)
  if row.any (fun x => x.2.2.state == 2) && adm != [] then
    let u := f32sum (adm.map (fun x => x.2.2.weight))
    row.map (fun x => if x.2.2.state = 1 then (x.1, x.2.1, { x.2.2 with weight := normalised u x.2.2.weight }) else x)
  else row

/-- All entries after admission and renormalisation. -/
def admitAll (renorm : Bool) (cap : Nat) (tokens : List Nat) (es : List (Nat × Nat × Assign)) : List (Nat × Nat × Assign) :=
  let out := es.map (fun x => (x.1, x.2.1, admitted es cap x))
  if renorm then tokens.flatMap (fun t => renormRow (out.filter (fun x => x.1 == t))) else out

/-- The list of an expert: a place holds row and rank, or no token (R305). -/
def expertList (es : List (Nat × Nat × Assign)) (cap e : Nat) : List Byte :=
  let c := (candidates es e).take cap
  c.flatMap (fun x => natLE 4 (x.1 + x.2.1 * 65536)) ++ List.replicate (4 * (cap - c.length)) (0xFF#8)

/-- The telemetry block, over what it finds (R306). -/
def telemetry (es : List (Nat × Nat × Assign)) (cap n tokens : Nat) (old : List Byte) : List Byte :=
  let put (off x : Nat) : List Byte := natLE 4 (fieldAt old off 4 + x)
  put 0 ((es.filter (fun x => x.2.1 == 0 && x.2.2.state == 3)).length) ++ put 4 tokens ++ natLE 4 n ++ natLE 4 0 ++
    (List.range n).flatMap (fun e =>
      let r := (candidates es e).length
      let a := min r cap
      put (16 + 16 * e) r ++ put (20 + 16 * e) a ++ put (24 + 16 * e) (r - a) ++ natLE 4 0)

/-- The writes of ADMIT but for the telemetry block: the candidates' entries, then the lists. -/
def Vec.admitWrites (v : Vec) (es : List (Nat × Nat × Assign)) : List (Nat × List Byte) :=
  let tokens := (List.range v.mMax).filter v.active
  ((admitAll v.rtRenorm v.rtCap tokens es).filter (fun x => x.2.2.state != 3)).map
    (fun x => (v.rtAssign x.1 + 16 * x.2.1, assignBytes x.2.2)) ++
  (List.range v.n).map (fun e => (v.rtList + e * v.rtListStride, expertList es v.rtCap e))

/-- The elements of a list up to the first that fails a test, that one included. -/
def upTo {V : Type} (ok : V → Bool) (l : List V) : List V := l.takeWhile ok ++ (l.dropWhile ok).take 1

/-- The entries of an assignment row that are read, and legal for a number of experts. -/
def State.rtRowOk (s : State) (v : Vec) (t : Nat) : Bool :=
  (List.range v.rtK).all (fun j => match s.assignAt v.core (v.rtAssign t) j with
    | .ok a => a.state == 3 || decide (a.expert < v.n)
    | .error _ => false)

/-- The assignment rows that ADMIT reads: the active ones, up to the first with a fault. -/
def State.admitReads (s : State) (v : Vec) : List (Nat × Nat) :=
  (upTo (s.rtRowOk v) ((List.range v.mMax).filter v.active)).map (fun t => (v.rtAssign t, 16 * v.rtK))

/-- What a row of SELECT reads, and what a row of COMBINE reads: RESID, the assignment row, and the slots of its ADMITTED entries
(R307). -/
def Vec.selectReads (v : Vec) (r : Nat) : List (Nat × Nat) := streamReads v.rnIn r v.n
def State.combineReads (s : State) (v : Vec) (r : Nat) : List (Nat × Nat) :=
  if v.n = 0 then [] else (v.rtAssign r, 16 * v.rtK) :: (streamReads v.rtResid r v.n ++
    ((List.range v.rtK).filter (fun j => match s.assignAt v.core (v.rtAssign r) j with | .ok a => a.state == 1 | .error _ => false)).flatMap
      (fun j => streamReads (v.rtSlotRec j) r v.n))

/-- ADMIT. Every entry is read before any is written, so a fault of an entry writes nothing; after a fault of the
telemetry block any of the other writes may have landed (R34). -/
def State.rtAdmit (s : State) (v : Vec) : Ran :=
  let t := s.touchAll v.core (s.admitReads v)
  match s.rtEntries v with
  | .error e => { s := t, st := e }
  | .ok es =>
    let ws := v.admitWrites es
    let len := 16 + 16 * v.n
    let u := if v.rtAccum then t.touchSpad v.core v.rtTelem len else t
    match if v.rtAccum then s.spadGet v.core v.rtTelem len else .ok (List.replicate len 0) with
    | .error e => { s := ws.foldl (fun t w => t.landRow v.core w.1 8 (w.2.map (fun x => some x.toNat))) u, st := e }
    | .ok old =>
      let s1 := ws.foldl (fun t w => t.writeSpad v.core w.1 w.2) u
      { s := s1.writeSpad v.core v.rtTelem (telemetry es v.rtCap v.n ((List.range v.mMax).filter v.active).length old), st := .ok }

/-- A router work order: R308 after step 1 of R200, then its operation. -/
def State.rtWork (s : State) (core : Nat) (w : WorkOrder) : Ran :=
  let t := s.touchDesc core w
  match s.vecHeader core w with
  | .error e => { s := t, st := e }
  | .ok v =>
    match v.rtCheck with
    | .error e => { s := t, st := e }
    | .ok _ => match v.op with
      | 1 => rowsRun v v.selectReads (s.rtSelect v) (fun t r => if v.fill then t.rtSelectFill v r else t) (List.range v.mMax) t
      | 2 => t.rtAdmit v
      | _ => rowsRun v (s.combineReads v) (s.rtCombine v) (fun t r => if v.fill then t.streamFill v.core r v.n v.rnOut else t)
          (List.range v.mMax) t

/-- The OP of the router work order in progress, 1 (SELECT) where it names none (R301). -/
def State.rtOp (s : State) (core : Nat) (w : WorkOrder) : Nat :=
  match s.spadGet core (fieldAt w.rcd 60 4 + 64) 1 with
  | .ok b => if 1 ≤ leNat b ∧ leNat b ≤ 3 then leNat b else 1
  | .error _ => 1

/-- Is a work order a router operation? -/
def State.isRt (s : State) (core op : Nat) (w : WorkOrder) : Bool :=
  fieldAt w.rcd 0 1 == 2 && s.vecMode core w == 3 && s.rtOp core w == op

/-- Run the router operation that is in progress at a core. -/
def State.rtRun (s : State) (core op : Nat) : State := s.runWork core (s.isRt core op) (fun t w => t.rtWork core w)

/-- SELECT (R303). A block whose OP names nothing fails here. -/
def execRouterSelect (core : Nat) (s : State) : Host.Outcome State Fault Refusal := .next (s.rtRun core 1)

/-- ADMIT (R304 to R306). -/
def execRouterAdmit (core : Nat) (s : State) : Host.Outcome State Fault Refusal := .next (s.rtRun core 2)

/-- COMBINE (R307). -/
def execRouterCombine (core : Nat) (s : State) : Host.Outcome State Fault Refusal := .next (s.rtRun core 3)

/- The exit test (R321 to R323). -/

/-- The fields of the exit descriptor, in byte order (R322, R534). -/
def Vec.exitFields (v : Vec) : Chk Unit := do
  need (decide (1 ≤ fieldAt v.d 0 4 ∧ fieldAt v.d 0 4 ≤ 1048576)) .lengthRange
  need (decide (fieldAt v.d 6 2 ≤ 512 ∧ fieldAt v.d 4 2 + fieldAt v.d 6 2 ≤ v.mMax)) .lengthRange
  need (fieldAt v.d 8 4 % 8 == 0 && fieldAt v.d 12 2 != 0xFFFF && allZero (bytesAt v.d 14 18) && byteBit v.d 35 7) .descriptorInvalid

/-- The input stream, its ranges, and the exit records. -/
def Vec.exitIn (v : Vec) : List Byte := bytesAt v.d 32 32
def Vec.exitReads (v : Vec) : List (Nat × Nat × Nat × Nat) :=
  if fieldAt v.d 6 2 = 0 then [] else streamRanges false (fieldAt v.d 6 2) (fieldAt v.d 0 4) v.exitIn
def Vec.exitRecs (v : Vec) : List (Nat × Nat × Nat × Nat) := [(fieldAt v.d 8 4, 0, 1, 8 * fieldAt v.d 6 2)]

/-- The checks of an exit descriptor: fields, stream, ranges, overlap. -/
def Vec.exitCheck (v : Vec) : Chk Unit := do
  v.exitFields
  streamBytes false (fieldAt v.d 0 4) v.exitIn
  rangesCheck (v.exitReads ++ v.exitRecs)
  need (!listsMeet (rangePieces v.exitRecs) ((v.vdesc, 64) :: rangePieces v.exitReads)) .descriptorInvalid

/-- The position and value of a largest probability, the lowest index first (R323). -/
def largest (ys : List (Nat × Nat)) : Option (Nat × Nat) :=
  ys.foldl (fun a y => match a with
    | none => some y
    | some b => if numLt (dec32 b.2) (dec32 y.2) then some y else some b) none

/-- VALUE of a row of logits (R323). -/
def exitValue (margin : Bool) (xs : List Nat) : Nat :=
  let ys := (List.range xs.length).zip (softmaxRow xs)
  match largest ys with
  | none => 0
  | some a =>
    if margin then
      let b := match largest (ys.filter (fun y => y.1 != a.1)) with | some b => b.2 | none => 0
      f32sub a.2 b
    else a.2

/-- Does a row pass: VALUE ≥ THRESHOLD, no NaN (R323)? -/
def exitPasses (value threshold : Nat) : Bool :=
  !isNaN32 value && !isNaN32 threshold && !numLt (dec32 value) (dec32 threshold)

/-- VALUE of a tested row. -/
def State.exitRow (s : State) (v : Vec) (r : Nat) : Chk Nat := do
  let xs ← (List.range (fieldAt v.d 0 4)).mapM (fun i => s.streamIn v.core v.exitIn (r - fieldAt v.d 4 2) i)
  return exitValue (byteBit v.rcd 52 4) xs

/-- The exit record of a row. -/
def Vec.exitRec (v : Vec) (value : Nat) : List Byte :=
  let ok := exitPasses value (fieldAt v.rcd 56 4)
  natLE 4 value ++ natLE 2 (if ok then fieldAt v.d 12 2 else 0xFFFF) ++ natLE 2 (if ok then 1 else 0)

/-- One tested row as what it writes. -/
def State.exitRes (s : State) (v : Vec) (r : Nat) : Chk RowRes :=
  (s.exitRow v r).map (fun x => ⟨[], [(fieldAt v.d 8 4 + 8 * (r - fieldAt v.d 4 2), .ok (v.exitRec x))]⟩)

/-- The mask of rows that pass. -/
def State.exitMask (s : State) (v : Vec) (rows : List Nat) : Nat :=
  rows.foldl (fun m r => match s.exitRow v r with
    | .ok x => if exitPasses x (fieldAt v.rcd 56 4) then m ||| 2 ^ r else m
    | .error _ => m) 0

/-- An exit-test work order. -/
def State.exitWork (s : State) (core : Nat) (w : WorkOrder) : Ran :=
  let s0 := s.touchSpad core (fieldAt w.rcd 60 4) 64
  match s.spadRead core (fieldAt w.rcd 60 4) 64 with
  | .error e => { s := s0, st := e }
  | .ok d =>
    let v : Vec := ⟨core, w.member, w.rcd, d⟩
    match v.exitCheck with
    | .error e => { s := s0, st := e }
    | .ok _ =>
      let rows := (List.range (fieldAt d 6 2)).map (· + fieldAt d 4 2)
      let ran := rowsRun v (fun r => streamReads v.exitIn (r - fieldAt d 4 2) (fieldAt d 0 4)) (s.exitRes v) (fun t _ => t) rows s0
      if ran.st = .ok then { ran with exit := s.exitMask v (rows.filter v.active) } else ran

/-- EXIT_TEST (R323): the exit-test work order in progress at a core runs. -/
def execExitTest (core : Nat) (s : State) : Host.Outcome State Fault Refusal :=
  .next (s.runWork core (fun w => fieldAt w.rcd 0 1 == 6) (fun t w => t.exitWork core w))

end Sys2Proof.Machine
end

