-- ==== Sys2Proof/Machine/Eave.lean ====
section
/-! DEFINITION. Eave engines (chapter 13): ATTEND and PAGE_COPY, their checks, arithmetic and partial states, and the
return of partials (R277 to R297). -/

namespace Sys2Proof.Machine

/-- An eave work order as it runs: the stack, the bay stack index, the agent, the node record and the descriptor (R280, R281). -/
structure Eave where
  stack : Nat
  member : Nat
  ag : Agent
  rcd : List Byte
  d : List Byte

def Eave.mMax (v : Eave) : Nat := fieldAt v.rcd 32 2
def Eave.kvg (v : Eave) : Nat := fieldAt v.rcd 37 1
def Eave.rtab (v : Eave) : Nat := bitsOf (fieldAt v.rcd 48 8) 42 0
def Eave.plist (v : Eave) : Nat := bitsOf (fieldAt v.rcd 56 8) 42 0
def Eave.active (v : Eave) (r : Nat) : Bool := rowActive (fieldAt v.rcd 34 2) (byteBit v.rcd 36 5) (bytesAt v.rcd 64 64) r
def Eave.op (v : Eave) : Nat := fieldAt v.d 0 1
def Eave.kvFmt (v : Eave) : Nat := fieldAt v.d 1 1
def Eave.qFmt (v : Eave) : Nat := fieldAt v.d 2 1
def Eave.p (v : Eave) : Nat := 16 * 2 ^ (fieldAt v.d 3 1 % 4)
def Eave.h (v : Eave) : Nat := fieldAt v.d 4 1
def Eave.t (v : Eave) : Nat := fieldAt v.d 5 1
def Eave.g (v : Eave) : Nat := v.h * v.t
def Eave.dim (v : Eave) : Nat := fieldAt v.d 6 2
def Eave.causal (v : Eave) : Bool := byteBit v.d 8 1
def Eave.capEn (v : Eave) : Bool := byteBit v.d 8 0
def Eave.scale (v : Eave) : Nat := fieldAt v.d 12 4
def Eave.cap (v : Eave) : Nat := fieldAt v.d 16 4
def Eave.causalOff (v : Eave) : Int := signedOf 32 (fieldAt v.d 20 4)
def Eave.window (v : Eave) : Nat := fieldAt v.d 24 4
def Eave.prefix_ (v : Eave) : Nat := fieldAt v.d 28 4
def Eave.recLen (v : Eave) : Nat := 8 + 4 * v.dim

/-- Is a device address an own-stack address (R279)? -/
def ownStack (a : Nat) : Bool := decide (a / 2 ^ 60 = 1) && bitsOf a 59 43 == 0

/-- The check of R33 on a range of the engine's own stack. -/
def ownRange (off len : Nat) : Chk Unit :=
  if len = 0 then .ok () else if stackBytes ≤ off then .error .addressRange
  else if stackBytes < off + len then .error .lengthRange else .ok ()

/-- `n` bytes of the engine's stack, with poison. -/
def State.ownGet (s : State) (k off : Nat) : Nat → Chk (List Byte)
  | 0 => .ok []
  | n + 1 => do
    let b ← s.readStackByte k off
    let bs ← s.ownGet k (off + 1) n
    return b :: bs

/-- A checked read of the engine's stack. -/
def State.ownRead (s : State) (k off n : Nat) : Chk (List Byte) := do
  ownRange off n
  s.ownGet k off n

/-- Step 2 of R294: the fields of R281, the lowest byte first (R534), and PLIST, which the operation decides (R279, R280). -/
def Eave.fields (v : Eave) : Chk Unit := do
  need (v.op == 1 || v.op == 2) .descriptorInvalid
  if v.op = 2 then
    need (allZero (bytesAt v.d 1 35) && allZero (bytesAt v.d 36 28) && v.kvg == 1 && fieldAt v.rcd 56 8 == 0) .descriptorInvalid
  else
    need ([1, 3, 4, 7, 8].contains v.kvFmt && [1, 2, 3, 4].contains v.qFmt) .formatInvalid
    need (fieldAt v.d 3 1 < 4 && decide (1 ≤ v.h ∧ v.h ≤ 16 ∧ 1 ≤ v.t ∧ v.t ≤ 16 ∧ v.g ≤ 16) &&
      decide (1 ≤ v.dim ∧ v.dim ≤ 256) && (v.kvFmt != 7 || v.dim % 32 == 0) && decide (fieldAt v.d 8 1 < 4) &&
      allZero (bytesAt v.d 9 3) && (!v.capEn || (numIsFinite (dec32 v.cap) && numLt (.zero false) (dec32 v.cap))) &&
      (v.causal || v.window == 0) && allZero (bytesAt v.d 36 28) && ownStack (fieldAt v.rcd 56 8)) .descriptorInvalid

/-- Step 3 of R294. -/
def Eave.tables (v : Eave) : Chk Unit := do
  ownRange v.rtab (32 * v.mMax * v.kvg)
  if v.op = 1 then ownRange v.plist (32 * v.mMax * v.kvg) else pure ()

/- Requests (R282 to R286). -/

/-- A request: its entry, its directory entry and its page-list entries. -/
structure EvReq where
  row : Nat
  entry : List Byte
  dir : List Byte
  pages : List (List Byte)

def EvReq.query (q : EvReq) : Nat := fieldAt q.entry 0 8
def EvReq.out (q : EvReq) : Nat := fieldAt q.entry 8 8
def EvReq.sigEn (q : EvReq) : Bool := byteBit q.entry 20 7
def EvReq.seqLen (q : EvReq) : Nat := fieldAt q.dir 12 4
def EvReq.qPos (q : EvReq) : Nat := fieldAt q.dir 16 4

/-- The address of the record of query row ρ in this engine (R282). -/
def Eave.recAt (v : Eave) (entry : List Byte) (rho : Nat) : Nat :=
  fieldAt entry 8 8 + v.member * fieldAt v.d 32 4 + rho * fieldAt entry 16 4

/-- The bytes of one query row. -/
def Eave.qBytes (v : Eave) : Nat := v.dim * codeWidth v.qFmt / 8

/-- The fields of a request entry (R282). -/
def Eave.entryCheck (v : Eave) (e : List Byte) : Chk Unit :=
  need (decide (fieldAt e 0 8 / 2 ^ 60 < 3 ∧ fieldAt e 8 8 / 2 ^ 60 < 3) && fieldAt e 8 4 % 4 == 0 &&
    decide (v.recLen ≤ fieldAt e 16 4) && !byteBit e 20 6 &&
    (if byteBit e 20 7 then fieldAt e 8 8 / 2 ^ 60 == 2 else fieldAt e 20 1 == 0 && fieldAt e 22 2 == 0) &&
    fieldAt e 21 1 == 0 && allZero (bytesAt e 24 8)) .descriptorInvalid

/-- R33 on a range of a device address. -/
def State.devRange (s : State) (b addr len : Nat) : Chk Unit :=
  if len = 0 then .ok () else if 2 ^ 64 ≤ addr then .error .addressRange
  else match s.resolve b addr len with | .error e => .error e | .ok _ => .ok ()

/-- Sections of a page: offset and bytes of key elements, key scales, value elements and value scales; then the end (R285). -/
def Eave.sections (v : Eave) : List (Nat × Nat) :=
  let els := v.p * v.dim * codeWidth v.kvFmt / 8
  let sc := if v.kvFmt = 7 then v.p * v.dim / 32 else if v.kvFmt = 8 then v.p else 0
  let up (n : Nat) : Nat := (n + 63) / 64 * 64
  [(0, els), (up els, sc), (up els + up sc, els), (2 * up els + up sc, sc)]
def Eave.pageLen (v : Eave) : Nat :=
  let l := v.sections
  match (l.filter (fun p => p.2 != 0)).getLast? with | some p => p.1 + p.2 | none => 0

/-- The fields of a page-list entry (R284). -/
def Eave.pageFields (v : Eave) (e : List Byte) : Chk Unit :=
  need (ownStack (fieldAt e 0 8) && fieldAt e 0 1 % 64 == 0 && decide (fieldAt e 16 4 + v.p ≤ 2 ^ 32) &&
    (if byteBit e 20 0 then ownStack (fieldAt e 8 8) && fieldAt e 8 1 % 16 == 0 else fieldAt e 8 8 == 0) &&
    decide (fieldAt e 20 1 < 2) && allZero (bytesAt e 21 11)) .descriptorInvalid

/-- The ranges of a page and its mask (R294 step 5). -/
def Eave.pageRanges (v : Eave) (e : List Byte) : Chk Unit := do
  ownRange (bitsOf (fieldAt e 0 8) 42 0) v.pageLen
  if byteBit e 20 0 then ownRange (bitsOf (fieldAt e 8 8) 42 0) (v.p / 8) else pure ()

/-- Step 4 of R294 for request q: its entry and, in an active row, its directory entry are read; then their fields; then the ranges. -/
def State.evEntries (s : State) (v : Eave) (q : Nat) : Chk (List Byte × List Byte) := do
  let on := v.active (q / v.kvg)
  let e ← s.ownGet v.stack (v.rtab + 32 * q) 32
  let d ← if on then s.ownGet v.stack (v.plist + 32 * q) 32 else .ok []
  v.entryCheck e
  need (!on || (ownStack (fieldAt d 0 8) && fieldAt d 0 1 % 32 == 0 && allZero (bytesAt d 20 12))) .descriptorInvalid
  if on then s.devRange v.ag.bay (fieldAt e 0 8) (v.g * v.qBytes) else pure ()
  checkEach (fun rho => s.devRange v.ag.bay (v.recAt e rho) v.recLen) (List.range v.g)
  return (e, d)

/-- Page-list entries, each read and checked in turn, until one fails (R294 step 5, R240). -/
def State.evPages (v : Eave) (list : Nat) : Nat → State → List (List Byte) → State × Chk (List (List Byte))
  | 0, s, acc => (s, .ok acc)
  | n + 1, s, acc =>
    let t := s.touchStack v.stack (list + 32 * acc.length) 32
    match (do
      let p ← t.ownGet v.stack (list + 32 * acc.length) 32
      v.pageFields p
      return p) with
    | .error e => (t, .error e)
    | .ok p => State.evPages v list n t (acc ++ [p])

/-- Steps 4 and 5 of R294 for request q, with what its reads meet (R240, R241). -/
def State.evReq (s : State) (v : Eave) (q : Nat) : State × Chk EvReq :=
  let r := q / v.kvg
  let t := s.touchStack v.stack (v.rtab + 32 * q) 32
  let t1 := if v.active r then t.touchStack v.stack (v.plist + 32 * q) 32 else t
  match t1.evEntries v q with
  | .error e => (t1, .error e)
  | .ok (e, d) =>
    if v.active r then
      match ownRange (bitsOf (fieldAt d 0 8) 42 0) (32 * fieldAt d 8 4) with
      | .error x => (t1, .error x)
      | .ok _ => match State.evPages v (bitsOf (fieldAt d 0 8) 42 0) (fieldAt d 8 4) t1 [] with
        | (u, .error x) => (u, .error x)
        | (u, .ok pages) => (u, (checkEach v.pageRanges pages).map (fun _ => ⟨r, e, d, pages⟩))
    else (t1, .ok ⟨r, e, [], []⟩)

/-- The page-list entry and token of a slot. -/
def EvReq.page (q : EvReq) (v : Eave) (slot : Nat) : List Byte := q.pages.getD (slot / v.p) []
def Eave.token (v : Eave) (slot : Nat) : Nat := slot % v.p

/-- The conditions of R286 but for the mask. -/
def EvReq.near (q : EvReq) (v : Eave) (rho slot : Nat) : Bool :=
  let i := fieldAt (q.page v slot) 16 4 + v.token slot
  let lim : Int := ((q.qPos + rho / v.h : Nat) : Int) + v.causalOff
  v.active q.row && decide (i < q.seqLen) &&
    (decide (i < v.prefix_) || ((!v.causal || decide ((i : Int) ≤ lim)) &&
      (v.window == 0 || decide (lim - (v.window : Int) < (i : Int)))))

/-- The mask bit of a slot: true where its page takes none. -/
def State.evMask (s : State) (q : EvReq) (v : Eave) (slot : Nat) : Chk Bool :=
  let e := q.page v slot
  if byteBit e 20 0 then do
    let b ← s.readStackByte v.stack (bitsOf (fieldAt e 8 8) 42 0 + v.token slot / 8)
    return bitOf b.toNat (v.token slot % 8)
  else .ok true

/-- The slots of a block that take part for a query row (R286); a poisoned mask line that the row needs fails it. -/
def State.evSlots (s : State) (q : EvReq) (v : Eave) (rho : Nat) (slots : List Nat) : Chk (List Nat) := do
  let near := slots.filter (q.near v rho)
  let on ← near.mapM (fun t => do
    let m ← s.evMask q v t
    return (t, m))
  return (on.filter (·.2)).map (·.1)

/-- The expanded elements of a slot's key row, or value row when `value` (R285, R151). -/
def State.evRow (s : State) (q : EvReq) (v : Eave) (value : Bool) (slot : Nat) : Chk (List Expanded) := do
  let f := (fmtOf v.kvFmt).getD .bf16
  let b := codeWidth v.kvFmt
  let page := bitsOf (fieldAt (q.page v slot) 0 8) 42 0
  let u := v.token slot
  let el := v.sections.getD (if value then 2 else 0) (0, 0)
  let sc := v.sections.getD (if value then 3 else 1) (0, 0)
  let raw ← s.ownGet v.stack (page + el.1 + u * v.dim * b / 8) ((u * v.dim * b % 8 + v.dim * b + 7) / 8)
  let bits := leNat raw >>> (u * v.dim * b % 8)
  let sraw ← (if v.kvFmt = 7 then s.ownGet v.stack (page + sc.1 + u * v.dim / 32) (v.dim / 32)
    else if v.kvFmt = 8 then s.ownGet v.stack (page + sc.1 + u) 1 else .ok [])
  return (List.range v.dim).map (fun d =>
    let scale := if v.kvFmt = 7 then some (SFmt.ue4m3, fieldAt sraw (d / 32) 1)
      else if v.kvFmt = 8 then some (SFmt.ue4m3, fieldAt sraw 0 1) else none
    expand (bits >>> (d * b) % 2 ^ b) f scale)

/-- The expanded elements of a query row (R282). -/
def State.evQuery (s : State) (q : EvReq) (v : Eave) (rho : Nat) : Chk (List Expanded) := do
  let f := (fmtOf v.qFmt).getD .bf16
  let b := codeWidth v.qFmt
  let raw ← s.readAt v.ag (q.query + rho * v.qBytes) v.qBytes
  return (List.range v.dim).map (fun d => expand (leNat raw >>> (d * b) % 2 ^ b) f none)

/- Arithmetic (R288 to R290). -/

/-- The sum of group sums in one FP32 accumulator. -/
def groupChain (gs : List (List (Expanded × Expanded))) : Nat :=
  gs.foldl (fun acc g => match groupSum g with
    | .zero _ => acc
    | x => rne32 (numAdd (dec32 acc) x)) 0

/-- eave_score of R288. -/
def Eave.score (v : Eave) (q k : List Expanded) : Nat :=
  let u := f32mul (groupChain (groupsOf v.dim (q.zip k))) v.scale
  if v.capEn then f32mul v.cap (sfTanh (divPos32 u v.cap)) else u

/-- 1.0 as an expanded element (R289). -/
def oneExpanded : Expanded := expand 0x3F80 .bf16 none

/-- block_state of R289 over the scores and the value rows of the slots that take part. -/
def blockState (dim : Nat) (zs : List Nat) (vals : List (List Expanded)) : Partial :=
  if zs = [] then ⟨inf32 true, 0, List.replicate dim (.ok 0)⟩
  else if zs.any isNaN32 then ⟨nan32, nan32, List.replicate dim (.ok nan32)⟩
  else
    let top := if zs.any isPosInf then inf32 false else ((best32 true ((List.range zs.length).zip zs)).getD (0, inf32 true)).2
    if isNegInf top then ⟨inf32 true, 0, List.replicate dim (.ok 0)⟩
    else
      let w := zs.map (fun z => expand (rneTo (dec32 (expUnder top z)) .bf16) .bf16 none)
      ⟨top, rne32 (groupSum (w.map (fun x => (x, oneExpanded)))),
        (List.range dim).map (fun j => .ok (rne32 (groupSum (w.zip (vals.map (fun r => r.getD j oneExpanded))))))⟩

/-- The state of block b of a request for a query row, and whether any slot took part. -/
def State.evBlock (s : State) (q : EvReq) (v : Eave) (rho b : Nat) : Chk Partial := do
  let slots := ((List.range 64).map (fun i => 64 * b + i)).filter (fun t => decide (t < v.p * q.pages.length))
  let on ← s.evSlots q v rho slots
  if on = [] then return blockState v.dim [] []
  else
    let qe ← s.evQuery q v rho
    let ks ← on.mapM (s.evRow q v false)
    let vs ← on.mapM (s.evRow q v true)
    return blockState v.dim (ks.map (v.score qe)) vs

/-- Blocks in ascending order, merged into a running state (R290). -/
def State.evBlocks (s : State) (q : EvReq) (v : Eave) (rho : Nat) : List Nat → Partial → Chk Partial
  | [], acc => .ok acc
  | b :: rest, acc => do
    let x ← s.evBlock q v rho b
    State.evBlocks s q v rho rest (mergePartial acc x)

/-- The partial state of a query row (R290). -/
def State.evState (s : State) (q : EvReq) (v : Eave) (rho : Nat) : Chk Partial :=
  s.evBlocks q v rho (List.range (ceilDiv (v.p * q.pages.length) 64)) ⟨inf32 true, 0, List.replicate v.dim (.ok 0)⟩

/-- The bytes of a record (R227). -/
def partialBytes (p : Partial) : List Byte :=
  words ([p.m, p.l] ++ p.o.map (fun c => match c with | .ok x => x | .error _ => 0))

/-- The lines of the stack that a request's reads meet (R287). -/
def State.evLines (s : State) (q : EvReq) (v : Eave) : List Nat :=
  let lines (off len : Nat) : List Nat := if len = 0 then [] else (List.range ((off + len - 1) / 64 + 1 - off / 64)).map (· + off / 64)
  ((List.range (v.p * q.pages.length)).flatMap (fun t =>
    let e := q.page v t
    let page := bitsOf (fieldAt e 0 8) 42 0
    let u := v.token t
    let rows := (List.range v.g).filter (fun rho => q.near v rho t)
    if rows = [] then [] else
      (if byteBit e 20 0 then lines (bitsOf (fieldAt e 8 8) 42 0) (v.p / 8) else []) ++
        (match s.evMask q v t with
         | .ok true => v.sections.flatMap (fun sec => lines (page + sec.1 + u * (sec.2 / v.p)) (sec.2 / v.p))
         | _ => []))).eraseDups

/-- One query row of a request: its record, or its failure. -/
def State.evRowOut (s : State) (q : EvReq) (v : Eave) (acc : State × Option Status) (rho : Nat) : State × Option Status :=
  match s.evState q v rho with
  | .error e => (acc.1, acc.2 <|> some e)
  | .ok p => ((acc.1.writeAt v.ag (v.recAt q.entry rho) (partialBytes p)).1, acc.2)

/-- One request (R292, R294, R295): its records, its first failure, and its signal when none failed. -/
def State.evRequest (s : State) (v : Eave) (q : Nat) : State × Option Status :=
  match s.evReq v q with
  | (s0, .error e) => (s0, some e)
  | (s0, .ok rq) =>
    let s1 := (s0.evLines rq v).foldl (fun t l => t.touchStack v.stack (l * 64) 64) s0
    let s2 := (List.range v.g).foldl (fun t rho => t.touchAt v.ag.bay (rq.query + rho * v.qBytes) v.qBytes) s1
    let r := (List.range v.g).foldl (State.evRowOut (if v.active rq.row then s2 else s1) rq v)
      (if v.active rq.row && rq.pages != [] then s2 else s1, none)
    match r.2 with
    | some e => (r.1, some e)
    | none =>
      let sig := if rq.sigEn then [(r.1.coreOf v.ag.bay (bitsOf rq.out 47 36), fieldAt rq.entry 20 1 % 64, fieldAt rq.entry 22 2)] else []
      let st := r.1.stackAt v.stack
      (r.1.setStack v.stack { st with eaveSigs := st.eaveSigs ++ [sig] }, none)

/-- Requests in ascending order; the status is that of the lowest-numbered that failed (R295). -/
def State.evRequests (v : Eave) : List Nat → State → Option Status → State × Option Status
  | [], s, e => (s, e)
  | q :: rest, s, e => let r := s.evRequest v q; State.evRequests v rest r.1 (e <|> r.2)

/- Page copy (R297). -/

/-- Lines of an entry in ascending order; a poisoned source line stops the copy. -/
def State.copyLines (k src dst : Nat) : Nat → State → State × Option Status
  | 0, s => (s, none)
  | n + 1, s =>
    let t := s.touchStack k src 64
    match t.ownGet k src 64 with
    | .error e => (t, some e)
    | .ok b => State.copyLines k (src + 64) (dst + 64) n (t.writeStack k dst b)

/-- The fields and ranges of a copy entry (R297). -/
def copyEntryCheck (e : List Byte) : Chk Unit := do
  let src := bitsOf (fieldAt e 0 8) 42 0
  let dst := bitsOf (fieldAt e 8 8) 42 0
  let len := fieldAt e 16 4
  need (ownStack (fieldAt e 0 8) && src % 64 == 0 && ownStack (fieldAt e 8 8) && dst % 64 == 0 && len % 64 == 0 &&
    allZero (bytesAt e 20 12) && !rangesMeet (src, len) (dst, len)) .descriptorInvalid
  ownRange src len
  ownRange dst len

/-- Entries of the active rows in ascending order. -/
def State.copyEntries (v : Eave) : List Nat → State → State × Option Status
  | [], s => (s, none)
  | r :: rest, s =>
    let t := s.touchStack v.stack (v.rtab + 32 * r) 32
    match t.ownGet v.stack (v.rtab + 32 * r) 32 with
    | .error e => (t, some e)
    | .ok e => match copyEntryCheck e with
      | .error x => (t, some x)
      | .ok _ =>
        match State.copyLines v.stack (bitsOf (fieldAt e 0 8) 42 0) (bitsOf (fieldAt e 8 8) 42 0) (fieldAt e 16 4 / 64) t with
        | (u, none) => State.copyEntries v rest u
        | (u, some x) => (u, some x)

/- Work orders. -/

/-- The descriptor of an eave work order at a stack (R294 steps 1 to 3). -/
def State.evHeader (s : State) (k : Nat) (w : WorkOrder) : Chk Eave := do
  let d ← s.ownRead k (bitsOf (fieldAt w.rcd 40 8) 42 0) 64
  let v : Eave := ⟨k, w.member, ⟨w.bay, w.bay, w.pasid⟩, w.rcd, d⟩
  v.fields
  v.tables
  return v

/-- An eave work order runs to completion. -/
def State.evWork (s : State) (k : Nat) (w : WorkOrder) : State × Status :=
  let s0 := s.touchStack k (bitsOf (fieldAt w.rcd 40 8) 42 0) 64
  match s0.evHeader k w with
  | .error e => (s0, e)
  | .ok v =>
    let r := if v.op = 1 then State.evRequests v (List.range (v.mMax * v.kvg)) s0 none
      else State.copyEntries v ((List.range v.mMax).filter v.active) s0
    (r.1, r.2.getD .ok)

/-- The OP of an eave work order's descriptor, ATTEND where it names none. -/
def State.evOp (s : State) (k : Nat) (w : WorkOrder) : Nat :=
  match s.evHeader k w with
  | .ok v => v.op
  | .error _ => match s.ownRead k (bitsOf (fieldAt w.rcd 40 8) 42 0) 1 with
    | .ok b => if leNat b = 2 then 2 else 1
    | .error _ => 1

/-- Can an engine run: not held in reset, its domain powered (R278, R439)? -/
def State.eaveUp (s : State) (k : Nat) : Bool := s.dev.fatal.isNone && !(s.stackAt k).eaveFailed && !s.power.gated.contains (144 + k)

/-- Does an eave work order wait for a core of a gated tile domain that holds its queries or takes its records (R457)? -/
def State.evAsleep (s : State) (k : Nat) (w : WorkOrder) : Bool :=
  match s.evHeader k w with
  | .error _ => false
  | .ok v => v.op == 1 && (List.range (v.mMax * v.kvg)).any (fun q => match s.ownGet v.stack (v.rtab + 32 * q) 32 with
    | .ok e => s.asleepAt w.bay (fieldAt e 0 8) || s.asleepAt w.bay (fieldAt e 8 8)
    | .error _ => false)

/-- The work order at the head of an engine runs and is marked with its status. -/
def State.evGo (s : State) (k : Nat) (w : WorkOrder) : State :=
  let r := s.evWork k w
  let st := r.1.stackAt k
  { r.1.setStack k { st with eave := { w with st := .ran r.2 0 0 } :: st.eave.drop 1 } with draws := r.1.draws + 1 }

/-- The work order at the head of the engine's queue runs, if it has the operation (R278). -/
def State.evRun (s : State) (k op : Nat) : State :=
  match (s.stackAt k).eave with
  | [] => s
  | w :: _ =>
    if s.eaveUp k && w.st == .queued && (s.touchStack k (bitsOf (fieldAt w.rcd 40 8) 42 0) 64).evOp k w == op && !s.evAsleep k w then
      s.raceRun w (fun v => v.evGo k w)
    else s

/-- ATTEND (R290). A descriptor whose OP names nothing fails here. -/
def execAttend (stack : Nat) (s : State) : Host.Outcome State Fault Refusal := .next (s.evRun stack 1)

/-- PAGE_COPY (R297). -/
def execPageCopy (stack : Nat) (s : State) : Host.Outcome State Fault Refusal := .next (s.evRun stack 2)

/-- EAVE_PARTIAL_RETURN (R292): the records of the engine's oldest finished request are visible, and its core is
signalled, once it does not sleep (R457). -/
def State.eaveReturn (s : State) (k : Nat) : State :=
  let st := s.stackAt k
  match st.eaveSigs with
  | [] => s
  | sigs :: rest =>
    if sigs.any (fun g => s.coreAsleep g.1) then s
    else sigs.foldl (fun t g => t.addCounter g.1 g.2.1 g.2.2) (s.setStack k { st with eaveSigs := rest })

/-- EAVE_PARTIAL_RETURN (R292). -/
def execEavePartialReturn (stack : Nat) (s : State) : Host.Outcome State Fault Refusal := .next (s.eaveReturn stack)

end Sys2Proof.Machine
end

