-- ==== Sys2Proof/Machine/Valley.lean ====
section
/-! DEFINITION. The valley exchange: DISPATCH and RETURN work orders, segments and DONEs, and gates (R310 to R320). -/

namespace Sys2Proof.Machine

/- Gates (R315 to R317). -/

/-- Is version (e, g) newer than (E, G) (R315)? -/
def versionNewer (e g bigE bigG : Nat) : Bool :=
  let d := (e + 2 ^ 32 - bigE % 2 ^ 32) % 2 ^ 32
  let x := (g + 2 ^ 16 - bigG % 2 ^ 16) % 2 ^ 16
  decide (1 ≤ d ∧ d < 2 ^ 31) || (e == bigE && decide (1 ≤ x ∧ x < 2 ^ 15))

/-- A gate that takes a newer version: open, with its counts 0. -/
def Gate.advance (q : Gate) (e g : Nat) : Gate :=
  { q with epoch := e, gen := g, isOpen := true, dones := 0, expected := 0, arrived := 0 }

def Gate.newerThan (q : Gate) (e g : Nat) : Bool := versionNewer e g q.epoch q.gen
def Gate.same (q : Gate) (e g : Nat) : Bool := q.epoch == e && q.gen == g

/-- Does a gate complete (R317)? A gate that has closed has done so. -/
def Gate.complete (q : Gate) : Bool := q.isOpen && decide (0 < q.senders) && q.dones == q.senders && q.arrived == q.expected

/-- A gate of a core. -/
def gateAt (c : Core) (i : Nat) : Gate := tabGet c.gates i {}

/-- A gate put back, with the completion test and its signal (R317). -/
def putGate (c : Core) (i : Nat) (q : Gate) : Core :=
  if q.complete then
    { c with gates := tabSet c.gates i { q with isOpen := false },
             counters := tabSet c.counters q.sigCtr ((tabGet c.counters q.sigCtr 0 + q.sigIncr) % 2 ^ 32) }
  else { c with gates := tabSet c.gates i q }

/-- A stale arrival (R316). -/
def Gate.stale1 (q : Gate) : Gate := { q with stale := satInc 32 q.stale }

/-- The gate as an arrival of a version finds it: a newer version advances it with SENDERS 0 and a clear mask (R316). -/
def Gate.meet (q : Gate) (e g : Nat) : Gate :=
  if q.newerThan e g then { q.advance e g with senders := 0, cancel := 0 } else q

/-- What a gate does with a segment: the gate after it, and whether it is written (R316). -/
def Gate.segment (q : Gate) (e g row : Nat) : Gate × Bool :=
  let m := q.meet e g
  if m.same e g && m.isOpen then
    if row ≤ 511 && m.cancel.testBit row then ({ m with arrived := m.arrived + 1, stale := satInc 32 m.stale }, false)
    else ({ m with arrived := m.arrived + 1 }, true)
  else (m.stale1, false)

/-- What a gate does with a DONE (R316). -/
def Gate.done (q : Gate) (e g len : Nat) : Gate :=
  let m := q.meet e g
  if m.same e g && m.isOpen then { m with dones := m.dones + 1, expected := m.expected + len } else m.stale1

/-- The cancel mask that an arm sets: the inactive rows below min(M_MAX, 512) (R315). -/
def cancelMask (rcd : List Byte) : Nat :=
  ((List.range (min (fieldAt rcd 48 2) 512)).filter (fun r =>
    !rowActive (fieldAt rcd 50 2) (byteBit rcd 52 5) (bytesAt rcd 64 64) r)).foldl (fun m r => m + 2 ^ r) 0

/-- A gate armed by a node with a descriptor (R315). -/
def Gate.arm (q : Gate) (rcd d : List Byte) : Gate :=
  let e := fieldAt rcd 56 4
  let g := fieldAt rcd 54 2
  let m := if q.newerThan e g then q.advance e g else q
  if m.same e g then
    { m with senders := fieldAt d 32 2, sigCtr := fieldAt d 29 1 % 64, sigIncr := fieldAt d 30 2, cancel := cancelMask rcd }
  else m

/- The work order (R311 to R313). -/

/-- A valley work order as it runs. -/
structure Val where
  core : Nat
  ag : Agent
  lid : Nat
  node : Nat
  rcd : List Byte
  d : List Byte

def Val.ret (v : Val) : Bool := byteBit v.rcd 52 4
def Val.mMax (v : Val) : Nat := fieldAt v.rcd 48 2
def Val.active (v : Val) (r : Nat) : Bool := rowActive (fieldAt v.rcd 50 2) (byteBit v.rcd 52 5) (bytesAt v.rcd 64 64) r
def Val.rowBytes (v : Val) : Nat := fieldAt v.d 0 4
def Val.src (v : Val) (r : Nat) : Nat := fieldAt v.d 4 4 + r * fieldAt v.d 8 4
def Val.table (v : Val) (r : Nat) : Nat := fieldAt v.d 12 4 + r * fieldAt v.d 16 4
def Val.homeOff (v : Val) : Nat := fieldAt v.d 20 4
def Val.homes (v : Val) : Nat := fieldAt v.d 24 4
def Val.k (v : Val) : Nat := fieldAt v.d 28 1
def Val.arms (v : Val) : Bool := byteBit v.d 29 7
def Val.slotStride (v : Val) : Nat := fieldAt v.d 36 4
def Val.reportOff (v : Val) : Nat := fieldAt v.d 40 4
def Val.owner (v : Val) : ReqOwner := .wo v.ag.bay v.core v.lid v.node 0

/-- The fields of the valley descriptor, the lowest byte first (R311, R534). -/
def Val.fields (v : Val) : Chk Unit := do
  need (v.rowBytes % 64 == 0 && decide (64 ≤ v.rowBytes ∧ v.rowBytes ≤ 1048576)) .lengthRange
  need ((!v.ret || fieldAt v.d 16 4 == 4) && v.homeOff % 16 == 0 && (if v.ret then v.k == 0 else decide (1 ≤ v.k ∧ v.k ≤ 8)) &&
    !byteBit v.d 29 6 && (if v.arms then decide (1 ≤ fieldAt v.d 32 2)
      else fieldAt v.d 29 1 == 0 && fieldAt v.d 30 2 == 0 && fieldAt v.d 32 2 == 0) &&
    fieldAt v.d 34 2 == 0 && v.reportOff % 16 == 0 && allZero (bytesAt v.d 44 20)) .descriptorInvalid

/-- The fixed ranges of a valley work order (R34): sources, table, home table, report. -/
def Val.ranges (v : Val) : Chk Unit := do
  if v.homes = 0 then pure ()
  else
    spadRange (v.src 0) (rowsExtent (fieldAt v.d 8 4) v.mMax v.rowBytes)
    spadRange (v.table 0) (rowsExtent (fieldAt v.d 16 4) v.mMax (if v.ret then 4 else 16 * v.k))
    spadRange v.homeOff (16 * v.homes)
  spadRange v.reportOff 16

/-- A home entry (R312): core, gate, window, row and offset. -/
structure Home where
  core : Nat
  gate : Nat
  window : Nat
  row : Nat
  off : Nat
  deriving DecidableEq

/-- Home entry `i`, read and checked (R313). A CORE that no OFFSET can name is outside every bay (log entry 64). -/
def State.homeAt (s : State) (v : Val) (i : Nat) : Chk Home := do
  let b ← s.spadRead v.core (v.homeOff + 16 * i) 16
  let h : Home := ⟨fieldAt b 0 2, fieldAt b 2 1, fieldAt b 3 1, fieldAt b 4 2, fieldAt b 8 4⟩
  need (decide (h.gate ≤ 7)) .descriptorInvalid
  need (if h.window = 0xFF then decide (h.core < 336 * (s.bayAt v.ag.bay).count)
    else decide (h.core < 4096 ∧ h.window < 64) && byteBit (s.outWindow v.ag.bay h.window) 0 7) .addressRange
  return h

/-- The header of R314. -/
def Val.header (v : Val) (done : Bool) (gate row len : Nat) : List Byte :=
  natLE 4 (fieldAt v.rcd 56 4) ++ natLE 2 (fieldAt v.rcd 54 2) ++
    natLE 1 ((if done then 2 else 0) + (if v.ret then 1 else 0)) ++ natLE 1 gate ++ natLE 2 row ++ natLE 2 0 ++ natLE 4 len

/-- Send a segment or a DONE to a home: over the mesh, or as a VALLEY message (R313, R337). -/
def State.valleySend (s : State) (v : Val) (h : Home) (hdr : List Byte) (off : Nat) (payload : List Byte) : State × Option Status :=
  if h.window = 0xFF then
    match s.spadRegion (s.coreOf v.ag.bay h.core) off payload.length with
    | .error e => (s, some e)
    | .ok _ =>
      ({ s with valley := s.valley ++ [⟨v.ag.bay, s.coreOf v.ag.bay h.core, hdr, off, payload, some (v.core, v.lid, v.node), none⟩] }, none)
  else
    let d := s.outWindow v.ag.bay h.window
    match s.farCheck v.ag.bay d with
    | some e => (s, some e)
    | none =>
      if 2 ^ 21 ≤ off then (s, some .lengthRange)
      else (s.farIssue (owPort d) ⟨0x11, owTarget d, owWindow d, v.ag.bay, h.core * 2 ^ 36 + off, (16 + payload.length) % 65536,
        v.owner, hdr ++ payload, []⟩, none)

/-- Home entry `i` is read, with what its read meets (R101). -/
def State.homeRead (s : State) (v : Val) (i : Nat) : State × Chk Home :=
  let t := s.touchSpad v.core (v.homeOff + 16 * i) 16
  (t, t.homeAt v i)

/-- What entry j of a row sends: home, gate row, receiver offset (R313), with what its reads meet (R101). -/
def State.valleyItem (s : State) (v : Val) (r j : Nat) : State × Chk (Option (Home × Nat × Nat)) :=
  if v.ret then
    let t := s.touchSpad v.core (v.table r) 4
    match t.spadGet v.core (v.table r) 4 with
    | .error e => (t, .error e)
    | .ok b =>
      let x := leNat b
      if x = 0xFFFFFFFF then (t, .ok none)
      else
        let h := t.homeRead v (x % 65536)
        (h.1, h.2.map (fun y => some (y, y.row, y.off + x / 65536 % 8 * v.slotStride)))
  else
    let t := s.touchSpad v.core (v.table r + 16 * j) 16
    match t.assignAt v.core (v.table r) j with
    | .error e => (t, .error e)
    | .ok a =>
      if a.state = 1 then
        let h := t.homeRead v a.expert
        (h.1, h.2.map (fun y => some (y, a.pos, y.off + a.pos * v.rowBytes)))
      else (t, .ok none)

/-- The entries of the active rows in order: row and entry. -/
def Val.items (v : Val) : List (Nat × Nat) :=
  ((List.range v.mMax).filter v.active).flatMap (fun r => (List.range (if v.ret then 1 else v.k)).map (fun j => (r, j)))

/-- Entries in order until a fault; the homes that segments went to (R313, R320). -/
def State.valleyItems (v : Val) : List (Nat × Nat) → State → List Home → State × List Home × Option Status
  | [], s, sent => (s, sent, none)
  | p :: rest, s, sent =>
    match s.valleyItem v p.1 p.2 with
    | (t, .error e) => (t, sent, some e)
    | (t, .ok none) => State.valleyItems v rest t sent
    | (t, .ok (some x)) =>
      let u := t.touchSpad v.core (v.src p.1) v.rowBytes
      match u.spadGet v.core (v.src p.1) v.rowBytes with
      | .error e => (u, sent, some e)
      | .ok b => match u.valleySend v x.1 (v.header false x.1.gate x.2.1 v.rowBytes) x.2.2 b with
        | (y, none) => State.valleyItems v rest y (sent ++ [x.1])
        | (y, some e) => (y, sent, some e)

/-- The reads of a home table meet what stands in its words (R101): entry by entry, up to one that fails. -/
def State.touchHomes (v : Val) : List Nat → State → State
  | [], s => s
  | i :: rest, s => match s.homeRead v i with
    | (t, .ok _) => State.touchHomes v rest t
    | (t, .error _) => t

/-- The distinct destinations of the home table in order of first appearance (R313). -/
def State.valleyDests (s : State) (v : Val) : Chk (List Home) := do
  let hs ← (List.range v.homes).mapM (s.homeAt v)
  return hs.foldl (fun acc h => if acc.any (fun g => g.window == h.window && g.core == h.core && g.gate == h.gate) then acc else acc ++ [h]) []

/-- The DONEs, each with the number of segments sent to its destination (R313). -/
def State.valleyDones (v : Val) (sent : List Home) : List Home → State → State × Option Status
  | [], s => (s, none)
  | h :: rest, s =>
    let n := (sent.filter (fun g => g.window == h.window && g.core == h.core && g.gate == h.gate)).length
    match s.valleySend v h (v.header true h.gate 0 n) 0 [] with
    | (t, none) => State.valleyDones v sent rest t
    | (t, some e) => (t, some e)

/-- The sends of a valley work order. -/
def State.valleySends (s : State) (v : Val) : State × Option Status :=
  if v.homes = 0 then (s, none) else
    match State.valleyItems v v.items s [] with
    | (t, _, some e) => (t, some e)
    | (t, sent, none) =>
      let u := State.touchHomes v (List.range v.homes) t
      match u.valleyDests v with
      | .error e => (u, some e)
      | .ok ds => State.valleyDones v sent ds u

/-- A valley work order runs: it arms its gate, checks its ranges, sends its segments and its DONEs. -/
def State.valleyWork (s : State) (core : Nat) (w : WorkOrder) : State :=
  let s0 := s.touchSpad core (fieldAt w.rcd 60 4) 64
  match s0.spadRead core (fieldAt w.rcd 60 4) 64 with
  | .error e => s0.setCore core { s0.coreAt core with queue := putWo (s0.coreAt core).queue { w with st := .ran e 0 0 } }
  | .ok d =>
    let v : Val := ⟨core, ⟨w.bay, w.bay, w.pasid⟩, w.lid, w.nodeIx, w.rcd, d⟩
    let rep := if v.reportOff % 16 = 0 ∧ v.reportOff + 16 ≤ spadBytes then some v.reportOff else none
    let fin (t : State) (st : Status) : State :=
      t.setCore core { t.coreAt core with queue := putWo (t.coreAt core).queue { w with st := .ran st 0 0, report := rep } }
    match v.fields with
    | .error e => fin s0 e
    | .ok _ =>
      let g := fieldAt w.rcd 53 1
      let s1 := if v.arms then s0.setCore core (putGate (s0.coreAt core) g ((gateAt (s0.coreAt core) g).arm w.rcd d)) else s0
      match v.ranges with
      | .error e => fin s1 e
      | .ok _ =>
        let r := s1.valleySends v
        fin r.1 (r.2.getD .ok)

/-- A valley work order reads what it may read beside other work in progress (R48). Its run writes no memory. -/
def State.valleyGo (s : State) (core : Nat) (w : WorkOrder) : State :=
  { (s.raceView w.stale).valleyWork core w with spadMem := s.spadMem, stackMem := s.stackMem }

/-- Run the valley work order of a launch and node with a direction. -/
def State.valleyRun (s : State) (core lid node : Nat) (ret : Bool) : State :=
  match pickStarted (s.coreAt core).queue (fun w => fieldAt w.rcd 0 1 == 5 && byteBit w.rcd 52 4 == ret && w.lid == lid && w.nodeIx == node) with
  | none => s
  | some w => if s.engineStopped w.bay core then s else s.valleyGo core w

/-- DISPATCH (R313). -/
def execValleyDispatch (core lid node : Nat) (s : State) : Host.Outcome State Fault Refusal :=
  .next (s.valleyRun core lid node false)

/-- RETURN (R313). -/
def execValleyReturn (core lid node : Nat) (s : State) : Host.Outcome State Fault Refusal :=
  .next (s.valleyRun core lid node true)

/- Arrivals (R316, R317). -/

/-- The answer to a VALLEY message (R313, R337). -/
def State.valleyAck (s : State) (m : ValleyMsg) : State :=
  match m.port with
  | none => s
  | some p => (s.farAnswer (some m.bay) p.1 p.2.1 p.2.2.1 0x12 0 []).windowIdle m.bay p.2.2.2

/-- A segment reaches its gate (R316). -/
def State.segmentArrives (s : State) (m : ValleyMsg) : State :=
  let g := fieldAt m.header 7 1
  let r := (gateAt (s.coreAt m.core) g).segment (fieldAt m.header 0 4) (fieldAt m.header 4 2) (fieldAt m.header 8 2)
  let s1 := if r.2 then s.writeSpad m.core m.offset m.payload else s
  (s1.setCore m.core (putGate (s1.coreAt m.core) g r.1)).valleyAck m

/-- A DONE reaches its gate. -/
def State.doneArrives (s : State) (m : ValleyMsg) : State :=
  let g := fieldAt m.header 7 1
  let q := (gateAt (s.coreAt m.core) g).done (fieldAt m.header 0 4) (fieldAt m.header 4 2) (fieldAt m.header 12 4)
  (s.setCore m.core (putGate (s.coreAt m.core) g q)).valleyAck m

/-- Do two messages come from one source device through one port and window, so that they take effect in the order in which they were sent
(R338)? -/
def ValleyMsg.follows (m x : ValleyMsg) : Bool :=
  match m.port, x.port with
  | some p, some q => p.1 == q.1 && p.2.1 == q.2.1 && p.2.2.2 == q.2.2.2 && m.bay == x.bay
  | _, _ => false

/-- Does the `i`-th message in flight wait: for the repair of its core's tile, for a gated tile domain (R457), or for an earlier message of its
source and window (R338)? -/
def State.valleyHeld (s : State) (i : Nat) (m : ValleyMsg) : Bool :=
  s.coreDown m.core || s.coreAsleep m.core || (s.valley.take i).any m.follows

/-- The `i`-th message in flight, when it is a DONE or a segment as asked and need not wait, reaches its core. -/
def State.valleyArrive (s : State) (i : Nat) (done : Bool) : State :=
  match s.valley[i]? with
  | none => s
  | some m =>
    if byteBit m.header 6 1 != done || s.valleyHeld i m then s
    else
      let s1 := { s with valley := s.valley.take i ++ s.valley.drop (i + 1) }
      if done then s1.doneArrives m else s1.raced (s1.segmentArrives m)

/-- VALLEY_SEGMENT (R316). -/
def execValleySegment (i : Nat) (s : State) : Host.Outcome State Fault Refusal := .next (s.valleyArrive i false)

/-- VALLEY_DONE (R316). -/
def execValleyDone (i : Nat) (s : State) : Host.Outcome State Fault Refusal := .next (s.valleyArrive i true)

/-- The report of a gate that a valley work order writes when it completes (R318). -/
def gateReport (q : Gate) : List Byte :=
  natLE 4 q.epoch ++ natLE 2 q.gen ++ natLE 2 (if q.isOpen then 1 else 0) ++ natLE 4 q.arrived ++ natLE 4 q.stale

/-- The report offset of a valley work order that its descriptor gives, where it can be read (R318). -/
def State.reportAt (s : State) (core : Nat) (w : WorkOrder) : Option Nat :=
  if fieldAt w.rcd 0 1 = 5 then
    match s.spadRead core (fieldAt w.rcd 60 4) 64 with
    | .ok d => if fieldAt d 40 4 % 16 = 0 ∧ fieldAt d 40 4 + 16 ≤ spadBytes then some (fieldAt d 40 4) else none
    | .error _ => none
  else none

/-- The report of a valley work order that ends (R318). -/
def State.writeReport (s : State) (core : Nat) (w : WorkOrder) (at_ : Option Nat) : State :=
  match at_ with
  | some off => s.writeSpad core off (gateReport (gateAt (s.coreAt core) (fieldAt w.rcd 53 1)))
  | none => s

/-- Has a valley work order messages that are not acknowledged (R313)? -/
def State.valleyWaits (s : State) (core lid node : Nat) : Bool :=
  s.valley.any (fun m => m.sender == some (core, lid, node))

end Sys2Proof.Machine
end

