-- ==== Sys2Proof/Machine/Ridge.lean ====
section
/-! DEFINITION. The ridge (chapter 3): queue registers and ring places (R61 to R65), entries and the checks of R67, fences
(R86, R87), items and their endings (R68, R84, R92 to R94), end notices (R111, R319), cycle detection (R89, R90), and
what the ridge does as soon as it can: endings, completions and records (R65, R76, R78, R95). -/

namespace Sys2Proof.Machine

/- Queue registers (R61, R513). -/

def Queue.msixVec (q : Queue) : Nat := bitsOf q.cfg.toNat 30 24
def Queue.stopOnFail (q : Queue) : Bool := bitOf q.cfg.toNat 22
def Queue.prio (q : Queue) : Nat := bitsOf q.cfg.toNat 21 20
def Queue.size (q : Queue) : Nat := 2 ^ bitsOf q.cfg.toNat 16 12
/-- The fence that gives the queue its tail, if one does (R64). -/
def Queue.tailFence (q : Queue) : Option Nat := if bitOf q.cfg.toNat 23 then some (bitsOf q.cfg.toNat 11 0) else none
def Queue.pasidOf (q : Queue) : Option Nat := regPasid q.pasid

/-- The agent of a queue's ring accesses and items (R31). -/
def Queue.agent (q : Queue) (fn : Nat) : Agent := ⟨fn, fn, q.pasidOf⟩

/-- The queues of a function that State lists, by number. -/
def State.queuesOf (s : State) (fn : Nat) : List (Nat × Queue) := (s.fnAt fn).queues

/- Entry fields (R66). -/

def enType (e : List Byte) : Nat := fieldAt e 0 1
def enIrq (e : List Byte) : Bool := byteBit e 1 0
def enMode (e : List Byte) : Nat := fieldAt e 1 1 / 4 % 4
def enFence (e : List Byte) : Nat := fieldAt e 48 2
def enValue (e : List Byte) : Nat := fieldAt e 56 8
/-- Fields of a FENCE_WAIT or FENCE_SIGNAL (R71). -/
def fwFence (e : List Byte) : Nat := fieldAt e 8 2
def fwValue (e : List Byte) : Nat := fieldAt e 16 8
/-- Fields of an ADMIN entry (R74). -/
def adOp (e : List Byte) : Nat := fieldAt e 8 1
def adBay (e : List Byte) : Nat := fieldAt e 9 1
def adQueue (e : List Byte) : Nat := fieldAt e 10 1 % 64
def adAddr (e : List Byte) : Nat := fieldAt e 16 8
def adCount (e : List Byte) : Nat := fieldAt e 24 4

/-- Step 1 of R67: the common fields of R66. -/
def entryCommonOk (e : List Byte) : Bool :=
  decide (1 ≤ enType e ∧ enType e ≤ 7) && !byteBit e 1 1 && fieldAt e 1 1 / 16 == 0 && enMode e != 3 &&
    fieldAt e 2 2 == 0 && !(enMode e != 0 && decide (4095 < enFence e)) && allZero (bytesAt e 50 6)

/-- The ADMIN opcodes that the chapters assign (R75, R393, R441, R471, R485). -/
def adminAssigned (op : Nat) : Bool :=
  decide ((1 ≤ op ∧ op ≤ 3) ∨ (0x10 ≤ op ∧ op ≤ 0x12) ∨ (0x20 ≤ op ∧ op ≤ 0x28) ∨ (0x30 ≤ op ∧ op ≤ 0x35) ∨ (0x40 ≤ op ∧ op ≤ 0x47))

/-- Step 3 of R67, as far as the entry's own bytes decide it (R69 to R75). -/
def entryTypeFault (e : List Byte) : Option Status :=
  let di (ok : Bool) : Option Status := if ok then none else some .descriptorInvalid
  match enType e with
  | 1 => if allZero (bytesAt e 26 22) && decide (fieldAt e 8 8 / 2 ^ 60 < 2) && fieldAt e 8 8 % 64 == 0
         then (if 4096 < fieldAt e 24 2 then some .lengthRange else none) else some .descriptorInvalid
  | 2 => di (allZero (bytesAt e 32 16))
  | 3 | 4 => di (decide (fwFence e ≤ 4095) && allZero (bytesAt e 10 6) && allZero (bytesAt e 24 24))
  | 5 => di (fieldAt e 8 1 / 64 == 0 && allZero (bytesAt e 9 3) && fieldAt e 14 2 == 0)
  | 6 => di (decide (fieldAt e 8 1 ≤ 1) && allZero (bytesAt e 9 39))
  | _ => di (adminAssigned (adOp e))

/-- The checks of R67 on a queue of a function. -/
def entryFault (fn : Nat) (e : List Byte) : Option Status :=
  if entryCommonOk e = false then some .descriptorInvalid
  else if fn = pfFn then
    if (enType e = 6 ∨ enType e = 7) ∧ enMode e = 0 then entryTypeFault e else some .descriptorInvalid
  else if enType e = 7 then some .adminRefused
  else entryTypeFault e

/- Fences (R86, R87). -/

/-- A set-max of a bay's fence. -/
def State.fenceMax (s : State) (b f v : Nat) : State :=
  if f < 4096 ∧ s.fenceAt b f < v then s.setBay b { s.bayAt b with fences := tabSet (s.bayAt b).fences f (v % 2 ^ 64) } else s

/-- A fence signal of an item or node (R68, R71, R81, R479). -/
def State.signalFence (s : State) (b f v q slot node : Nat) : State := (s.fenceMax b f v).traceRidge 6 b q 0 slot node

/-- Is a fence EXTERNAL (R87)? -/
def State.fenceExternal (s : State) (b f : Nat) : Bool := (s.bayAt b).external.contains f

/- Items. -/

/-- Change the item in a slot of a queue. -/
def State.updItem (s : State) (fn q slot : Nat) (f : Item → Item) : State :=
  let v := s.queueAt fn q
  s.setQueue fn q { v with items := v.items.map (fun it => if it.slot = slot then f it else it) }

/-- The item in a slot of a queue. -/
def State.itemAt (s : State) (fn q slot : Nat) : Option Item := (s.queueAt fn q).items.find? (fun it => it.slot == slot)

/-- Has an item not completed? -/
def Item.live (it : Item) : Bool := it.st != .completed

/-- Has an item started and not completed (R59)? -/
def Item.active (it : Item) : Bool := it.st == .running || it.st == .waiting

/-- Started and uncompleted items of a function (R59). -/
def State.started (s : State) (fn : Nat) : Nat :=
  (s.queuesOf fn).foldl (fun n p => n + (p.2.items.filter Item.active).length) 0

/-- Is the target of a queue's reset being waited for (R75)? -/
def State.resetting (s : State) (fn q : Nat) : Bool :=
  (s.queuesOf pfFn).any (fun p => p.2.items.any (fun it =>
    it.st == .waiting && enType it.entry == 7 && adOp it.entry == 2 && adBay it.entry == fn && adQueue it.entry == q))

/-- An item completes: its status, and the fields of its record (R76). -/
def Item.done (it : Item) (st : Status) (result node split : Nat) : Item :=
  { it with st := .completed, status := st, result := result, node := node, split := split }

/-- Does an item signal with a status (R68)? -/
def signals (e : List Byte) (st : Status) : Bool :=
  (enMode e == 2 || (enMode e == 1 && st == .ok)) && decide (enFence e ≤ 4095)

/-- A running queue stops at a status other than OK when its parameter says so (R61, R94). DESIGN CHOICE (log entry 66): one already in
FETCH_FAULT stays there, and the items that it has fetched still start. -/
def Queue.stopFor (v : Queue) (st : Status) : Queue :=
  if st != .ok && v.stopOnFail && v.st == .running then { v with st := .stopped } else v

/-- An item of a queue completes: status, signal, stop on failure (R61, R68, R93). -/
def State.endItem (s : State) (fn q slot : Nat) (st : Status) (result node split : Nat) : State :=
  match s.itemAt fn q slot with
  | none => s
  | some it =>
    let s0 := if it.launch.any (fun l => l.far.isSome) then s.dropOwner (fun o => o == .item fn q slot) else s
    let s1 := s0.updItem fn q slot (fun x => x.done st result node split)
    let s2 := if fn != pfFn && signals it.entry st then s1.signalFence fn (enFence it.entry) (enValue it.entry) q slot 0 else s1
    s2.setQueue fn q ((s2.queueAt fn q).stopFor st)

/- Launches. -/

/-- Header fields of a course (R79). -/
def coNodes (h : List Byte) : Nat := fieldAt h 8 2
def coPatches (h : List Byte) : Nat := fieldAt h 10 2
def coEdges (h : List Byte) : Nat := fieldAt h 12 4
def coLength (h : List Byte) : Nat := fieldAt h 16 4
def coNodeTab (h : List Byte) : Nat := fieldAt h 20 4
def coEdgeTab (h : List Byte) : Nat := fieldAt h 24 4
def coPatchTab (h : List Byte) : Nat := fieldAt h 28 4

/-- Node fields (R80). -/
def ndType (r : List Byte) : Nat := fieldAt r 0 1
def ndPreds (r : List Byte) : Nat := fieldAt r 2 2
def ndFirst (r : List Byte) : Nat := fieldAt r 4 4
def ndStacks (r : List Byte) : Nat := fieldAt r 16 3

/-- Does a node type use the core set? -/
def usesCores (t : Nat) : Bool := [1, 2, 3, 5, 6, 9].contains t

/-- The bay-relative columns and rows of a core set (R80). -/
def ndCols (r : List Byte) : List Nat := (List.range (fieldAt r 10 1)).map (fun i => fieldAt r 8 1 + i * fieldAt r 12 1)
def ndRows (r : List Byte) : List Nat := (List.range (fieldAt r 11 1)).map (fun j => fieldAt r 9 1 + j * fieldAt r 13 1)

/-- The members of a core set as bay-relative core indices. -/
def ndCores (r : List Byte) : List Nat :=
  if usesCores (ndType r) then (ndCols r).flatMap (fun c => (ndRows r).map (fun w => c * 56 + w)) else []

/-- The members of a stack set as bay stack indices (R37). -/
def ndStackSet (r : List Byte) : List Nat :=
  if ndType r = 4 then (List.range 24).filter (fun i => bitOf (ndStacks r) i) else []

/-- The packets of a node: one for every strip that its set touches (R58). Those of a sync node count too (log entry 67). -/
def ndPackets (r : List Byte) : Nat :=
  ((List.range 12).filter (fun j => ((ndCols r).any (fun c => c / 6 == j) && usesCores (ndType r)) ||
    (ndStackSet r).any (fun i => i / 2 == j))).length

/-- Is a fence node one that waits (R81)? -/
def ndFenceWait (r : List Byte) : Bool := ndType r == 8 && fieldAt r 34 1 == 0
def ndFence (r : List Byte) : Nat := fieldAt r 32 2
def ndValue (r : List Byte) : Nat := fieldAt r 40 8

/-- Has a launch not ended? -/
def Launch.goes (l : Launch) : Bool := l.fin == .going

/-- Work orders sent and not yet reported; a sync sends none (R533). -/
def Launch.owed (l : Launch) : Nat := l.nodes.foldl (fun n v => if ndType v.rcd = 9 then n else n + v.owed) 0

/-- The failed node with the lowest index (R84). -/
def Launch.failedNode (l : Launch) : Option (Nat × NodeRun) :=
  ((List.range l.nodes.length).zip l.nodes).find? (fun p => p.2.fail.isSome)

/-- The status that a failed launch takes, its node, and the failed splits (R76, R84). -/
def Launch.failure (l : Launch) : Status × Nat × Nat :=
  match l.failedNode with
  | none => (.courseInvalid, 0, 0)
  | some (i, v) => match v.fail with
    | some (_, st) => (st, i, if st == .splitPartial then v.splits % 16 else 0)
    | none => (.courseInvalid, i, 0)

/-- Apply the patches of a node to its record (R40, R82). -/
def patched (patches : List (List Byte)) (batten : List Byte) (i : Nat) (r : List Byte) : List Byte :=
  patches.foldl (fun acc p =>
    if fieldAt p 0 2 = i ∧ fieldAt p 3 1 ≠ 0 then overlay acc (fieldAt p 2 1) (bytesAt batten (fieldAt p 4 2) (fieldAt p 3 1)) else acc) r

/-- The 2-byte indices of a byte string. -/
def u16s : List Byte → List Nat
  | a :: b :: rest => (a.toNat + 256 * b.toNat) :: u16s rest
  | _ => []

/-- Read node `i` of a launch and patch it; then its predecessors where their range is legal (R80, R83). -/
def State.readNode (s : State) (a : Agent) (course : Nat) (l : Launch) (i : Nat) : Except Status (List Byte × Except Status (List Nat)) :=
  match s.readAt a (course + coNodeTab l.header + 128 * i) 128 with
  | .error e => .error e
  | .ok raw =>
    let r := patched l.patches l.batten i raw
    .ok (r, if coEdges l.header < ndFirst r + ndPreds r then .error .lengthRange
            else match s.readAt a (course + coEdgeTab l.header + 2 * ndFirst r) (2 * ndPreds r) with
              | .error e => .error e
              | .ok bs => .ok (u16s bs))

/-- Check 2 on the header of a course (R79, R83). A table without entries may lie anywhere (log entry 67). -/
def State.headerCheck (s : State) (b : Nat) (course : Nat) (h : List Byte) : Chk Unit := do
  need (fieldAt h 0 4 == 0x45535243 && fieldAt h 4 2 == 0x0200 && fieldAt h 7 1 == 0 && allZero (bytesAt h 32 32) &&
    coNodeTab h % 64 == 0 && coEdgeTab h % 8 == 0 && coPatchTab h % 8 == 0 && decide (coPatches h ≤ 1024) &&
    fieldAt h 6 1 == (s.bayAt b).count) .courseInvalid
  match s.checkAt b course (coLength h) with
  | some e => .error e
  | none => pure ()
  need ([(coNodeTab h, 128 * coNodes h), (coEdgeTab h, 2 * coEdges h), (coPatchTab h, 8 * coPatches h)].all
    (fun t => t.2 == 0 || decide (t.1 + t.2 ≤ coLength h))) .lengthRange

/-- A table of 8-byte entries. -/
def entries8 (bs : List Byte) (n : Nat) : List (List Byte) := (List.range n).map (fun k => bytesAt bs (8 * k) 8)

/-- Check 4 on a patch entry at `k` (R41, R82). -/
def patchCheck (ps : List (List Byte)) (nodes batten k : Nat) : Chk Unit := do
  let p := ps.getD k []
  let node := fieldAt p 0 2
  let off := fieldAt p 2 1
  let len := fieldAt p 3 1
  need (fieldAt p 6 2 == 0) .courseInvalid
  if len = 0 then pure () else
    need (decide (node < nodes ∧ 32 ≤ off ∧ off + len ≤ 128) &&
      !((List.range ps.length).any (fun j => j != k && fieldAt (ps.getD j []) 0 2 == node && fieldAt (ps.getD j []) 3 1 != 0 &&
        rangesMeet (off, len) (fieldAt (ps.getD j []) 2 1, fieldAt (ps.getD j []) 3 1)))) .courseInvalid
    need (decide (fieldAt p 4 2 + len ≤ batten)) .lengthRange

/-- The header of a course, read and checked (R83 check 2). -/
def State.readHeader (s : State) (a : Agent) (e : List Byte) : Chk (List Byte) := do
  let h ← s.readAt a (fieldAt e 8 8) 64
  s.headerCheck a.bay (fieldAt e 8 8) h
  return h

/-- The batten of a LAUNCH: from memory, or as it came through a fabric window (R69). -/
def State.readBatten (s : State) (a : Agent) (it : Item) : Chk (List Byte) :=
  match it.launch.bind (·.far), it.endAs with
  | some _, some e => .error e
  | some bs, none => .ok bs
  | none, _ => s.readAt a (fieldAt it.entry 16 8) (fieldAt it.entry 24 2)

/-- Checks 2 to 4 of R83: the header, the batten and the patch entries. -/
def State.launchReads (s : State) (a : Agent) (it : Item) : Chk (List Byte × List Byte × List (List Byte)) := do
  let h ← s.readHeader a it.entry
  let batten ← s.readBatten a it
  let pt ← s.readAt a (fieldAt it.entry 8 8 + coPatchTab h) (8 * coPatches h)
  let ps := entries8 pt (coPatches h)
  (List.range ps.length).forM (fun k => patchCheck ps (coNodes h) batten.length k)
  return (h, batten, ps)

/-- What the reads of a launch meet in memory (R239, R240): each comes after the ones before it have passed their checks. -/
def State.launchTouch (s : State) (a : Agent) (it : Item) : State :=
  let e := it.entry
  let s1 := s.touchAt a.bay (fieldAt e 8 8) 64
  match (s1.itemView it).readHeader a e with
  | .error _ => s1
  | .ok h =>
    let s2 := if it.launch.any (fun l => l.far.isSome) then s1 else s1.touchAt a.bay (fieldAt e 16 8) (fieldAt e 24 2)
    match (s2.itemView it).readBatten a it with
    | .error _ => s2
    | .ok _ => s2.touchAt a.bay (fieldAt e 8 8 + coPatchTab h) (8 * coPatches h)

/-- A launch as it starts. -/
def launchNew (lid : Nat) : Launch := ⟨lid, false, [], [], [], [], 0, .going, none⟩

/-- Every node of a launch, read or not: index, record and predecessors (R89, R319). Of a LAUNCH whose reads are not complete, the nodes
are those that its image holds now, patched with the batten's bytes; of one through a fabric window that has not all come, with the bytes so
far and zeros (DESIGN CHOICE, log entry 70). -/
def State.allNodes (s : State) (a : Agent) (it : Item) : List (Nat × List Byte × List Nat) :=
  let l0 := it.launch.getD (launchNew 0)
  let view := if l0.ready then some l0 else match s.launchReads a it with
    | .ok (h, bt, ps) => some { l0 with header := h, batten := bt, patches := ps }
    | .error _ => none
  match view with
  | none => []
  | some l =>
    ((List.range l.nodes.length).zip l.nodes).map (fun p => (p.1, p.2.rcd, p.2.preds)) ++
    ((List.range (coNodes l.header)).drop l.nodes.length).filterMap (fun i =>
      match s.readNode a (fieldAt it.entry 8 8) l i with
      | .ok (r, .ok ps) => some (i, r, ps)
      | .ok (r, .error _) => some (i, r, [])
      | .error _ => none)

/-- The units that an end notice reaches: those of the nodes sent, and every core of a valley node (R111, R319). -/
def State.noticeUnits (s : State) (b : Nat) (l : Launch) (all : List (Nat × List Byte × List Nat)) : List NoticeTo :=
  let n := (s.bayAt b).count
  let sent := (l.nodes.filter (fun v => v.st != .unsent)).map (·.rcd)
  let valley := (all.filter (fun p => ndType p.2.1 == 5)).map (·.2.1)
  let cores := ((sent ++ valley).flatMap ndCores).eraseDups.filter (fun i => decide (i < 336 * n))
  let stackList := (sent.flatMap ndStackSet).eraseDups.filter (fun i => decide (i < 2 * n))
  cores.map (fun i => .core (s.coreOf b i)) ++ stackList.map (fun i => .eave (s.stackOf b i)) ++
    (if sent.any (fun r => ndType r == 7) then [.coll] else [])

/-- A launch ends before all its nodes complete: no further node is sent, fence waits are withdrawn, and the end notices
leave (R84, R92, R93, R111). -/
def State.endLaunch (s : State) (fn q slot : Nat) (how : LaunchEnd) : State :=
  match s.itemAt fn q slot with
  | none => s
  | some it => match it.launch with
    | none => s
    | some l =>
      let l1 := { l with fin := how, nodes := l.nodes.map (fun v => if v.st == .waiting && ndType v.rcd == 8 then { v with st := .withdrawn } else v) }
      let s1 := s.updItem fn q slot (fun x => { x with launch := some l1 })
      if l.goes then
        let all := if l.ready then s.allNodes ((s.queueAt fn q).agent fn) it else []
        let vs := ((all.filter (fun p => ndType p.2.1 == 5)).map (fun p => (fieldAt p.2.1 56 4, fieldAt p.2.1 54 2))).eraseDups
        { s1 with notices := s1.notices ++ (s.noticeUnits fn l all).map (fun u => ⟨fn, l.lid, u, vs⟩) }
      else s1

/-- Change a node of a launch. -/
def State.updNode (s : State) (fn q slot node : Nat) (f : NodeRun → NodeRun) : State :=
  s.updItem fn q slot (fun it => { it with launch := it.launch.map (fun l =>
    { l with nodes := match l.nodes[node]? with | some v => l.nodes.set node (f v) | none => l.nodes }) })

/-- The lower member decides the failure of a node (R84). -/
def NodeRun.failBy (v : NodeRun) (member : Nat) (st : Status) : NodeRun :=
  { v with st := .failed, fail := match v.fail with
      | none => some (member, st)
      | some (m, old) => if member < m then some (member, st) else some (m, old) }

/-- A node fails: the launch ends (R84). -/
def State.failNode (s : State) (fn q slot node member : Nat) (st : Status) : State :=
  let s1 := s.updNode fn q slot node (fun v => v.failBy member st)
  match s1.itemAt fn q slot with
  | some it => match it.launch with
    | some l => if l.goes then s1.endLaunch fn q slot .failed else s1
    | none => s1
  | none => s1

/-- A node completes (R39, R479). -/
def State.nodeDone (s : State) (fn q slot node : Nat) : State :=
  (s.updNode fn q slot node (fun v => { v with st := .done })).traceRidge 4 fn q 0 slot node

/-- A node that a failure ends, or whose launch has ended, completes with a status (R479). -/
def State.nodeEnds (s : State) (fn q slot node : Nat) (st : Status) : State := s.traceRidge 4 fn q (statusCode st) slot node

/-- Where a launch is: its queue, its item and itself. -/
def State.findLaunch (s : State) (fn lid : Nat) : Option (Nat × Item × Launch) :=
  (s.queuesOf fn).findSome? (fun p => p.2.items.findSome? (fun it =>
    match it.launch with
    | some l => if it.live && l.lid == lid then some (p.1, it, l) else none
    | none => none))

/-- A completion report reaches the ridge (R112, R136, R324). -/
def State.takeReport (s : State) (b lid node member : Nat) (st : Status) (mask exit : Nat) : State :=
  match s.findLaunch b lid with
  | none => s
  | some (q, it, l) => match l.nodes[node]? with
    | none => s
    | some v =>
      let v1 := { v with owed := v.owed - 1, splits := Nat.lor v.splits (if st == .splitPartial then mask else 0),
                         exitMask := Nat.lor v.exitMask (if st == .ok then exit else 0) }
      let s1 := s.updNode b q it.slot node (fun _ => v1)
      if st != .ok && st != .notRun then
        let s2 := s1.failNode b q it.slot node member st
        if v1.owed == 0 then s2.nodeEnds b q it.slot node (((v1.failBy member st).fail).elim st (·.2)) else s2
      else if v1.owed != 0 then s1
      else if l.goes && v1.st == .sent then s1.nodeDone b q it.slot node
      else s1.nodeEnds b q it.slot node (v1.fail.elim st (·.2))

/-- A sync report reaches the ridge: with the last one the release leaves (R533). -/
def State.takeSync (s : State) (b lid node : Nat) : State :=
  match s.findLaunch b lid with
  | none => s
  | some (q, it, _) => s.updNode b q it.slot node (fun v =>
      { v with owed := v.owed - 1, st := if v.owed ≤ 1 && v.st == .sent then .waiting else v.st })

/- Cycle detection (R89, R90). -/

/-- A waiter: queue, slot, fetch order, node if it is a node, fence, value. -/
structure Waiter where
  q : Nat
  slot : Nat
  order : Nat
  node : Option Nat
  f : Nat
  v : Nat
  deriving DecidableEq, Repr

/-- A signaller: queue, fetch order, node if it is a node. -/
structure Signaller where
  q : Nat
  order : Nat
  node : Option Nat
  deriving DecidableEq, Repr

/-- The waits of one item. -/
def itemWaits (q : Nat) (it : Item) : List Waiter :=
  (if it.st == .waiting && enType it.entry == 3 then [⟨q, it.slot, it.order, none, fwFence it.entry, fwValue it.entry⟩] else []) ++
  (match it.launch with
   | some l => if it.live && l.goes then
       ((List.range l.nodes.length).zip l.nodes).filterMap (fun p =>
         if p.2.st == .waiting && ndFenceWait p.2.rcd then some ⟨q, it.slot, it.order, some p.1, ndFence p.2.rcd, ndValue p.2.rcd⟩ else none)
     else []
   | none => [])

/-- The waiters of a bay (R89): unsatisfied waits on INTERNAL fences. -/
def State.waiters (s : State) (b : Nat) : List Waiter :=
  ((s.queuesOf b).flatMap (fun p => p.2.items.flatMap (fun it => itemWaits p.1 it))).filter (fun w =>
    decide (s.fenceAt b w.f < w.v) && !s.fenceExternal b w.f)

/-- The signallers of a fence and value that one item gives (R89). -/
def State.itemSignallers (s : State) (b : Nat) (q : Nat) (v : Queue) (it : Item) (f val : Nat) : List Signaller :=
  if !it.live then [] else
    (if (enMode it.entry == 1 || enMode it.entry == 2) && enFence it.entry == f && decide (val ≤ enValue it.entry) then [⟨q, it.order, none⟩] else []) ++
    (if enType it.entry == 4 && fwFence it.entry == f && decide (val ≤ fwValue it.entry) then [⟨q, it.order, none⟩] else []) ++
    (if enType it.entry == 1 && it.launch.all Launch.goes then
      (s.allNodes (v.agent b) it).filterMap (fun p =>
        let unsent := match it.launch.bind (fun l => l.nodes[p.1]?) with | some n => n.st == .unsent | none => true
        if unsent && ndType p.2.1 == 8 && fieldAt p.2.1 34 1 == 1 && ndFence p.2.1 == f && decide (val ≤ ndValue p.2.1)
        then some ⟨q, it.order, some p.1⟩ else none)
     else [])

/-- The signallers of a waiter. -/
def State.signallers (s : State) (b : Nat) (w : Waiter) : List Signaller :=
  (s.queuesOf b).flatMap (fun p => p.2.items.flatMap (fun it => s.itemSignallers b p.1 p.2 it w.f w.v))

/-- The nodes that depend on node `e`, among nodes in ascending order. -/
def dependents (e : Nat) (all : List (Nat × List Nat)) : List Nat :=
  all.foldl (fun acc p => if e < p.1 && p.2.any (fun i => i == e || acc.contains i) then acc ++ [p.1] else acc) []

/-- Does node `later` of a launch depend on node `earlier`? -/
def State.nodeDepends (s : State) (b q order earlier later : Nat) : Bool :=
  match (s.queueAt b q).items.find? (fun it => it.order == order) with
  | none => false
  | some it => (dependents earlier ((s.allNodes ((s.queueAt b q).agent b) it).map (fun p => (p.1, p.2.2)))).contains later

/-- Is a signaller stuck behind a waiter (R89)? -/
def State.stuck (s : State) (b : Nat) (g : Signaller) (u : Waiter) : Bool :=
  g.q == u.q && (decide (u.order < g.order) || (g.order == u.order && (match g.node, u.node with
    | none, _ => true
    | some n, some e => s.nodeDepends b u.q u.order e n
    | some _, none => false)))

/-- The repeat loop of R89, with one pass for each waiter at most. -/
def State.cycleLoop (s : State) (b : Nat) : Nat → List Waiter → List Waiter
  | 0, c => c
  | n + 1, c =>
    let c1 := c.filter (fun w => (s.signallers b w).all (fun g => c.any (fun u => s.stuck b g u)))
    if c1.length = c.length then c else s.cycleLoop b n c1

/-- The cycle that R89 finds, empty when there is none. -/
def State.cycleOf (s : State) (b : Nat) : List Waiter :=
  let ws := s.waiters b
  let c := ws.filter (fun w => s.signallers b w != [] && (s.signallers b w).all (fun g => ws.any (fun u => s.stuck b g u)))
  s.cycleLoop b (c.length + 1) c

/-- One waiter of a reported cycle ends FENCE_CYCLE (R90). -/
def State.cycleEnd (s : State) (b : Nat) (w : Waiter) : State :=
  match w.node with
  | none => s.endItem b w.q w.slot .fenceCycle 0 0 0
  | some n => (s.failNode b w.q w.slot n 0 .fenceCycle).nodeEnds b w.q w.slot n .fenceCycle

/-- The evaluation of R89 and the report of R90: the queues stop, then the waiters end. A queue in FETCH_FAULT stops too; one whose completion
path is lost keeps its state (log entry 66). -/
def State.evaluate (s : State) (b : Nat) : State :=
  match s.cycleOf b with
  | [] => s
  | c =>
    let s1 := (c.map (·.q)).eraseDups.foldl (fun t q =>
      let v := t.queueAt b q
      (t.setQueue b q { v with st := if v.st == .running || v.st == .fetchFault then .stopped else v.st }).traceRidge 7 b q 0 0 0) s
    c.foldl (fun t w => t.cycleEnd b w) s1

/-- A queue gains a wait on a fence for a value: if it is a waiter, the ridge evaluates (R88, R89). -/
def State.gainWaiter (s : State) (b f v : Nat) : State :=
  if s.fenceAt b f < v ∧ s.fenceExternal b f = false then s.evaluate b else s

/- Records (R65, R76, R95). -/

/-- The record of an item as the ridge forms it (R76). -/
def recordOf (it : Item) (v : Queue) (q time : Nat) : List Byte :=
  natLE 1 (statusCode it.status) ++ natLE 1 (if it.seq / v.size % 2 = 0 then 1 else 0) ++ natLE 2 it.slot ++ bytesAt it.entry 4 4 ++
    natLE 2 v.sqHead ++ natLE 1 q ++ natLE 1 it.split ++ natLE 2 it.node ++ natLE 2 0 ++ natLE 8 it.result ++ natLE 8 time

/-- The queue after the record of its oldest item has left. -/
def Queue.popRecord (v : Queue) : Queue := { v with items := v.items.drop 1, recHead := (v.recHead + 1) % v.size }

/-- The record of the oldest item of a queue is written, or kept when its path is lost (R65, R95). -/
def State.writeRecord (s : State) (fn q : Nat) (it : Item) : State :=
  let v := s.queueAt fn q
  let rcd := recordOf it v q s.stamp
  let s0 := { s.drawn with sec := { s.sec with mirror := s.sec.mirror.filter (fun m => !(m.fn == fn && m.q == q && m.slot == it.slot)) } }
  let s1 := (s0.setQueue fn q v.popRecord).traceRidge 5 fn q (statusCode it.status) it.slot it.node
  let keep (t : State) (st : QState) : State :=
    let u := t.queueAt fn q
    t.setQueue fn q { u with st := st, retained := u.retained ++ [rcd] }
  if v.st == .pathLost then keep s1 .pathLost
  else
    let w := s1.writeAt (v.agent fn) (v.cqBase.toNat + 32 * it.slot) rcd
    match w.2 with
    | none => if enIrq it.entry then w.1.msix fn v.msixVec else w.1
    | some _ => ((keep w.1 .pathLost).raiseIn fn ⟨0x12, q, it.slot, 0, (v.items.filter (fun x => x.st == .fetched)).length⟩).msix pfFn 0

/- What the ridge does at once. -/

/-- Have all items before a position of a queue completed? -/
def allDone (l : List Item) : Bool := l.all (fun it => !it.live)

/-- The items of a queue before the one with a fetch order. -/
def Queue.before (v : Queue) (order : Nat) : List Item := v.items.takeWhile (fun it => it.order != order)

/-- Does an earlier FENCE_WAIT or BARRIER hold an item back (R78)? -/
def Queue.heldBack (v : Queue) (order : Nat) : Bool :=
  (v.before order).any (fun it => it.live && (enType it.entry == 3 || enType it.entry == 6))

/-- The next item of a queue that has not started. -/
def Queue.nextUnstarted (v : Queue) : Option Item := v.items.find? (fun it => it.st == .fetched)

/-- The next unstarted item of a queue, when it may start (R59, R78, R94). -/
def State.startable (s : State) (fn q : Nat) : Option Item :=
  let v := s.queueAt fn q
  match v.nextUnstarted with
  | none => none
  | some it =>
    if (v.st == .running || v.st == .fetchFault) && !v.heldBack it.order &&
        (fn == pfFn || decide (s.started fn < 512)) then some it else none

/-- Is a BARRIER of scope 1 free: has every item that the ridge fetched before it completed (R72)? -/
def State.scopeDone (s : State) (fn order : Nat) : Bool :=
  (s.queuesOf fn).all (fun p => p.2.items.all (fun it => !it.live || decide (order ≤ it.order)))

/-- Entries pending at a queue (R62, R64). -/
def State.pendingEntries (s : State) (fn q : Nat) : Nat :=
  let v := s.queueAt fn q
  match v.tailFence with
  | some f => s.fenceAt fn f - v.fetched
  | none => (v.sqTail + v.size - v.sqHead) % v.size

/-- Has a bay work for the ridge: events that wait, items, or entries to fetch (R406, log entry 69)? -/
def State.hasWork (s : State) (b : Nat) : Bool :=
  s.heldAt b != [] || (s.queuesOf b).any (fun p => p.2.items != [] ||
    ((p.2.st == .running || p.2.st == .stopped) && decide (0 < s.pendingEntries b p.1)))

/-- The bay that the ridge serves now: in isolated mode the one that has the slot; in shared mode the first with work from the one
that has it (R406). -/
def State.slotBay (s : State) : Option Nat :=
  if s.dev.isolated then s.slotOwner else (s.dev.cycle.drop s.dev.slotIx ++ s.dev.cycle.take s.dev.slotIx).find? s.hasWork

/-- Does the ridge serve a function at this time (R406)? In shared mode without any work it serves every bay of the last slot boundary.
The PF has no slot of its own: it is served throughout. In DEVICE_FATAL the ridge serves none (R440). -/
def State.serves (s : State) (fn : Nat) : Bool :=
  s.dev.fatal.isNone && (fn == pfFn || (match s.slotBay with
    | some b => b == fn
    | none => s.dev.cycle.contains fn))

/-- Does a firmware activation drain the device? One of KIND 2 does not (R492). -/
def State.draining (s : State) : Bool := match s.sec.activation with | some a => a.1 != 2 | none => false

/-- Is the ridge held from fetching for a function (R371, R398, R428, R480, R484, R492)? -/
def State.fetchHeld (s : State) (fn : Nat) : Bool :=
  s.dev.fatal.isSome || s.dev.warmPending || s.dev.coldCause == some 3 || s.draining || (fn != pfFn && ((s.bayAt fn).halted || (s.bayAt fn).fetchHold != [] || !(s.fnAt fn).exists_))

/-- May the ridge fetch the next entry of a queue (R59, R62, R65, R94)? -/
def State.fetchable (s : State) (fn q : Nat) : Bool :=
  let v := s.queueAt fn q
  (v.st == .running || v.st == .stopped) && decide (0 < s.pendingEntries fn q) && decide (v.items.length < 32) &&
    decide ((v.sqHead + v.size - v.cqHead) % v.size < v.size - 1) && (fn == pfFn || decide (s.started fn < 512)) &&
    !s.fetchHeld fn && !s.resetting fn q

/-- The queues of a function with an entry to fetch or an item to start, of the highest priority among them (R59). -/
def State.readyQueues (s : State) (fn : Nat) : List Nat :=
  let ready := (s.queuesOf fn).filter (fun p => s.fetchable fn p.1 || (s.startable fn p.1).isSome)
  let top := ready.foldl (fun m p => max m p.2.prio) 0
  (ready.filter (fun p => p.2.prio == top)).map (·.1)

/-- The queue that the ridge serves next: round robin by queue index within the priority (R59). -/
def State.nextQueue (s : State) (fn : Nat) : Option Nat :=
  let qs := s.readyQueues fn
  match qs with
  | [] => none
  | q :: _ =>
    let ptr := tabGet s.dev.rr (fn * 4 + (s.queueAt fn q).prio) 0
    some ((qs.find? (fun x => decide (ptr ≤ x))).getD q)

/-- Is it a queue's turn (R59, R406)? -/
def State.turn (s : State) (fn q : Nat) : Bool := s.serves fn && s.nextQueue fn == some q

/-- The round-robin place after a queue has been served. -/
def State.served (s : State) (fn q : Nat) : State :=
  { s with dev := { s.dev with rr := tabSet s.dev.rr (fn * 4 + (s.queueAt fn q).prio) (q + 1) } }

/-- The next unstarted item of a queue, of a type, when it may start and it is the queue's turn (R59, R78). -/
def State.toStart (s : State) (fn q type : Nat) : Option Item :=
  match s.startable fn q with
  | some it => if s.turn fn q && enType it.entry == type && (entryFault fn it.entry).isNone then some it else none
  | none => none

/-- What the ridge can end of one item of a queue at once, if anything (R71, R72, R84, R92 to R95). A RESET_QUEUE that is under way when the
target's completion path is lost disables the queue once its items are gone (R75, log entry 66). -/
def State.itemAction (s : State) (fn q : Nat) (v : Queue) (it : Item) : Option State :=
  match it.st with
  | .completed => none
  | .fetched =>
    if v.st == .stopped then some (s.endItem fn q it.slot .notRun 0 0 0)
    else if v.st == .pathLost then some (s.endItem fn q it.slot .completionPathLost 0 0 0)
    else if (s.startable fn q).map (·.order) == some it.order then
      (entryFault fn it.entry).map (fun e => s.endItem fn q it.slot e 0 0 0)
    else none
  | .waiting => match enType it.entry with
    | 3 => if fwValue it.entry ≤ s.fenceAt fn (fwFence it.entry) then some (s.endItem fn q it.slot .ok 0 0 0) else none
    | 4 => if allDone (v.before it.order) then
        some ((s.signalFence fn (fwFence it.entry) (fwValue it.entry) q it.slot 0).endItem fn q it.slot .ok 0 0 0) else none
    | 5 => if (s.queuesOf fn).all (fun p => p.2.items.all (fun x => !x.live || !it.targets.contains x.order)) then
        some (s.endItem fn q it.slot .ok it.targets.length 0 0) else none
    | 6 => if (if fieldAt it.entry 8 1 = 0 then allDone (v.before it.order) else s.scopeDone fn it.order) then
        some (s.endItem fn q it.slot .ok 0 0 0) else none
    | 7 => if adOp it.entry = 2 ∧ (s.queueAt (adBay it.entry) (adQueue it.entry)).items = [] then
        let u := s.queueAt (adBay it.entry) (adQueue it.entry)
        some ((s.setQueue (adBay it.entry) (adQueue it.entry)
          { u with st := .disabled, sqHead := 0, sqTail := 0, cqHead := 0, recHead := 0, fetched := 0 }).endItem fn q it.slot .ok it.moved 0 0)
      else none
    | _ => none
  | .running => match it.launch with
    | none => none
    | some l =>
      match ((List.range l.nodes.length).zip l.nodes).find? (fun p => p.2.st == .waiting && ndFenceWait p.2.rcd &&
          decide (ndValue p.2.rcd ≤ s.fenceAt fn (ndFence p.2.rcd))) with
      | some (i, _) => some (s.nodeDone fn q it.slot i)
      | none =>
        match l.fin with
        | .going => if l.ready && l.nodes.length == coNodes l.header && l.nodes.all (fun v => v.st == .done)
            then some (s.endItem fn q it.slot .ok l.packets 0 0) else none
        | .failed => if l.owed = 0 then some (s.endItem fn q it.slot l.failure.1 l.packets l.failure.2.1 l.failure.2.2) else none
        | .cancelled => if l.owed = 0 then some (s.endItem fn q it.slot .cancelled l.packets 0 0) else none
        | .byStatus st => if l.owed = 0 then some (s.endItem fn q it.slot st l.packets 0 0) else none

/-- What the ridge can do of one queue at once: an item's ending, a tail overrun (R64), the oldest item's record (R65). -/
def State.queueAction (s : State) (fn q : Nat) : Option State :=
  let v := s.queueAt fn q
  match v.items.findSome? (fun it => s.itemAction fn q v it) with
  | some t => some t
  | none =>
    if v.tailFence.isSome && (v.st == .running || v.st == .stopped) && decide (v.size - 1 < s.pendingEntries fn q) then
      some ((s.setQueue fn q { v with st := .fetchFault }).raiseIn fn ⟨0x10, q, v.sqHead, s.fenceAt fn (v.tailFence.getD 0), 0⟩)
    else match v.items with
      | it :: _ => if it.live then none else some (s.writeRecord fn q it)
      | [] => none

/-- One thing that the ridge can do at once for a function that it serves. -/
def State.settleStep (s : State) : Option State :=
  (List.range 13).findSome? (fun fn => if s.serves fn then (s.queuesOf fn).findSome? (fun p => s.queueAction fn p.1) else none)

/-- Up to `n` of them. -/
def State.settleFor : Nat → State → State
  | 0, s => s
  | n + 1, s => match s.settleStep with
    | none => s
    | some t => State.settleFor n t

/-- The ridge does all that it can do at once, one event at a time (R91). -/
def State.settle (s : State) : State := State.settleFor (2 ^ 40) s

/- Events that reach the ridge for a bay (R406). -/

/-- A refused doorbell write raises the function's error vector (R63, R421). -/
def State.doorbellBad (s : State) (fn q value : Nat) : State := s.raiseIn fn ⟨0x10, q, value, 0, 0⟩

/-- A write to a doorbell page (R63, R65, R513). -/
def State.doorbell (s : State) (fn q off width value : Nat) : State :=
  let v := s.queueAt fn q
  if v.st == .disabled then s.doorbellBad fn q value
  else if width ≠ 4 then s
  else if off = 0 then
    if v.tailFence.isSome then s
    else if v.size ≤ value then s.doorbellBad fn q value
    else s.setQueue fn q { v with sqTail := value }
  else if off = 8 then
    if v.size ≤ value ∨ (v.recHead + v.size - v.cqHead) % v.size < (value + v.size - v.cqHead) % v.size then s.doorbellBad fn q value
    else s.setQueue fn q { v with cqHead := value }
  else s

/-- A function counts an error in its AER (R370). -/
def State.countAer (s : State) (fn : Nat) : State := s.setFn fn { s.fnAt fn with aer := (s.fnAt fn).aer + 1 }

/-- A write to the fence window (R86, R87). BAR2 has nothing beyond it (R63, R370). -/
def State.fenceWrite (s : State) (b off width value : Nat) : State :=
  if 0x8000 ≤ off then s.countAer b
  else if width ≠ 8 ∨ off % 8 ≠ 0 then s
  else if s.fenceExternal b (off / 8) then s.fenceMax b (off / 8) (value % 2 ^ 64)
  else s.raiseIn b ⟨0x13, off / 8, value % 2 ^ 64, 0, 0⟩

/-- A Faref request to a fence: WRITE sets the maximum, READ returns the counter, ATOMIC_ADD adds and saturates. An
INTERNAL fence changes by none of them (R87, R343). -/
def State.fenceRemote (s : State) (b kind f v p src tag : Nat) : State :=
  let resp := if kind = 1 then 4 else if kind = 2 then 5 else 6
  if kind = 2 then s.farAnswer (some b) p src tag resp 0 (natLE 8 (s.fenceAt b f))
  else if s.fenceExternal b f then
    if kind = 1 then (s.fenceMax b f v).farAnswer (some b) p src tag resp 0 []
    else (s.setBay b { s.bayAt b with fences := tabSet (s.bayAt b).fences f (min (2 ^ 64 - 1) (s.fenceAt b f + v)) }).farAnswer
      (some b) p src tag resp 0 (natLE 8 (s.fenceAt b f))
  else (s.raiseIn b ⟨0x13, f, v, 0, 0⟩).farAnswer (some b) p src tag resp 2 []

/-- The effect of an event at the ridge; that of a set-up write is in Setup.lean. -/
def State.applyEvent (s : State) (fn : Nat) (e : RidgeEvent) : State :=
  match e with
  | .doorbell q off width value => s.doorbell fn q off width value
  | .fenceWrite off width value => s.fenceWrite fn off width value
  | .report lid node member st mask exit => s.takeReport fn lid node member st mask exit
  | .syncReport lid node _ => s.takeSync fn lid node
  | .remote kind f v p src tag win => (s.fenceRemote fn kind f v p src tag).windowIdle fn win
  | .setup _ _ _ => s
  | .raise e trig => s.raiseWith fn e trig
  | .message entry => s.msix fn entry

/-- Does the ridge take an event of a function at once? Events that are held for it come first (R406, R501). -/
def State.takesNow (s : State) (fn : Nat) : Bool := s.serves fn && s.heldAt fn == []

/-- An event reaches the ridge: it acts now, or is held until the bay's slot (R406). In DEVICE_FATAL the ridge takes none. -/
def State.ridgeGets (s : State) (fn : Nat) (e : RidgeEvent) : State :=
  if s.dev.fatal.isSome then s
  else if s.takesNow fn then (s.applyEvent fn e).settle else s.hold fn e

/-- The existing bays in number order: the cycle of R406. -/
def State.ridgeCycle (s : State) : List Nat := (List.range 12).filter (fun b => s.bayExists b)

end Sys2Proof.Machine
end

