-- ==== Sys2Proof/Machine/Course.lean ====
section
/-! DEFINITION. Launches (R79 to R84): the checks of R83, battens and patches (R40 to R42), node records, the static
conditions and masks of exit scopes (R324), and the dispatch of nodes (R38, R58, R81, R352, R533). -/

namespace Sys2Proof.Machine

/- Check 5: reserved fields (R80, R81, R107 and the node types' chapters). -/

/-- The bits of a byte under a mask. -/
def bitsZero (r : List Byte) (n mask : Nat) : Bool := Nat.land (fieldAt r n 1) mask == 0

/-- Reserved fields of the core control block (R107). -/
def ccbReserved (r : List Byte) : Bool := bitsZero r 32 0x40 && bitsZero r 33 0x40 && bitsZero r 35 0x40 && fieldAt r 46 2 == 0

/-- Reserved fields of the type-specific bytes. -/
def typeReserved (r : List Byte) : Bool :=
  match ndType r with
  | 1 => ccbReserved r && bitsZero r 52 0xC0 && allZero (bytesAt r 53 3)
  | 2 => ccbReserved r && bitsZero r 52 0xCF && allZero (bytesAt r 53 3)
  | 3 => ccbReserved r && bitsZero r 52 0xDF && allZero (bytesAt r 54 2) && allZero (bytesAt r 60 4)
  | 4 => bitsZero r 36 0xDF && allZero (bytesAt r 38 2)
  | 5 => ccbReserved r && bitsZero r 52 0xC7
  | 6 => ccbReserved r && bitsZero r 52 0xC3 && bitsZero r 53 0xFF
  | 7 => bitsZero r 33 0x1C && allZero (bytesAt r 37 3) && allZero (bytesAt r 76 4) && allZero (bytesAt r 88 40)
  | 8 => allZero (bytesAt r 35 5) && allZero (bytesAt r 48 80)
  | 9 => allZero (bytesAt r 32 96)
  | _ => false

/-- TYPE and every reserved or unused field of a node (R80). -/
def nodeReserved (r : List Byte) : Bool :=
  typeReserved r && fieldAt r 1 1 == 0 && fieldAt r 14 2 == 0 && allZero (bytesAt r 19 13) &&
    (usesCores (ndType r) || allZero (bytesAt r 8 6)) && (ndType r == 4 || ndStacks r == 0)

/-- The core set or stack set of a node in a bay of `n` strips (R37, R80). -/
def nodeSetOk (r : List Byte) (n : Nat) : Bool :=
  if usesCores (ndType r) then
    decide (1 ≤ fieldAt r 10 1 ∧ fieldAt r 10 1 ≤ 72 ∧ 1 ≤ fieldAt r 11 1 ∧ fieldAt r 11 1 ≤ 56 ∧
      1 ≤ fieldAt r 12 1 ∧ fieldAt r 12 1 ≤ 8 ∧ 1 ≤ fieldAt r 13 1 ∧ fieldAt r 13 1 ≤ 8) &&
    (ndCols r).all (fun c => decide (c < 6 * n)) && (ndRows r).all (fun w => decide (w < 56))
  else decide (ndStacks r / 2 ^ (2 * n) = 0)

/-- The core control block (R107). -/
def ccbOk (r : List Byte) : Bool :=
  (byteBit r 32 7 || (fieldAt r 32 1 == 0 && fieldAt r 36 4 == 0)) && (byteBit r 33 7 || (fieldAt r 33 1 == 0 && fieldAt r 40 4 == 0)) &&
    (byteBit r 34 7 || (bitsZero r 34 0x3F && fieldAt r 44 2 == 0)) && (byteBit r 35 7 || fieldAt r 35 1 == 0)

/-- A scratchpad offset aligned to `a` and inside the scratchpad. -/
def spadPtr (v a : Nat) : Bool := v % a == 0 && decide (v < spadBytes)

/-- M_MAX and ACTIVE_ROWS at `o`: the legal counts are 1 to `top` (R55). -/
def rowCounts (r : List Byte) (o top : Nat) : Chk Unit := do
  need (decide (1 ≤ fieldAt r o 2 ∧ fieldAt r o 2 ≤ top)) .courseInvalid
  need (decide (fieldAt r (o + 2) 2 ≤ fieldAt r o 2)) .lengthRange

/-- MASK_EN with more than 512 rows (R177, R265, R310). -/
def maskOk (r : List Byte) : Bool := !byteBit r 52 5 || decide (fieldAt r 48 2 ≤ 512)

/-- A collective node (R352). A format code that the OP does not allow is FORMAT_INVALID (R141). -/
def collFields (r : List Byte) : Chk Unit := do
  let op := fieldAt r 32 1
  let red := op == 1 || op == 2
  let data (v : Nat) : Bool := decide (v / 2 ^ 60 < 3)
  need (decide (1 ≤ op ∧ op ≤ 6)) .courseInvalid
  need ((red || !byteBit r 33 6) && (op == 6 || !byteBit r 33 5) && (if red then fieldAt r 33 1 % 4 != 3 else fieldAt r 33 1 % 4 == 0)) .courseInvalid
  need (if red then decide (fieldAt r 34 1 ≤ 2) else fieldAt r 34 1 == 0) .formatInvalid
  need (if red then decide (fieldAt r 35 1 ≤ 2) else fieldAt r 35 1 == 0) .formatInvalid
  need (op == 5 || fieldAt r 36 1 == 0) .courseInvalid
  need (if op = 6 then fieldAt r 40 8 == 0 else data (fieldAt r 40 8)) .courseInvalid
  need (if op = 6 ∧ byteBit r 33 5 = false then fieldAt r 48 8 == 0 else data (fieldAt r 48 8)) .courseInvalid
  need (if op = 6 then fieldAt r 64 8 / 2 ^ 60 == 5 && fieldAt r 64 8 % 8 == 0
    else decide (fieldAt r 64 8 / 2 ^ 60 < 2) && fieldAt r 64 8 % 16 == 0) .courseInvalid
  need (op != 6 || fieldAt r 72 4 == 0) .courseInvalid
  need (if byteBit r 33 7 then data (fieldAt r 80 8) && fieldAt r 80 8 % 8 == 0 else fieldAt r 80 8 == 0) .courseInvalid

/-- The type-specific fields of a node of a course of `nodes` nodes, the lowest byte first (R534). -/
def nodeFields (r : List Byte) (nodes : Nat) : Chk Unit := do
  need (!([1, 2, 3, 5, 6].contains (ndType r)) || ccbOk r) .courseInvalid
  match ndType r with
  | 1 =>
    rowCounts r 48 512
    need (fieldAt r 52 1 / 8 % 4 != 3 && fieldAt r 52 1 / 2 % 4 != 3 &&
      (!byteBit r 52 0 || (fieldAt r 52 1 / 2 % 4 == 0 && decide (fieldAt r 48 2 ≤ 16))) && spadPtr (fieldAt r 60 4) 64) .courseInvalid
  | 2 =>
    rowCounts r 48 65535
    need (maskOk r && spadPtr (fieldAt r 60 4) 64) .courseInvalid
  | 3 =>
    rowCounts r 48 65535
    need (maskOk r && decide (1 ≤ fieldAt r 53 1 ∧ fieldAt r 53 1 ≤ 8) && fieldAt r 56 4 % 128 == 0 &&
      decide (fieldAt r 56 4 + 128 * fieldAt r 53 1 ≤ spadBytes)) .courseInvalid
  | 4 =>
    rowCounts r 32 512
    need (decide (1 ≤ fieldAt r 37 1 ∧ fieldAt r 37 1 ≤ 16) && ownStack (fieldAt r 40 8) && fieldAt r 40 8 % 64 == 0 &&
      ownStack (fieldAt r 48 8) && fieldAt r 48 8 % 32 == 0 &&
      (fieldAt r 56 8 == 0 || (ownStack (fieldAt r 56 8) && fieldAt r 56 8 % 32 == 0))) .courseInvalid
  | 5 =>
    rowCounts r 48 65535
    need (maskOk r && decide (fieldAt r 53 1 ≤ 7) && spadPtr (fieldAt r 60 4) 64) .courseInvalid
  | 6 =>
    rowCounts r 48 512
    need (fieldAt r 52 1 / 4 % 4 != 3 && decide (fieldAt r 54 2 < nodes) && spadPtr (fieldAt r 60 4) 64) .courseInvalid
  | 7 => collFields r
  | 8 => need (decide (ndFence r ≤ 4095) && decide (fieldAt r 34 1 ≤ 1)) .courseInvalid
  | _ => pure ()

/- Exit scopes (R324). -/

/-- Where a node keeps M_MAX, if its rows are masked by an exit test. -/
def maskedAt (r : List Byte) : Option Nat :=
  match ndType r with
  | 1 | 2 | 3 | 5 | 6 => some 48
  | 4 => some 32
  | _ => none

/-- The exit nodes below node `i` whose scope holds it. -/
def scopesOf (nodes : List NodeRun) (i : Nat) : List (Nat × NodeRun) :=
  (((List.range nodes.length).zip nodes).take i).filter (fun p => ndType p.2.rcd == 6 && decide (i ≤ fieldAt p.2.rcd 54 2))

/-- The static conditions of a scope node with its predecessors. -/
def scopeOk (nodes : List NodeRun) (i : Nat) (r : List Byte) (preds : List Nat) : Bool :=
  (scopesOf nodes i).all (fun p =>
    let below := ((List.range nodes.length).zip nodes).map (fun v => (v.1, v.2.preds))
    (dependents p.1 (below ++ [(i, preds)])).contains i &&
      (match maskedAt r with | some o => decide (fieldAt r o 2 ≤ 512) | none => true))

/-- The record of a scope node as it is sent. -/
def scopeMask (nodes : List NodeRun) (i : Nat) (v : NodeRun) : List Byte :=
  match maskedAt v.rcd with
  | none => v.rcd
  | some o => (scopesOf nodes i).foldl (fun r p =>
      let mask := if byteBit r (o + 4) 5 then fieldAt r 64 64 else 2 ^ fieldAt r o 2 - 1
      let x := p.2.exitMask
      let mask1 := if v.preds.head? = some p.1 then (if fieldAt p.2.rcd 52 1 / 4 % 4 = 0 then mask else Nat.land mask x)
                   else Nat.xor mask (Nat.land mask x)
      overlay (overlay r (o + 4) (natLE 1 (Nat.lor (fieldAt r (o + 4) 1) 0x20))) 64 (natLE 64 mask1)) v.rcd

/-- Check 5 of a node: what it needs after its record and predecessors were read (R83). -/
def nodeCheck (nodes : List NodeRun) (count i n : Nat) (r : List Byte) (preds : Except Status (List Nat)) : Chk (List Nat) := do
  need (nodeReserved r) .courseInvalid
  let ps ← preds
  need (ps.all (fun p => decide (p < i))) .courseInvalid
  need (nodeSetOk r n) .courseInvalid
  nodeFields r count
  need (scopeOk nodes i r ps) .courseInvalid
  return ps

/- LAUNCH (R69, R83 check 1). -/

/-- The state checks of check 1: the addresses under R33. No level opens space 0x3 to a batten (R470). -/
def State.launchFault (s : State) (b : Nat) (e : List Byte) : Option Status :=
  match s.checkAt b (fieldAt e 8 8) 64 with
  | some st => some st
  | none => if fieldAt e 16 8 / 2 ^ 60 = 3 ∧ fieldAt e 24 2 ≠ 0 then some .addressRange else s.checkAt b (fieldAt e 16 8) (fieldAt e 24 2)

/-- The reads of a batten that lies in a fabric window leave; the place of a piece is its offset in the batten (R69, R340). -/
def State.farBatten (s : State) (fn q : Nat) (it : Item) : State :=
  let n := fieldAt it.entry 24 2
  if n = 0 then s else
    match s.resolve fn (fieldAt it.entry 16 8) n with
    | .ok (.fabric w off) =>
      let r := s.farReadOut fn w off n (.item fn q it.slot) [0]
      r.1.updItem fn q it.slot (fun x => { x with endAs := r.2, launch := x.launch.map (fun l => { l with far := some (List.replicate n 0) }) })
    | _ => s

/-- LAUNCH: the item starts, and its reads are issued, or check 1 ends it. -/
def State.launchStart (s : State) (fn q : Nat) : State :=
  match s.toStart fn q 1 with
  | none => s
  | some it =>
    let s1 := s.served fn q
    match s.launchFault fn it.entry with
    | some e => (s1.endItem fn q it.slot e 0 0 0).settle
    | none => (({ s1.updItem fn q it.slot (fun x => { x with st := .running, launch := some (launchNew s.dev.nextLid) }) with
                dev := { s1.dev with nextLid := s1.dev.nextLid + 1 } }).farBatten fn q it).settle

/-- LAUNCH (R69). -/
def execLaunch (fn q : Nat) (s : State) : Host.Outcome State Fault Refusal := .next (s.launchStart fn q)

/- LAUNCH_READS_COMPLETE (R83 checks 2 to 4). -/

/-- LAUNCH_READS_COMPLETE: the launch is validated, or it fails. -/
def State.launchChecks (s : State) (fn q slot : Nat) : State :=
  match s.itemAt fn q slot with
  | none => s
  | some it => match it.launch with
    | none => s
    | some l =>
      if !s.serves fn || !it.active || l.ready || !l.goes || s.farPending (fun o => o == .item fn q slot) then s
      else
        let s1 := s.launchTouch ((s.queueAt fn q).agent fn) it
        match (s1.itemView it).launchReads ((s.queueAt fn q).agent fn) it with
        | .error e => (s1.endItem fn q slot e 0 0 0).settle
        | .ok (h, bt, ps) =>
          ((s1.updItem fn q slot (fun x => { x with launch := some { l with ready := true, header := h, batten := bt, patches := ps } })).traceRidge
            2 fn q 0 slot 0).settle

/-- LAUNCH_READS_COMPLETE (R83). -/
def execLaunchReadsComplete (fn q slot : Nat) (s : State) : Host.Outcome State Fault Refusal := .next (s.launchChecks fn q slot)

/- COURSE_NODE_READ (R83 check 5). -/

/-- A node as the ridge keeps it. -/
def nodeNew (r : List Byte) (preds : List Nat) (fail : Option (Nat × Status)) : NodeRun := ⟨r, preds, .unsent, 0, fail, 0, 0, 0⟩

/-- The next node of a launch, read, patched and checked. -/
def State.nextNode (s : State) (a : Agent) (it : Item) (l : Launch) : NodeRun :=
  match s.readNode a (fieldAt it.entry 8 8) l l.nodes.length with
  | .error e => nodeNew [] [] (some (0, e))
  | .ok (r, ps) => match nodeCheck l.nodes (coNodes l.header) l.nodes.length (s.bayAt a.bay).count r ps with
    | .error e => nodeNew r [] (some (0, e))
    | .ok ps => nodeNew r ps none

/-- What the reads of the next node meet in memory: its record, and its edges where their range is legal (R239, R240). -/
def State.nodeTouch (s : State) (a : Agent) (it : Item) (l : Launch) : State :=
  let course := fieldAt it.entry 8 8
  let s1 := s.touchAt a.bay (course + coNodeTab l.header + 128 * l.nodes.length) 128
  match (s1.itemView it).readNode a course l l.nodes.length with
  | .error _ => s1
  | .ok (r, _) => if coEdges l.header < ndFirst r + ndPreds r then s1 else s1.touchAt a.bay (course + coEdgeTab l.header + 2 * ndFirst r) (2 * ndPreds r)

/-- COURSE_NODE_READ: a fault ends the launch at once. -/
def State.nodeRead (s : State) (fn q slot : Nat) : State :=
  match s.itemAt fn q slot with
  | none => s
  | some it => match it.launch with
    | none => s
    | some l =>
      if !s.serves fn || !it.active || !l.ready || !l.goes || decide (coNodes l.header ≤ l.nodes.length) then s
      else
        let s0 := s.nodeTouch ((s.queueAt fn q).agent fn) it l
        let v := (s0.itemView it).nextNode ((s.queueAt fn q).agent fn) it l
        let s1 := s0.updItem fn q slot (fun x => { x with launch := some { l with nodes := l.nodes ++ [v] } })
        if v.fail.isSome then (s1.endLaunch fn q slot .failed).settle else s1.settle

/-- COURSE_NODE_READ (R83). -/
def execCourseNodeRead (fn q slot : Nat) (s : State) : Host.Outcome State Fault Refusal := .next (s.nodeRead fn q slot)

/- NODE_DISPATCH (R38, R83). -/

/-- Does a slip repair of the bay hold a node (R426, R428)? -/
def State.nodeHeld (s : State) (b : Nat) (r : List Byte) : Bool :=
  match tabFind s.repairs b with
  | none => false
  | some p => p.step == 2 || p.step == 3 || (ndCores r).any (fun i => p.moved.contains ((s.coreOf b i) / 56, (s.coreOf b i) % 56))

/-- Is a node of a launch ready: read, unsent, with every predecessor complete, and not held? -/
def State.nodeReady (s : State) (b : Nat) (l : Launch) (v : NodeRun) : Bool :=
  v.st == .unsent && v.fail.isNone && v.preds.all (fun p => (l.nodes[p]?).any (fun u => u.st == .done)) && !s.nodeHeld b v.rcd

/-- The node that the ridge sends next: the ready node of the lowest index (R83). -/
def State.nodeToSend (s : State) (b : Nat) (l : Launch) : Option Nat :=
  (List.range l.nodes.length).find? (fun i => (l.nodes[i]?).any (fun v => s.nodeReady b l v))

/-- A packet for a core enters the dispatch tree (R58). -/
def State.treeCore (s : State) (c : Nat) (e : CoreEntry) : State := s.setCore c { s.coreAt c with tree := (s.coreAt c).tree ++ [e] }

/-- A packet for the eave engine of a stack. -/
def State.treeEave (s : State) (k : Nat) (w : WorkOrder) : State := s.setStack k { s.stackAt k with eaveTree := (s.stackAt k).eaveTree ++ [w] }

/-- The work order of a node for one member (R38, R110). -/
def workOrder (b : Nat) (q slot node member lid : Nat) (v : Queue) (r : List Byte) : WorkOrder :=
  ⟨b, lid, q, slot, node, r, member, v.timeout.toNat, v.pasidOf, .queued, [], false, 0, none, [], []⟩

/-- The collective engine takes a node (R352). -/
def State.collTake (s : State) (b q slot node lid : Nat) (r : List Byte) : State :=
  let c := (s.bayAt b).coll
  s.setBay b { s.bayAt b with coll := { c with waiting := c.waiting ++
    [⟨lid, q, slot, node, r, [], false, 0, [], [], [], [], [], [], 0, [], [], []⟩] } }

/-- The packets of a node leave, or the fence store or the collective engine takes it. -/
def State.sendNode (s : State) (b q slot node lid : Nat) (r : List Byte) : State :=
  let v := s.queueAt b q
  match ndType r with
  | 7 => s.collTake b q slot node lid r
  | 9 => (ndCores r).foldl (fun t i => t.treeCore (s.coreOf b i) (.barrier b lid node false)) s
  | 4 => (ndStackSet r).foldl (fun t i => t.treeEave (s.stackOf b i) (workOrder b q slot node i lid v r)) s
  | _ => (ndCores r).foldl (fun t i => t.treeCore (s.coreOf b i) (.wo (workOrder b q slot node i lid v r))) s

/-- How many reports a node awaits. -/
def ndOwed (r : List Byte) : Nat := if ndType r = 7 then 1 else (ndCores r).length + (ndStackSet r).length

/-- A fence node acts at the ridge (R81, R88, R89). -/
def State.fenceNode (s : State) (b q slot node : Nat) (r : List Byte) : State :=
  if ndFenceWait r then
    (s.updNode b q slot node (fun v => { v with st := .waiting, timeout := (s.queueAt b q).timeout.toNat })).gainWaiter b (ndFence r) (ndValue r)
  else (s.signalFence b (ndFence r) (ndValue r) q slot node).nodeDone b q slot node

/-- NODE_DISPATCH: the node of the lowest index that is ready leaves. -/
def State.nodeSend (s : State) (fn q slot node : Nat) : State :=
  match s.itemAt fn q slot with
  | none => s
  | some it => match it.launch with
    | none => s
    | some l =>
      if !s.serves fn || !it.active || !l.goes || (s.bayAt fn).halted || s.nodeToSend fn l != some node then s
      else match l.nodes[node]? with
        | none => s
        | some v =>
          let r := scopeMask l.nodes node v
          let l1 := { l with packets := l.packets + ndPackets r, nodes := l.nodes.set node { v with rcd := r, st := .sent, owed := ndOwed r } }
          let s1 := (s.updItem fn q slot (fun x => { x with launch := some l1 })).traceRidge 3 fn q 0 slot node
          if ndType r = 8 then (s1.fenceNode fn q slot node r).settle
          else if ndOwed r = 0 then (s1.nodeDone fn q slot node).settle
          else s1.sendNode fn q slot node l.lid r

/-- NODE_DISPATCH (R38). -/
def execNodeDispatch (fn q slot node : Nat) (s : State) : Host.Outcome State Fault Refusal := .next (s.nodeSend fn q slot node)

end Sys2Proof.Machine
end

