-- ==== Sys2Proof/Machine/CoreQueue.lean ====
section
/-! DEFINITION. The work-order queue of a core (R96, R105 to R112), the queue of an eave engine (R278), completion reports,
counter-wait timeouts (R110) and syncs (R533). -/

namespace Sys2Proof.Machine

/- The core control block (R107). -/

def ccWait0 (r : List Byte) : Bool := byteBit r 32 7
def ccWait1 (r : List Byte) : Bool := byteBit r 33 7

/-- Are the counter waits of a record satisfied? -/
def waitsMet (c : Core) (r : List Byte) : Bool :=
  (!ccWait0 r || decide (fieldAt r 36 4 ≤ tabGet c.counters (fieldAt r 32 1 % 64) 0)) &&
    (!ccWait1 r || decide (fieldAt r 40 4 ≤ tabGet c.counters (fieldAt r 33 1 % 64) 0))

/-- The engine class of a node type (R96): 0 matrix, 1 vector, 2 transfer. -/
def engineClass (t : Nat) : Nat := if t = 1 then 0 else if t = 2 ∨ t = 6 then 1 else 2

/-- How many work orders of a class may be in progress at once (R96). -/
def classPlaces (cls : Nat) : Nat := if cls = 2 then 4 else 1

/-- Work orders of a class in progress at a core. -/
def inProgress (q : List CoreEntry) (cls : Nat) : Nat :=
  (q.filter (fun e => match e with | .wo w => w.st != .queued && engineClass (ndType w.rcd) == cls | _ => false)).length

/-- Work orders in the 16-entry queue; a barrier takes no entry (R533). -/
def entriesHeld (q : List CoreEntry) : Nat := (q.filter (fun e => match e with | .wo _ => true | _ => false)).length

/-- The head of the queue: the first work order not started, when no barrier stands before it (R105, R533). Behind another launch's barrier a work
order of an ended launch neither ends NOT_RUN nor times out (log entry 68). -/
def queueHead : List CoreEntry → Option WorkOrder
  | [] => none
  | .barrier _ _ _ _ :: _ => none
  | .wo w :: rest => if w.st == .queued then some w else queueHead rest

/-- A queue without the work order of a launch and node. -/
def dropWo (q : List CoreEntry) (w : WorkOrder) : List CoreEntry :=
  q.filter (fun e => match e with | .wo v => !(v.bay == w.bay && v.lid == w.lid && v.nodeIx == w.nodeIx) | _ => true)

/-- A queue without the barrier of a launch and node. -/
def dropBarrier (q : List CoreEntry) (b lid node : Nat) : List CoreEntry :=
  q.filter (fun e => match e with | .barrier x l n _ => !(x == b && l == lid && n == node) | _ => true)

/-- A completion report leaves for the ridge (R112 step 8). -/
def State.report (s : State) (w : WorkOrder) (st : Status) (mask exit : Nat) : State :=
  { s with reports := s.reports ++ [(w.bay, .report w.lid w.nodeIx w.member st mask exit)] }

/-- A work order completes at a core: the core trace records it, whatever its status (R479), and its report leaves. -/
def State.coreReport (s : State) (c : Nat) (w : WorkOrder) (st : Status) (mask exit : Nat) : State :=
  (s.traceCore (coreStrip c) 2 (engineClass (ndType w.rcd)) w.bay (statusCode st) w.member w.nodeIx).report w st mask exit

/-- The head of a core's queue, when it belongs to an ended launch and would wait on a counter, completes NOT_RUN
without starting and without writing anything, a valley report neither (R111, log entry 78); then the next. -/
def State.coreSettleFor : Nat → Nat → State → State
  | 0, _, s => s
  | n + 1, c, s =>
    match queueHead (s.coreAt c).queue with
    | none => s
    | some w =>
      if (s.coreAt c).ended.contains w.lid && !waitsMet (s.coreAt c) w.rcd then
        State.coreSettleFor n c ((s.setCore c { s.coreAt c with queue := dropWo (s.coreAt c).queue w }).coreReport c w .notRun 0 0)
      else s

/-- One pass for each entry of the queue at most. -/
def State.coreSettle (s : State) (c : Nat) : State := State.coreSettleFor 17 c s

/- WORK_ORDER_ARRIVE (R105, R278, R439). -/

/-- The oldest packet for a core, a work order, takes a queue entry; with none free the tree holds it (R58), and so it does while the core's tile
domain is gated (R457). -/
def State.woArriveCore (s : State) (c : Nat) : State :=
  let k := s.coreAt c
  match k.tree with
  | .wo w :: rest =>
    if entriesHeld k.queue < 16 ∧ s.coreAsleep c = false then (s.setCore c { k with tree := rest, queue := k.queue ++ [.wo w] }).coreSettle c else s
  | _ => s

/-- The oldest packet for an eave engine takes one of its 8 places. At a failed engine it ends SLIPPED, and one of a
launch whose end notice has come ends NOT_RUN. -/
def State.woArriveEave (s : State) (k : Nat) : State :=
  let v := s.stackAt k
  match v.eaveTree with
  | [] => s
  | w :: rest =>
    if v.eaveFailed then (s.setStack k { v with eaveTree := rest }).report w .slipped 0 0
    else if v.eaveEnded.contains w.lid then (s.setStack k { v with eaveTree := rest }).report w .notRun 0 0
    else if v.eave.length < 8 then s.setStack k { v with eaveTree := rest, eave := v.eave ++ [w] }
    else s

/-- WORK_ORDER_ARRIVE (R105). -/
def execWorkOrderArrive (eave : Bool) (unit : Nat) (s : State) : Host.Outcome State Fault Refusal :=
  .next (if eave then s.woArriveEave unit else s.woArriveCore unit)

/- WORK_ORDER_START (R105, R108). -/

/-- May the head of a core's queue start? -/
def State.mayStart (s : State) (c : Nat) (w : WorkOrder) : Bool :=
  let k := s.coreAt c
  waitsMet k w.rcd && decide (inProgress k.queue (engineClass (ndType w.rcd)) < classPlaces (engineClass (ndType w.rcd))) &&
    !s.engineStopped w.bay c

/-- The head starts and applies its reset. -/
def State.woStart (s : State) (c : Nat) : State :=
  match queueHead (s.coreAt c).queue with
  | none => s
  | some w =>
    if s.mayStart c w then
      let k := s.coreAt c
      let ctr := if byteBit w.rcd 35 7 then tabDel k.counters (fieldAt w.rcd 35 1 % 64) else k.counters
      ((s.setCore c { k with counters := ctr, queue := putWo k.queue { w with st := .started } }).traceCore (coreStrip c) 1
        (engineClass (ndType w.rcd)) w.bay 0 w.member w.nodeIx).coreSettle c
    else s

/-- WORK_ORDER_START (R105). -/
def execWorkOrderStart (core : Nat) (s : State) : Host.Outcome State Fault Refusal := .next (s.woStart core)

/- WORK_ORDER_COMPLETE (R108, R318). -/

/-- Are all writes of a work order acknowledged, and its arrival signals and messages gone? -/
def State.woAcked (s : State) (c : Nat) (w : WorkOrder) (st : Status) : Bool :=
  !s.farPending (fun o => match o with | .wo b k l n _ => b == w.bay && k == c && l == w.lid && n == w.nodeIx | _ => false) &&
    !s.valleyWaits c w.lid w.nodeIx && (st != .ok || w.streams.all (fun r => r.cores == [] || r.st != .ok || r.signalled))

/-- The signal of a core control block at a completion (R107). -/
def State.woSignal (s : State) (c : Nat) (r : List Byte) (st : Status) : State :=
  if byteBit r 34 7 && (st == .ok || byteBit r 34 6) then s.addCounter c (fieldAt r 34 1 % 64) (fieldAt r 44 2) else s

/-- The bank that a work order's run loaded has its new n once the work order ends OK, and the selector changes where it asks for that (R191). -/
def Core.tableEnd (k : Core) (w : WorkOrder) (st : Status) : Core :=
  if st = .ok then
    let k1 := if w.table = 0 then k else setBank k (1 - k.active) { coreBank k (1 - k.active) with n := w.table }
    { k1 with active := if w.swap then 1 - k.active else k.active }
  else k

/-- A work order completes at a core. -/
def State.woDone (s : State) (c : Nat) (w : WorkOrder) (st : Status) (mask exit : Nat) : State :=
  let s1 := (s.writeReport c w w.report).woSignal c w.rcd st
  let k := (s1.coreAt c).tableEnd w st
  let s2 := s1.setCore c { k with queue := dropWo k.queue w }
  (s2.coreReport c w st mask exit).coreSettle c

/-- The work order of a launch and node completes at a core, once its accesses are acknowledged. -/
def State.woCompleteCore (s : State) (c lid node : Nat) : State :=
  match findWo (s.coreAt c).queue lid node with
  | none => s
  | some w => match w.st with
    | .ran st mask exit => if s.woAcked c w st && !s.engineStopped w.bay c then s.woDone c w st mask exit else s
    | _ => s

/-- The work order that an eave engine ran completes, once its records are visible (R297). -/
def State.woCompleteEave (s : State) (k lid node : Nat) : State :=
  let v := s.stackAt k
  match v.eave with
  | [] => s
  | w :: rest => match w.st with
    | .ran st _ _ => if w.lid = lid ∧ w.nodeIx = node ∧ v.eaveSigs = [] then (s.setStack k { v with eave := rest }).report w st 0 0 else s
    | _ => s

/-- WORK_ORDER_COMPLETE (R108). -/
def execWorkOrderComplete (eave : Bool) (unit lid node : Nat) (s : State) : Host.Outcome State Fault Refusal :=
  .next (if eave then s.woCompleteEave unit lid node else s.woCompleteCore unit lid node)

/-- A completion report reaches the ridge. -/
def State.woReport (s : State) (i : Nat) : State :=
  match s.reports[i]? with
  | none => s
  | some r => { s with reports := s.reports.take i ++ s.reports.drop (i + 1) }.ridgeGets r.1 r.2

/-- WORK_ORDER_REPORT (R112). -/
def execWorkOrderReport (i : Nat) (s : State) : Host.Outcome State Fault Refusal := .next (s.woReport i)

/- COUNTER_WAIT_TIMEOUT (R110). -/

/-- The head's counter wait expires: it completes WAIT_TIMEOUT without starting, and a valley work order writes its report (R318). -/
def State.counterExpires (s : State) (c : Nat) : State :=
  match queueHead (s.coreAt c).queue with
  | none => s
  | some w =>
    if w.timeout = 0 ∨ waitsMet (s.coreAt c) w.rcd ∨ (s.bayAt w.bay).halted then s
    else
      let s0 := if ndType w.rcd = 5 then (s.pend 157).touchSpad c (fieldAt w.rcd 60 4) 64 else s.pend 157
      let s1 := (s0.writeReport c w (s0.reportAt c w)).woSignal c w.rcd .waitTimeout
      ((s1.setCore c { s1.coreAt c with queue := dropWo (s1.coreAt c).queue w }).coreReport c w .waitTimeout 0 0).coreSettle c

/-- COUNTER_WAIT_TIMEOUT (R110). -/
def execCounterWaitTimeout (core : Nat) (s : State) : Host.Outcome State Fault Refusal := .next (s.counterExpires core)

/- Syncs (R533). -/

/-- A sync packet reaches a core that does not sleep (R457) and stands as a barrier, unless its launch's end notice has come. -/
def State.syncArrive (s : State) (c : Nat) : State :=
  let k := s.coreAt c
  match k.tree with
  | .barrier b lid node r :: rest =>
    if s.coreAsleep c then s else
    s.setCore c { k with tree := rest, queue := if k.ended.contains lid then k.queue else k.queue ++ [.barrier b lid node r] }
  | _ => s

/-- SYNC_ARRIVE (R533). -/
def execSyncArrive (core : Nat) (s : State) : Host.Outcome State Fault Refusal := .next (s.syncArrive core)

/-- The first barrier of a core that is not reported, when no work order is before it. -/
def syncDue : List CoreEntry → Option (Nat × Nat × Nat)
  | [] => none
  | .wo _ :: _ => none
  | .barrier b lid node r :: rest => if r then syncDue rest else some (b, lid, node)

/-- A queue with the barrier of a launch and node reported. -/
def markBarrier (q : List CoreEntry) (b lid node : Nat) : List CoreEntry :=
  q.map (fun e => match e with | .barrier x l n r => .barrier x l n (r || (x == b && l == lid && n == node)) | e => e)

/-- A core reports its sync. -/
def State.syncReport (s : State) (c : Nat) : State :=
  match syncDue (s.coreAt c).queue with
  | none => s
  | some (b, lid, node) =>
    (s.setCore c { s.coreAt c with queue := markBarrier (s.coreAt c).queue b lid node }).ridgeGets b (.syncReport lid node c)

/-- SYNC_REPORT (R533). -/
def execSyncReport (core : Nat) (s : State) : Host.Outcome State Fault Refusal := .next (s.syncReport core)

/-- The barrier of a sync falls at a core. -/
def State.barrierFalls (s : State) (b lid node c : Nat) : State :=
  (s.setCore c { s.coreAt c with queue := dropBarrier (s.coreAt c).queue b lid node }).coreSettle c

/-- The release of a sync node reaches its cores, and the node completes. -/
def State.syncRelease (s : State) (fn q slot node : Nat) : State :=
  match s.itemAt fn q slot with
  | none => s
  | some it => match it.launch with
    | none => s
    | some l => match l.nodes[node]? with
      | none => s
      | some v =>
        if s.serves fn && it.active && l.goes && v.st == .waiting && ndType v.rcd == 9 then
          (((ndCores v.rcd).foldl (fun t i => t.barrierFalls fn l.lid node (t.coreOf fn i)) s).nodeDone fn q slot node).settle
        else s

/-- SYNC_RELEASE (R533). -/
def execSyncRelease (fn q slot node : Nat) (s : State) : Host.Outcome State Fault Refusal := .next (s.syncRelease fn q slot node)

end Sys2Proof.Machine
end

