-- ==== Sys2Proof/Machine/CollCore.lean ====
section
/-! DEFINITION. The collective engine at work (R351 to R366): nodes, group tables, messages, pieces and grants, the fixed
order of reductions (R358), completion, failure and telemetry. Starting a collective, and the messages that arrive,
are in Collective.lean. -/

namespace Sys2Proof.Machine

/- Fields of a node (R352). -/

def clOp (r : List Byte) : Nat := fieldAt r 32 1
def clTelem (r : List Byte) : Bool := byteBit r 33 7
def clRed (r : List Byte) : Nat := fieldAt r 33 1 % 4
def clIn (r : List Byte) : Nat := fieldAt r 34 1
def clOut (r : List Byte) : Nat := fieldAt r 35 1
def clRoot (r : List Byte) : Nat := fieldAt r 36 1
def clSrc (r : List Byte) : Nat := fieldAt r 40 8
def clDst (r : List Byte) : Nat := fieldAt r 48 8
def clCount (r : List Byte) : Nat := fieldAt r 56 8
def clTab (r : List Byte) : Nat := fieldAt r 64 8
def clSeq (r : List Byte) : Nat := fieldAt r 72 4
def clTelemAt (r : List Byte) : Nat := fieldAt r 80 8

/-- Is the OP a reduction? -/
def clReduces (r : List Byte) : Bool := clOp r == 1 || clOp r == 2

/- Fields of a group table (R354). -/

def gtP (t : List Byte) : Nat := fieldAt t 0 1
def gtSelf (t : List Byte) : Nat := fieldAt t 1 1
def gtGroup (t : List Byte) : Nat := fieldAt t 2 2
def gtIn (t : List Byte) : Nat := fieldAt t 8 1
def gtId (t : List Byte) (k : Nat) : Nat := fieldAt t (16 + 8 * k) 1
def gtOut (t : List Byte) (k : Nat) : Nat := fieldAt t (17 + 8 * k) 1

/-- Bytes of a unit of a contribution, and of a result. -/
def clWin (r : List Byte) : Nat := if clReduces r then codeWidth (clIn r) / 8 else 1
def clWout (r : List Byte) : Nat := if clReduces r then codeWidth (clOut r) / 8 else 1

/-- Units in a piece, and pieces of a share (R356). -/
def pieceUnits (r : List Byte) : Nat := if clReduces r then 512 else 2048
def pieceCount (r : List Byte) : Nat := ceilDiv (clCount r) (pieceUnits r)

/-- Units of piece `i`: the last may be shorter. -/
def pieceLen (r : List Byte) (i : Nat) : Nat := min (pieceUnits r) (clCount r - i * pieceUnits r)

def Coll.p (c : Coll) : Nat := gtP c.table
def Coll.self (c : Coll) : Nat := gtSelf c.table
def Coll.pieces (c : Coll) : Nat := pieceCount c.rcd

/-- The other members, in turn from SELF + 1. -/
def Coll.others (c : Coll) : List Nat := (List.range (c.p - 1)).map (fun i => (c.self + 1 + i) % c.p)

/-- Does this member send pieces of its own data to member `j` (R353)? -/
def Coll.sendsTo (c : Coll) (_ : Nat) : Bool := clOp c.rcd != 5 || clRoot c.rcd == c.self

/-- Does this member take pieces from member `j` straight to DST (R353)? -/
def Coll.takesFrom (c : Coll) (j : Nat) : Bool :=
  match clOp c.rcd with
  | 2 => false
  | 5 => clRoot c.rcd == j
  | _ => true

/-- Where a piece of this member's data for member `j` starts (R353). -/
def Coll.srcAt (c : Coll) (j i : Nat) : Nat :=
  clSrc c.rcd + (if clReduces c.rcd || clOp c.rcd == 4 then j * clCount c.rcd * clWin c.rcd else 0) + i * pieceUnits c.rcd * clWin c.rcd

/-- Where a piece that comes from member `j`, or a result of share `j`, goes. -/
def Coll.dstAt (c : Coll) (j i : Nat) : Nat :=
  clDst c.rcd + (if clOp c.rcd == 5 || clOp c.rcd == 2 then 0 else j * clCount c.rcd * clWout c.rcd) + i * pieceUnits c.rcd * clWout c.rcd

/-- Frames of the reduction buffer (R357). -/
def collFrames (strips p : Nat) : Nat := 512 * strips / p

/-- The agent of a bay's collective engine: it reads and writes bay memory and scratchpads (R351). -/
def collAgent (b : Nat) : Agent := ⟨b, b, none⟩

/- Messages (R355, R356). -/

/-- The header of R356. -/
def collHeader (c : Coll) (kind phase status piece : Nat) : List Byte :=
  natLE 1 kind ++ natLE 1 c.self ++ natLE 1 phase ++ natLE 1 status ++ natLE 4 (clSeq c.rcd) ++ natLE 2 (gtGroup c.table) ++
    natLE 1 (clOp c.rcd) ++ natLE 1 (clRed c.rcd) ++ natLE 1 (clIn c.rcd) ++ natLE 1 (clOut c.rcd) ++ natLE 1 c.p ++
    natLE 1 (clRoot c.rcd) ++ natLE 8 (clCount c.rcd) ++ natLE 4 piece ++ natLE 4 0

/-- Send a message to member `j` through its window; the failure when the link is not there (R355, R364). -/
def State.collSend (s : State) (b : Nat) (c : Coll) (j : Nat) (hdr data : List Byte) : State × Option Status :=
  let d := s.outWindow b (gtOut c.table j)
  if byteBit d 0 7 = false then (s, some .addressRange)
  else match s.farCheck b d with
    | some e => (s, some e)
    | none => (s.farPush (owPort d) (some b) (farHeader 0x10 255 (owTarget d) s.fabric.id 0 (owWindow d) b 0 (32 + data.length) ++ hdr ++ data), none)

/- The running collectives of a bay. -/

/-- Change the running collectives of a bay. -/
def State.setColls (s : State) (b : Nat) (cs : List Coll) : State :=
  s.setBay b { s.bayAt b with coll := { (s.bayAt b).coll with running := cs } }

/-- A running collective, named by its launch and node. -/
def State.collAt (s : State) (b lid node : Nat) : Option Coll :=
  (s.bayAt b).coll.running.find? (fun c => c.lid == lid && c.nodeIx == node)

/-- Put a running collective back. -/
def State.putColl (s : State) (b : Nat) (c : Coll) : State :=
  s.setColls b ((s.bayAt b).coll.running.map (fun x => if x.lid = c.lid ∧ x.nodeIx = c.nodeIx then c else x))

/-- A time since the start, saturating (R366). -/
def sinceStart (c : Coll) (t : Nat) : Nat := min (2 ^ 32 - 1) (t - c.startTime)

/-- FIRST and LAST of member `k` (R366). -/
def telemMember (c : Coll) (k : Nat) : List Byte :=
  natLE 4 (if k = c.self then 0 else match tabFind c.first k with | some t => sinceStart c t | none => 2 ^ 32 - 1) ++
    natLE 4 (match tabFind c.last k with | some t => sinceStart c t | none => 2 ^ 32 - 1)

/-- The telemetry record (R366). -/
def collTelemetry (c : Coll) (st : Status) (now stale : Nat) : List Byte :=
  natLE 4 (clSeq c.rcd) ++ natLE 2 (gtGroup c.table) ++ natLE 1 c.p ++ natLE 1 (statusCode st) ++ natLE 8 c.startTime ++ natLE 8 now ++
    natLE 4 stale ++ natLE 4 0 ++ (List.range c.p).flatMap (telemMember c)

/-- The report of a collective leaves (R352). -/
def State.collReport (s : State) (b : Nat) (c : Coll) (st : Status) : State :=
  { s with reports := s.reports ++ [(b, .report c.lid c.nodeIx 0 st 0 0)] }

/-- The engine writes a telemetry record and reports; the write at a failed tile, or at a core of a gated domain, waits, and is issued again later
(R366, R429, R457). -/
def State.collTell (s : State) (b : Nat) (c : Coll) (st : Status) (telem : List Byte) : State :=
  if s.addrWaits b (clTelemAt c.rcd) then
    let cx := (s.bayAt b).coll
    s.setBay b { s.bayAt b with coll := { cx with owed := cx.owed ++ [(c, st, telem)] } }
  else ((s.writeAt (collAgent b) (clTelemAt c.rcd) telem).1).collReport b c st

/-- The telemetry records that a bay's collectives still owe are written, where they can be now. -/
def State.collRetell (s : State) (b : Nat) : State :=
  let cx := (s.bayAt b).coll
  if cx.owed = [] then s else cx.owed.foldl (fun t x => t.collTell b x.1 x.2.1 x.2.2) (s.setBay b { s.bayAt b with coll := { cx with owed := [] } })

/-- A collective ends with a status: its place, its request if one is outstanding (R349), its telemetry, and its report (R352, R366). Where the
group table could not be read, no record is written; a REMOTE_ADD, which has no group, writes 32 bytes with P = 0 (log entry 20). -/
def State.collEnd (s : State) (b : Nat) (c : Coll) (st : Status) : State :=
  let s1 := s.setColls b ((s.bayAt b).coll.running.filter (fun x => !(x.lid == c.lid && x.nodeIx == c.nodeIx)))
  let s2 := if clOp c.rcd = 6 then s1.dropOwner (fun o => o == .coll b c.lid c.nodeIx) else s1
  if clTelem c.rcd && (c.table != [] || clOp c.rcd == 6) then s2.drawn.collTell b c st (collTelemetry c st s.stamp (s.bayAt b).coll.stale)
  else s2.collReport b c st

/-- The members that an ABORT reaches: those of a group of legal size whose window leads to them (R354, R364). -/
def State.abortTo (s : State) (b : Nat) (c : Coll) : List Nat :=
  if clOp c.rcd = 6 ∨ c.p < 2 ∨ 64 < c.p ∨ c.p ≤ c.self then []
  else c.others.filter (fun j => owTarget (s.outWindow b (gtOut c.table j)) == gtId c.table j)

/-- A collective fails: ABORT goes once to every member that it can still reach (R364). -/
def State.collFail (s : State) (b : Nat) (c : Coll) (st : Status) : State :=
  ((s.abortTo b c).foldl (fun t j => (t.collSend b c j (collHeader c 3 0 (statusCode st) 0) []).1) s).collEnd b c st

/- Sending (R357). -/

/-- The pieces of this member's own data that may go to `j` next: granted and not sent. -/
def Coll.next0 (c : Coll) (j : Nat) : Option Nat :=
  let i := tabGet c.sent j 0
  if c.sendsTo j && decide (i < c.pieces ∧ i < tabGet c.grants j 0) then some i else none

/-- The results that may go to `j` next: reduced, granted and not sent. -/
def Coll.next1 (c : Coll) (j : Nat) : Option Nat :=
  let i := tabGet c.sent1 j 0
  if clOp c.rcd == 1 && decide (i < c.reduced ∧ i < tabGet c.grants1 j 0) then some i else none

/-- What a piece carries: bytes of SRC, read when it is sent (R357), or a result as the engine computed it, whatever stands in DST (R358, R364). -/
def State.pieceBytes (s : State) (b : Nat) (c : Coll) (phase j i : Nat) : Chk (List Byte) :=
  if phase = 0 then s.readAt (collAgent b) (c.srcAt j i) (pieceLen c.rcd i * clWin c.rcd) else .ok (c.results.getD i [])

/-- Send one piece to `j`: the state, the collective, and the failure of the read or the link. -/
def State.pieceSend (s : State) (b : Nat) (c : Coll) (phase j i : Nat) : State × Coll × Option Status :=
  let s0 := if phase = 0 then s.touchAt b (c.srcAt j i) (pieceLen c.rcd i * clWin c.rcd) else s
  match s0.pieceBytes b c phase j i with
  | .error e => (s0, c, some e)
  | .ok bs =>
    let r := s0.collSend b c j (collHeader c 1 phase 0 i) bs
    let c1 := if phase = 0 then { c with sent := tabSet c.sent j (i + 1), last := tabSet c.last c.self s.stamp }
      else { c with sent1 := tabSet c.sent1 j (i + 1) }
    (r.1, c1, r.2)

/-- One turn of the owners: one piece to each that may have one. -/
def State.collTurn (b : Nat) : List Nat → State → Coll → State × Coll × Option Status
  | [], s, c => (s, c, none)
  | j :: js, s, c =>
    match c.next0 j with
    | some i => match s.pieceSend b c 0 j i with
      | (t, d, none) => State.collTurn b js t d
      | (t, d, some e) => (t, d, some e)
    | none => match c.next1 j with
      | some i => match s.pieceSend b c 1 j i with
        | (t, d, none) => State.collTurn b js t d
        | (t, d, some e) => (t, d, some e)
      | none => State.collTurn b js s c

/-- Turns while any piece may go. -/
def State.collTurns (b : Nat) : Nat → State → Coll → State × Coll × Option Status
  | 0, s, c => (s, c, none)
  | n + 1, s, c =>
    if c.others.any (fun j => (c.next0 j).isSome || (c.next1 j).isSome) then
      match State.collTurn b c.others s c with
      | (t, d, none) => State.collTurns b n t d
      | (t, d, some e) => (t, d, some e)
    else (s, c, none)

/- Completion and waiting (R363, R365). -/

/-- Has a collective written and sent all that R353 asks of it? -/
def Coll.complete (c : Coll) : Bool :=
  (!clReduces c.rcd || c.reduced == c.pieces) &&
    c.others.all (fun j => (!c.sendsTo j || tabGet c.sent j 0 == c.pieces) && (clOp c.rcd != 1 || tabGet c.sent1 j 0 == c.pieces) &&
      (!c.takesFrom j || tabGet c.got j 0 == c.pieces))

/-- Has a contribution of a member for a piece come? -/
def Coll.hasFrame (c : Coll) (i j : Nat) : Bool := c.frames.any (fun f => f.1 == i && f.2.1 == j)

/-- Does a collective wait on a member: for a GRANT, a piece or a result (R363)? -/
def Coll.waitsOn (c : Coll) (j : Nat) : Bool :=
  (c.sendsTo j && decide (tabGet c.grants j 0 < c.pieces)) || (clOp c.rcd == 1 && decide (tabGet c.grants1 j 0 < c.pieces)) ||
    (c.takesFrom j && decide (tabGet c.got j 0 < c.pieces)) ||
    (clReduces c.rcd && (List.range c.pieces).any (fun i => decide (c.reduced ≤ i) && !c.hasFrame i j))

/-- A collective goes on after an event: it sends what it may, and ends when it is complete or a send failed. -/
def State.collGo (s : State) (b : Nat) (c : Coll) : State :=
  match State.collTurns b (2 * c.pieces * c.p + 1) s c with
  | (t, d, some e) => (t.putColl b d).collFail b d e
  | (t, d, none) => if d.complete then (t.putColl b d).collEnd b d .ok else t.putColl b d

/- Reductions (R358). -/

/-- The elements of a piece as FP32 words, converted exactly (R152). -/
def pieceElems (code : Nat) (bs : List Byte) : List Nat :=
  let w := codeWidth code / 8
  match fmtOf code with
  | none => []
  | some f => (List.range (bs.length / w)).map (fun i => rne32 (decodeFmt f (fieldAt bs (i * w) w)))

/-- One step of the sum: the running sum and its compensation. -/
def sumStep (sc : Nat × Nat) (x : Nat) : Nat × Nat :=
  let exact := numAdd (dec32 sc.1) (dec32 x)
  let t := rne32 exact
  if numIsFinite (dec32 t) then (t, rne32 (numAdd (dec32 sc.2) (numOfRat (numRat exact - numRat (dec32 t))))) else (t, sc.2)

/-- The reduction of one element over the members, in member order. -/
def reduceElem (red : Nat) (xs : List Nat) : Nat :=
  match red, xs with
  | 0, _ => let sc := xs.foldl sumStep (0, 0); f32add sc.1 sc.2
  | 1, x :: rest => rest.foldl (minMax32 true) x
  | _, x :: rest => rest.foldl (minMax32 false) x
  | _, [] => 0

/-- The output bytes of a frame: every element reduced and converted (R153, R154, R358). -/
def reduceFrame (r : List Byte) (parts : List (List Byte)) : List Byte :=
  let els := parts.map (pieceElems (clIn r))
  let n := (els.headD []).length
  (List.range n).flatMap (fun i =>
    let y := reduceElem (clRed r) (els.map (fun e => e.getD i 0))
    match fmtOf (clOut r) with
    | none => []
    | some f => natLE (clWout r) (cvt (dec32 y) f ⟨.rne, byteBit r 33 6, 8, 0⟩ 0))

/-- A GRANT to each of some members (R357): the limit of the contributions, of all direct pieces, or of the results. A
link that is not there fails it (R364). -/
def State.collGrantTo (b : Nat) (c : Coll) (phase limit : Nat) : List Nat → State → State × Option Status
  | [], s => (s, none)
  | j :: js, s => match s.collSend b c j (collHeader c 2 phase 0 limit) [] with
    | (t, none) => State.collGrantTo b c phase limit js t
    | (t, some e) => (t, some e)

/-- A GRANT to every other member. -/
def State.collGrant (s : State) (b : Nat) (c : Coll) (phase limit : Nat) : State × Option Status :=
  State.collGrantTo b c phase limit c.others s

/-- The exclusive limit of contributions that this member has granted (R357). -/
def Coll.limit (c : Coll) (strips : Nat) : Nat := min c.pieces (c.reduced + collFrames strips c.p)

/-- The contributions of a complete frame in member order, this member's own read from SRC. -/
def State.frameParts (s : State) (b : Nat) (c : Coll) (i : Nat) : Chk (List (List Byte)) := do
  let own ← s.readAt (collAgent b) (c.srcAt c.self i) (pieceLen c.rcd i * clWin c.rcd)
  return (List.range c.p).map (fun j => if j = c.self then own
    else match c.frames.find? (fun f => f.1 == i && f.2.1 == j) with | some f => f.2.2 | none => [])

/-- The frame of a piece is reduced: its result is written, further grants leave, and results may go out. -/
def State.frameReduce (s : State) (b : Nat) (c : Coll) (i : Nat) : State :=
  let s0 := s.touchAt b (c.srcAt c.self i) (pieceLen c.rcd i * clWin c.rcd)
  match s0.frameParts b c i with
  | .error e => s0.collFail b c e
  | .ok parts =>
    let out := reduceFrame c.rcd parts
    let r := s0.writeAt (collAgent b) (c.dstAt c.self i) out
    match r.2 with
    | some e => r.1.collFail b c e
    | none =>
      let old := c.limit (s.bayAt b).count
      let c1 := { c with reduced := i + 1, frames := c.frames.filter (fun f => f.1 != i), last := tabSet c.last c.self s.stamp,
                          results := if clOp c.rcd = 1 then c.results ++ [out] else [] }
      let new := c1.limit (s.bayAt b).count
      let s1 := r.1.putColl b c1
      match (if old < new then s1.collGrant b c1 0 new else (s1, none)) with
      | (t, none) => t.collGo b c1
      | (t, some e) => t.collFail b c1 e

end Sys2Proof.Machine
end

