-- ==== Sys2Proof/Machine/Entries.lean ====
section
/-! DEFINITION. What reaches and leaves the queues (R62 to R75, R86 to R95): doorbells, the fence window, entry fetches,
COPY, FENCE_WAIT, FENCE_SIGNAL, BARRIER and CANCEL items, wait timeouts, lost completion paths, and the ADMIN
operations on queues. -/

namespace Sys2Proof.Machine

/-- Do a function's BARs take accesses (R371, R373, R403, R490)? -/
def State.barOpen (s : State) (fn : Nat) : Bool :=
  (s.fnAt fn).memSpace && s.dev.ready && !s.dev.warmPending && (fn == pfFn || ((s.fnAt fn).exists_ && s.bayExists fn && (s.bayAt fn).live))

/-- A write to a doorbell page or the fence window that the BAR takes, and its interrupt source (R460). A poisoned write is discarded and
counted (R370). -/
def State.barWrite (s : State) (fn src : Nat) (ep : Bool) (e : RidgeEvent) : State :=
  if s.barOpen fn = false then s else if ep then s.countAer fn else (s.pend src).ridgeGets fn e

/-- The interrupt source of a function's doorbells (R460). -/
def doorbellSrc (fn : Nat) : Nat := if fn = pfFn then 160 else 161 + fn

/-- SQ_TAIL_DOORBELL (R63). -/
def execSqTailDoorbell (fn q width : Nat) (data : HostData) (s : State) : Host.Outcome State Fault Refusal :=
  .next (s.barWrite fn (doorbellSrc fn) data.ep (.doorbell q 0 width data.value))

/-- CQ_HEAD_DOORBELL (R65). -/
def execCqHeadDoorbell (fn q width : Nat) (data : HostData) (s : State) : Host.Outcome State Fault Refusal :=
  .next (s.barWrite fn (doorbellSrc fn) data.ep (.doorbell q 8 width data.value))

/-- FENCE_WINDOW_WRITE (R86). -/
def execFenceWindowWrite (bay off width : Nat) (data : HostData) (s : State) : Host.Outcome State Fault Refusal :=
  .next (s.barWrite bay (176 + bay) data.ep (.fenceWrite off width data.value))

/- ENTRY_FETCH (R62, R94, R440). -/

/-- An item as it is fetched. -/
def itemNew (slot seq order : Nat) (e : List Byte) : Item := ⟨slot, seq, order, e, .fetched, .ok, 0, 0, 0, none, 0, 0, [], none⟩

/-- An entry is fetched: it is submitted, or its failed read moves the queue to FETCH_FAULT, a STOPPED one too (R94, log entry 66). -/
def State.fetchEntry (s : State) (fn q : Nat) : State :=
  let v := s.queueAt fn q
  if !(s.turn fn q && s.fetchable fn q) then s
  else
    let s0 := (s.served fn q).touchAt fn (v.sqBase.toNat + 64 * v.sqHead) 64
    match s0.readAt (v.agent fn) (v.sqBase.toNat + 64 * v.sqHead) 64 with
    | .error _ => ((s0.setQueue fn q { v with st := .fetchFault }).raiseIn fn ⟨0x11, q, v.sqHead, 0, 0⟩).settle
    | .ok e =>
      let it := itemNew v.sqHead v.fetched s.dev.nextOrder e
      let s1 := s0.setQueue fn q { v with items := v.items ++ [it], sqHead := (v.sqHead + 1) % v.size, fetched := v.fetched + 1 }
      let s2 := { s1 with dev := { s1.dev with nextOrder := s1.dev.nextOrder + 1 },
                          sec := { s1.sec with mirror := s1.sec.mirror ++ [MirrorEntry.mk fn q v.sqHead (fieldAt e 4 4) v.cqBase.toNat] } }
      (s2.traceRidge 1 fn q 0 v.sqHead 0).settle

/-- ENTRY_FETCH (R62). -/
def execEntryFetch (fn q : Nat) (s : State) : Host.Outcome State Fault Refusal := .next (s.fetchEntry fn q)

/- COPY (R70). -/

def cpSrc (e : List Byte) : Nat := fieldAt e 8 8
def cpDst (e : List Byte) : Nat := fieldAt e 16 8
def cpLen (e : List Byte) : Nat := fieldAt e 24 8

/-- The storage of a range of device addresses. -/
def State.storageAt (s : State) (b addr len : Nat) : List (Nat × Nat × Nat) :=
  if len = 0 then [] else match s.resolve b addr len with | .error _ => [] | .ok r => s.storage b r len

/-- The accumulator store takes no write (R175). -/
def State.dstCheck (s : State) (b addr len : Nat) : Option Status :=
  if len = 0 then none else if addr / 2 ^ 60 = 3 then some .addressRange else s.checkAt b addr len

/-- The checks of a COPY: both ranges, then overlap of storage. -/
def State.copyFault (s : State) (b : Nat) (e : List Byte) : Option Status :=
  match s.checkAt b (cpSrc e) (cpLen e) with
  | some st => some st
  | none => match s.dstCheck b (cpDst e) (cpLen e) with
    | some st => some st
    | none => if storageMeets (s.storageAt b (cpSrc e) (cpLen e)) (s.storageAt b (cpDst e) (cpLen e)) then some .descriptorInvalid else none

/-- COPY: the item starts in the queue copy engine, or its checks end it. -/
def State.copyStart (s : State) (fn q : Nat) : State :=
  match s.toStart fn q 2 with
  | none => s
  | some it => match s.calm.copyFault fn it.entry with
    | some e => ((s.served fn q).endItem fn q it.slot e 0 0 0).settle
    | none => ((s.served fn q).updItem fn q it.slot (fun x => { x with st := .running })).settle

/-- COPY (R70). -/
def execCopyStart (fn q : Nat) (s : State) : Host.Outcome State Fault Refusal := .next (s.copyStart fn q)

/-- A copy cut at the destination's 4 KiB boundaries, and at the pages of a host source (R33, R92): position, length. -/
def copyCuts (src dst : Nat) : Nat → Nat → Nat → List (Nat × Nat)
  | 0, _, _ => []
  | fuel + 1, pos, len =>
    if len = 0 then [] else
      let d := min len (4096 - (dst + pos) % 4096)
      let n := if src / 2 ^ 60 = 4 then min d (4096 - (src + pos) % 4096) else d
      (pos, n) :: copyCuts src dst fuel (pos + n) (len - n)

/-- One piece of a copy. A byte that a copied byte may have overwritten at its source holds either value (R70). -/
def State.copyPiece (s0 s : State) (a : Agent) (own : ReqOwner) (e : List Byte) (c : Nat × Nat) : State × Option Status :=
  let src := cpSrc e + c.1
  let dst := cpDst e + c.1
  let s1 := s.touchAt a.bay src c.2
  match s1.resolve a.bay src c.2 with
  | .error st => (s1, some st)
  | .ok (.fabric w off) => s1.farReadOut a.bay w off c.2 own [dst]
  | .ok r => match s1.readFrom a r 0 c.2, s0.readFrom a r 0 c.2 with
    | .ok now, .ok before => s1.putAt a own dst (raceBytes s.draws dst before now)
    | .ok now, .error _ => s1.putAt a own dst now
    | .error st, _ => (s1, some st)

/-- The pieces of a copy in order: the state, the bytes moved, and the failure that ended it. -/
def State.copyPieces (s0 : State) (a : Agent) (own : ReqOwner) (e : List Byte) : List (Nat × Nat) → State → Nat → State × Nat × Option Status
  | [], s, n => (s, n, none)
  | c :: cs, s, n => match s0.copyPiece s a own e c with
    | (t, none) => State.copyPieces s0 a own e cs t (n + c.2)
    | (t, some st) => (t, n, some st)

/-- Bytes of a failed copy that were not moved, `n` from a position, may still have landed (R34). -/
def State.copyLand (s0 s : State) (a : Agent) (e : List Byte) (first n : Nat) : State :=
  let byte (i : Nat) : Option Byte := match s0.readAt a (cpSrc e + first + i) 1 with | .ok (b :: _) => some b | _ => none
  (landRuns (Config.landed s.draws) (cpDst e + first) ((List.range n).map byte)).foldl (fun t r => (t.writeAt a r.1 r.2).1) s

/-- How far a cancelled copy moves: to the destination's next 4 KiB boundary after the byte that it has reached, which is a free value, or to
its end (R92). -/
def State.copyLimit (s : State) (e : List Byte) (moved : Nat) : Nat :=
  let pos := moved + Config.openNat s.draws % (cpLen e - moved + 1)
  min (cpLen e) (pos + (4096 - (cpDst e + pos) % 4096) % 4096)

/-- A copy from or to a failed tile waits for its repair (R429). -/
def State.copyWaits (s : State) (fn : Nat) (e : List Byte) : Bool := s.addrWaits fn (cpSrc e) || s.addrWaits fn (cpDst e)

/-- The pieces of a copy that are still to be moved, up to a limit. -/
def copyRest (it : Item) (limit : Nat) : List (Nat × Nat) :=
  (copyCuts (cpSrc it.entry) (cpDst it.entry) (cpLen it.entry / 2048 + 4) 0 (cpLen it.entry)).filter (fun c => decide (it.moved ≤ c.1 ∧ c.1 + c.2 ≤ limit))

/-- The copy engine moves bytes of a COPY up to a limit. -/
def State.copyTo (s : State) (fn q : Nat) (it : Item) (limit : Nat) : State × Nat × Option Status :=
  let a := (s.queueAt fn q).agent fn
  let r := State.copyPieces s a (.item fn q it.slot) it.entry (copyRest it limit) s it.moved
  let t := if r.2.2.isSome then s.copyLand r.1 a it.entry r.2.1 (limit - r.2.1) else r.1
  ({ t with draws := t.draws + 1 }, r.2.1, r.2.2)

/-- The copy engine moves what is left of a COPY: all of it, up to where a cancelled one stops, or nothing after a failure. -/
def State.copyMove (s : State) (fn q : Nat) (it : Item) : State × Nat × Option Status :=
  s.copyTo fn q it (match it.endAs with
    | none => cpLen it.entry
    | some .cancelled => s.copyLimit it.entry it.moved
    | some _ => it.moved)

/-- A COPY has moved a free part of its bytes by now (R375). -/
def State.copyPart (s : State) (fn q : Nat) (it : Item) : State :=
  if enType it.entry ≠ 2 ∨ it.st ≠ .running ∨ it.endAs.isSome ∨ s.copyWaits fn it.entry then s
  else
    let cuts := copyRest it (cpLen it.entry)
    let k := Config.openNat s.draws % (cuts.length + 1)
    let r := s.itemRace it (fun v => v.copyTo fn q it (match cuts.drop k with | [] => cpLen it.entry | c :: _ => c.1))
    (s.raced r.1).updItem fn q it.slot (fun x => { x with moved := r.2.1, endAs := r.2.2 })

/-- Does a request belong to an item? -/
def itemOwner (fn q slot : Nat) (o : ReqOwner) : Bool := o == .item fn q slot

/-- A COPY whose accesses have completed ends (R76). The bytes moved of one whose link failed are a free value. -/
def State.copyEnd (s : State) (fn q slot : Nat) : State :=
  match s.itemAt fn q slot with
  | none => s
  | some it =>
    if s.farPending (itemOwner fn q slot) then s.updItem fn q slot (fun x => { x with st := .waiting })
    else
      let st := it.endAs.getD .ok
      let lost := st == .linkLost || st == .peerTimeout || (it.st == .waiting && st == .addressRange)
      ({ s with draws := s.draws + 1 }.endItem fn q slot st (if lost then Config.openNat s.draws % (it.moved + 1) else it.moved) 0 0).settle

/-- COPY_COMPLETE: the engine finishes a copy. -/
def State.copyFinish (s : State) (fn q slot : Nat) : State :=
  match s.itemAt fn q slot with
  | none => s
  | some it =>
    if enType it.entry ≠ 2 ∨ it.active = false ∨ s.serves fn = false ∨ s.copyWaits fn it.entry then s
    else if it.st == .waiting then s.copyEnd fn q slot
    else
      let r := s.itemRace it (fun v => v.copyMove fn q it)
      ((s.raced r.1).updItem fn q slot (fun x => { x with moved := r.2.1, endAs := match x.endAs with | some e => some e | none => r.2.2 })).copyEnd fn q slot

/-- COPY_COMPLETE (R70). -/
def execCopyComplete (fn q slot : Nat) (s : State) : Host.Outcome State Fault Refusal := .next (s.copyFinish fn q slot)

/- FENCE_WAIT, FENCE_SIGNAL, BARRIER (R71, R72). -/

/-- An item starts to wait. -/
def State.startWait (s : State) (fn q slot : Nat) : State :=
  s.updItem fn q slot (fun x => { x with st := .waiting, timeout := (s.queueAt fn q).timeout.toNat })

/-- FENCE_WAIT: the wait begins. -/
def State.fenceWait (s : State) (fn q : Nat) : State :=
  match s.toStart fn q 3 with
  | none => s
  | some it => (((s.served fn q).startWait fn q it.slot).gainWaiter fn (fwFence it.entry) (fwValue it.entry)).settle

/-- FENCE_WAIT (R71). -/
def execFenceWait (fn q : Nat) (s : State) : Host.Outcome State Fault Refusal := .next (s.fenceWait fn q)

/-- FENCE_SIGNAL: it waits for the earlier items of its queue, and then sets the fence. -/
def State.fenceSignal (s : State) (fn q : Nat) : State :=
  match s.toStart fn q 4 with
  | none => s
  | some it => ((s.served fn q).startWait fn q it.slot).settle

/-- FENCE_SIGNAL (R71). -/
def execFenceSignal (fn q : Nat) (s : State) : Host.Outcome State Fault Refusal := .next (s.fenceSignal fn q)

/-- BARRIER: it waits for the items of its scope. -/
def State.barrierStart (s : State) (fn q : Nat) : State :=
  match s.toStart fn q 6 with
  | none => s
  | some it => ((s.served fn q).startWait fn q it.slot).settle

/-- BARRIER (R72). -/
def execBarrierStart (fn q : Nat) (s : State) : Host.Outcome State Fault Refusal := .next (s.barrierStart fn q)

/- CANCEL (R73, R92). -/

def caQueue (e : List Byte) : Nat := fieldAt e 8 1 % 64
def caFirst (e : List Byte) : Nat := fieldAt e 12 2
def caCount (e : List Byte) : Nat := fieldAt e 16 4

/-- The checks of a CANCEL against its target, the lowest byte first (R73, R534). -/
def State.cancelFault (s : State) (fn : Nat) (e : List Byte) : Option Status :=
  let v := s.queueAt fn (caQueue e)
  if v.st == .disabled ∨ v.size ≤ caFirst e then some .descriptorInvalid
  else if v.size - 1 < caCount e then some .lengthRange
  else if allZero (bytesAt e 20 28) then none else some .descriptorInvalid

/-- Is a slot in the range of a CANCEL? -/
def cancelHas (size : Nat) (e : List Byte) (slot : Nat) : Bool := decide ((slot + size - caFirst e) % size < caCount e)

/-- One item is cancelled, if it can be; true when it was (R91, R92). -/
def State.cancelItem (s : State) (fn q slot : Nat) : State × Bool :=
  match s.itemAt fn q slot with
  | none => (s, false)
  | some it =>
    if !it.live then (s, false)
    else if it.st == .fetched then
      if enType it.entry = 5 ∨ enType it.entry = 7 then (s, false) else (s.endItem fn q slot .cancelled 0 0 0, true)
    else match enType it.entry with
      | 1 => match it.launch with
        | some l => if l.goes then (s.endLaunch fn q slot .cancelled, true) else (s, false)
        | none => (s, false)
      | 2 => if it.endAs.isNone then (s.updItem fn q slot (fun x => { x with endAs := some .cancelled }), true) else (s, false)
      | 3 | 4 | 6 => (s.endItem fn q slot .cancelled 0 0 0, true)
      | _ => (s, false)

/-- The items of a list are cancelled, the latest first: the state, and the fetch orders of those that were. -/
def State.cancelEach (fn q : Nat) : List Item → State → State × List Nat
  | [], s => (s, [])
  | it :: rest, s =>
    let r := State.cancelEach fn q rest s
    let c := r.1.cancelItem fn q it.slot
    (c.1, if c.2 then it.order :: r.2 else r.2)

/-- CANCEL: the items in its range end, and it waits for them. -/
def State.cancelStart (s : State) (fn q : Nat) : State :=
  match s.toStart fn q 5 with
  | none => s
  | some it =>
    let s1 := s.served fn q
    match s.cancelFault fn it.entry with
    | some e => (s1.endItem fn q it.slot e 0 0 0).settle
    | none =>
      let v := s1.queueAt fn (caQueue it.entry)
      let s2 := s1.startWait fn q it.slot
      let r := State.cancelEach fn (caQueue it.entry) (v.items.filter (fun x => cancelHas v.size it.entry x.slot && x.order != it.order)) s2
      ((r.1.updItem fn q it.slot (fun x => { x with targets := r.2 })).evaluate fn).settle

/-- CANCEL (R92). -/
def execCancelStart (fn q : Nat) (s : State) : Host.Outcome State Fault Refusal := .next (s.cancelStart fn q)

/- WAIT_TIMEOUT (R88, R91). -/

/-- A fence wait that is not satisfied expires (R91), unless the queue has no timeout or the bay is halted (R480). -/
def State.waitExpires (s : State) (fn q slot : Nat) (node : Option Nat) : State :=
  match s.itemAt fn q slot with
  | none => s
  | some it =>
    if !s.serves fn || (s.bayAt fn).halted then s
    else match node with
      | none => if it.st == .waiting && enType it.entry == 3 && it.timeout != 0 && decide (s.fenceAt fn (fwFence it.entry) < fwValue it.entry) then ((s.pend 157).endItem fn q slot .waitTimeout 0 0 0).settle else s
      | some n => match it.launch with
        | none => s
        | some l => if it.active && (l.nodes[n]?).any (fun v => v.st == .waiting && ndFenceWait v.rcd && v.timeout != 0 &&
                decide (s.fenceAt fn (ndFence v.rcd) < ndValue v.rcd))
            then (((s.pend 157).failNode fn q slot n 0 .waitTimeout).nodeEnds fn q slot n .waitTimeout).settle else s

/-- WAIT_TIMEOUT (R88). -/
def execWaitTimeout (fn q slot : Nat) (node : Option Nat) (s : State) : Host.Outcome State Fault Refusal := .next (s.waitExpires fn q slot node)

/- COMPLETION_PATH_LOST (R95). -/

/-- The translation of the queue's next record fails, where its ring is in host memory and the function has ATS. -/
def State.pathLoss (s : State) (fn q : Nat) : State :=
  let v := s.queueAt fn q
  if v.cqBase.toNat / 2 ^ 60 ≠ 4 ∨ (s.fnAt fn).ats = false ∨ v.st == .disabled ∨ v.st == .pathLost then s
  else
    let at_ := (v.cqBase.toNat + 32 * v.recHead) % 2 ^ 60
    { s with host := { s.host with refused := s.host.refused ++ [Refused.mk (hostKey fn v.pasidOf at_) 32 false true] } }.settle

/-- COMPLETION_PATH_LOST (R95). -/
def execCompletionPathLost (fn q : Nat) (s : State) : Host.Outcome State Fault Refusal := .next (s.pathLoss fn q)

/- ADMIN items (R74, R75). -/

/-- The next unstarted item of a PF queue, when it is an ADMIN item of an opcode and may start. -/
def State.adminItem (s : State) (q op : Nat) : Option Item :=
  match s.toStart pfFn q 7 with
  | some it => if adOp it.entry == op then some it else none
  | none => none

/-- An ADMIN item completes with a status and RESULT. -/
def State.adminEnd (s : State) (q slot : Nat) (st : Status) (result : Nat) : State := (s.endItem pfFn q slot st result 0 0).settle

/-- Which TARGET_BAY an opcode takes (R74). -/
inductive BayUse where
  | unused | bay | pf | either
  deriving DecidableEq, Repr

/-- The checks of R74 on bytes 9 to 15. -/
def adminHead (e : List Byte) (u : BayUse) (queue : Bool) : Chk Unit :=
  need (decide (adBay e ≤ 12) && (match u with
      | .unused => adBay e == 0
      | .bay => adBay e != 12
      | .pf => adBay e == 12
      | .either => true) &&
    (if queue then !(adBay e == 12 && decide (3 < adQueue e)) else adQueue e == 0) && fieldAt e 10 1 / 64 == 0 && allZero (bytesAt e 11 5))
    .descriptorInvalid

/-- ADDRESS and COUNT of an opcode that uses neither. -/
def adminNoRange (e : List Byte) : Chk Unit := need (adAddr e == 0 && adCount e == 0) .descriptorInvalid

/-- Start an ADMIN item: its checks, then its operation. -/
def State.adminRun (s : State) (q op : Nat) (check : List Byte → Chk Unit) (act : State → Item → State) : State :=
  match s.adminItem q op with
  | none => s
  | some it =>
    let s1 := s.served pfFn q
    match check it.entry with
    | .error e => s1.adminEnd q it.slot e 0
    | .ok _ => (act s1 it).settle

/-- An operation on a bay that must exist, or 12 (R74). -/
def State.needBay (s : State) (q : Nat) (it : Item) (act : State → State) : State :=
  if adBay it.entry = 12 ∨ s.bayExists (adBay it.entry) then act s else s.adminEnd q it.slot .adminRefused 1

/-- ADDRESS of an opcode that needs it in host memory. The spec names no status for this fault of READ_RETAINED, COLUMN_STATE and READ_ERRORS
(log entry 65). -/
def adminHost (e : List Byte) : Chk Unit := need (adAddr e / 2 ^ 60 == 4) .descriptorInvalid

/-- READ_RETAINED: the check of its fields. -/
def readRetainedCheck (e : List Byte) : Chk Unit := do
  adminHead e .either true
  adminHost e
  need (decide (adCount e ≤ 64)) .lengthRange
  need (allZero (bytesAt e 28 20)) .descriptorInvalid

/-- A retained record as READ_RETAINED delivers it (R76). -/
def retainedOut (r : List Byte) : List Byte := overlay r 1 (natLE 1 (Nat.lor (fieldAt r 1 1) 2))

/-- READ_RETAINED (R75). -/
def State.readRetained (s : State) (q : Nat) : State :=
  s.adminRun q 1 readRetainedCheck (fun t it => t.needBay q it (fun t =>
    let e := it.entry
    match t.checkAt pfFn (adAddr e) (32 * adCount e) with
    | some st => t.adminEnd q it.slot st 0
    | none =>
      let v := t.queueAt (adBay e) (adQueue e)
      let take := v.retained.take (adCount e)
      match t.writeAt ((t.queueAt pfFn q).agent pfFn) (adAddr e) (take.flatMap retainedOut) with
      | (u, some st) => u.adminEnd q it.slot st 0
      | (u, none) => (u.setQueue (adBay e) (adQueue e) { u.queueAt (adBay e) (adQueue e) with retained := v.retained.drop take.length }).adminEnd
          q it.slot .ok take.length))

/-- READ_RETAINED (R75). -/
def execReadRetained (q : Nat) (s : State) : Host.Outcome State Fault Refusal := .next (s.readRetained q)

/-- The fields of RESET_QUEUE and QUEUE_STATE. -/
def queueAdminCheck (e : List Byte) : Chk Unit := do
  adminHead e .either true
  adminNoRange e
  need (allZero (bytesAt e 28 20)) .descriptorInvalid

/-- Does RESET_QUEUE refuse (R75)? -/
def State.resetRefused (s : State) (q : Nat) (e : List Byte) : Bool :=
  let v := s.queueAt (adBay e) (adQueue e)
  v.retained != [] || (v.st == .pathLost && v.items.any Item.live) || (adBay e == pfFn && adQueue e == q)

/-- RESET_QUEUE: fetching stops, the target's items are cancelled, and the entry waits for their records. -/
def State.resetQueue (s : State) (q : Nat) : State :=
  s.adminRun q 2 queueAdminCheck (fun t it => t.needBay q it (fun t =>
    let e := it.entry
    if t.resetRefused q e then t.adminEnd q it.slot .adminRefused 0
    else
      let v := t.queueAt (adBay e) (adQueue e)
      let t1 := t.updItem pfFn q it.slot (fun x => { x with st := .waiting, moved := v.sqHead })
      let r := State.cancelEach (adBay e) (adQueue e) v.items t1
      (if adBay e = pfFn then r.1 else r.1.evaluate (adBay e)).settle))

/-- RESET_QUEUE (R75). -/
def execResetQueue (q : Nat) (s : State) : Host.Outcome State Fault Refusal := .next (s.resetQueue q)

/-- The tail that QUEUE_STATE reports: a fence gives it where it is the source (R64). -/
def State.tailOf (s : State) (fn q : Nat) : Nat :=
  let v := s.queueAt fn q
  match v.tailFence with
  | some f => if v.st == .disabled then v.sqTail else s.fenceAt fn f % v.size
  | none => v.sqTail

/-- The RESULT of QUEUE_STATE, and Q_STATE (R75, R513). -/
def State.queueStateWord (s : State) (fn q : Nat) : Nat :=
  let v := s.queueAt fn q
  qstateCode v.st + v.retained.length % 256 * 2 ^ 8 + v.sqHead % 2 ^ 16 * 2 ^ 16 + s.tailOf fn q % 2 ^ 16 * 2 ^ 32

/-- QUEUE_STATE (R75). -/
def State.queueState (s : State) (q : Nat) : State :=
  s.adminRun q 3 queueAdminCheck (fun t it => t.needBay q it (fun t =>
    t.adminEnd q it.slot .ok (t.queueStateWord (adBay it.entry) (adQueue it.entry))))

/-- QUEUE_STATE (R75). -/
def execQueueState (q : Nat) (s : State) : Host.Outcome State Fault Refusal := .next (s.queueState q)

end Sys2Proof.Machine
end

