-- ==== Sys2Proof/Machine/Collective.lean ====
section
/-! DEFINITION. Collectives start (R353, R354, R357, R359 to R361), their messages arrive (R355 to R357, R359, R364), frames
are reduced (R357, R358) and timeouts expire (R363); and the end notices of launches reach cores, eave engines and the
collective engine (R111, R278, R319, R364, R533). -/

namespace Sys2Proof.Machine

/- Inbound windows (R341). -/

def iwOpen (d : List Byte) : Bool := byteBit d 0 7
def iwKind (d : List Byte) : Nat := fieldAt d 0 1 / 32 % 4
def iwRead (d : List Byte) : Bool := byteBit d 0 4
def iwWrite (d : List Byte) : Bool := byteBit d 0 3
def iwAtomic (d : List Byte) : Bool := byteBit d 0 2
def iwFirst (d : List Byte) : Nat := fieldAt d 4 2
def iwCount (d : List Byte) : Nat := fieldAt d 6 2
def iwBase (d : List Byte) : Nat := fieldAt d 8 8
def iwSize (d : List Byte) : Nat := fieldAt d 16 8

/-- Does a window accept a source device and bay? -/
def iwAccepts (d : List Byte) (src srcBay : Nat) : Bool :=
  (fieldAt d 1 1 == 0xFF || fieldAt d 1 1 == src) && (fieldAt d 2 1 == 0xFF || fieldAt d 2 1 == srcBay)

/-- Fields of a message's header (R336). -/
def mgType (m : List Byte) : Nat := fieldAt m 0 1
def mgHops (m : List Byte) : Nat := fieldAt m 1 1
def mgDst (m : List Byte) : Nat := fieldAt m 2 1
def mgSrc (m : List Byte) : Nat := fieldAt m 3 1
def mgTag (m : List Byte) : Nat := fieldAt m 4 2
def mgWindow (m : List Byte) : Nat := fieldAt m 6 1
def mgBay (m : List Byte) : Nat := fieldAt m 7 1
def mgOffset (m : List Byte) : Nat := fieldAt m 8 6
def mgLen (m : List Byte) : Nat := fieldAt m 14 2
def mgData (m : List Byte) : List Byte := m.drop 16

/-- The bay whose inbound window a message names: a bay that has that window open. Where several have, the spec names no
one of them, and the choice is a free value (log entry 30). -/
def State.windowBay (s : State) (w : Nat) : Option Nat :=
  let bays := (List.range 12).filter (fun b => s.bayExists b && iwOpen (s.inWindow b w))
  match bays with
  | [] => none
  | [b] => some b
  | _ => bays[Config.openNat s.draws % bays.length]?

/-- The oldest message of a VC of a port. -/
def State.headMsg (s : State) (p v : Nat) : Option (List Byte) := ((s.portAt p).rxMsgs.getD v []).head?.map (·.2)

/-- A port without the oldest message of a VC: the credits of the flits that this frees go back with an IDLE flit (R332, R334). -/
def State.popMsg (s : State) (p v : Nat) : State :=
  let q := s.portAt p
  let free : Nat := ((q.rxMsgs.getD v []).head?.map (·.1)).getD 0
  let q1 := { q with rxMsgs := q.rxMsgs.set v ((q.rxMsgs.getD v []).drop 1), creditRet := q.creditRet.set v (q.creditRet.getD v 0 + free) }
  s.setPort p (if free ≠ 0 ∧ q.st = .up then q1.sendBare 0 0 else q1)

/- Starting (R351, R353, R357 to R360). -/

/-- The collectives of a bay that wait. -/
def State.setWaiting (s : State) (b : Nat) (cs : List Coll) : State :=
  s.setBay b { s.bayAt b with coll := { (s.bayAt b).coll with waiting := cs } }

/-- Does a waiting collective wait for its group (R351)? -/
def State.groupBusy (s : State) (b : Nat) (c : Coll) : Bool :=
  clOp c.rcd != 6 && (match s.readAt (collAgent b) (clTab c.rcd) 16 with
    | .error _ => false
    | .ok t => (s.bayAt b).coll.running.any (fun x => clOp x.rcd != 6 && gtGroup x.table == gtGroup t))

/-- May the `i`-th waiting collective of a bay start: a place is free, its group is free, and those before it wait for
their groups (R351)? -/
def State.collTurnOf (s : State) (b i : Nat) : Bool :=
  let cx := (s.bayAt b).coll
  decide (cx.running.length < 4) && (cx.waiting.take i).all (fun c => s.groupBusy b c) &&
    (match cx.waiting[i]? with | some c => !s.groupBusy b c | none => false)

/-- Is a SEQ newer than the last of its group (R359)? -/
def seqNewer (last : Option Nat) (seq : Nat) : Bool :=
  match last with
  | none => true
  | some e => decide (1 ≤ (seq + 2 ^ 32 - e) % 2 ^ 32 ∧ (seq + 2 ^ 32 - e) % 2 ^ 32 < 2 ^ 31)

/-- The group table of a node as the engine reads it: its header, then the entries of P members, of 64 at most (R354, R360 step 1). A table that
runs past its region has no address there. -/
def State.collRead (s : State) (b : Nat) (r : List Byte) : Chk (List Byte) :=
  let fix (c : Chk (List Byte)) : Chk (List Byte) := match c with | .error .lengthRange => .error .addressRange | x => x
  do
    let h ← fix (s.readAt (collAgent b) (clTab r) 16)
    fix (s.readAt (collAgent b) (clTab r) (16 + 8 * min (gtP h) 64))

/-- The other checks of step 1 of R360 on a table. -/
def State.collTable (s : State) (b : Nat) (r t : List Byte) : Chk Unit := do
  need (decide (2 ≤ gtP t ∧ gtP t ≤ 64 ∧ gtSelf t < gtP t ∧ fieldAt t 4 4 ≤ 60000) && allZero (bytesAt t 9 7)) .descriptorInvalid
  need ((List.range (gtP t)).all (fun k => allZero (bytesAt t (18 + 8 * k) 6)) && gtOut t (gtSelf t) == 0xFF &&
    (clOp r != 5 || decide (clRoot r < gtP t))) .descriptorInvalid
  need (s.fabric.id != 0xFF) .linkLost
  need (gtId t (gtSelf t) == s.fabric.id) .descriptorInvalid
  need (((List.range (gtP t)).all (fun k => k == gtSelf t ||
      (byteBit (s.outWindow b (gtOut t k)) 0 7 && owTarget (s.outWindow b (gtOut t k)) == gtId t k))) &&
    iwOpen (s.inWindow b (gtIn t)) && iwKind (s.inWindow b (gtIn t)) == 3) .addressRange

/-- SRC bytes and DST bytes of R353; none for a SRC that is ignored. -/
def Coll.srcLen (c : Coll) : Nat :=
  match clOp c.rcd with
  | 3 => clCount c.rcd
  | 5 => if clRoot c.rcd = c.self then clCount c.rcd else 0
  | _ => c.p * clCount c.rcd * clWin c.rcd
def Coll.dstLen (c : Coll) : Nat :=
  match clOp c.rcd with
  | 2 | 5 => clCount c.rcd * clWout c.rcd
  | _ => c.p * clCount c.rcd * clWout c.rcd

/-- The check of a range under R33, as a step. -/
def State.needRange (s : State) (b addr len : Nat) : Chk Unit :=
  match s.checkAt b addr len with | some e => .error e | none => .ok ()

/-- Steps 3 and 4 of R360, then the links that the collective needs (R364). One with COUNT 0 needs none (R353). -/
def State.collRanges (s : State) (b : Nat) (c : Coll) : Chk Unit := do
  s.needRange b (clSrc c.rcd) c.srcLen
  s.needRange b (clDst c.rcd) c.dstLen
  s.needRange b (clTelemAt c.rcd) (if clTelem c.rcd then 32 + 8 * c.p else 0)
  need (clOp c.rcd == 1 || !storageMeets (s.storageAt b (clSrc c.rcd) c.srcLen) (s.storageAt b (clDst c.rcd) c.dstLen)) .descriptorInvalid
  need (clCount c.rcd == 0 || c.others.all (fun j => (s.farCheck b (s.outWindow b (gtOut c.table j))).isNone)) .linkLost

/-- Where this member's own piece goes without a port, if the OP has one (R357). -/
def Coll.ownPieces (c : Coll) : Bool := [3, 4].contains (clOp c.rcd) || (clOp c.rcd == 5 && clRoot c.rcd == c.self)

/-- This member's own pieces pass inside the engine (R357). -/
def State.collOwn (b : Nat) (c : Coll) : List Nat → State → State × Option Status
  | [], s => (s, none)
  | i :: is, s =>
    let s0 := s.touchAt b (c.srcAt c.self i) (pieceLen c.rcd i)
    match s0.pieceBytes b c 0 c.self i with
    | .error e => (s0, some e)
    | .ok bs => match s0.writeAt (collAgent b) (c.dstAt c.self i) bs with
      | (t, none) => State.collOwn b c is t
      | (t, some e) => (t, some e)

/-- Does a message's header agree with a node (R356, R360)? -/
def Coll.agrees (c : Coll) (h : List Byte) : Bool :=
  bytesAt h 10 14 == bytesAt (collHeader c 0 0 0 0) 10 14

/-- A table of grants with a limit raised. -/
def raiseLimit (g : List (Nat × Nat)) (j n : Nat) : List (Nat × Nat) := tabSet g j (max (tabGet g j 0) n)

/-- A message from a member was heard (R366). -/
def Coll.hear (c : Coll) (j now : Nat) : Coll :=
  { c with first := if tabHas c.first j then c.first else tabSet c.first j now, last := tabSet c.last j now }

/-- A GRANT raises a limit (R357). -/
def Coll.granted (c : Coll) (h : List Byte) : Coll :=
  let j := fieldAt h 1 1
  if fieldAt h 2 1 % 2 = 1 then { c with grants1 := raiseLimit c.grants1 j (fieldAt h 24 4) }
  else { c with grants := raiseLimit c.grants j (fieldAt h 24 4) }

/-- Is a member index another member's? -/
def Coll.other (c : Coll) (j : Nat) : Bool := decide (j < c.p) && j != c.self

/-- The grants that were held for a collective, applied at its start; false when one disagrees with the node. -/
def Coll.applyHeld (c : Coll) (now : Nat) (hs : List (List Byte)) : Coll × Bool :=
  hs.foldl (fun (x : Coll × Bool) h =>
    (if x.1.other (fieldAt h 1 1) then (x.1.hear (fieldAt h 1 1) now).granted h else x.1, x.2 && x.1.agrees h)) (c, true)

/-- The grants that this member gives at start: (phase, limit) (R357). -/
def Coll.firstGrants (c : Coll) (strips : Nat) : List (Nat × Nat) :=
  match clOp c.rcd with
  | 1 => [(0, c.limit strips), (1, c.pieces)]
  | 2 => [(0, c.limit strips)]
  | _ => [(0, c.pieces)]

/-- Send the first grants. -/
def State.collFirst (b : Nat) (c : Coll) : List (Nat × Nat) → State → State × Option Status
  | [], s => (s, none)
  | g :: gs, s => match s.collGrant b c g.1 g.2 with
    | (t, none) => State.collFirst b c gs t
    | (t, some e) => (t, some e)

/-- A collective whose checks have passed begins: held grants, own pieces, first grants, and pieces (R357). -/
def State.collBegin (s : State) (b : Nat) (c : Coll) : State :=
  if clCount c.rcd = 0 then s.collEnd b c .ok
  else
    let mine (h : List Byte) : Bool := fieldAt h 4 4 == clSeq c.rcd && fieldAt h 8 2 == gtGroup c.table
    let a := c.applyHeld s.stamp ((s.bayAt b).coll.held.filter mine)
    let cx := (s.bayAt b).coll
    let s1 := (s.setBay b { s.bayAt b with coll := { cx with held := cx.held.filter (fun h => !mine h) } }).putColl b a.1
    if a.2 = false then s1.collFail b a.1 .descriptorInvalid
    else match State.collOwn b a.1 (if a.1.ownPieces then List.range a.1.pieces else []) s1 with
      | (t, some e) => t.collFail b a.1 e
      | (t, none) =>
        let c1 := if a.1.ownPieces then { a.1 with last := tabSet a.1.last a.1.self t.stamp } else a.1
        match State.collFirst b c1 (c1.firstGrants (t.bayAt b).count) t with
        | (u, some e) => u.collFail b c1 e
        | (u, none) => u.collGo b c1

/-- A REMOTE_ADD issues its ATOMIC_ADD (R361). -/
def State.remoteAddStart (s : State) (b : Nat) (c : Coll) : State :=
  let own : ReqOwner := .coll b c.lid c.nodeIx
  match s.resolve b (clTab c.rcd) 8 with
  | .ok (.fabric w off) =>
    match s.checkAt b (clDst c.rcd) (if byteBit c.rcd 33 5 then 8 else 0) with
    | some e => s.collFail b c e
    | none => match s.checkAt b (clTelemAt c.rcd) (if clTelem c.rcd then 32 else 0) with
      | some e => s.collFail b c e
      | none =>
        let d := s.outWindow b w
        match s.farCheck b d with
        | some e => s.collFail b c e
        | none => s.farIssue (owPort d) ⟨0x03, owTarget d, owWindow d, b, off, 8, own, natLE 8 (clCount c.rcd), []⟩
  | .ok _ => s.collFail b c .addressRange
  | .error e => s.collFail b c e

/-- A collective with a source, destination, table or telemetry record at a failed tile waits for the repair (R429). -/
def State.collDown (s : State) (b : Nat) (c : Coll) : Bool :=
  s.addrWaits b (clSrc c.rcd) || s.addrWaits b (clDst c.rcd) || s.addrWaits b (clTab c.rcd) || s.addrWaits b (clTelemAt c.rcd)

/-- The `i`-th waiting collective of a bay, of an OP, starts in its turn: steps 1 to 4 of R360; what it writes races with work in progress (R48). One whose table could not be read, or whose SEQ is
not newer (R359), sends nothing. -/
def State.collStart (s : State) (b i op : Nat) : State :=
  match (s.bayAt b).coll.waiting[i]? with
  | none => s
  | some c0 =>
    if clOp c0.rcd ≠ op ∨ s.collTurnOf b i = false ∨ s.collDown b c0 then s
    else
      let w := (s.bayAt b).coll.waiting
      let c := { c0 with started := true, startTime := s.stamp }
      let s1 := (s.setWaiting b (w.take i ++ w.drop (i + 1))).setColls b ((s.bayAt b).coll.running ++ [c])
      if op = 6 then s1.remoteAddStart b c
      else
        let s2 := s1.touchAt b (clTab c.rcd) (16 + 8 * min (gtP ((s1.readAt (collAgent b) (clTab c.rcd) 16).toOption.getD [])) 64)
        match s2.collRead b c.rcd with
        | .error e => s2.collEnd b c e
        | .ok t =>
          let c1 := { c with table := t }
          let s3 := s2.putColl b c1
          let cx := (s3.bayAt b).coll
          match s3.collTable b c.rcd t with
          | .error e => s3.collFail b c1 e
          | .ok _ =>
            if seqNewer (tabFind cx.lastSeq (gtGroup t)) (clSeq c.rcd) = false then s3.collEnd b c1 .descriptorInvalid
            else
              let s4 := s3.setBay b { s3.bayAt b with coll := { cx with lastSeq := tabSet cx.lastSeq (gtGroup t) (clSeq c.rcd) } }
              match s4.collRanges b c1 with
              | .error e => s4.collFail b c1 e
              | .ok _ => s.raced (s4.collBegin b c1)

/-- ALL_REDUCE (R353). -/
def execAllReduce (bay i : Nat) (s : State) : Host.Outcome State Fault Refusal := .next (s.collStart bay i 1)

/-- REDUCE_SCATTER (R353). -/
def execReduceScatter (bay i : Nat) (s : State) : Host.Outcome State Fault Refusal := .next (s.collStart bay i 2)

/-- ALL_GATHER (R353). -/
def execAllGather (bay i : Nat) (s : State) : Host.Outcome State Fault Refusal := .next (s.collStart bay i 3)

/-- ALL_TO_ALL (R353). -/
def execAllToAll (bay i : Nat) (s : State) : Host.Outcome State Fault Refusal := .next (s.collStart bay i 4)

/-- BROADCAST (R353). -/
def execBroadcast (bay i : Nat) (s : State) : Host.Outcome State Fault Refusal := .next (s.collStart bay i 5)

/-- REMOTE_ADD (R361). -/
def execRemoteAdd (bay i : Nat) (s : State) : Host.Outcome State Fault Refusal := .next (s.collStart bay i 6)

/- Messages (R355 to R357, R359, R360, R364). -/

/-- The check of R341 on a COLLECTIVE message: its bay, or the event that it raises (R355). -/
def State.collWindow (s : State) (m : List Byte) : State × Option Nat :=
  let w := mgWindow m
  let bad := fun (t : State) fn => t.raiseIn fn ⟨0x49, w, mgSrc m + mgBay m * 256, 0, 0⟩
  match s.windowBay w with
  | none => (bad s pfFn, none)
  | some b =>
    let d := s.inWindow b w
    if iwKind d == 3 && iwAccepts d (mgSrc m) (mgBay m) && iwWrite d && (s.bayAt b).live then (s, some b) else (bad s b, none)

/-- The running collective that a header belongs to (R359). -/
def State.collFor (s : State) (b : Nat) (h : List Byte) : Option Coll :=
  (s.bayAt b).coll.running.find? (fun c => clOp c.rcd != 6 && c.table != [] && gtGroup c.table == fieldAt h 8 2 && clSeq c.rcd == fieldAt h 4 4)

/-- A stale message counts and does nothing else (R359, R366). -/
def State.collStale (s : State) (b : Nat) : State :=
  let cx := (s.bayAt b).coll
  s.setBay b { s.bayAt b with coll := { cx with stale := satInc 32 cx.stale } }

/-- The piece of a phase that a collective takes next from a member: the next contribution, or the next piece that goes
straight to DST. -/
def Coll.dueFrom (c : Coll) (j phase : Nat) : Nat :=
  if clReduces c.rcd && phase == 0 then c.reduced + (c.frames.filter (fun f => f.2.1 == j)).length else tabGet c.got j 0

/-- Is a DATA message the piece that is due from its sender, within the grant and of the piece's length? -/
def Coll.dataDue (c : Coll) (strips : Nat) (h data : List Byte) : Bool :=
  let j := fieldAt h 1 1
  let phase := fieldAt h 2 1 % 2
  let i := fieldAt h 24 4
  i == c.dueFrom j phase && decide (i < c.pieces) &&
    (if clReduces c.rcd && phase == 0 then decide (i < c.limit strips) && data.length == pieceLen c.rcd i * clWin c.rcd
     else c.takesFrom j && (clOp c.rcd != 1 || phase == 1) && data.length == pieceLen c.rcd i * clWout c.rcd)

/-- A DATA piece arrives for the current collective (R357). -/
def State.collPiece (s : State) (b : Nat) (c : Coll) (h data : List Byte) : State :=
  let j := fieldAt h 1 1
  let i := fieldAt h 24 4
  if c.dataDue (s.bayAt b).count h data = false then s.collStale b
  else if clReduces c.rcd && fieldAt h 2 1 % 2 == 0 then s.putColl b { c with frames := c.frames ++ [(i, j, data)] }
  else match s.writeAt (collAgent b) (c.dstAt j i) data with
    | (t, some e) => t.collFail b c e
    | (t, none) => t.collGo b { c with got := tabSet c.got j (i + 1) }

/-- What a collective message does at its bay. A header of the current SEQ that disagrees with the node, whichever member it names, fails the
collective (R360). -/
def State.collApply (s : State) (b : Nat) (h data : List Byte) : State :=
  let kind := fieldAt h 0 1
  match s.collFor b h with
  | none =>
    if kind = 2 ∧ seqNewer (tabFind (s.bayAt b).coll.lastSeq (fieldAt h 8 2)) (fieldAt h 4 4) then
      let cx := (s.bayAt b).coll
      s.setBay b { s.bayAt b with coll := { cx with held := cx.held ++ [h] } }
    else s.collStale b
  | some c0 =>
    let j := fieldAt h 1 1
    let c := if c0.other j then c0.hear j s.stamp else c0
    let s1 := s.putColl b c
    if c.agrees h = false then s1.collFail b c .descriptorInvalid
    else if c0.other j = false then s.collStale b
    else match kind with
      | 1 => s1.collPiece b c h data
      | 2 => s1.collGo b (c.granted h)
      | _ => s1.collFail b c .peerTimeout

/-- The oldest collective message of a port, of a KIND and for this device, arrives. A message of no KIND of R356 is
discarded. -/
def State.collTakeMsg (s : State) (p kind : Nat) : State :=
  match s.headMsg p 2 with
  | none => s
  | some m =>
    let h := bytesAt (mgData m) 0 32
    if s.fabric.id = 0xFF ∨ mgDst m ≠ s.fabric.id ∨ (fieldAt h 0 1 ≠ kind ∧ 1 ≤ fieldAt h 0 1 ∧ fieldAt h 0 1 ≤ 3) then s
    else
      let r := (s.popMsg p 2).collWindow m
      match r.2 with
      | none => r.1
      | some b =>
        if (s.bayAt b).coll.running.any (fun c => s.collDown b c) then s
        else if fieldAt h 0 1 = kind then s.raced (r.1.collApply b h ((mgData m).drop 32)) else r.1

/-- GRANT (R357). -/
def execCollGrant (port : Nat) (s : State) : Host.Outcome State Fault Refusal := .next (s.collTakeMsg port 2)

/-- DATA (R357). -/
def execCollData (port : Nat) (s : State) : Host.Outcome State Fault Refusal := .next (s.collTakeMsg port 1)

/-- ABORT (R364). -/
def execCollAbort (port : Nat) (s : State) : Host.Outcome State Fault Refusal := .next (s.collTakeMsg port 3)

/-- FRAME_REDUCE: the frame of the next piece of a share, when every contribution is present. -/
def State.frameDue (s : State) (b i piece : Nat) : State :=
  match (s.bayAt b).coll.running[i]? with
  | none => s
  | some c =>
    if !s.collDown b c && clReduces c.rcd && piece == c.reduced && decide (piece < c.pieces) && c.others.all (fun j => c.hasFrame piece j)
    then s.raced (s.frameReduce b c piece) else s

/-- FRAME_REDUCE (R357, R358). -/
def execFrameReduce (bay i piece : Nat) (s : State) : Host.Outcome State Fault Refusal := .next (s.frameDue bay i piece)

/-- COLLECTIVE_TIMEOUT: the collective waits on the member for longer than its timeout. -/
def State.collExpires (s : State) (b i member : Nat) : State :=
  match (s.bayAt b).coll.running[i]? with
  | none => s
  | some c => if clOp c.rcd != 6 && c.other member && c.waitsOn member then s.collFail b c .peerTimeout else s

/-- COLLECTIVE_TIMEOUT (R363). -/
def execCollectiveTimeout (bay i member : Nat) (s : State) : Host.Outcome State Fault Refusal := .next (s.collExpires bay i member)

/- END_NOTICE (R111, R278, R319, R364, R533). -/

/-- A gate whose version the notice carries closes. -/
def Core.closeGates (c : Core) (vs : List (Nat × Nat)) : Core :=
  { c with gates := c.gates.map (fun g => (g.1, if vs.contains (g.2.epoch, g.2.gen) then { g.2 with isOpen := false } else g.2)) }

/-- A notice reaches a core: barriers of the launch fall, and its work orders that would wait complete. -/
def State.noticeCore (s : State) (n : Notice) (c : Nat) : State :=
  let k := (s.coreAt c).closeGates n.versions
  let q := k.queue.filter (fun e => match e with | .barrier b l _ _ => !(b == n.bay && l == n.lid) | _ => true)
  (s.setCore c { k with queue := q, ended := setIns k.ended n.lid }).coreSettle c

/-- A notice reaches an eave engine: work orders of the launch that have not started complete NOT_RUN. -/
def State.noticeEave (s : State) (n : Notice) (k : Nat) : State :=
  let v := s.stackAt k
  let out (w : WorkOrder) : Bool := w.lid == n.lid && w.st == .queued
  (v.eave.filter out).foldl (fun t w => t.report w .notRun 0 0)
    (s.setStack k { v with eaveEnded := setIns v.eaveEnded n.lid, eave := v.eave.filter (fun w => !out w) })

/-- A notice reaches the collective engine: the launch's collectives stop, and report NOT_RUN. -/
def State.noticeColl (s : State) (n : Notice) : State :=
  let cx := (s.bayAt n.bay).coll
  let run := cx.running.filter (fun c => c.lid == n.lid)
  let wait := cx.waiting.filter (fun c => c.lid == n.lid)
  wait.foldl (fun t c => { t with reports := t.reports ++ [(n.bay, .report c.lid c.nodeIx 0 .notRun 0 0)] })
    (run.foldl (fun t c => t.collEnd n.bay c .notRun) (s.setWaiting n.bay (cx.waiting.filter (fun c => c.lid != n.lid))))

/-- The `i`-th notice in flight arrives. -/
def State.noticeArrives (s : State) (i : Nat) : State :=
  match s.notices[i]? with
  | none => s
  | some n =>
    let s1 := { s with notices := s.notices.take i ++ s.notices.drop (i + 1) }
    match n.dest with
    | .core c => s1.noticeCore n c
    | .eave k => s1.noticeEave n k
    | .coll => s1.noticeColl n

/-- END_NOTICE (R111). -/
def execEndNotice (i : Nat) (s : State) : Host.Outcome State Fault Refusal := .next (s.noticeArrives i)

end Sys2Proof.Machine
end

