-- ==== Sys2Proof/Machine/Fabric.lean ====
section
/-! DEFINITION. Fabric IDs and routes (R344 to R347): the root's walk, assignments, TOPOLOGY, parts that lose their root, and
the SNAPSHOT message (R474). The spec names the messages of the walk and gives no layout of their payloads; the layout
here is the model's (log entry 31). -/

namespace Sys2Proof.Machine

/- Ending what Faref requests belong to (R341, R349). -/

/-- A stream of a copy work order takes a status, and the work order that of its lowest failed stream (R275). -/
def woLinkFail (w : WorkOrder) (stream : Nat) (st : Status) : WorkOrder :=
  let ss := w.streams.map (fun r => if r.ix = stream ∧ r.st = .ok then { r with st := st } else r)
  let bad := (ss.filter (fun r => r.st != .ok)).foldl (fun (b : Option StreamRun) r => match b with
    | none => some r
    | some x => if r.ix < x.ix then some r else some x) none
  match w.st with
  | .queued => w
  | .started => { w with streams := ss, st := .ran ((bad.map (·.st)).getD st) 0 0 }
  | .ran old m x => { w with streams := ss, st := .ran ((bad.map (·.st)).getD (if old = .ok then st else old)) m x }

/-- What a failed request belongs to takes the status (R349). A work order issues nothing further and awaits what it has issued (R275); an item's
other requests are given up. -/
def State.failOwner (s : State) (o : ReqOwner) (st : Status) : State :=
  match o with
  | .wo b c lid node stream => match findWo (s.coreAt c).queue lid node with
    | none => s
    | some w => (s.dropSpans (fun x => match x with
        | .wo b1 c1 l1 n1 _ => b1 == b && c1 == c && l1 == lid && n1 == node
        | _ => false)).putWork c (woLinkFail w stream st)
  | .item fn q slot =>
    (s.updItem fn q slot (fun it => if it.active && it.endAs.isNone then { it with endAs := some st } else it)).dropOwner (fun x => x == o)
  | .coll b lid node => match s.collAt b lid node with
    | none => s
    | some c => s.collFail b c st

/-- Has what a request belongs to failed already (R349)? -/
def State.ownerFailed (s : State) (o : ReqOwner) : Bool :=
  match o with
  | .wo _ c lid node _ => (findWo (s.coreAt c).queue lid node).any woFailed
  | _ => false

/-- The owners among some that have not failed already each take a status. -/
def State.failOwners (s : State) (os : List ReqOwner) (st : Status) : State :=
  (os.eraseDups.filter (fun o => !s.ownerFailed o)).foldl (fun t o => t.failOwner o st) s

/-- The requests of a port that a test picks are dropped, outstanding or waiting, and what they belong to fails. -/
def State.dropReqs (s : State) (p : Nat) (bad : Nat → Bool) (st : Status) : State :=
  let q := s.portAt p
  let outs := (q.reqs.filter (fun r => bad r.dst)).map (·.owner) ++ (q.spans.filter (fun r => bad r.dst)).map (·.owner)
  ((s.setPort p { q with reqs := q.reqs.filter (fun r => !bad r.dst), spans := q.spans.filter (fun r => !bad r.dst) }).failOwners outs st).farNext p

/- Events (R346, R350). -/

/-- The bays that a port is assigned to (R348). -/
def State.portBays (s : State) (p : Nat) : List Nat := (List.range 12).filter (fun b => s.bayExists b && (s.portAt p).servesBay b)

/-- An event of a port, in the PF and in each bay that the port is assigned to, with the items that it ends, and its interrupt source
(R350, R422, R460). -/
def State.portEvWith (s : State) (p code : Nat) (items : Nat → Nat) : State :=
  (s.pend (80 + p)).raiseSet (s.portBays p) ⟨code, p, (s.portAt p).partnerId, 0, 0⟩ items

/-- An event of a port that ends no item. -/
def State.portEv (s : State) (p code : Nat) : State := s.portEvWith p code (fun _ => 0)

/-- Does an item, by function, queue and slot, go on, so that a failure of what it runs ends it (R422)? -/
def State.itemGoes (s : State) (x : Nat × Nat × Nat) : Bool :=
  (s.queueAt x.1 x.2.1).items.any (fun it => it.slot == x.2.2 && it.live && it.endAs.isNone && it.launch.all Launch.goes)

/-- The items, each once, that a failure of the work of some items ends, of a function or (the PF's record) of all (R422). -/
def State.itemsEnded (s : State) (l : List (Nat × Nat × Nat)) (fn : Nat) : Nat :=
  ((l.eraseDups.filter s.itemGoes).filter (fun x => fn == pfFn || x.1 == fn)).length

/-- The item that a request, or a collective, belongs to. -/
def State.ownerItem (s : State) (o : ReqOwner) : Option (Nat × Nat × Nat) :=
  match o with
  | .wo b c lid node _ => (findWo (s.coreAt c).queue lid node).map (fun w => (b, w.queue, w.slot))
  | .item fn q slot => some (fn, q, slot)
  | .coll b lid node => (s.collAt b lid node).map (fun c => (b, c.queue, c.slot))

/-- Has a bay an open window? -/
def State.hasWindow (s : State) (b : Nat) : Bool :=
  (s.bayAt b).outWin.any (fun w => byteBit w.2.bytes 0 7) || (s.bayAt b).inWin.any (fun w => byteBit w.2.bytes 0 7)

/-- FAREF_ID_CHANGED (R346). -/
def State.idEvent (s : State) : State :=
  s.raiseSet ((List.range 12).filter (fun b => s.bayExists b && (s.hasWindow b || (List.range 16).any (fun p => (s.portAt p).servesBay b))))
    ⟨0x48, 0, 0, 0, 0⟩ (fun _ => 0)

/-- The device takes an ID (R346). -/
def State.takeId (s : State) (id : Nat) : State :=
  let s1 := { s with fabric := { s.fabric with id := id, prevId := if id = 0xFF then s.fabric.prevId else id } }
  if s.fabric.id = id then s1 else s1.idEvent

/- Management messages (R336, R337). -/

/-- A management message leaves through a port that carries traffic. -/
def State.mgmt (s : State) (p kind hops : Nat) (payload : List Byte) : State :=
  if (s.portAt p).carries then s.farPush p none (farHeader kind hops 0xFF s.fabric.id 0 0 0 0 payload.length ++ payload) else s

/-- The ports of the enumeration tree (R345). -/
def State.treePorts (s : State) : List Nat :=
  (s.fabric.parent.toList ++ s.fabric.children.map (·.1) ++ s.fabric.awaiting.toList).eraseDups

/-- A message on every tree port but one. -/
def State.onTree (s : State) (but : Option Nat) (kind hops : Nat) (payload : List Byte) : State :=
  (s.treePorts.filter (fun p => some p != but)).foldl (fun t p => t.mgmt p kind hops payload) s

/-- The model's ENUM payload: kind, flag, ID, device identifier, walk, IDs. -/
def enumPayload (kind flag id dev walk : Nat) (ids : List Nat) : List Byte :=
  natLE 1 kind ++ natLE 1 flag ++ natLE 1 id ++ natLE 5 0 ++ natLE 8 dev ++ natLE 8 walk ++ ids.flatMap (natLE 1)

/-- This device's identifier. -/
def deviceNat : Nat := Config.deviceId.toNat

/-- The ports that are UP, E0 to E7 and then W0 to W7 (R345). -/
def State.upPorts (s : State) : List Nat := (List.range 16).filter (fun p => (s.portAt p).st == .up)

/- The root's table (R346). -/

/-- The ID that the root assigns to a device that presents `p`. -/
def assignId (t : List (Nat × Nat × Nat)) (p dev : Nat) : Option Nat :=
  let entry (i : Nat) := tabFind t i
  if decide (p < 255) && (match entry p with | none => true | some e => e.2 == dev) then some p
  else match (List.range 255).find? (fun i => (entry i).isNone) with
    | some i => some i
    | none => (List.range 255).find? (fun i => match entry i with | some e => e.1 == 2 | none => false)

/-- The table after an assignment. -/
def holdId (t : List (Nat × Nat × Nat)) (id dev : Nat) : List (Nat × Nat × Nat) :=
  tabSet (t.filter (fun e => e.2.2 != dev)) id (1, dev)

/-- Entries of IDs that a test does not hold become DETACHED. -/
def detachIds (t : List (Nat × Nat × Nat)) (lost : Nat → Bool) : List (Nat × Nat × Nat) :=
  t.map (fun e => if lost e.1 then (e.1, 2, e.2.2) else e)

/-- The IDs that a table lists as held. -/
def heldIds (t : List (Nat × Nat × Nat)) : List Nat := (t.filter (fun e => e.2.1 == 1)).map (·.1)

/-- The model's TOPOLOGY payload: for each ID its state and device. -/
def topoPayload (t : List (Nat × Nat × Nat)) : List Byte :=
  (List.range 255).flatMap (fun i => match tabFind t i with | none => natLE 9 0 | some e => natLE 1 e.1 ++ natLE 8 e.2)

/-- The table of a TOPOLOGY payload. -/
def topoTable (bs : List Byte) : List (Nat × Nat × Nat) :=
  (List.range 255).filterMap (fun i => if fieldAt bs (9 * i) 1 = 0 then none else some (i, fieldAt bs (9 * i) 1, fieldAt bs (9 * i + 1) 8))

/-- A device has an ID: the ports whose partner it is know it, and no other partner has that ID (R345, R350). -/
def State.partnerTakes (s : State) (id dev : Nat) : State :=
  { s with ports := s.ports.map (fun e => (e.1,
      if e.2.carries && e.2.partnerDevice.toNat == dev then { e.2 with partnerId := id }
      else if e.2.partnerId == id then { e.2 with partnerId := 0xFF } else e.2)) }

/-- Has a collective pieces, grants or results outstanding with a member (R364)? -/
def Coll.openWith (c : Coll) (j : Nat) : Bool :=
  c.waitsOn j || (c.sendsTo j && decide (tabGet c.sent j 0 < c.pieces)) || (clOp c.rcd == 1 && decide (tabGet c.sent1 j 0 < c.pieces))

/-- The running collectives with a member that a test of collectives, members, ports and devices picks: bay, launch, node. -/
def State.collsWith (s : State) (hit : Coll → Nat → Nat → Nat → Bool) : List (Nat × Nat × Nat) :=
  (List.range 12).flatMap (fun b => ((s.bayAt b).coll.running.filter (fun c => clOp c.rcd != 6 && c.table != [] &&
    c.others.any (fun j => hit c j (owPort (s.outWindow b (gtOut c.table j))) (gtId c.table j)))).map (fun c => (b, c.lid, c.nodeIx)))

/-- Collectives fail with LINK_LOST. -/
def State.collsLost (s : State) (l : List (Nat × Nat × Nat)) : State :=
  l.foldl (fun t x => match t.collAt x.1 x.2.1 x.2.2 with | some c => t.collFail x.1 c .linkLost | none => t) s

/-- A table takes effect here: the IDs of the partners, what is reachable, and the requests to what is not and the collectives with it
(R345, R349, R364). -/
def State.applyTable (s : State) (t : List (Nat × Nat × Nat)) : State :=
  let ids := heldIds t
  let s0 := (t.filter (fun e => e.2.1 == 1)).foldl (fun u e => u.partnerTakes e.1 e.2.2) s
  let s1 := { s0 with fabric := { s0.fabric with table := t, reachable := ids } }
  let gone (u : State) (d : Nat) : Bool := !ids.contains d && !(List.range 16).any (fun p => (u.portAt p).carries && (u.portAt p).partnerId == d)
  let s2 := (List.range 16).foldl (fun u p => if (u.portAt p).reqs = [] ∧ (u.portAt p).spans = [] then u else u.dropReqs p (gone u) .linkLost) s1
  s2.collsLost (s2.collsWith (fun _ _ _ d => gone s2 d))

/-- The root broadcasts TOPOLOGY. -/
def State.topology (s : State) (t : List (Nat × Nat × Nat)) : State :=
  let s1 := s.applyTable t
  s1.onTree none 0x21 255 (topoPayload t)

/- The walk (R345). -/

/-- The walk goes on from this device: the next port, or back to the parent, or its end at the root. -/
def State.walkNext : Nat → State → State
  | 0, s => s
  | n + 1, s =>
    let f := s.fabric
    match f.toVisit with
    | p :: rest =>
      let s1 := { s with fabric := { f with toVisit := rest } }
      if (s.portAt p).st == .up then
        { s1 with fabric := { s1.fabric with awaiting := some p } }.mgmt p 0x20 255 (enumPayload 1 0 0 f.walkTag.1 f.walkTag.2 [])
      else State.walkNext n s1
    | [] =>
      let ids := (if f.id = 0xFF then [] else [f.id]) ++ f.children.flatMap (·.2)
      if f.isRoot then s.topology (detachIds f.table (fun i => !ids.contains i))
      else match f.parent with
        | some p => s.mgmt p 0x20 255 (enumPayload 4 0 0 f.walkTag.1 f.walkTag.2 ids)
        | none => s

/-- The root starts a walk: it takes an ID and visits its ports. -/
def State.startWalk (s : State) : State :=
  let f := s.fabric
  let id := (assignId f.table f.prevId deviceNat).getD 0xFF
  let f1 := { f with isRoot := true, rootLost := false, parent := none, children := [], awaiting := none, presenting := false, rewalk := false,
                     walkTag := (deviceNat, f.walkTag.2 + 1), toVisit := s.upPorts,
                     table := if id = 0xFF then f.table else holdId f.table id deviceNat }
  State.walkNext 17 ({ s with fabric := f1 }.takeId id)

/-- The root walks again when it must and no walk is under way. -/
def State.walkIfDue (s : State) : State :=
  if s.fabric.isRoot && s.fabric.rewalk && s.fabric.awaiting.isNone then s.startWalk else s

/-- The root must walk again. -/
def State.askWalk (s : State) : State := { s with fabric := { s.fabric with rewalk := true } }.walkIfDue

/-- A new link, or another root, calls for a walk: the root makes it, another device asks its root (R346). -/
def State.newLink (s : State) : State :=
  if s.fabric.isRoot then s.askWalk
  else match s.fabric.parent with
    | some p => s.mgmt p 0x20 255 (enumPayload 7 0 0 0 0 [])
    | none => s

/-- This device joins a walk that has reached it through a port. -/
def State.joinWalk (s : State) (p : Nat) (tag : Nat × Nat) : State :=
  let f := s.fabric
  let s1 := { s with fabric := { f with isRoot := false, rootLost := false, parent := some p, children := [], awaiting := none, presenting := true,
                                        rewalk := false, walkTag := tag, toVisit := s.upPorts.filter (fun x => x != p) } }
  (if f.isRoot then s1.idEvent else s1).mgmt p 0x20 255 (enumPayload 2 (if f.isRoot then 1 else 0) f.prevId deviceNat 0 [])

/-- A walk that this device has already joined, or does not join, is told so. -/
def State.refuseWalk (s : State) (p : Nat) : State := s.mgmt p 0x20 255 (enumPayload 4 1 0 0 0 [])

/-- A walk's visit (R344, R345). -/
def State.visit (s : State) (p : Nat) (tag : Nat × Nat) : State :=
  let f := s.fabric
  if f.isRoot then
    if tag.1 < deviceNat then s.joinWalk p tag
    else if tag.1 = deviceNat then s.refuseWalk p
    else ((s.refuseWalk p).idEvent).askWalk
  else if f.walkTag = tag then s.refuseWalk p
  else if f.walkTag.1 = tag.1 ∨ f.rootLost ∨ f.walkTag = (0, 0) ∨ tag.1 < f.walkTag.1 then s.joinWalk p tag
  else (s.refuseWalk p).newLink

/-- A device presents its previous ID (R346). -/
def State.present (s : State) (p flag prev dev : Nat) : State :=
  let f := s.fabric
  if f.isRoot then
    let id := (assignId f.table prev dev).getD 0xFF
    let t := if id = 0xFF then f.table else holdId f.table id dev
    let s1 := ((if flag = 1 then s.idEvent else s).partnerTakes id dev).mgmt p 0x20 255 (enumPayload 3 0 id dev 0 [])
    s1.topology t
  else match f.parent with
    | some q => s.mgmt q 0x20 255 (enumPayload 2 flag prev dev 0 [])
    | none => s

/-- An assignment reaches the device that presented, or goes on to it. -/
def State.assigned (s : State) (id dev : Nat) : State :=
  if s.fabric.presenting then State.walkNext 17 ({ s with fabric := { s.fabric with presenting := false } }.takeId id)
  else match s.fabric.awaiting with
    | some q => (s.partnerTakes id dev).mgmt q 0x20 255 (enumPayload 3 0 id dev 0 [])
    | none => s

/-- A visited partner reports back. -/
def State.reported (s : State) (p flag : Nat) (ids : List Nat) : State :=
  if s.fabric.awaiting = some p then
    let f := s.fabric
    (State.walkNext 17 { s with fabric := { f with awaiting := none, children := if flag = 0 then f.children ++ [(p, ids)] else f.children } }).walkIfDue
  else s

/-- IDs of a lost subtree: the root detaches them, another device passes them on (R346). -/
def State.detached (s : State) (ids : List Nat) : State :=
  let f := s.fabric
  let s1 := { s with fabric := { f with children := f.children.map (fun c => (c.1, c.2.filter (fun i => !ids.contains i))) } }
  if f.isRoot then s1.topology (detachIds f.table (fun i => ids.contains i))
  else match f.parent with
    | some p => s1.mgmt p 0x20 255 (enumPayload 6 0 0 0 0 ids)
    | none => s1

/-- The part of the domain below has lost its root (R347). -/
def State.partLost (s : State) (but : Option Nat) : State :=
  let s1 := { s with fabric := { s.fabric with rootLost := true, presenting := false } }
  (s1.fabric.children.filter (fun c => some c.1 != but)).foldl (fun t c => t.mgmt c.1 0x20 255 (enumPayload 5 0 0 0 0 [])) s1

/-- The 1-byte items of a byte string. -/
def u8s (bs : List Byte) : List Nat := bs.map (·.toNat)

/-- An ENUM message takes effect. -/
def State.enumTake (s : State) (p : Nat) (e : List Byte) : State :=
  match fieldAt e 0 1 with
  | 1 => s.visit p (fieldAt e 8 8, fieldAt e 16 8)
  | 2 => s.present p (fieldAt e 1 1) (fieldAt e 2 1) (fieldAt e 8 8)
  | 3 => s.assigned (fieldAt e 2 1) (fieldAt e 8 8)
  | 4 => s.reported p (fieldAt e 1 1) (u8s (e.drop 24))
  | 5 => s.partLost (some p)
  | 6 => s.detached (u8s (e.drop 24))
  | 7 => s.newLink
  | _ => s

/-- The oldest management message of a port, of a TYPE. -/
def State.mgmtHead (s : State) (p kind : Nat) : Option (List Byte) :=
  match s.headMsg p 3 with
  | some m => if mgType m == kind && (mgDst m == 0xFF || mgDst m == s.fabric.id) then some m else none
  | none => none

/-- ENUM arrives. -/
def State.enumArrives (s : State) (p : Nat) : State :=
  match s.mgmtHead p 0x20 with
  | some m => ((s.popMsg p 3).pend 192).enumTake p (mgData m)
  | none => s

/-- ENUM (R345, R346). -/
def execEnumMessage (port : Nat) (s : State) : Host.Outcome State Fault Refusal := .next (s.enumArrives port)

/-- TOPOLOGY arrives: the table, the routes, the requests that it ends, a lost ID, and the message passed on (R346,
R349). -/
def State.topologyArrives (s : State) (p : Nat) : State :=
  match s.mgmtHead p 0x21 with
  | none => s
  | some m =>
    let t := topoTable (mgData m)
    let s1 := ((s.popMsg p 3).pend 192).applyTable t
    let s2 := match tabFind t s1.fabric.id with
      | some e => if e.2 != deviceNat then s1.takeId 0xFF else s1
      | none => s1
    if mgHops m = 0 then s2 else s2.onTree (some p) 0x21 (mgHops m - 1) (mgData m)

/-- TOPOLOGY (R346). -/
def execTopologyMessage (port : Nat) (s : State) : Host.Outcome State Fault Refusal := .next (s.topologyArrives port)

/-- One second after its part lost its root, a root candidate takes over when no candidate of a lower ID is in the part.
Whether a device of a lower ID is a candidate is not known here: a free value (R347, log entry 31). -/
def State.takeOver (s : State) : State :=
  let f := s.fabric
  if f.rootLost && !f.isRoot && bitOf f.ctrl.toNat 0 && f.id != 0xFF then
    let lower := f.parent.isSome || (f.children.flatMap (·.2)).any (fun i => decide (i < f.id))
    if lower && Config.outcome s.draws then s.drawn else s.drawn.startWalk
  else s

/-- ROOT_TAKEOVER (R347). -/
def execRootTakeover (s : State) : Host.Outcome State Fault Refusal := .next s.takeOver

/-- Send SNAPSHOT on the UP ports of the tree but one (R474). -/
def State.snapSend (s : State) (but : Option Nat) (hops snapId : Nat) : State :=
  (s.treePorts.filter (fun p => some p != but && (s.portAt p).st == .up)).foldl (fun t p => t.mgmt p 0x22 hops (natLE 8 snapId ++ natLE 8 0)) s

/-- SNAPSHOT arrives (R472 to R474): it strobes where SNAP_ACCEPT is 1, and it goes on, unless the strobe was missed. -/
def State.snapshotArrives (s : State) (p : Nat) : State :=
  match s.mgmtHead p 0x22 with
  | none => s
  | some m =>
    let s1 := (s.popMsg p 3).pend 192
    let id := fieldAt (mgData m) 0 8
    let takes := s1.strobeTakes 0
    let s2 := if bitOf s1.dbg.ctrl.toNat 0 then s1.strobe 4 (255 - mgHops m) (some id) (some (mgSrc m)) 0 else s1
    if (bitOf s1.dbg.ctrl.toNat 0 && !takes) || mgHops m == 0 then s2
    else (s2.treePorts.filter (fun q => q != p)).foldl (fun t q =>
      if (t.portAt q).carries then t.farPush q none (overlay m 1 (natLE 1 (mgHops m - 1))) else t) s2

/-- SNAPSHOT (R474). -/
def execSnapshotMessage (port : Nat) (s : State) : Host.Outcome State Fault Refusal := .next (s.snapshotArrives port)

end Sys2Proof.Machine
end

