-- ==== Sys2Proof/Machine/Health.lean ====
section
/-! DEFINITION. The records that the ridge writes for a function: memory health (R252), link health (R350) and power
(R459), at the destinations of R512. -/

namespace Sys2Proof.Machine

/-- The address of an enabled record destination (R512). -/
def destOf (v : BitVec 64) : Option Nat := if bitOf v.toNat 0 then some (v.toNat / 64 * 64) else none

/-- A count as a saturating field of `w` bits. -/
def satField (w v : Nat) : Nat := min (2 ^ w - 1) v

/-- A full-line record write of a bay; one that fails is lost (R512). -/
def State.healthWrite (s : State) (b addr : Nat) (rcd : List Byte) : State := (s.drawn.writeAt ⟨b, b, none⟩ addr rcd).1

/-- Does the ridge write records for a bay: the bay exists, and the device runs? -/
def State.recordsFor (s : State) (b : Nat) : Bool := s.bayExists b && s.dev.ready && s.dev.fatal.isNone

/- Memory health (R247, R252). -/

/-- The spare rows left in a stack: 2,048 less one in each pseudo-channel for each repair (R246). -/
def Stack.sparesLeft (st : Stack) : Nat := 2048 - 2 * st.sparesUsed.foldl (fun n e => n + e.2) 0

/-- The memory health record of a stack under its bay stack index (R252). -/
def stackRecord (st : Stack) (i time : Nat) : List Byte :=
  natLE 1 i ++ natLE 1 st.stateCode ++ natLE 1 st.marked.length ++ natLE 1 (if st.lastPoison.isSome then 1 else 0) ++
    natLE 4 (satField 32 st.poison.length) ++ natLE 8 st.corrected ++ natLE 8 st.innerCorrected ++
    natLE 4 (satField 32 st.uncorrectable) ++ natLE 2 (satField 16 st.softRepairs) ++ natLE 2 st.sparesLeft ++
    natLE 4 st.scrubProgress ++ natLE 4 st.scrubPasses ++ natLE 8 (st.lastPoison.getD 0) ++ natLE 8 time ++ natLE 8 0

/-- The records of every stack of a bay (R252). -/
def State.memHealth (s : State) (b : Nat) : State :=
  match destOf (s.bayAt b).memHealthDest with
  | none => s
  | some d => (List.range (2 * (s.bayAt b).count)).foldl
      (fun t i => t.healthWrite b (d + 64 * i) (stackRecord (t.stackAt (t.stackOf b i)) i t.stamp)) (s.pend 158)

/-- MEMORY_HEALTH_RECORD (R252). -/
def execMemoryHealthRecord (bay : Nat) (s : State) : Host.Outcome State Fault Refusal :=
  .next (if s.recordsFor bay then s.memHealth bay else s)

/- Link health (R350). -/

/-- The counts of a port in the order of its record: retrains, uncorrectable codewords, corrected symbols, NAKs and replays, late
responses (R327, R350). -/
def Port.counts (v : Port) : List Nat :=
  [v.retrains, v.fecUncorrectable, v.laneFixed.foldl (fun n e => n + e.2) 0, v.replays, v.lateResponses]

/-- The link health record of a port for a bay whose records began at some counts (R350, R410). -/
def portRecord (p : Nat) (v : Port) (base : List Nat) (time : Nat) : List Byte :=
  let n (i : Nat) : Nat := v.counts.getD i 0 - base.getD i 0
  natLE 1 p ++ natLE 1 (portCode v.st) ++ natLE 1 (if v.st == .up then v.width else 0) ++ natLE 1 v.partnerId ++
    natLE 1 (v.spared.getD 0xFF) ++ natLE 3 0 ++ natLE 4 (satField 32 (n 0)) ++ natLE 4 (satField 32 (n 1)) ++
    natLE 8 (n 2) ++ natLE 4 (satField 32 (n 3)) ++ natLE 4 (satField 32 (n 4)) ++ natLE 8 time ++ natLE 24 0

/-- The ports assigned to a bay, in ascending order (R348, R512). -/
def State.bayPorts (s : State) (b : Nat) : List Nat := (List.range 16).filter (fun p => (s.portAt p).servesBay b)

/-- The records of every port of a bay: the record of its i-th port at DEST + 64i (R350, R512). -/
def State.linkHealth (s : State) (b : Nat) : State :=
  match destOf (s.bayAt b).linkHealthDest with
  | none => s
  | some d =>
    let ps := s.bayPorts b
    ((List.range ps.length).zip ps).foldl
      (fun t e => t.healthWrite b (d + 64 * e.1) (portRecord e.2 (t.portAt e.2) (tabGet (t.bayAt b).linkBase e.2 []) t.stamp)) (s.pend 158)

/-- LINK_HEALTH_RECORD (R350). -/
def execLinkHealthRecord (bay : Nat) (s : State) : Host.Outcome State Fault Refusal :=
  .next (if s.recordsFor bay then s.linkHealth bay else s)

/- Power (R459). -/

/-- Is a bay in fixed-frequency mode (R446)? In isolated mode every bay is. -/
def State.fixedFreq (s : State) (b : Nat) : Bool := s.dev.isolated || bitOf (s.bayAt b).resMode.toNat 0

/-- ACLK_SET, ACLK_MIN, ACLK_MAX and ENVELOPE of a bay (R507). -/
def BayState.aclkSet (v : BayState) : Nat := bitsOf v.resAclkSet.toNat 10 0
def BayState.aclkMin (v : BayState) : Nat := bitsOf v.resAclkRange.toNat 10 0
def BayState.aclkMax (v : BayState) : Nat := bitsOf v.resAclkRange.toNat 26 16
def BayState.envelope (v : BayState) : Nat := bitsOf v.resEnvelope.toNat 15 0

/-- The highest operating point left to a bay's strips (R456). -/
def State.topPoint (s : State) (b : Nat) : Nat :=
  (List.range (s.bayAt b).count).foldl (fun m i => min m (tabGet s.power.withdrawn ((s.bayAt b).first + i) 1400)) 1400

/-- The operating point above which a bay is not raised (R446, R449). -/
def State.pointLimit (s : State) (b : Nat) : Nat := min (if s.fixedFreq b then (s.bayAt b).aclkSet else (s.bayAt b).aclkMax) (s.topPoint b)

/-- FIXED_FREQUENCY_VIOLATED, once an episode, when a fixed-frequency bay stands below ACLK_SET (R453). -/
def State.violate (s : State) (b reason : Nat) : State :=
  let v := s.bayAt b
  if s.fixedFreq b && decide (v.aclk < v.aclkSet) && !v.violation then
    ({ s with power := { s.power with pfViolations := satInc 32 s.power.pfViolations } }.setBay b
      { v with violation := true, violations := satInc 32 v.violations }).raiseIn b
      ⟨0x62, 0, 0, v.aclkSet + v.aclk * 2 ^ 16 + reason * 2 ^ 32, 0⟩
  else s

/-- The largest of a list of signed numbers, or a value for none. -/
def maxInt (d : Int) : List Int → Int
  | [] => d
  | x :: xs => xs.foldl max x

/-- The power domains of a bay's strips: tiles, stack controllers and eave engines (R23, R445). -/
def State.bayDomains (s : State) (b : Nat) : List Nat := (List.range 168).filter (fun d => s.domainBay d == some b)

/-- The largest cumulative trim of some domains, in whole mV; a trim is kept in tenths. -/
def State.maxTrim (s : State) (ds : List Nat) : Nat := ds.foldl (fun m d => max m (tabGet s.power.trims d 0)) 0 / 10

/-- The hottest stack among some. -/
def State.hotStack (s : State) (ks : List Nat) : Int :=
  maxInt 0 ((s.power.stackTemp.filter (fun e => ks.contains e.1)).map (·.2))

/-- The power record of a bay (R459). -/
def State.bayPower (s : State) (b : Nat) : List Byte :=
  let v := s.bayAt b
  natLE 1 b ++ natLE 1 ((if s.dev.isolated then 1 else 0) + (if s.fixedFreq b then 2 else 0)) ++ natLE 2 v.aclk ++
    natLE 2 (if s.fixedFreq b then v.aclkSet else v.aclkMax) ++ natLE 2 v.envelope ++ natLE 2 (v.powSum / v.powTicks) ++ natLE 2 v.peak ++
    natLE 2 (unsignedOf 16 (tabGet s.power.tileTemp b 0)) ++
    natLE 2 (unsignedOf 16 (s.hotStack ((List.range (2 * v.count)).map (fun i => s.stackOf b i)))) ++
    natLE 1 (v.throttle % 64) ++ natLE 1 0 ++ natLE 2 (s.maxTrim (s.bayDomains b)) ++ natLE 4 (satField 32 v.violations) ++
    natLE 8 (v.energy / 100) ++ natLE 8 v.stretches ++ natLE 8 s.stamp ++ natLE 16 0

/-- The power record of the PF (R459). -/
def State.pfPower (s : State) : List Byte :=
  let p := s.power
  natLE 1 12 ++ natLE 1 (if s.dev.isolated then 3 else 0) ++ natLE 2 0 ++ natLE 2 0 ++ natLE 2 (bitsOf p.deviceCap.toNat 11 0) ++
    natLE 2 (p.pfSum / p.pfTicks) ++ natLE 2 p.pfPeak ++ natLE 2 (unsignedOf 16 (maxInt 0 (p.tileTemp.map (·.2)))) ++
    natLE 2 (unsignedOf 16 (s.hotStack (List.range 24))) ++ natLE 1 (p.pfThrottle % 64) ++ natLE 1 p.duty ++
    natLE 2 (s.maxTrim (List.range 189)) ++ natLE 4 (satField 32 p.pfViolations) ++ natLE 8 (p.pfEnergy / 100) ++
    natLE 8 p.pfStretches ++ natLE 8 s.stamp ++ natLE 16 0

/-- The ridge writes a function's power record; its counts since the previous record start again (R459). -/
def State.powerRecord (s : State) (fn : Nat) : State :=
  if fn = pfFn then
    match destOf s.dev.powerDest with
    | none => s
    | some d =>
      let w := ((s.pend 159).drawn.hostWrite pfFn (regPasid s.dev.recordCfg) (d % 2 ^ 60) s.pfPower).1
      { w with power := { w.power with pfSum := 0, pfTicks := 0, pfPeak := 0, pfThrottle := 0 } }
  else match destOf (s.bayAt fn).powerDest with
    | none => s
    | some d =>
      let w := (s.pend 159).healthWrite fn d (s.bayPower fn)
      w.setBay fn { w.bayAt fn with powSum := 0, powTicks := 0, peak := 0, throttle := 0 }

/-- POWER_RECORD (R459). -/
def execPowerRecord (fn : Nat) (s : State) : Host.Outcome State Fault Refusal :=
  .next (if (if fn = pfFn then s.dev.ready && s.dev.fatal.isNone else s.recordsFor fn) then s.powerRecord fn else s)

end Sys2Proof.Machine
end

