-- ==== Sys2Proof/Machine/Keys.lean ====
section
/-! DEFINITION. The interface report of a bay (R388), its identity key and bay evidence (R411, R412, R518). -/

namespace Sys2Proof.Machine

/-- The ports assigned to a bay, bit p for port p (R388). -/
def State.portMask (s : State) (b : Nat) : Nat := (s.bayPorts b).foldl (fun m p => m + 2 ^ p) 0

/-- A bay's PCIe share (R378, R507). -/
def BayState.share (v : BayState) : Nat := bitsOf v.resPcie.toNat 6 0

/-- The locked set of a bay as bytes (R386): its strips, debug level and mode, share, envelope, and for each port its mode
and slots. The spec names the set and gives no byte layout of it (log entry 40). -/
def State.lockedSet (s : State) (b : Nat) : List Byte :=
  let v := s.bayAt b
  natLE 1 v.first ++ natLE 1 v.count ++ natLE 1 v.debugLevel ++ natLE 1 (if s.dev.isolated then 1 else 0) ++ natLE 4 v.share ++
    natLE 4 v.envelope ++ (List.range 16).flatMap (fun p =>
      let q := s.portAt p
      natLE 1 (if q.servesBay b then bitsOf q.assign.toNat 31 30 else 0) ++ natLE 1 (q.slotsOf b))

/-- The device-specific part of a bay's interface report (R388). -/
def State.interfaceReport (s : State) (b : Nat) : List Byte :=
  let v := s.bayAt b
  natLE 1 b ++ natLE 1 v.first ++ natLE 1 v.count ++ natLE 1 (v.debugLevel % 4 * 2 + (if s.dev.isolated then 1 else 0)) ++
    natLE 4 v.resetGen ++ natLE 2 (s.portMask b) ++ natLE 2 v.envelope ++ natLE 1 v.share ++
    natLE 1 (if s.locked b then v.boundStream else 0) ++ natLE 2 0 ++ natLE 48 (Config.sha384 (s.lockedSet b)).toNat

/-- Bay evidence under a bay identity key (R412). -/
def State.evidence (s : State) (b key : Nat) : List Byte :=
  let report := s.interfaceReport b
  let nonce := (List.range 12).flatMap (fun i => natLE 4 (((s.bayAt b).evid.nonce.getD i 0).toNat))
  let pub := fixLen 96 (Config.publicKey key)
  let aliasSig := fixLen 96 (Config.aliasSign s.sec.aliasSerial (bytesAt report 0 4 ++ pub))
  let front := report ++ nonce ++ pub ++ aliasSig
  front ++ fixLen 96 (Config.signP384 key front)

/-- Evidence is formed and written; RESULT tells whether the write passed (R518). -/
def State.evidenceWrite (s : State) (b key : Nat) : State :=
  let v := (s.bayAt b).evid
  let w := s.hostWrite b (regPasid v.cfg) (v.addr.toNat % 2 ^ 60) (s.evidence b key)
  w.1.setBay b { w.1.bayAt b with evid := { v with busy := false, result := if w.2 then 1 else 2 } }

/-- A bay identity key is derived: every derivation takes a new serial number. Evidence that waits is then formed (R412). -/
def State.deriveKey (s : State) (b : Nat) : State :=
  let key := s.sec.nextKey + 1
  let s1 := { s with sec := { s.sec with nextKey := key } }.setBay b { s.bayAt b with keySerial := some key }
  if (s.bayAt b).evid.busy then s1.evidenceWrite b key else s1

/-- A bay's key is zeroised, and evidence that waits fails (R411, R518). -/
def State.dropKey (s : State) (b : Nat) : State :=
  let v := s.bayAt b
  s.setBay b { v with keySerial := none, evid := if v.evid.busy then { v.evid with busy := false, result := 2 } else v.evid }

/-- A reset of a bay zeroises its key: RESULT of its evidence is 0, and 2 where evidence waited (R415, R518, R520). -/
def State.resetKey (s : State) (b : Nat) : State :=
  let v := s.bayAt b
  (s.setBay b { v with evid := if v.evid.busy then v.evid else { v.evid with result := 0 } }).dropKey b

/-- GO: the evidence is formed, or waits for the key (R412, R518). -/
def State.evidenceGo (s : State) (b : Nat) : State :=
  let v := (s.bayAt b).evid
  if v.busy then s
  else match (s.bayAt b).keySerial with
    | some key => s.evidenceWrite b key
    | none => s.setBay b { s.bayAt b with evid := { v with busy := true } }

end Sys2Proof.Machine
end

