-- ==== Sys2Proof/Machine/Matrix.lean ====
section
/-! DEFINITION. Matrix work orders (chapter 5): the descriptor and its checks (R126 to R131), masked rows (R132), splits
(R134, R135), the sums (R123, R168) and the epilogue (R170 to R172). -/

namespace Sys2Proof.Machine

/-- The per-launch fields of a matrix node (R125) with the core that runs it. -/
structure MxNode where
  core : Nat
  member : Nat
  rcd : List Byte

def MxNode.mMax (m : MxNode) : Nat := fieldAt m.rcd 48 2
def MxNode.policy (m : MxNode) : Nat := fieldAt m.rcd 52 1 / 8 % 4
def MxNode.flat (m : MxNode) : Bool := byteBit m.rcd 52 0
def MxNode.seed (m : MxNode) : Nat := fieldAt m.rcd 56 4
def MxNode.mdesc (m : MxNode) : Nat := fieldAt m.rcd 60 4

/-- The number of splits (R134). -/
def MxNode.splits (m : MxNode) : Nat := 2 ^ (fieldAt m.rcd 52 1 / 2 % 4)

/-- The width of a split in columns (R134). -/
def MxNode.width (m : MxNode) : Nat := 64 / m.splits

/-- Is a row active (R55)? -/
def MxNode.active (m : MxNode) (r : Nat) : Bool :=
  rowActive (fieldAt m.rcd 50 2) (byteBit m.rcd 52 5) (bytesAt m.rcd 64 64) r

/-- The rows of the node, and the active ones. -/
def MxNode.rows (m : MxNode) : List Nat := List.range m.mMax
def MxNode.activeRows (m : MxNode) : List Nat := m.rows.filter (fun r => m.active r)

/-- The rate class of two operand formats (R117): 16, 8 or 4. -/
def rateClass (fa fw : Nat) : Nat :=
  let w := max (codeWidth fa) (codeWidth fw)
  if w = 16 then 16 else if w = 8 then 8 else 4

/-- Is a format code an integer format? -/
def codeIsInt (c : Nat) : Bool := c == 8 || c == 9

/-- The K of a descriptor header (R126). -/
def hdrK (h : List Byte) : Nat := fieldAt h 4 4

/-- The activation ranges: offset, stride, rows and row length (R129, R131). -/
def actRanges (m : MxNode) (h : List Byte) : List (Nat × Nat × Nat × Nat) :=
  let k := hdrK h
  let b := scaleBlock (fieldAt h 1 1)
  (fieldAt h 8 4, fieldAt h 12 4, m.mMax, ceilDiv (k * codeWidth (fieldAt h 0 1)) 8) ::
    (if b = 0 then []
     else if scaleAxis (fieldAt h 1 1) = 0 then [(fieldAt h 16 4, fieldAt h 20 4, m.mMax, ceilDiv k b)]
     else [(fieldAt h 16 4, fieldAt h 20 4, ceilDiv m.mMax b, k)])

/-- The R33 checks of ranges of rows, in order. -/
def checkRanges : List (Nat × Nat × Nat × Nat) → Chk Unit
  | [] => .ok ()
  | (off, stride, rows, len) :: rest => do
    spadRange off (rowsExtent stride rows len)
    checkRanges rest

/-- The bytes that ranges of rows cover. -/
def piecesOf (rs : List (Nat × Nat × Nat × Nat)) : List (Nat × Nat) :=
  rs.flatMap (fun r => rowsPieces r.1 r.2.1 r.2.2.1 r.2.2.2)

/-- Step 1 of R131: the header. -/
def State.mxHeader (s : State) (m : MxNode) : Chk (List Byte) := do
  let h ← s.spadRead m.core m.mdesc 64
  need (allZero (bytesAt h 2 2) && allZero (bytesAt h 24 40) && fieldAt h 1 1 / 32 == 0) .descriptorInvalid
  need (fmtOperand (fieldAt h 0 1) && scaleInOk (fieldAt h 1 1) (fieldAt h 0 1)) .formatInvalid
  checkRanges (actRanges m h)
  return h

/-- A split record as read, or why it could not be (R131 step 2). -/
def State.mxSplitRead (s : State) (m : MxNode) (sp : Nat) : Chk (List Byte) := s.spadRead m.core (m.mdesc + 64 + 64 * sp) 64

/-- Fields of a split record (R127). -/
def spN (r : List Byte) : Nat := fieldAt r 8 4
def spPreload (r : List Byte) : Bool := byteBit r 6 2
def spOutBlock (r : List Byte) : Nat := scaleBlock (fieldAt r 3 1)
def spOutWidth (r : List Byte) : Nat := codeWidth (fieldAt r 2 1)

/-- N of a split record; a split whose record could not be read counts with 0 (R131 step 2). -/
def recN (r : Chk (List Byte)) : Nat := match r with | .ok b => spN b | .error _ => 0

/-- The accumulator pairs of a work order (R124). -/
def mxPairs (m : MxNode) (recs : List (Chk (List Byte))) : Nat :=
  let ns := recs.map recN
  if m.flat then 16 * ns.headD 0
  else 64 * m.mMax * (ns.map (fun n => ceilDiv n m.width)).foldl max 0

/-- The elements that segment σ of a flat weight column holds (R129). -/
def segCount (k sg : Nat) : Nat := k / 256 * 64 + min 64 (k % 256 - 64 * sg)

/-- The weight ranges of a split (R129). -/
def wgtRanges (m : MxNode) (h r : List Byte) : List (Nat × Nat × Nat × Nat) :=
  let k := hdrK h
  let n := spN r
  let wb := codeWidth (fieldAt r 0 1)
  if m.flat then
    (List.range 4).map (fun sg => (fieldAt r 12 4 + sg * fieldAt r 20 4, fieldAt r 16 4, n, ceilDiv (segCount k sg * wb) 8))
  else [(fieldAt r 12 4, fieldAt r 16 4, k, ceilDiv (n * wb) 8)]

/-- The weight-scale range of a split: rows and row length by form and axis (R129). -/
def wgtScaleRanges (m : MxNode) (h r : List Byte) : List (Nat × Nat × Nat × Nat) :=
  let k := hdrK h
  let n := spN r
  let b := scaleBlock (fieldAt r 1 1)
  if b = 0 then [] else
    let shape := match m.flat, scaleAxis (fieldAt r 1 1) with
      | false, 0 => (ceilDiv k b, n)
      | false, _ => (k, ceilDiv n b)
      | true, 0 => (n, ceilDiv k b)
      | true, _ => (ceilDiv n b, k)
    [(fieldAt r 24 4, fieldAt r 28 4, shape.1, shape.2)]

/-- The output range and the output-scale range of a split. -/
def outRanges (m : MxNode) (r : List Byte) : List (Nat × Nat × Nat × Nat) :=
  [(fieldAt r 32 4, fieldAt r 36 4, m.mMax, ceilDiv (spN r * spOutWidth r) 8)]
def outScaleRanges (m : MxNode) (r : List Byte) : List (Nat × Nat × Nat × Nat) :=
  if spOutBlock r = 0 then [] else [(fieldAt r 40 4, fieldAt r 44 4, m.mMax, ceilDiv (spN r) (spOutBlock r))]

/-- The length of the epilogue parameter block (R128). -/
def epiLen (r : List Byte) : Nat := 64 + 4 * spN r * (fieldAt r 6 1 % 2 + fieldAt r 6 1 / 2 % 2)

/-- The epilogue range and the preload range of a split. -/
def epiRanges (r : List Byte) : List (Nat × Nat × Nat × Nat) := [(fieldAt r 48 4, 0, 1, epiLen r)]
def preRanges (m : MxNode) (r : List Byte) : List (Nat × Nat × Nat × Nat) :=
  if spPreload r then [(fieldAt r 52 4, fieldAt r 56 4, m.mMax, ceilDiv (spN r * codeWidth (fieldAt r 7 1)) 8)] else []

/-- Step 3 of R131 for one split whose record was read: reserved bytes, formats and class, fields, ranges. -/
def mxSplitFields (m : MxNode) (h r : List Byte) (cls : Nat) : Chk Unit := do
  need (fieldAt r 4 1 / 32 == 0 && fieldAt r 6 1 / 8 == 0 && allZero (bytesAt r 60 4) && fieldAt r 1 1 / 32 == 0 &&
    fieldAt r 3 1 / 32 == 0) .descriptorInvalid
  let fw := fieldAt r 0 1
  let fo := fieldAt r 2 1
  need (fmtOperand fw && codeIsInt fw == codeIsInt (fieldAt h 0 1) && rateClass (fieldAt h 0 1) fw == cls &&
    scaleInOk (fieldAt r 1 1) fw && decide (fo ≤ 9) && scaleOutOk (fieldAt r 3 1) fo m.width &&
    (!spPreload r || fmtPreload (fieldAt r 7 1))) .formatInvalid
  need (roundOk (fieldAt r 4 1)) .formatInvalid
  need (decide (fieldAt r 5 1 ≤ 6) && (m.flat || fieldAt r 20 4 == 0) &&
    decide (ceilDiv (spN r * spOutWidth r) 8 ≤ fieldAt r 36 4) &&
    (spOutBlock r == 0 || decide (ceilDiv (spN r) (spOutBlock r) ≤ fieldAt r 44 4)) &&
    (m.policy != 2 || spPreload r)) .descriptorInvalid
  checkRanges (wgtRanges m h r ++ wgtScaleRanges m h r ++ outRanges m r ++ outScaleRanges m r ++ epiRanges r ++ preRanges m r)

/-- The rest of step 3: the epilogue parameter block, which it returns. -/
def State.mxSplitCheck (s : State) (m : MxNode) (h r : List Byte) (cls : Nat) : Chk (List Byte) := do
  mxSplitFields m h r cls
  let e ← s.spadGet m.core (fieldAt r 48 4) (epiLen r)
  let lo := dec32 (fieldAt e 4 4)
  let hi := dec32 (fieldAt e 8 4)
  need (fieldAt r 5 1 != 6 || (!numIsNaN lo && !numIsNaN hi && !numLt hi lo)) .descriptorInvalid
  return e

/-- A split that passed its checks: index, record and epilogue block. -/
structure MxSplit where
  ix : Nat
  r : List Byte
  e : List Byte

/-- Activation element (m, k) as an expanded element (R129, R149). -/
def State.actEl (s : State) (m : MxNode) (h : List Byte) (row k : Nat) : Chk Expanded := do
  let f := (fmtOf (fieldAt h 0 1)).getD .e4m3
  let c ← s.elemAt m.core (fieldAt h 8 4 + row * fieldAt h 12 4) (fmtWidth f) k
  let sc := fieldAt h 1 1
  let b := scaleBlock sc
  if b = 0 then return expand c f none
  else
    let pos := if scaleAxis sc = 0 then (row, k / b) else (row / b, k)
    let x ← s.spadGet m.core (fieldAt h 16 4 + pos.1 * fieldAt h 20 4 + pos.2) 1
    return expand c f (some (scaleFmt sc, leNat x))

/-- Weight element (k, n) of a split as an expanded element (R129, R149). -/
def State.wgtEl (s : State) (m : MxNode) (r : List Byte) (k n : Nat) : Chk Expanded := do
  let f := (fmtOf (fieldAt r 0 1)).getD .e4m3
  let c ← if m.flat then
      s.elemAt m.core (fieldAt r 12 4 + k / 64 % 4 * fieldAt r 20 4 + n * fieldAt r 16 4) (fmtWidth f) (64 * (k / 256) + k % 64)
    else s.elemAt m.core (fieldAt r 12 4 + k * fieldAt r 16 4) (fmtWidth f) n
  let sc := fieldAt r 1 1
  let b := scaleBlock sc
  if b = 0 then return expand c f none
  else
    let pos := match m.flat, scaleAxis sc with
      | false, 0 => (k / b, n)
      | false, _ => (k, n / b)
      | true, 0 => (n, k / b)
      | true, _ => (n / b, k)
    let x ← s.spadGet m.core (fieldAt r 24 4 + pos.1 * fieldAt r 28 4 + pos.2) 1
    return expand c f (some (scaleFmt sc, leNat x))

/-- A code of a preload format as an FP32 word, exactly (R152). -/
def toFp32 (fmt code : Nat) : Nat := rne32 (decodeFmt ((fmtOf fmt).getD .fp32) code)

/-- Preload element (m, n) of a split as an FP32 word (R129, R152). -/
def State.preEl (s : State) (m : MxNode) (r : List Byte) (row n : Nat) : Chk Nat := do
  let c ← s.elemAt m.core (fieldAt r 52 4 + row * fieldAt r 56 4) (codeWidth (fieldAt r 7 1)) n
  return toFp32 (fieldAt r 7 1) c

/-- The operand pairs of one output, in K order. -/
def State.mxTerms (s : State) (m : MxNode) (h r : List Byte) (row n : Nat) : Chk (List (Expanded × Expanded)) :=
  (List.range (hdrK h)).mapM (fun k => do
    let a ← s.actEl m h row k
    let w ← s.wgtEl m r k n
    return (a, w))

/-- The accumulator pair of output (m, n) after every group (R168). -/
def State.mxPair (s : State) (m : MxNode) (h r : List Byte) (row n : Nat) : Chk (Nat × Nat) := do
  let pre ← if spPreload r then s.preEl m r row n else .ok 0
  let ab ← s.mxTerms m h r row n
  return accumulateAll pre ab

/-- The pair index of output (m, n) of a split (R124, R134). -/
def pairIndex (m : MxNode) (sp row n : Nat) : Nat :=
  if m.flat then 16 * n + row
  else 64 * (n / m.width * m.mMax + row) + (sp * m.width + n % m.width)

/-- The value that stage 3 gives for a drained pair of column `n` (R170, R171). -/
def mxStage3 (sp : MxSplit) (n : Nat) (p : Nat × Nat) : Nat :=
  let pcs := fieldAt sp.r 6 1 % 2
  let scale := if pcs = 1 then fieldAt sp.e (64 + 4 * n) 4 else fieldAt sp.e 0 4
  let bias := if byteBit sp.r 6 1 then some (fieldAt sp.e (64 + 4 * spN sp.r * pcs + 4 * n) 4) else none
  epilogue scale bias (fieldAt sp.r 5 1) (fieldAt sp.e 4 4) (fieldAt sp.e 8 4) (drain p)

/-- The FP32 value of output (m, n) before stage 4, where its inputs are readable: an active row's, or a row under
ZERO or PASS; `none` outside for a row that SKIP leaves (R132). -/
def State.mxValue (s : State) (m : MxNode) (h : List Byte) (sp : MxSplit) (row n : Nat) : Chk Nat :=
  if m.active row then do
    let p ← s.mxPair m h sp.r row n
    return mxStage3 sp n p
  else if m.policy = 2 then s.preEl m sp.r row n
  else .ok 0

/-- Is a row written: active, or inactive under ZERO or PASS (R132)? -/
def mxWrites (m : MxNode) (row : Nat) : Bool := m.active row || m.policy != 0

/-- The stochastic-rounding index of an output element (R130). -/
def mxIndex (m : MxNode) (sp : MxSplit) (row n : Nat) : Nat :=
  m.member * 2 ^ 40 + sp.ix * 2 ^ 32 + row * spN sp.r + n

/-- Stage 4 on a row of FP32 values (R172): the codes of its elements and its scale bytes; with block scales, a block at
a time. -/
def mxStage4 (m : MxNode) (sp : MxSplit) (row : Nat) (vals : List Nat) : List Nat × List Nat :=
  let f := (fmtOf (fieldAt sp.r 2 1)).getD .fp32
  let rd := roundingOf (fieldAt sp.r 4 1) m.seed
  let b := spOutBlock sp.r
  if b = 0 then ((List.range vals.length).map (fun n => cvt (dec32 (vals.getD n 0)) f rd (mxIndex m sp row n)), [])
  else
    let blocks := (List.range (ceilDiv vals.length b)).map (fun j =>
      let v := (vals.drop (j * b)).take b
      quantiseBlock v f (scaleFmt (fieldAt sp.r 3 1)) rd ((List.range v.length).map (fun i => mxIndex m sp row (j * b + i))))
    (blocks.flatMap (·.2), blocks.map (·.1))

/-- Write one row of a split that runs to its end, with its output scales (R129, R172). -/
def State.mxPutRow (s : State) (m : MxNode) (sp : MxSplit) (row : Nat) (vals : List Nat) : State :=
  let q := mxStage4 m sp row vals
  let s1 := s.putRow m.core (fieldAt sp.r 32 4 + row * fieldAt sp.r 36 4) (spOutWidth sp.r) q.1
  if spOutBlock sp.r = 0 then s1
  else s1.writeSpad m.core (fieldAt sp.r 40 4 + row * fieldAt sp.r 44 4) (q.2.map (BitVec.ofNat 8))

/-- A value known or not. -/
def known (c : Chk Nat) : Option Nat := match c with | .ok v => some v | .error _ => none

/-- Which would-be codes of a row are known: with block scales, a block only as a whole. -/
def mxKnown (m : MxNode) (sp : MxSplit) (row : Nat) (vals : List (Option Nat)) : List (Option Nat) × List (Option Nat) :=
  let q := mxStage4 m sp row (vals.map (·.getD 0))
  let b := if spOutBlock sp.r = 0 then 1 else spOutBlock sp.r
  let blockKnown (j : Nat) : Bool := ((vals.drop (j * b)).take b).all (·.isSome)
  ((List.range vals.length).map (fun n => if blockKnown (n / b) then q.1[n]? else none),
   (List.range q.2.length).map (fun j => if blockKnown j then q.2[j]? else none))

/-- The would-be writes of a failed split (R34, R135). -/
def State.mxLandSplit (s0 s : State) (m : MxNode) (h : List Byte) (sp : MxSplit) : State :=
  (m.rows.filter (mxWrites m)).foldl (fun t row =>
    let q := mxKnown m sp row ((List.range (spN sp.r)).map (fun n => known (s0.mxValue m h sp row n)))
    let t1 := t.landRow m.core (fieldAt sp.r 32 4 + row * fieldAt sp.r 36 4) (spOutWidth sp.r) q.1
    if spOutBlock sp.r = 0 then t1
    else t1.landRow m.core (fieldAt sp.r 40 4 + row * fieldAt sp.r 44 4) 8 q.2) s

/-- Set the accumulator pairs of a split's active rows (R174); setting a pair clears its fault (R102). -/
def State.mxSetPairs (s : State) (m : MxNode) (sp : Nat) (vals : List (Nat × Nat × (Nat × Nat))) : State :=
  let c := s.coreAt m.core
  let ps := vals.map (fun v => (pairIndex m sp v.1 v.2.1, v.2.2))
  s.setCore m.core { c with pairs := ps.foldl (fun t p => tabSet t p.1 p.2) c.pairs,
                            pairFlaws := c.pairFlaws.filter (fun f => !(ps.any (fun q => q.1 == f.1))) }

/-- A split that completes: its pairs and its output rows, in row order. -/
def State.mxRunSplit (s0 s : State) (m : MxNode) (h : List Byte) (sp : MxSplit) : State :=
  let cols := List.range (spN sp.r)
  let pairs := m.activeRows.flatMap (fun row => cols.map (fun n =>
    (row, n, match s0.mxPair m h sp.r row n with | .ok p => p | .error _ => (0, 0))))
  let s1 := s.mxSetPairs m sp.ix pairs
  (m.rows.filter (mxWrites m)).foldl (fun t row =>
    t.mxPutRow m sp row (cols.map (fun n => (known (s0.mxValue m h sp row n)).getD 0))) s1

/-- The least of a list of numbers, if any. -/
def leastOf (l : List Nat) : Option Nat := l.foldl (fun a x => match a with | none => some x | some y => some (min x y)) none

/-- The step of the loop of R119 or R122 at which a position first fails: tiles or passes in order, a stationary load
before the feeds of its tile (log entry 8). -/
def feedKey (tile feed : Nat) : Nat := tile * 2 ^ 32 + feed

/-- K positions that one tile or pass covers (R117). -/
def mxDepth (m : MxNode) (cls : Nat) : Nat :=
  if m.flat then (if cls = 4 then 512 else 256) else (if cls = 4 then 128 else 64)

/-- A read of the run: the step at which it comes, and its bytes. -/
abbrev MxRead := Nat × (Nat × Nat)

/-- The reads of a block scale, if there is one. -/
def scaleRead (b key off stride : Nat) (pos : Nat × Nat) : List MxRead := if b = 0 then [] else [(key, off + pos.1 * stride + pos.2, 1)]

/-- The reads of the activation stream: the active rows alone (R55, R133). -/
def actReads (m : MxNode) (h : List Byte) (cls : Nat) : List MxRead :=
  let sc := fieldAt h 1 1
  let b := scaleBlock sc
  m.activeRows.flatMap (fun row => (List.range (hdrK h)).flatMap (fun k =>
    let key := feedKey (k / mxDepth m cls) (if m.flat then 0 else row + 1)
    (key, elemPiece (fieldAt h 8 4 + row * fieldAt h 12 4) (codeWidth (fieldAt h 0 1)) k) ::
      scaleRead b key (fieldAt h 16 4) (fieldAt h 20 4) (if scaleAxis sc = 0 then (row, k / b) else (row / b, k))))

/-- The K tiles or passes of a work order (R117). -/
def mxTiles (m : MxNode) (h : List Byte) (cls : Nat) : Nat := ceilDiv (hdrK h) (mxDepth m cls)

/-- The reads of a split's weights: none when no row is fed (R139). -/
def wgtReads (m : MxNode) (h : List Byte) (cls : Nat) (sp : MxSplit) : List MxRead :=
  let sc := fieldAt sp.r 1 1
  let b := scaleBlock sc
  let wb := codeWidth (fieldAt sp.r 0 1)
  if m.activeRows = [] then [] else (List.range (hdrK h)).flatMap (fun k => (List.range (spN sp.r)).flatMap (fun n =>
    let key := if m.flat then feedKey (k / mxDepth m cls) (n + 1) else feedKey (n / m.width * mxTiles m h cls + k / mxDepth m cls) 0
    (key, if m.flat then elemPiece (fieldAt sp.r 12 4 + k / 64 % 4 * fieldAt sp.r 20 4 + n * fieldAt sp.r 16 4) wb (64 * (k / 256) + k % 64)
          else elemPiece (fieldAt sp.r 12 4 + k * fieldAt sp.r 16 4) wb n) ::
      scaleRead b key (fieldAt sp.r 24 4) (fieldAt sp.r 28 4) (match m.flat, scaleAxis sc with
        | false, 0 => (k / b, n)
        | false, _ => (k, n / b)
        | true, 0 => (n, k / b)
        | true, _ => (n / b, k))))

/-- The step at which output (row, n) of a split is set, and that at which it drains (R119, R122). -/
def firstKey (m : MxNode) (h : List Byte) (cls row n : Nat) : Nat :=
  if m.flat then feedKey 0 (n + 1) else feedKey (n / m.width * mxTiles m h cls) (row + 1)
def lastKey (m : MxNode) (h : List Byte) (cls row n : Nat) : Nat :=
  if m.flat then feedKey (mxTiles m h cls - 1) (n + 1) else feedKey (n / m.width * mxTiles m h cls + mxTiles m h cls - 1) (row + 1)

/-- The reads of a split's preload: the active rows, and under PASS the inactive ones, which drain (R132). -/
def preReads (m : MxNode) (h : List Byte) (cls : Nat) (sp : MxSplit) : List MxRead :=
  if !spPreload sp.r then [] else
    (m.rows.filter (fun r => m.active r || m.policy == 2)).flatMap (fun row => (List.range (spN sp.r)).map (fun n =>
      (if m.active row then firstKey m h cls row n else lastKey m h cls row n,
        elemPiece (fieldAt sp.r 52 4 + row * fieldAt sp.r 56 4) (codeWidth (fieldAt sp.r 7 1)) n)))

/-- The step at which reads first meet poison, if they do: what stands, or a line that a read of another stream has poisoned at an earlier
step (R101). -/
def State.readsFault (s : State) (core : Nat) (hit : List (Nat × Nat)) (rs : List MxRead) : Option Nat :=
  leastOf ((rs.filter (fun r => (List.range r.2.2).any (fun i => s.spadPoisoned core (r.2.1 + i) ||
    hit.any (fun p => p.1 == (r.2.1 + i) / 64 && decide (p.2 < r.1))))).map (·.1))

/-- The lines that the reads of a step find poisoned, or poison (R101), with the step. -/
def State.linesHit (s : State) (core key : Nat) (rs : List MxRead) : List (Nat × Nat) :=
  (rs.filter (fun r => r.1 == key)).flatMap (fun r =>
    ((List.range r.2.2).filter (fun i => s.spadPoisoned core (r.2.1 + i))).map (fun i => ((r.2.1 + i) / 64, key)))

/-- The steps at which a split reads its pairs that were hit by two bits of error since it set them (R102, R135): their last read,
the drain (log entry 8). -/
def pairFaults (m : MxNode) (h : List Byte) (cls : Nat) (sp : MxSplit) (hits : List (Nat × Nat)) : List Nat :=
  m.activeRows.flatMap (fun row => ((List.range (spN sp.r)).filter (fun n =>
    hits.any (fun x => x.1 == pairIndex m sp.ix row n && x.2 != 1))).map (fun n => lastKey m h cls row n))

/-- What reads during the run: the activation stream, which has no index, or a split; its reads, and the steps at which its pairs fail it. -/
structure MxStream where
  ix : Option Nat
  reads : List MxRead
  own : List Nat

/-- The activation stream and the splits of a run. -/
def mxStreams (m : MxNode) (h : List Byte) (cls : Nat) (hits : List (Nat × Nat)) (sps : List MxSplit) : List MxStream :=
  ⟨none, actReads m h cls, []⟩ ::
    sps.map (fun sp => ⟨some sp.ix, wgtReads m h cls sp ++ preReads m h cls sp, pairFaults m h cls sp hits⟩)

/-- When a stream first meets a fault, if it does (R135). -/
def State.streamFault (s : State) (core : Nat) (hit : List (Nat × Nat)) (x : MxStream) : Option Nat :=
  leastOf ((s.readsFault core hit x.reads).toList ++ x.own)

/-- The streams that stop, with their steps, in the order of the steps, up to a fault of the activation stream, which ends the run (R135). A
stream that stops may poison lines that the others read later (R101). -/
def State.mxStops (s : State) (core : Nat) : Nat → List MxStream → List (Nat × Nat) → List (Option Nat × Nat)
  | 0, _, _ => []
  | n + 1, xs, hit =>
    let fs := xs.filterMap (fun x => (s.streamFault core hit x).map (fun k => (x, k)))
    match fs.foldl (fun (a : Option (MxStream × Nat)) f => match a with
      | none => some f
      | some g => if f.2 < g.2 then some f else some g) none with
    | none => []
    | some (x, k) => (x.ix, k) :: (if x.ix.isNone then []
        else State.mxStops s core n (xs.filter (fun y => y.ix != x.ix)) (hit ++ s.linesHit core k x.reads))

/-- The pairs of a split that a whole-order fault at a step stops: one that has drained keeps its sum, one that is set holds an open value
(log entry 2), and one that is not yet set keeps its contents (R174). -/
def State.mxOpenPairs (s0 s : State) (m : MxNode) (h : List Byte) (cls stop : Nat) (sp : MxSplit) : State :=
  s.mxSetPairs m sp.ix (m.activeRows.flatMap (fun row =>
    ((List.range (spN sp.r)).filter (fun n => decide (firstKey m h cls row n < stop))).map (fun n =>
      (row, n, match s0.mxPair m h sp.r row n with
        | .ok p => if lastKey m h cls row n < stop then p else Config.openPair s.draws (pairIndex m sp.ix row n)
        | .error _ => Config.openPair s.draws (pairIndex m sp.ix row n)))))

/-- Is a step reached in a run that ends at another, if it does not run to its end? -/
def byStop (stop : Option Nat) (key : Nat) : Bool := match stop with | none => true | some a => decide (key ≤ a)

/-- The earlier of two ends. -/
def minStop (a b : Option Nat) : Option Nat := leastOf (a.toList ++ b.toList)

/-- The reads that come before an end meet what stands in their words (R101). -/
def State.touchReads (s : State) (core : Nat) (stop : Option Nat) (rs : List MxRead) : State :=
  s.touchAll core ((rs.filter (fun r => byStop stop r.1)).map (·.2))

/-- The pairs of a work order, of the splits that passed their checks. -/
def mxOwn (m : MxNode) (sps : List MxSplit) (p : Nat) : Bool :=
  sps.any (fun sp => m.activeRows.any (fun row => (List.range (spN sp.r)).any (fun n => pairIndex m sp.ix row n == p)))

/-- Bit errors come to stand in pairs during a run (R102): one bit in a pair that the work order reads is corrected and counted, and
all others stand. -/
def State.mxHit (s : State) (m : MxNode) (sps : List MxSplit) (hit : Nat × Nat) : State :=
  if mxOwn m sps hit.1 && hit.2 == 1 then s.correctPair m.core hit.1
  else
    let c := s.coreAt m.core
    s.setCore m.core { c with pairFlaws := tabSet c.pairFlaws hit.1 (min 2 (max hit.2 (tabGet c.pairFlaws hit.1 0))) }

/-- The bytes that a split reads. -/
def splitReads (m : MxNode) (h : List Byte) (sp : MxSplit) : List (Nat × Nat) :=
  piecesOf (wgtRanges m h sp.r ++ wgtScaleRanges m h sp.r ++ epiRanges sp.r ++ preRanges m sp.r)

/-- Step 4 of R131 over the splits that passed step 3. -/
def mxOverlap (m : MxNode) (h : List Byte) (nRead : Nat) (sps : List MxSplit) : Bool :=
  let reads := (m.mdesc, 64 + 64 * nRead) :: piecesOf (actRanges m h) ++ sps.flatMap (splitReads m h)
  let outs := sps.flatMap (fun sp => [piecesOf (outRanges m sp.r), piecesOf (outScaleRanges m sp.r)])
  outs.any (fun o => listsMeet o reads) || !allApart outs

/-- The end of a work order from its splits' failures (R135): the status and the mask. -/
def mxEnd (n : Nat) (fails : List (Nat × Status)) : Status × Nat :=
  match fails with
  | [] => (.ok, 0)
  | f :: _ =>
    if fails.length < n then (.splitPartial, (fails.map (fun g => 2 ^ g.1)).foldl (· + ·) 0)
    else (f.2, 0)

/-- The run of a matrix work order after its checks: splits that passed, and those that failed with their status. Every split that fails
stops reading, and the array stops when a whole-order fault comes or the last split fails (R135, R139). -/
def State.mxRun (s : State) (m : MxNode) (h : List Byte) (cls : Nat) (hits : List (Nat × Nat)) (sps : List MxSplit)
    (bad : List (Nat × Status)) : Ran :=
  let stops := s.mxStops m.core (sps.length + 1) (mxStreams m h cls hits sps) []
  let stopAt (i : Option Nat) : Option Nat := (stops.find? (fun p => p.1 == i)).map (·.2)
  let faults := sps.map (fun sp => (sp, stopAt (some sp.ix)))
  let ends := faults.filterMap (·.2)
  let act := stopAt none
  let allFail := if ends.length = sps.length then some (ends.foldl max 0) else none
  let whole := match act with
    | none => false
    | some a => (match allFail with | none => true | some k => decide (a ≤ k))
  let stop := if whole then act else allFail
  let s1 := faults.foldl (fun t f => t.touchReads m.core (minStop stop f.2) (wgtReads m h cls f.1 ++ preReads m h cls f.1))
    (s.touchReads m.core stop (actReads m h cls))
  if whole then
    let live := faults.filter (fun f => match f.2 with | none => true | some k => decide (act.getD 0 ≤ k))
    { s := hits.foldl (fun t x => t.mxHit m sps x) (live.foldl (fun t f => s.mxOpenPairs t m h cls (act.getD 0) f.1)
        (sps.foldl (fun t sp => s.mxLandSplit t m h sp) s1)), st := .poisonedData }
  else
    let s2 := faults.foldl (fun t f => match f.2 with
      | none => s.mxRunSplit t m h f.1
      | some _ => s.mxLandSplit t m h f.1) s1
    let ran := faults.filterMap (fun f => f.2.map (fun _ => (f.1.ix, Status.poisonedData)))
    let e := mxEnd m.splits ((List.range m.splits).filterMap (fun i => (bad ++ ran).find? (fun b => b.1 == i)))
    { s := hits.foldl (fun t x => t.mxHit m sps x) s2, st := e.1, mask := e.2 }

/-- A split after step 3 of R131: it passed, or failed with a status. -/
def State.mxChecked (s : State) (m : MxNode) (h : List Byte) (cls : Nat) (r : Chk (List Byte)) (i : Nat) : Chk MxSplit := do
  let b ← r
  let e ← s.mxSplitCheck m h b cls
  return ⟨i, b, e⟩

/-- What step 3 reads of a split that reaches it: its epilogue parameter block. -/
def mxEpilogue (m : MxNode) (h : List Byte) (cls : Nat) (r : Chk (List Byte)) : List (Nat × Nat) :=
  match r with
  | .ok b => if (mxSplitFields m h b cls).isOk then [(fieldAt b 48 4, epiLen b)] else []
  | .error _ => []

/-- Step 3 of R131 over the splits in index order: each meets the lines that the reads before it have poisoned (R101). -/
def State.mxStep3 (m : MxNode) (h : List Byte) (cls : Nat) : List (Chk (List Byte)) → Nat → State → State × List (Nat × Chk MxSplit)
  | [], _, s => (s, [])
  | r :: rest, i, s =>
    let t := State.mxStep3 m h cls rest (i + 1) (s.touchAll m.core (mxEpilogue m h cls r))
    (t.1, (i, s.mxChecked m h cls r i) :: t.2)

/-- The rate class (R131): that of the lowest-numbered split whose record was read and names a legal operand format. -/
def mxClass (h : List Byte) (recs : List (Chk (List Byte))) : Nat :=
  rateClass (fieldAt h 0 1) ((recs.findSome? (fun r => match r with
    | .ok b => if fmtOperand (fieldAt b 0 1) then some (fieldAt b 0 1) else none
    | .error _ => none)).getD 0)

/-- Steps 2 to 4 of R131 and the run, after the header. With K = 0, every N = 0 or every split failed nothing is read or written (R139). -/
def State.mxSplits (s : State) (m : MxNode) (h : List Byte) (hits : List (Nat × Nat)) : Ran :=
  let recs := (List.range m.splits).map (fun i => s.mxSplitRead m i)
  let s0 := s.touchAll m.core ((List.range m.splits).map (fun i => (m.mdesc + 64 * (i + 1), 64)))
  if 32768 < mxPairs m recs then { s := s0, st := .lengthRange }
  else
    let cls := mxClass h recs
    let step3 := State.mxStep3 m h cls recs 0 s0
    let s1 := step3.1
    let checked := step3.2
    let sps := checked.filterMap (fun c => match c.2 with | .ok sp => some sp | .error _ => none)
    let bad := checked.filterMap (fun c => match c.2 with | .ok _ => none | .error e => some (c.1, e))
    if mxOverlap m h m.splits sps then { s := s1, st := .descriptorInvalid }
    else if hdrK h = 0 ∨ sps = [] ∨ recs.all (fun r => recN r == 0) then
      let e := mxEnd m.splits bad
      { s := s1, st := e.1, mask := e.2 }
    else s1.mxRun m h cls hits sps bad

/-- The checks of R131 and the run of a matrix work order. -/
def State.mxWork (s : State) (m : MxNode) (hits : List (Nat × Nat)) : Ran :=
  let s1 := s.touchSpad m.core m.mdesc 64
  match s.mxHeader m with
  | .error e => { s := s1, st := e }
  | .ok h => s1.mxSplits m h hits

/-- MATRIX_WORK_ORDER (R119): the matrix work order in progress at a core runs. -/
def execMatrixWorkOrder (run : MatrixRun) (s : State) : Host.Outcome State Fault Refusal :=
  .next (s.runWork run.core (fun w => fieldAt w.rcd 0 1 == 1) (fun t w => t.mxWork ⟨run.core, w.member, w.rcd⟩ run.hits))

end Sys2Proof.Machine
end

