-- ==== Sys2Proof/Machine/Stop.lean ====
section
/-! DEFINITION. What the events of R93 do: the items of a function end (R483), stopped work orders leave destinations as R34
allows, a bay reset and a security stop (R482, R389, R411), the bay scrub (R401) and DEVICE_FATAL (R440). -/

namespace Sys2Proof.Machine

/- Which bytes of a stopped work order landed (R34). -/

/-- The state that a command answers, or the state before it. -/
def nextOr (s : State) (o : Host.Outcome State Fault Refusal) : State := match o with | .next t => t | _ => s

/-- A memory with those changed bytes that landed. -/
def layCells (land : Nat → Bool) (m : List Host.Cell) (cells : List Host.Cell) : List Host.Cell :=
  cells.foldl (fun x c => if land c.1 then memWrite x c.1 [c.2] else x) m

/-- Posted writes of which any byte may have landed. -/
def State.landHost (s : State) (ws : List HostWrite) : State :=
  ws.foldl (fun t w => ((List.range w.bytes.length).zip w.bytes).foldl (fun u p =>
    if Config.landed u.draws (hostKey w.fn w.pasid (w.iova + p.1)) then (u.hostWrite w.fn w.pasid (w.iova + p.1) [p.2]).1 else u) t) s

/-- A key of a stack line, of a scratchpad line, or of a scratchpad word, among the numbers that Config.landed takes. -/
def stackLineKey (k line : Nat) : Nat := 2 ^ 90 + k * 2 ^ 40 + line
def spadLineKey (l : Nat) : Nat := 2 ^ 91 + l
def spadWordKey (w : Nat) : Nat := 2 ^ 93 + w

/-- The lines of a stack that stopped work would have written whole, poisoned or uncorrectable before and valid after, and that it did write:
each is a free choice (log entry 7). -/
def State.wholeLines (s t : State) (k : Nat) : List Nat :=
  (((s.stackAt k).poison ++ ((s.stackAt k).latent.filter (fun f => !lineDecodes (s.stackAt k) f)).map (·.line)).eraseDups).filter (fun l =>
    !linePoisoned (t.stackAt k) l && Config.landed s.draws (stackLineKey k l))

/-- The lines of a stack with what stood wrong in them gone or read: those written whole, and those of which a byte landed, which is a
read-modify-write (R238, R241). -/
def State.landLines (s t : State) (k : Nat) (whole : List Nat) (cells : List Host.Cell) : State :=
  let v := s.stackAt k
  let s1 := if whole = [] then s else
    s.setStack k { v with poison := v.poison.filter (fun l => !whole.contains l), latent := v.latent.filter (fun f => !whole.contains f.line) }
  let part := ((v.latent.map (·.line)).filter (fun l => !whole.contains l && !(t.stackAt k).latent.any (fun f => f.line == l))).filter (fun l =>
    cells.any (fun c => c.1 / stackBytes == k && c.1 % stackBytes / 64 == l && Config.landed s.draws c.1))
  part.foldl (fun u l => u.mergeLine k l) s1

/-- The flawed words of the scratchpads that stopped work would have written: those written whole lose their errors, and one of which a byte
landed in part is read first (R101). -/
def State.landWords (s t : State) (cells : List Host.Cell) : State :=
  let gone := s.spadFlaws.filter (fun f => !tabHas t.spadFlaws f.1)
  let word (a : Nat) : Nat := a / spadBytes * 0x30000 + a % spadBytes / 8
  gone.foldl (fun u f =>
    if Config.landed s.draws (spadWordKey f.1) && !t.spadPoison.contains (f.1 / 8) then { u with spadFlaws := tabDel u.spadFlaws f.1 }
    else if cells.any (fun c => word c.1 == f.1 && Config.landed s.draws (2 ^ 92 + c.1)) then u.readFlaw (f.1 / 0x30000) (f.1 % 0x30000) f.2
    else u) s

/-- Merge the would-be state `t` of stopped work into `s`: each byte has its former or its would-be value (R34), a line or word of which
a byte landed is read and written as a write of it is, and a poisoned line is valid only where all of it landed (log entry 7). The standby bank is not merged: a work order that
slips before its run leaves every entry former, after it every entry loaded (R191; DESIGN CHOICE, log entry 80). -/
def State.landMerge (s t : State) : State :=
  let d := s.draws
  let whole := (List.range 24).map (fun k => (k, s.wholeLines t k))
  let spadClear := (s.spadPoison.filter (fun l => !t.spadPoison.contains l)).filter (fun l => Config.landed d (spadLineKey l))
  let landStack (a : Nat) : Bool := Config.landed d a || (tabGet whole (a / stackBytes) []).contains (a % stackBytes / 64)
  let landSpad (a : Nat) : Bool := Config.landed d (2 ^ 92 + a) || Config.landed d (spadWordKey (a / spadBytes * 0x30000 + a % spadBytes / 8)) ||
    spadClear.contains (a / spadBytes * 0x6000 + a % spadBytes / 64)
  let cells := changedCells s.stackMem t.stackMem
  let spad := changedCells s.spadMem t.spadMem
  let s1 := whole.foldl (fun u e => u.landLines t e.1 e.2 cells) s
  let s2 := s1.landWords t spad
  let s3 := { s2 with stackMem := layCells landStack s2.stackMem cells, spadMem := layCells landSpad s2.spadMem spad,
                      spadPoison := s2.spadPoison.filter (fun l => !spadClear.contains l) }
  (s3.landHost (t.host.writes.drop s.host.writes.length)).drawn

/-- A device whose engines run, for the would-be bytes of work that stopped. -/
def State.unstopped (s : State) (b : Nat) : State :=
  { s with dev := { s.dev with fatal := none }, repairs := [] }.setBay b { s.bayAt b with halted := false }

/-- The state after a started work order has run at a core. -/
def State.wouldWork (s : State) (c : Nat) (w : WorkOrder) : State :=
  let u := s.unstopped w.bay
  let go (t : State) (f : Nat → State → Host.Outcome State Fault Refusal) : State := nextOr t (f c t)
  match ndType w.rcd with
  | 1 => go u (fun c => execMatrixWorkOrder ⟨c, []⟩)
  | 2 => [execFusedChain, execSparProgram, execSoftmax, execPartialState, execMergeStates, execApplyState, execLayerNorm,
          execRmsNorm, execRouterSelect, execRouterAdmit, execRouterCombine].foldl go u
  | 3 => (List.range 16).foldl (fun t k => (List.range 5).foldl (fun v op => v.dmaStream c w.lid w.nodeIx k op) t) u
  | 5 => (u.valleyRun c w.lid w.nodeIx false).valleyRun c w.lid w.nodeIx true
  | 6 => go u execExitTest
  | _ => u

/-- A stopped work order's destinations (R34). -/
def State.landWork (s : State) (c : Nat) (w : WorkOrder) : State :=
  if w.st == .started then s.landMerge (s.wouldWork c w) else s

/-- The work orders of a queue. -/
def woList (q : List CoreEntry) : List WorkOrder := q.filterMap (fun e => match e with | .wo w => some w | _ => none)

/-- The cores of a bay. -/
def State.bayCores (s : State) (b : Nat) : List Nat := (List.range (336 * (s.bayAt b).count)).map (fun i => s.coreOf b i)

/-- The stacks of a bay. -/
def State.bayStacks (s : State) (b : Nat) : List Nat := (List.range (2 * (s.bayAt b).count)).map (fun i => s.stackOf b i)

/-- The destinations of a bay's work orders in progress, of its eave engines' work and of its messages on the mesh. -/
def State.landBay (s : State) (b : Nat) : State :=
  let s1 := (s.cores.filter (fun e => s.ownsStrip b (coreStrip e.1))).foldl
    (fun t e => (woList e.2.queue).foldl (fun u w => u.landWork e.1 w) t) s
  let s2 := (s.bayStacks b).foldl (fun t k =>
    if (t.stackAt k).eave = [] then t else t.landMerge (((t.unstopped b).evRun k 1).evRun k 2)) s1
  (s2.valley.filter (fun m => m.bay == b && !byteBit m.header 6 1)).foldl (fun t m => t.landMerge (t.segmentArrives m)) s2

/-- The destination of a running COPY. -/
def State.landCopy (s : State) (fn q : Nat) (it : Item) : State :=
  if enType it.entry = 2 ∧ it.st = .running then s.landMerge (s.itemRace it (fun v => v.copyMove fn q it)).1 else s

/- Items (R93, R483). -/

/-- The uncompleted items of a function with their queues. -/
def State.liveItems (s : State) (fn : Nat) : List (Nat × Item) :=
  (s.queuesOf fn).flatMap (fun p => (p.2.items.filter Item.live).map (fun it => (p.1, it)))

/-- Has a launch ended SLIPPED, with work orders still to report? A strip loss leaves it that status (R435). -/
def slippedLaunch (it : Item) : Option Launch :=
  it.launch.bind (fun l => if l.fin == .failed && l.failure.1 == .slipped then some l else none)

/-- The reports of slipped work orders that have not reached the ridge yet act now: their launches end SLIPPED before the bay
reset of a strip loss (R435). -/
def State.takeSlips (s : State) (b : Nat) : State :=
  ((s.reports.filter (fun r => r.1 == b)).map (·.2) ++ s.heldAt b).foldl (fun t e => match e with
    | .report lid node member .slipped mask exit => t.takeReport b lid node member .slipped mask exit
    | _ => t) s

/-- One uncompleted item ends with a status; the RESULT of a COPY that ran is a free value. -/
def State.endLive (s : State) (fn : Nat) (st : Status) (keepSlipped : Bool) (p : Nat × Item) : State :=
  let it := p.2
  let s1 := s.landCopy fn p.1 it
  match it.launch with
  | some l => match (if keepSlipped then slippedLaunch it else none) with
    | some _ => s1.endItem fn p.1 it.slot .slipped l.packets l.failure.2.1 0
    | none => s1.endItem fn p.1 it.slot st l.packets 0 0
  | none =>
    let moved := if enType it.entry = 2 ∧ it.active then Config.openNat s1.draws % (cpLen it.entry + 1) else 0
    s1.drawn.endItem fn p.1 it.slot st moved 0 0

/-- Every uncompleted item of a function ends with a status (R93). -/
def State.endFn (s : State) (fn : Nat) (st : Status) (keepSlipped : Bool) : State :=
  (s.liveItems fn).foldl (fun t p => t.endLive fn st keepSlipped p) s

/- What stands in a bay's engines. -/

/-- Does a request belong to a bay? -/
def ownerBay (b : Nat) (o : ReqOwner) : Bool :=
  match o with | .wo x _ _ _ _ => x == b | .item fn _ _ => fn == b | .coll x _ _ => x == b

/-- An answer to the remote sender of a message that is dropped on the mesh: BAY_GONE (R320, R341). -/
def State.dropMsg (s : State) (m : ValleyMsg) : State :=
  match m.port with
  | none => s
  | some p => (s.farAnswer (some m.bay) p.1 p.2.1 p.2.2.1 0x12 7 []).windowIdle m.bay p.2.2.2

/-- A core without work orders. -/
def Core.idle (c : Core) : Core := { c with queue := [], tree := [], ended := [] }

/-- A stack whose eave engine is idle and empty. -/
def Stack.idle (v : Stack) : Stack := { v with eave := [], eaveTree := [], eaveSigs := [], eaveEnded := [] }

/-- The engines of a bay stop: its collectives fail with the status, and every work order, packet, report, notice, message
and request of the bay is gone (R364, R483). -/
def State.idleBay (s : State) (b : Nat) (st : Status) : State :=
  let s1 := (s.bayAt b).coll.running.foldl (fun t c => t.collFail b c st) s
  let s2 := s1.setBay b { s1.bayAt b with coll := { (s1.bayAt b).coll with running := [], waiting := [], owed := [] } }
  let s3 := { s2 with cores := s2.cores.map (fun (e : Nat × Core) => if s.ownsStrip b (coreStrip e.1) then (e.1, e.2.idle) else e),
                      stackTab := s2.stackTab.map (fun (e : Nat × Stack) => if s.ownsStrip b (stackStrip e.1) then (e.1, e.2.idle) else e),
                      reports := s2.reports.filter (fun r => r.1 != b), notices := s2.notices.filter (fun n => n.bay != b),
                      valley := s2.valley.filter (fun m => m.bay != b) }
  (s2.valley.filter (fun m => m.bay == b)).foldl (fun t m => t.dropMsg m) (s3.dropOwner (ownerBay b))

/- Bay resets and stops. The kinds of `resets`: 1 a bay reset, 2 the reset of a strip loss, 3 that of BAY_RESIZE, 4 that of
BAY_DESTROY, 5 a security stop. Several may wait for their records together, and each then has its effect. The codes of `afterScrub`:
1 BAY_CREATE, 2 BAY_RESIZE, 3 BAY_DESTROY, 4 LOCK, 6 the reset of a locked bay, 7 a security stop, 8 strip loss, 9 the loss of a bay's last
strip; a STOP_INTERFACE_REQUEST is answered after whichever of them runs. -/

/-- Is a bay being reset, stopped or scrubbed? -/
def State.bayBusy (s : State) (b : Nat) : Bool := (s.bayAt b).resets != [] || (s.bayAt b).scrub != []

/-- A change of a TDI's state raises VF entry 65 (R389). -/
def State.setTdi (s : State) (b : Nat) (t : Tdi) : State :=
  if (s.bayAt b).tdi = t then s else (s.setBay b { s.bayAt b with tdi := t }).msix b 65

/-- The set-up space of a function after a reset of it (R482, R520): queues DISABLED with pointers 0, SETUP_STATUS 0. -/
def FnState.afterReset (f : FnState) : FnState :=
  { f with setupStatus := 0, lowHalf := [],
           queues := f.queues.map (fun p => (p.1, { p.2 with st := .disabled, sqHead := 0, sqTail := 0, cqHead := 0, recHead := 0, fetched := 0 })) }

/-- A window whose OPEN is 0, with its other fields kept (R520). -/
def closedWin (w : Window) : Window := ⟨overlay w.bytes 0 (natLE 1 (fieldAt w.bytes 0 1 % 128))⟩

/-- Close every window of a bay. -/
def BayState.closeAll (v : BayState) : BayState :=
  { v with outWin := v.outWin.map (fun p => (p.1, closedWin p.2)), inWin := v.inWin.map (fun p => (p.1, closedWin p.2)) }

/-- The bay resets among some endings: RESET_GEN counts each (R388). -/
def resetCount (kinds : List Nat) : Nat := (kinds.filter (· != 5)).length

/-- The state of a bay that a reset sets (R482, R520), with RESET_GEN not yet raised. -/
def State.bayCleared (s : State) (b : Nat) : State :=
  let s1 := { s with cores := s.cores.filter (fun e => !s.ownsStrip b (coreStrip e.1)) }.setFn b (s.fnAt b).afterReset
  let v := (s1.bayAt b).closeAll
  s1.setBay b { v with fences := [],
                       coll := { v.coll with lastSeq := [], held := [] } }

/-- An answer to a TDISP request: a code of its message, the bay, the status and a body; and an error answer: INVALID_REQUEST 1, BUSY 3,
INVALID_INTERFACE_STATE 4, INVALID_INTERFACE 0x101, INVALID_NONCE 0x102 (log entry 54). -/
def tdispDone (code bay status : Nat) (body : List Byte) : List Byte := natLE 1 0xFE ++ natLE 1 code ++ natLE 1 bay ++ natLE 1 status ++ body
def tdispFault (bay code : Nat) : List Byte := natLE 1 0xFE ++ natLE 1 0x7F ++ natLE 1 bay ++ natLE 2 code

/-- An answer of the security controller leaves. -/
def State.respond (s : State) (r : List Byte) : State := { s with host := { s.host with responses := s.host.responses ++ [r] } }

/-- A request over a transport has acted: over the sideband, an in-band interrupt announces each answer (R494). -/
def State.announce (s t : State) (sideband : Bool) : State :=
  if sideband then { t with life := { t.life with announced := t.life.announced + (t.host.responses.length - s.host.responses.length) } } else t

/-- Can the endpoint of the sideband be reached: auxiliary power and the system reference are there, and the target has an address (R494, R528)? -/
def State.sideReached (s : State) : Bool := s.dev.auxPower && s.dev.boot != .off && s.life.i3cAddress.isSome

/-- Is the sideband served for more than PLDM types 0 and 5 (R414, R495)? -/
def State.sideOpen (s : State) : Bool := s.sideReached && !s.sec.recovery

/-- A LOCK whose scrub runs fails: another reset of the bay meets it (R386, R389). -/
def State.lockFails (s : State) (b : Nat) : State :=
  let v := s.bayAt b
  if v.scrub != [] && v.afterScrub == 4 then (s.setBay b { v with afterScrub := 6 }).respond (tdispFault b 4) else s

/-- What ends a stop: after an action the TDI is CONFIG_UNLOCKED and a STOP_INTERFACE_REQUEST that waited is answered (R389). -/
def State.answerStop (s : State) (b : Nat) (act : State → State) : State :=
  let t := act s
  if (s.bayAt b).stopping then ((t.setBay b { t.bayAt b with stopping := false }).setTdi b .unlocked).respond (tdispDone 0x07 b 0 []) else t

/-- A bay's items end and its engines stop; what follows waits for the records (R483). A stop keeps the BARs live. -/
def State.bayEnd (s : State) (b kind : Nat) (st : Status) : State :=
  let s0 := (((s.lockFails b).landBay b).endFn b st (kind == 2)).idleBay b st
  let s1 := if kind == 5 then s0.dropKey b else s0.resetKey b
  let v := s1.bayAt b
  s1.setBay b { v with resets := v.resets ++ [kind], live := v.live && kind == 5, fetchHold := setIns v.fetchHold 1,
                       halted := false, stepLeft := 0 }

/-- The state of a bay that some bay resets set: that of R482, with RESET_GEN raised by each (R388). -/
def State.resetBy (s : State) (b n : Nat) : State :=
  if n = 0 then s else
    let t := s.bayCleared b
    t.setBay b { t.bayAt b with resetGen := ((t.bayAt b).resetGen + n) % 2 ^ 32 }

/-- A bay reset (R481 to R483) of a bay that may be in one already. One that finds the bay being scrubbed has no items to end, and the
scrub goes on; it waits only for what reached the ridge for the bay before it (R501). -/
def State.bayReset (s : State) (b kind : Nat) : State :=
  if (s.bayAt b).scrub != [] ∧ (s.bayAt b).resets = [] ∧ kind = 1 then
    let u := (s.lockFails b).resetKey b
    let t := if s.heldAt b = [] then u.resetBy b 1 else u.setBay b { u.bayAt b with resets := [1] }
    t.setBay b { t.bayAt b with live := false, halted := false, stepLeft := 0 }
  else (s.bayEnd b kind .bayReset).settle

/-- A security stop (R389, R411): the items end SECURITY_STOP. One that is not a STOP_INTERFACE_REQUEST moves a locked
bay's TDI to ERROR. -/
def State.securityStop (s : State) (b : Nat) (request : Bool) : State :=
  let s1 := s.bayEnd b 5 .securityStop
  let s2 := s1.setBay b { s1.bayAt b with stopping := request || (s1.bayAt b).stopping }
  (if s.locked b && !request then s2.setTdi b .error else s2).settle

/-- The domains of a strip (R23): its ten tile domains, two stack controllers, two eave engines. -/
def tileDoms (k : Nat) : List Nat := (List.range 10).map (fun i => 10 * k + i)
def stackDoms (k : Nat) : List Nat := [120 + k, 132 + k]
def eaveDoms (k : Nat) : List Nat := [144 + k, 156 + k]

/-- Does a held snapshot hold the state of a domain that was powered at its capture (R473)? -/
def State.snapHolds (s : State) (d : Nat) : Bool := match s.dbg.held with | some h => (h.doms[d]?).any (fun c => c.on) | none => false

/-- Gate or ungate domains; one whose state a held snapshot captured stays powered (R473). -/
def State.gate (s : State) (ds : List Nat) : State :=
  { s with power := { s.power with gated := (ds.filter (fun d => !s.snapHolds d)).foldl setIns s.power.gated } }
def State.ungate (s : State) (ds : List Nat) : State :=
  { s with power := { s.power with gated := s.power.gated.filter (fun d => !ds.contains d) } }

/-- A scrub of strips begins for a bay; their domains are powered (R401, R457), and a halt of the bay ends (R480). -/
def State.startScrub (s : State) (b code : Nat) (strips : List Nat) : State :=
  let v := s.bayAt b
  (s.ungate (strips.flatMap (fun k => tileDoms k ++ stackDoms k ++ eaveDoms k))).setBay b
    { v with resets := [], scrub := strips, afterScrub := code, fetchHold := setIns v.fetchHold 1, halted := false, stepLeft := 0 }

/-- The strips of a bay, in order. -/
def BayState.strips (v : BayState) : List Nat := (List.range v.count).map (fun i => v.first + i)

/-- A bay takes work again: its key is derived, and its BARs are live where its virtual function exists (R371, R412). -/
def State.bayResume (s : State) (b : Nat) : State :=
  let v := s.bayAt b
  (s.setBay b { v with resets := [], afterScrub := 0, fetchHold := setDel v.fetchHold 1, live := (s.fnAt b).exists_ }).deriveKey b

/-- The part of a repair in one strip; its entry and the items that it ended go with the first part. -/
def Repair.part (r : Repair) (k : Nat) (isFirst : Bool) : Repair :=
  { r with failed := r.failed.filter (fun f => f.1 / 6 == k), checked := r.checked.filter (fun c => c.1 / 6 == k),
           moved := r.moved.filter (fun m => m.1 / 6 == k), ended := if isFirst then r.ended else [], entry := if isFirst then r.entry else none }

/-- Two repairs of one owner are one: where they stand at different steps, their failed tiles are found again (R431). -/
def Repair.merge (x y : Repair) : Repair :=
  { failed := x.failed ++ y.failed, checked := x.checked ++ y.checked, step := if x.step = y.step then x.step else 2,
    moved := x.moved ++ y.moved, ended := (x.ended ++ y.ended).eraseDups, entry := x.entry.orElse (fun _ => y.entry) }

/-- The repairs under the present owners of their strips: a strip that has left its bay takes its repair with it (R426, R435). -/
def State.rekey (s : State) : State :=
  let parts (r : Repair) : List (Nat × Repair) :=
    let ks := (r.failed.map (fun f => f.1 / 6)).eraseDups
    ks.map (fun k => (s.repairKey k, r.part k (ks.head? == some k)))
  { s with repairs := (s.repairs.flatMap (fun p => parts p.2)).foldl (fun acc p =>
      tabSet acc p.1 (match tabFind acc p.1 with | some x => x.merge p.2 | none => p.2)) [] }

/-- The bay map entry of a bay. -/
def State.setMap (s : State) (b first count : Nat) : State :=
  (s.setBay b { s.bayAt b with first := if count = 0 then 0 else first, count := count }).rekey

/-- A bay ceases to exist: what is left of it are its set-up registers and its error vector. -/
def State.bayGone (s : State) (b : Nat) : State :=
  let s0 := (s.setTdi b .unlocked).flushRaises b
  let v := s0.bayAt b
  let strips := v.strips
  let s1 := (s0.setBay b { v with live := false, resets := [], stopping := false, scrub := [], afterScrub := 0, fetchHold := [], keySerial := none,
                                  halted := false, stepLeft := 0 }).setHeld b [] |>.setMap b 0 0
  s1.gate (strips.flatMap tileDoms)

/- The scrub of a strip (R401). -/

/-- A stack after a scrub: every line zero and valid; lane marks and row repairs are kept (R244). -/
def Stack.scrubbed (v : Stack) : Stack := { v.idle with poison := [], latent := [] }

/-- The stacks, scratchpads, accumulators, counters, gates, tables, eave engines and core queues of a strip (R401). -/
def State.scrubStrip (s : State) (k : Nat) : State :=
  let s1 := (s.setStack k (s.stackAt k).scrubbed).setStack (12 + k) (s.stackAt (12 + k)).scrubbed
  let lo := 336 * k
  { s1 with stackMem := memZero (memZero s1.stackMem (k * stackBytes) stackBytes) ((12 + k) * stackBytes) stackBytes,
            spadMem := memZero s1.spadMem (lo * spadBytes) (336 * spadBytes),
            spadPoison := s1.spadPoison.filter (fun l => l / 0x6000 / 336 != k),
            spadFlaws := s1.spadFlaws.filter (fun f => f.1 / 0x30000 / 336 != k),
            cores := s1.cores.filter (fun e => coreStrip e.1 != k) }

/-- What a scrub that covers a bay's first strip does beside the strips (R401): fences, retained buffers, windows. -/
def State.scrubBay (s : State) (b : Nat) : State :=
  let f := s.fnAt b
  let s1 := s.setFn b { f with queues := f.queues.map (fun p => (p.1, { p.2 with retained := [] })) }
  s1.setBay b { (s1.bayAt b).closeAll with fences := [], coll := { (s1.bayAt b).coll with lastSeq := [], held := [] } }

/-- The memory and link health records that a scrub writes (R401). -/
def State.scrubRecords (s : State) (b : Nat) : State := (s.memHealth b).linkHealth b

/- DEVICE_FATAL (R440). -/

/-- Write the records of a queue's leading completed items. -/
def State.flushQueue (fn q : Nat) : Nat → State → State
  | 0, s => s
  | n + 1, s => match (s.queueAt fn q).items with
    | it :: _ => if it.live then s else State.flushQueue fn q n (s.writeRecord fn q it)
    | [] => s

/-- Write every record that is due, whatever the ridge slots: the mode that only writes records (R440). -/
def State.flushAll (s : State) : State :=
  (List.range 13).foldl (fun t fn => (t.queuesOf fn).foldl (fun u p => u.flushQueue fn p.1 p.2.items.length) t) s

/-- The strips of a bay whose operation is abandoned go on with what a plain bay reset of it calls for (R404): its resets that wait for their
records are such, and a scrub goes on over the strips that it keeps. -/
def State.abandonBay (s : State) (b : Nat) : State :=
  let v := s.bayAt b
  let plain := v.resets.map (fun k => if k = 3 ∨ k = 4 then 1 else k)
  s.setBay b (if v.afterScrub = 2 ∨ v.afterScrub = 3 then { v with resets := plain, afterScrub := 8, scrub := v.scrub.filter (fun k => v.strips.contains k) }
    else { v with resets := plain })

/-- Undo a change that had not completed: the map is that of the last completed operation (R404). -/
def State.dropChange (s : State) : State :=
  match s.sec.change with
  | none => s
  | some c =>
    let s1 := { s with sec := { s.sec with change := none } }
    if c.stage = 0 then s1
    else c.before.foldl (fun t e =>
      let u := t.setMap e.1 e.2.1 e.2.2
      if e.2.2 = 0 then u.bayGone e.1 else u.abandonBay e.1) s1

/-- The images of a KIND, and the running one (R491). -/
def fwFactory (kind : Nat) : FwKind := { slotA := ⟨Config.fwDigest kind, Config.fwVersion kind, true⟩ }
def State.fwAt (s : State) (kind : Nat) : FwKind := tabGet s.sec.fw kind (fwFactory kind)
def FwKind.slot (k : FwKind) (n : Nat) : FwSlot := if n = 0 then k.slotA else k.slotB
def FwKind.run (k : FwKind) : FwSlot := if k.running = 0 then k.slotA else k.slotB

/-- A FIRMWARE record: KIND, outcome, old and new versions, the new digest (R499). -/
def State.fwLog (s : State) (kind outcome old : Nat) (new : FwSlot) : State :=
  s.lifeLog 7 (natLE 1 kind ++ natLE 1 outcome ++ natLE 2 old ++ natLE 2 new.version ++ natLE 2 0 ++ (natLE 48 new.digest.toNat).take 32)

/-- An activation is abandoned with its selector unchanged (R493), and a COLD_RESET of the sideband that waited for it is due; its FIRMWARE record carries one of the reasons of R485, and which is a
free value (log entry 45). -/
def State.dropActivation (s : State) : State :=
  match s.sec.activation with
  | none => s
  | some a =>
    let k := s.fwAt a.1
    ({ s.drawn with sec := { s.sec with activation := none },
                    dev := { s.dev with sideCold := false, coldCause := if s.dev.sideCold then some 3 else s.dev.coldCause } }).fwLog a.1 (1 + Config.openNat s.draws % 5) k.run.version (k.slot (1 - k.running))

/-- A column with its slip map rebuilt from its dead tiles: the first 56 live tiles take the logical rows, the others are
spares in ascending order (R437, R487). Of a column of more than four dead tiles, which retires, the map keeps the four northernmost
(log entry 74). -/
def Column.rebuilt (c : Column) : Column :=
  let live := (List.range 60).filter (fun f => !c.dead.contains f)
  let holes := (List.range 60).filter (fun f => !(live.take 56).contains f)
  { c with holes := holes.take 4, rank := live.drop 56, retired := decide (live.length < 56) }

/-- The slip maps of a strip's columns are rebuilt (R427, R437). -/
def State.rebuildStrip (s : State) (k : Nat) : State :=
  (List.range 6).foldl (fun t i => t.setColumn (6 * k + i) (t.columnAt (6 * k + i)).rebuilt) s

/-- Fetching that a RESTORE_STRIP stopped resumes: reason 3 of fetchHold (R437). -/
def State.releaseHolds (s : State) : State :=
  (List.range 12).foldl (fun t b => if (t.bayAt b).fetchHold.contains 3 then t.setBay b { t.bayAt b with fetchHold := setDel (t.bayAt b).fetchHold 3 } else t) s

/-- A RESTORE_STRIP is abandoned: the strip stays out of service and dark, with the maps of its columns rebuilt from the tiles that died in
its check (R17), and fetching resumes. -/
def State.dropRestore (s : State) : State :=
  match s.dev.restore with
  | some r =>
    let t := { s with dev := { s.dev with restore := none } }.releaseHolds
    if r.2.2.2 then (t.rebuildStrip r.1).gate (tileDoms r.1 ++ stackDoms r.1 ++ eaveDoms r.1) else t
  | none => s

/-- A repair is abandoned: its failed tiles stay dead (R425, R431). -/
def State.abandonRepairs (s : State) : State :=
  { s.repairs.foldl (fun t p => p.2.failed.foldl (fun u f => if f.2.2.1 then u else
      u.setColumn f.1 { u.columnAt f.1 with dead := setIns (u.columnAt f.1).dead f.2.1 }) t) s with repairs := [] }

/-- Every item of every function ends DEVICE_FATAL, and what ran is abandoned (R404, R431, R440, R493). The resets and stops of bays that
wait for their records keep waiting (R483). -/
def State.fatalEnds (s : State) : State :=
  let bays := s.ridgeCycle
  let s1 := bays.foldl (fun t b => t.landBay b) s
  let s2 := (List.range 13).foldl (fun t fn => t.endFn fn .deviceFatal false) s1
  let s3 := bays.foldl (fun t b => t.idleBay b .deviceFatal) s2
  let s4 := bays.foldl (fun t b => (t.flushRaises b).setHeld b []) s3.dropActivation
  ({ s4 with dev := { s4.dev with warmPending := false } }).abandonRepairs.dropRestore.dropChange

/-- Every item of every function ends BAY_RESET, and the engines stop; the records are written before the reset takes effect
(R483). The entries of operations that go on have ended. -/
def State.endAll (s : State) : State :=
  let bays := s.bays'
  let s1 := bays.foldl (fun (t : State) b => t.landBay b) s
  let s2 := (List.range 13).foldl (fun (t : State) fn => t.endFn fn .bayReset false) s1
  let s3 := bays.foldl (fun (t : State) b => (t.idleBay b .bayReset).resetKey b) s2
  let s4 := ((List.range 12).foldl (fun (t : State) b =>
    if t.bayExists b then t.setBay b { t.bayAt b with live := false, halted := false, stepLeft := 0, fetchHold := setIns (t.bayAt b).fetchHold 1 } else t) s3).dropActivation
  let change := s4.sec.change.map (fun (c : Change) => { c with entry := none })
  { s4 with sec := { s4.sec with change := change },
            repairs := s4.repairs.map (fun (r : Nat × Repair) => (r.1, { r.2 with entry := none })) }

/-- COLD_RESET: every item ends BAY_RESET, and the reset follows the records (R483). -/
def State.startCold (s : State) : State :=
  ({ s with dev := { s.dev with coldCause := some 3, sideCold := false } }.endAll).settle

/-- Which of two causes of DEVICE_FATAL keeps it in effect: one that a warm reset may leave, one that it may not, the loss of the main domains,
a trip (R484). -/
def FatalCause.rank : FatalCause → Nat
  | .selfCheck => 0 | .clockLoss => 1 | .regulator => 1 | .image => 1 | .shutdown => 2 | .thermalTrip => 3

/-- DEVICE_FATAL for a cause (R440, R484). Whether the ridge core restarts to write the records from the fetch mirror is a
free value; if it does not, the next device warm reset writes them. A shutdown writes none (R483). MOD_FAULT_N goes low (R524). A further cause
that keeps DEVICE_FATAL in effect longer takes the place of the first. -/
def State.deviceFatal (s : State) (cause : FatalCause) : State :=
  match s.dev.fatal with
  | some c => if c.rank < cause.rank then { s with dev := { s.dev with fatal := some cause } } else s
  | none =>
    let ends (fn : Nat) : Nat := ((List.range 13).filter (fun f => fn == pfFn || f == fn)).foldl (fun n f => n + (s.liveItems f).length) 0
    let s1 := s.fatalEnds
    let s2 := { s1 with dev := { s1.dev with fatal := some cause, faultN := true, selfCheckBad := false } }
    let s3 := if Config.outcome s2.draws && cause != .shutdown then s2.flushAll else s2
    s3.drawn.raiseAll ⟨0x70, 0, 0, 0, 0⟩ ends

end Sys2Proof.Machine
end

