-- ==== Sys2Proof/Machine/Bays.lean ====
section
/-! DEFINITION. Bays (chapter 18): nonces (R394), the bay map (R392, R393), approved changes (R395 to R404), the ends of bay
resets and scrubs (R400, R401, R412, R435). -/

namespace Sys2Proof.Machine

/- The bay map and the records of its changes (R392, R393). -/

/-- Is a strip in no bay and in service? -/
def State.stripFree (s : State) (k : Nat) : Bool := (s.stripOwner k).isNone && !s.dev.outOfService.contains k

/-- The byte of a strip in BAY_MAP: its bay, free 0xFF, out of service 0xFE. -/
def State.mapByte (s : State) (k : Nat) : Nat :=
  match s.stripOwner k with
  | some b => b
  | none => if s.dev.outOfService.contains k then 0xFE else 0xFF

/-- The 16 bytes of BAY_MAP (R393). -/
def State.mapBytes (s : State) : List Byte :=
  (List.range 12).flatMap (fun k => natLE 1 (s.mapByte k)) ++ natLE 1 (if s.dev.isolated then 1 else 0) ++ natLE 1 s.sec.lifecycle ++ natLE 2 0

/-- ADDRESS in space 0x4 and COUNT of one value, then reserved OPERANDS (R74, R393, R534). -/
def fixedCount (n : Nat) (e : List Byte) : Chk Unit := do
  adminHead e .unused false
  need (adAddr e / 2 ^ 60 == 4) .descriptorInvalid
  need (adCount e == n) .lengthRange
  need (allZero (bytesAt e 28 20)) .descriptorInvalid

/-- Write the bytes of an ADMIN item at its ADDRESS, then end it. -/
def State.adminWrite (s : State) (q : Nat) (it : Item) (bytes : List Byte) (act : State → State) : State :=
  match s.checkAt pfFn (adAddr it.entry) bytes.length with
  | some st => s.adminEnd q it.slot st 0
  | none => match s.writeAt ((s.queueAt pfFn q).agent pfFn) (adAddr it.entry) bytes with
    | (t, some st) => t.adminEnd q it.slot st 0
    | (t, none) => act t

/-- APPROVAL_NONCE: a fresh live nonce (R394). -/
def State.nonceDraw (s : State) (q : Nat) : State :=
  s.adminRun q 0x10 (fixedCount 48) (fun t it =>
    let n := Config.random384 t.draws
    t.drawn.adminWrite q it (natLE 48 n.toNat) (fun u =>
      let seq := u.sec.nonceSeq + 1
      { u with sec := { u.sec with liveNonce := some n, nonceSeq := seq } }.adminEnd q it.slot .ok seq))

/-- APPROVAL_NONCE (R394). -/
def execApprovalNonce (q : Nat) (s : State) : Host.Outcome State Fault Refusal := .next (s.nonceDraw q)

/-- NONCE_EXPIRY (R394). -/
def execNonceExpiry (s : State) : Host.Outcome State Fault Refusal := .next (if s.sec.liveNonce.isSome then { s.pend 240 with sec := { s.sec with liveNonce := none } } else s)

/-- BAY_MAP (R393). -/
def State.bayMapOut (s : State) (q : Nat) : State :=
  s.adminRun q 0x12 (fixedCount 16) (fun t it => t.adminWrite q it t.mapBytes (fun u => u.adminEnd q it.slot .ok 0))

/-- BAY_MAP (R393). -/
def execBayMap (q : Nat) (s : State) : Host.Outcome State Fault Refusal := .next (s.bayMapOut q)

/- The fit of a bay's resources (R402, R451). -/

/-- The left side of R451 with a bay at an envelope and strips of it taken or given: existing bays' envelopes, the
allowance, and 40 W for each free strip. -/
def State.powerSum (s : State) (bay : Nat) (env : Nat) (strips : List Nat) : Nat :=
  let others := ((List.range 12).filter (fun b => b != bay && s.bayExists b)).foldl (fun n b => n + (s.bayAt b).envelope) 0
  let free := (List.range 12).filter (fun k => !strips.contains k && !s.dev.outOfService.contains k &&
    (match s.stripOwner k with | none => true | some b => b == bay))
  others + env + bitsOf s.power.uncore.toNat 9 0 + 40 * free.length

/-- Do a bay's resource registers fit it (R402)? -/
def State.resourcesFit (s : State) (b : Nat) (strips : List Nat) : Bool :=
  let v := s.bayAt b
  let n := strips.length
  (v.envelope == 0 || decide (60 * n ≤ v.envelope ∧ v.envelope ≤ 300 * n)) &&
    (List.range 16).all (fun p => decide (((List.range 12).foldl (fun t c => t + (s.portAt p).slotsOf c) 0) ≤ 63)) &&
    (!s.dev.isolated || (v.share != 0 && v.envelope != 0 &&
      decide (s.powerSum b v.envelope strips ≤ bitsOf s.power.deviceCap.toNat 11 0)))

/- The approval block (R395). -/

def apOp (x : List Byte) : Nat := fieldAt x 5 1
def apForce (x : List Byte) : Bool := byteBit x 6 0
def apNonce (x : List Byte) : Nat := fieldAt x 16 48
def apParams (x : List Byte) : List Byte := bytesAt x 64 128

/-- Step 2 of R396. -/
def blockOk (x : List Byte) : Bool :=
  fieldAt x 0 4 == 0x41504C32 && fieldAt x 4 1 == 1 && fieldAt x 6 1 / 2 == 0 && fieldAt x 7 1 / 16 == 0 &&
    decide (1 ≤ apOp x ∧ apOp x ≤ 0x0B) && fieldAt x 8 8 == Config.deviceId.toNat

/-- The live key in a slot of a role (R399). -/
def State.liveKey (s : State) (role slot : Nat) : Option (List Byte) :=
  match tabFind s.sec.keys (role * 4 + slot) with
  | some (1, k) => some k
  | _ => none

/-- Steps 6 and 7 of R396: live and different keys, and both signatures. -/
def State.signaturesFail (s : State) (x : List Byte) : Option Nat :=
  match s.liveKey 0 (fieldAt x 7 1 % 4), s.liveKey 1 (fieldAt x 7 1 / 4 % 4) with
  | some a, some o =>
    if a = o then some 2
    else if Config.verifyP384 a (bytesAt x 0 192) (bytesAt x 192 96) && Config.verifyP384 o (bytesAt x 0 192) (bytesAt x 288 96)
    then none else some 3
  | _, _ => some 2

/-- PARAMS fields. -/
def paBay (p : List Byte) : Nat := fieldAt p 0 1
def paFirst (p : List Byte) : Nat := fieldAt p 1 1
def paCount (p : List Byte) : Nat := fieldAt p 2 1
def paStrips (p : List Byte) : List Nat := (List.range (paCount p)).map (fun i => paFirst p + i)

/-- The prime and the coefficient of the curve P-384, and whether a key x ‖ y, big-endian, is a point of it (R399). -/
def p384 : Nat := 2 ^ 384 - 2 ^ 128 - 2 ^ 96 + 2 ^ 32 - 1
def b384 : Nat := 0xB3312FA7E23EE7E4988E056BE3F82D19181D9C6EFE8141120314088F5013875AC656398D8A2ED19D2A85C8EDD3EC2AEF
def onCurve (key : List Byte) : Bool :=
  let x := leNat (bytesAt key 0 48).reverse
  let y := leNat (bytesAt key 48 48).reverse
  decide (x < p384 ∧ y < p384) && y * y % p384 == (x * x * x + (p384 - 3) * x + b384) % p384

/-- The legality of KEY_SLOT PARAMS (R397, R399). -/
def State.keySlotOk (s : State) (p : List Byte) : Bool :=
  let role := fieldAt p 0 1
  let slot := fieldAt p 1 1
  let key := bytesAt p 3 96
  let lives (r : Nat) : List Nat := (List.range 4).filter (fun i => (s.liveKey r i).isSome)
  decide (role ≤ 1 ∧ slot ≤ 3) && allZero (bytesAt p 99 29) &&
    (match fieldAt p 2 1 with
     | 0 => (tabFind s.sec.keys (role * 4 + slot)).isNone && onCurve key &&
         (List.range 8).all (fun i => s.liveKey (i / 4) (i % 4) != some key)
     | 1 => allZero key && (s.liveKey role slot).isSome && decide (2 ≤ (lives role).length)
     | _ => false)

/-- The fused floor of a measurement index 2 to 5, in the order of KIND (R397, R414). -/
def floorOf (bank : Nat) (kind : Nat) : Nat := bitsOf bank (16 * kind + 15) (16 * kind)

/-- Step 8 of R396: the PARAMS and precondition of an operation (R397). -/
def State.changeOk (s : State) (op : Nat) (p : List Byte) : Bool :=
  let b := paBay p
  let shape := decide (b ≤ 11 ∧ 1 ≤ paCount p ∧ paFirst p + paCount p ≤ 12) && allZero (p.drop 3)
  match op with
  | 1 => shape && !s.bayExists b && (s.fnAt b).exists_ && (paStrips p).all s.stripFree && s.resourcesFit b (paStrips p)
  | 2 => shape && s.bayExists b && (paStrips p).all (fun k => s.stripFree k || (s.ownsStrip b k && !s.dev.outOfService.contains k)) &&
      s.resourcesFit b (paStrips p)
  | 3 => s.bayExists b && allZero (p.drop 1)
  | 4 => decide (b ≤ 1) && allZero (p.drop 1)
  | 5 => s.bayExists b && allZero (p.drop 1)
  | 6 => (b == 12 || s.bayExists b) && decide (fieldAt p 1 1 ≤ 3) && allZero (p.drop 2)
  | 7 => decide (b ≤ 1) && allZero (bytesAt p 1 7) && allZero (p.drop 64) &&
      (List.range 4).all (fun k => decide (floorOf s.sec.floorBank.toNat k ≤ fieldAt p (8 + 2 * k) 2))
  | 8 => allZero (p.drop 1) &&
      ((b == 1 && s.sec.lifecycle == 0 && (List.range 4).any (fun i => (s.liveKey 0 i).isSome) &&
          (List.range 4).any (fun i => (s.liveKey 1 i).isSome)) || (b == 3 && s.sec.lifecycle == 1))
  | 9 => s.keySlotOk p
  | 10 => decide (b ≤ 1) && allZero (bytesAt p 1 7) && allZero (p.drop 40) &&
      (b == 0 || (List.range 4).all (fun k => decide (floorOf (Nat.lor s.sec.floorBank.toNat (fieldAt p 8 32)) k ≤ (s.fwAt k).run.version)))
  | _ => allZero (p.drop 48)

/-- Step 9 of R396: the locked bays that an operation affects (R398). -/
def State.affected (s : State) (op : Nat) (p : List Byte) : List Nat :=
  let every := (List.range 12).filter s.locked
  match op with
  | 2 | 3 | 5 => every.filter (fun b => b == paBay p)
  | 4 => if (paBay p == 1) = s.dev.nextMode.getD s.dev.isolated then [] else every
  | 6 => every.filter (fun b => b == paBay p && (s.bayAt b).debugLevel != fieldAt p 1 1)
  | 8 => if paBay p = 3 then every else []
  | _ => []

/-- The bays that are stopped before an operation applies: those it affects, and in decommissioning every bay (R398, R413). -/
def State.toStop (s : State) (op : Nat) (p : List Byte) : List Nat :=
  if op = 8 ∧ paBay p = 3 then s.ridgeCycle else s.affected op p

/-- Steps 3 to 9 of R396 on a block: the reason of the refusal. Step 4 consumes the nonce. -/
def State.approvalRefusal (s : State) (x : List Byte) : Option Nat :=
  if (s.sec.lifecycle = 3 ∧ apOp x ≠ 6) then some 7
  else match (if s.sec.lifecycle = 1 then s.signaturesFail x else none) with
    | some r => some r
    | none =>
      if s.changeOk (apOp x) (apParams x) = false then some 4
      else if s.affected (apOp x) (apParams x) != [] && !apForce x then some 5 else none

/-- A change ends: its entry completes with a status and RESULT. -/
def State.changeEnd (s : State) (st : Status) (result : Nat) : State :=
  match s.sec.change with
  | none => s
  | some c =>
    let s1 := { s with sec := { s.sec with change := none } }
    match c.entry with
    | some (q, slot) => s1.adminEnd q slot st result
    | none => s1

/- The ends of resets and scrubs. -/

/-- Contiguous runs of a list of ascending numbers. -/
def runsOf : List Nat → List (List Nat)
  | [] => []
  | k :: rest => match runsOf rest with
    | (j :: r) :: more => if j = k + 1 then (k :: j :: r) :: more else [k] :: (j :: r) :: more
    | other => [k] :: other

/-- The run that a bay keeps: the longest, the lower of equals (R435). -/
def keptRun (ks : List Nat) : List Nat := (runsOf ks).foldl (fun best r => if best.length < r.length then r else best) []

/-- STRIP_RETIRED for a lost strip of a bay: in the bay, and in the PF (R435). -/
def State.retiredEvent (s : State) (b first : Nat) (e : Nat × Nat × Nat) : State :=
  let s1 := if s.bayExists b then s.raiseIn b ⟨0x25, e.1 - first, 0, e.2.1, e.2.2⟩ else s
  s1.raiseIn pfFn ⟨0x25, e.1, 0, e.2.1, e.2.2⟩

/- Destinations and rings after a change of a bay's strips or ports (R512, R517). -/

/-- A refusal, or a lost destination, in SETUP_STATUS: the first is described, a further one sets OVERRUN (R502). -/
def FnState.refuse (f : FnState) (reason off : Nat) : FnState :=
  if bitOf f.setupStatus.toNat 31 then { f with setupStatus := f.setupStatus ||| 0x40000000#32 }
  else { f with setupStatus := (f.setupStatus &&& 0x40000000#32) ||| BitVec.ofNat 32 (2 ^ 31 + reason * 2 ^ 24 + off % 2 ^ 24) }
def State.setupRefuse (s : State) (fn reason off : Nat) : State := s.setFn fn ((s.fnAt fn).refuse reason off)

/-- Does an enabled destination fail R33 for a length? -/
def State.destLost (s : State) (b : Nat) (v : BitVec 64) (len : Nat) : Bool :=
  match destOf v with | none => false | some a => (s.checkAt b a len).isSome

/-- A destination with EN = 0. -/
def destOff (v : BitVec 64) : BitVec 64 := v &&& ~~~1#64

/-- The ring of an error vector lies outside the bay. -/
def State.ringLost (s : State) (b : Nat) : Bool :=
  let e := (s.fnAt b).err
  let lg := bitsOf e.cfg.toNat 24 20
  lg != 0 && (s.checkAt b e.base.toNat (64 * 2 ^ lg)).isSome

/-- A bay's destinations and its error ring are checked again; those that fail are disabled, with DEST_LOST. -/
def State.destRecheck (s : State) (b : Nat) : State :=
  let v := s.bayAt b
  let s1 := if s.destLost b v.memHealthDest (128 * v.count) then
    (s.setBay b { v with memHealthDest := destOff v.memHealthDest }).setupRefuse b 6 0x18 else s
  let s2 := if s.destLost b v.linkHealthDest (64 * (s.bayPorts b).length) then
    (s1.setBay b { s1.bayAt b with linkHealthDest := destOff v.linkHealthDest }).setupRefuse b 6 0x20 else s1
  let s3 := if s.destLost b v.powerDest 64 then
    (s2.setBay b { s2.bayAt b with powerDest := destOff v.powerDest }).setupRefuse b 6 0x28 else s2
  if s.ringLost b then
    let f := s3.fnAt b
    (s3.setFn b { f with err := { f.err with cfg := f.err.cfg &&& 0x800FFFFF#32 } }).setupRefuse b 6 0x5000
  else s3

/-- The lost strips of a bay that wait for its reset: the rest of the device without them, and STRIP_RETIRED for each (R435). -/
def State.lostOf (s : State) (b : Nat) : List (Nat × Nat × Nat) := s.sec.strips.filter (fun e => s.ownsStrip b e.1)
def State.takeLost (s : State) (b : Nat) : State := { s with sec := { s.sec with strips := s.sec.strips.filter (fun e => !s.ownsStrip b e.1) } }
def State.tellLost (s : State) (b first : Nat) (lost : List (Nat × Nat × Nat)) : State := lost.foldl (fun t e => t.retiredEvent b first e) s

/-- A bay after the reset of a strip loss: its new map, STRIP_RETIRED, and the scrub; a bay left with no strip is scrubbed and destroyed as
BAY_DESTROY destroys it (R435). -/
def State.stripLossMap (s : State) (b : Nat) : State :=
  let v := s.bayAt b
  let lost := s.lostOf b
  let keep := keptRun (v.strips.filter (fun k => !s.dev.outOfService.contains k))
  let s1 := s.takeLost b
  if keep = [] then (s1.tellLost b v.first lost).startScrub b 9 v.strips
  else
    let s2 := ((s1.setMap b (keep.headD 0) keep.length).destRecheck b).tellLost b v.first lost
    (s2.gate ((v.strips.filter (fun k => !keep.contains k)).flatMap tileDoms)).startScrub b 8 (keep ++ lost.map (·.1))

/-- The configuration space of a function after its reset, as PCIe requires (R371). -/
def FnState.configReset (f : FnState) : FnState :=
  { f with ats := false, pasidEnable := false, busMaster := false, memSpace := false, msixEnable := false, functionMask := false,
           msixTab := [], msixOpen := [], msixPending := [] }
def State.configReset (s : State) (fn : Nat) : State := s.setFn fn (s.fnAt fn).configReset

/-- The PARAMS of the change in progress. -/
def State.changeParams (s : State) : List Byte := match s.sec.change with | some c => c.params | none => []

/-- A bay takes the strips of its BAY_RESIZE, and the strips that it held or takes are scrubbed (R400). One of its own that was lost
while the items ended is told, and scrubbed with them. -/
def State.takeSize (s : State) (b : Nat) : State :=
  let v := s.bayAt b
  let p := s.changeParams
  let strips := (List.range 12).filter (fun k => v.strips.contains k || (paStrips p).contains k)
  (((s.takeLost b).setMap b (paFirst p) (paCount p)).destRecheck b).tellLost b v.first (s.lostOf b) |>.startScrub b 2 strips

/-- What follows the resets and stops of a bay that has its state of R482: the scrub and the map that they call for, or none. A
BAY_DESTROY goes on whatever else came; a BAY_RESIZE does unless a strip that it takes is lost; a strip loss governs the rest (R404,
R435). -/
def State.afterResets (s : State) (b : Nat) (kinds : List Nat) : State :=
  let v := s.bayAt b
  let lostNew := (paStrips s.changeParams).any (fun k => s.dev.outOfService.contains k)
  if kinds.contains 4 then s.startScrub b 3 v.strips
  else if kinds.contains 3 && !lostNew then s.takeSize b
  else
    let t := if kinds.contains 3 then s.changeEnd .adminRefused 4 else s
    if kinds.contains 2 then t.stripLossMap b
    else if kinds.contains 5 then t.startScrub b 7 v.strips
    else if v.scrub != [] then t.setBay b { t.bayAt b with resets := [] }
    else if s.locked b then t.startScrub b 6 v.strips
    else t.bayResume b

/-- The resets and stops of a bay take effect once every record of its items has been written (R483), and what reached the ridge for the bay
before them has acted in its slot (R406, R501). -/
def State.finishReset (s : State) (b : Nat) : State :=
  let v := s.bayAt b
  if v.resets = [] || s.heldAt b != [] || (s.queuesOf b).any (fun p => p.2.items != []) then s
  else
    let t := if v.flr then (s.configReset b).setBay b { v with flr := false } else s
    (t.resetBy b (resetCount v.resets)).afterResets b v.resets

/-- Every reset that waited for its records takes effect. -/
def State.finishResets (s : State) : State := (List.range 12).foldl (fun t b => t.finishReset b) s

/-- The counts of a stack's health record at 0, at bay creation (R252). -/
def Stack.restart (v : Stack) : Stack :=
  { v with corrected := 0, innerCorrected := 0, uncorrectable := 0, softRepairs := 0, scrubProgress := 0, scrubPasses := 0, lastPoison := none }
def State.restartStacks (s : State) (ks : List Nat) : State := ks.foldl (fun t k => t.setStack k (t.stackAt k).restart) s

/-- The counts of a bay's link health records begin again at the present counts of some ports (R350). -/
def State.linkRestart (s : State) (b : Nat) (ps : List Nat) : State :=
  s.setBay b { s.bayAt b with linkBase := ps.foldl (fun l p => tabSet l p (s.portAt p).counts) (s.bayAt b).linkBase }

/-- A bay's operating point at its creation (R446, R452). -/
def State.startAclk (s : State) (b : Nat) : Nat := if s.power.causes = [] then min (s.bayAt b).aclkSet (s.pointLimit b) else 600

/-- A bay is created once its scrub is done (R400, R401, R403). Its set-up registers are as they stand (R520). -/
def State.bayCreated (s : State) (b : Nat) : State :=
  let f := s.fnAt b
  let s1 := s.setFn b { f with err := { f.err with seq := 0, history := [], dropped := 0, counts := [] } }
  let s3 := (s1.restartStacks (s1.bayStacks b)).linkRestart b (List.range 16)
  let v := s3.bayAt b
  let s4 := s3.setBay b
    { v with resetGen := 0, debugLevel := 0, tdi := .unlocked, boundStream := 0, halted := false, stepLeft := 0, violation := false,
             violations := 0, energy := 0, stretches := 0, peak := 0, powSum := 0, powTicks := 0, throttle := 0,
             heldDown := if s.power.causes = [] then [] else [5], aclk := s.startAclk b, aclkTarget := none, coll := {} }
  let s5 := ((s4.setHeld b []).scrubRecords b).powerRecord b
  let s6 := (s5.bayResume b).raiseIn b ⟨0x01, 0, 0, 0, 0⟩
  if s6.power.causes = [] then s6.violate b 6 else s6

/-- The stacks that a bay did not hold before the change in progress. -/
def State.takenStacks (s : State) (b : Nat) : List Nat :=
  let old (k : Nat) : Bool := match s.sec.change with
    | some c => c.before.any (fun e => e.1 == b && decide (e.2.1 ≤ k ∧ k < e.2.1 + e.2.2))
    | none => true
  (s.bayStacks b).filter (fun k => !old (stackStrip k))

/-- A LOCK is done: CONFIG_LOCKED, its answer with the nonce. A bound stream that is Insecure by now stops the bay (R386, R389). -/
def State.lockDone (s : State) (b : Nat) : State :=
  let n := Config.random384 s.draws
  let s1 := (s.dropKey b).drawn
  let s2 := ((s1.setBay b { s1.bayAt b with lockNonce := n }).bayResume b).setTdi b .locked
  let s3 := s2.respond (tdispDone 0x03 b 0 (natLE 48 n.toNat))
  if (tabGet s3.spdm.ide (s3.bayAt b).boundStream {}).secure then s3 else s3.securityStop b false

/-- What follows a bay's scrub of a code, beside its records. The counts of stacks that a BAY_RESIZE takes begin at 0 (R251). -/
def State.scrubbedAs (s : State) (b code : Nat) : State :=
  match code with
  | 1 => (s.bayCreated b).changeEnd .ok 0
  | 2 =>
    let free := (List.range 12).filter (fun k => (s.stripOwner k).isNone)
    ((((s.gate (free.flatMap tileDoms)).restartStacks (s.takenStacks b)).scrubRecords b).bayResume b).changeEnd .ok 0
  | 3 => ((s.scrubRecords b).bayGone b).changeEnd .ok 0
  | 4 => (s.scrubRecords b).lockDone b
  | 9 => (s.scrubRecords b).bayGone b
  | 6 => ((s.scrubRecords b).bayResume b).setTdi b .unlocked
  | _ => (s.scrubRecords b).bayResume b

/-- Strips out of service that no RESTORE_STRIP tests. -/
def State.darkStrips (s : State) : List Nat :=
  s.dev.outOfService.filter (fun k => match s.dev.restore with | some r => !(r.1 == k && r.2.2.2) | none => true)

/-- What follows a bay's scrub, once its last strip is done: the strips that are lost are gated again. -/
def State.finishScrub (s : State) (b : Nat) : State :=
  let s1 := (s.scrubBay b).gate (s.darkStrips.flatMap (fun k => tileDoms k ++ stackDoms k ++ eaveDoms k))
  s1.answerStop b (fun t => t.scrubbedAs b (s.bayAt b).afterScrub)

/- The course of a change (R398, R404). -/

/-- The strips that a bay operation concerns. -/
def State.changeStrips (s : State) (c : Change) : List Nat :=
  (if [1, 2].contains c.operation then paStrips c.params else []) ++
    (if [2, 3].contains c.operation then (s.bayAt (paBay c.params)).strips else [])

/-- Must a change wait: for a stop's scrub, a repair in its strips, or a firmware activation? -/
def State.changeWaits (s : State) (c : Change) : Bool :=
  c.stops.any (fun b => s.bayBusy b) || s.sec.activation.isSome ||
    ([2, 3].contains c.operation && s.bayBusy (paBay c.params)) ||
    s.repairs.any (fun r => (s.changeStrips c).any (fun k => r.1 == 16 + k || (match s.stripOwner k with | some b => r.1 == b | none => false)))

/-- Device and bay debug levels, policy, fuses and keys that an operation sets (R397). -/
def State.changeApply (s : State) (op : Nat) (p : List Byte) : State :=
  let x := s.sec
  match op with
  | 4 => { s with dev := { s.dev with nextMode := some (paBay p == 1) } }
  | 6 => if paBay p = 12 then { s with dev := { s.dev with debugLevel := fieldAt p 1 1 } }
      else s.setBay (paBay p) { s.bayAt (paBay p) with debugLevel := fieldAt p 1 1 }
  | 7 => { s with sec := { x with policy := bytesAt p 0 64 } }
  | 8 => if paBay p = 1 then { s with sec := { x with lifecycle := 1 } }
      else
        let t := s.ridgeCycle.foldl (fun u b => u.bayGone b) s
        { t with sec := { t.sec with lifecycle := 3, deviceIdKeyDisabled := true } }
  | 9 => let k := fieldAt p 0 1 * 4 + fieldAt p 1 1
      { s with sec := { x with keys := tabSet x.keys k (if fieldAt p 2 1 = 0 then (1, bytesAt p 3 96) else (2, (tabGet x.keys k (2, [])).2)) } }
  | 10 => if paBay p = 0 then { s with sec := { x with operatorBank := x.operatorBank ||| BitVec.ofNat 256 (fieldAt p 8 32) } }
      else { s with sec := { x with floorBank := x.floorBank ||| BitVec.ofNat 256 (fieldAt p 8 32) } }
  | 11 => { s with sec := { x with certAuth := some (BitVec.ofNat 384 (fieldAt p 0 48)) } }
  | _ => s

/-- A change whose stops are done and that need not wait is applied (R398 to R404). -/
def State.changeProgress (s : State) : State :=
  match s.sec.change with
  | none => s
  | some c =>
    if c.stage ≠ 0 || s.changeWaits c then s
    else
      let p := c.params
      let b := paBay p
      let v := s.bayAt b
      if [1, 2, 3].contains c.operation && !s.changeOk c.operation p then s.changeEnd .adminRefused 4
      else
        let s1 := { s with sec := { s.sec with change := some { c with stage := 1, before := [(b, v.first, v.count)] } } }
        match c.operation with
        | 1 => (s1.setMap b (paFirst p) (paCount p)).startScrub b 1 (paStrips p)
        | 2 => s1.bayReset b 3
        | 3 => s1.bayReset b 4
        | 4 => (s1.changeApply 4 p).changeEnd .ok (if s.dev.nextMode.getD s.dev.isolated then 1 else 0)
        | op => (s1.changeApply op p).changeEnd .ok 0

/-- The BAY_RESET entries whose bay's reset is done: PF queue, slot and the items ended. -/
def State.resetEntries (s : State) : List (Nat × Nat × Nat) :=
  (s.queuesOf pfFn).flatMap (fun p => (p.2.items.filter (fun it =>
    it.st == .waiting && enType it.entry == 7 && adOp it.entry == 0x24 && !s.bayBusy (adBay it.entry))).map (fun it => (p.1, it.slot, it.moved)))

/-- What waited takes its course: resets whose records are written, the change that they held back, its own resets, and the
BAY_RESET entries whose reset is done (R485). -/
def State.tail (s : State) : State :=
  let s1 := s.finishResets.changeProgress.finishResets
  s1.resetEntries.foldl (fun (t : State) e => t.adminEnd e.1 e.2.1 .ok e.2.2) s1

/-- The scrub of a bay's present strip finishes; a repair of the bay, or of the strip, holds it (R401, R431). -/
def State.scrubStep (s : State) (b : Nat) : State :=
  let v := s.bayAt b
  match v.scrub with
  | [] => s
  | k :: rest =>
    if s.dev.fatal.isSome || v.resets != [] || s.repairs.any (fun r => r.1 == b || r.1 == 16 + k) then s
    else
      let s1 := (s.scrubStrip k).setBay b { v with scrub := rest }
      if rest = [] then (s1.finishScrub b).tail else s1

/- APPROVED_CHANGE (R395 to R397). -/

/-- The fields of an APPROVED_CHANGE entry: step 1 of R396. DESIGN CHOICE (log entry 79): the reserved OPERANDS are checked before COUNT. -/
def approvedCheck (e : List Byte) : Chk Unit := do
  adminHead e .unused false
  need (allZero (bytesAt e 28 20)) .descriptorInvalid
  need (adCount e == 384) .lengthRange
  need (adAddr e / 2 ^ 60 == 4) .descriptorInvalid

/-- Does a block's OPERATION make it this command's? A block that names no operation is any command's to refuse. -/
def blockIs (op : Nat) (x : List Byte) : Bool := apOp x == op || !decide (1 ≤ apOp x ∧ apOp x ≤ 0x0B)

/-- Steps 3 to 9 of R396, and the start of the operation. -/
def State.approved (s : State) (q : Nat) (it : Item) (x : List Byte) : State :=
  if s.sec.change.isSome then s.adminEnd q it.slot .adminRefused 6
  else if s.sec.liveNonce.map (·.toNat) ≠ some (apNonce x) then s.adminEnd q it.slot .adminRefused 1
  else
    let s1 := { s with sec := { s.sec with liveNonce := none } }
    match s1.approvalRefusal x with
    | some r => s1.adminEnd q it.slot .adminRefused r
    | none =>
      let stops := s1.toStop (apOp x) (apParams x)
      let c : Change := ⟨apOp x, apParams x, some (q, it.slot), 0, stops, []⟩
      let s2 := { s1 with sec := { s1.sec with change := some c } }.updItem pfFn q it.slot (fun i => { i with st := .waiting })
      (stops.foldl (fun t b => t.securityStop b false) s2).tail

/-- The block that the next APPROVED_CHANGE of a queue names, if it can be read. -/
def State.nextBlock (s : State) (q : Nat) : Option (List Byte) :=
  match s.adminItem q 0x11 with
  | none => none
  | some it => match s.readAt ((s.queueAt pfFn q).agent pfFn) (adAddr it.entry) 384 with
    | .ok x => some x
    | .error _ => none

/-- An APPROVED_CHANGE of one operation runs; one whose block fails before its operation is known is any command's. -/
def State.approve (s : State) (q op : Nat) : State :=
  if (match s.nextBlock q with | some x => blockIs op x | none => true) then
    s.adminRun q 0x11 approvedCheck (fun t it =>
      match t.readAt ((t.queueAt pfFn q).agent pfFn) (adAddr it.entry) 384 with
      | .error st => t.drawn.adminEnd q it.slot st 0
      | .ok x => if blockOk x then t.drawn.approved q it x else t.drawn.adminEnd q it.slot .descriptorInvalid 0)
  else s

/-- BAY_CREATE (R397, R400). -/
def execBayCreate (q : Nat) (s : State) : Host.Outcome State Fault Refusal := .next (s.approve q 0x01)

/-- BAY_RESIZE (R397, R400). -/
def execBayResize (q : Nat) (s : State) : Host.Outcome State Fault Refusal := .next (s.approve q 0x02)

/-- BAY_DESTROY (R397, R400). -/
def execBayDestroy (q : Nat) (s : State) : Host.Outcome State Fault Refusal := .next (s.approve q 0x03)

/-- SET_MODE (R397, R405). -/
def execSetMode (q : Nat) (s : State) : Host.Outcome State Fault Refusal := .next (s.approve q 0x04)

/-- RELEASE_LOCK (R398). -/
def execReleaseLock (q : Nat) (s : State) : Host.Outcome State Fault Refusal := .next (s.approve q 0x05)

/-- SET_DEBUG (R397, R416). -/
def execSetDebug (q : Nat) (s : State) : Host.Outcome State Fault Refusal := .next (s.approve q 0x06)

/-- SET_POLICY (R397). -/
def execSetPolicy (q : Nat) (s : State) : Host.Outcome State Fault Refusal := .next (s.approve q 0x07)

/-- LIFECYCLE (R397, R413). -/
def execLifecycleChange (q : Nat) (s : State) : Host.Outcome State Fault Refusal := .next (s.approve q 0x08)

/-- KEY_SLOT (R399). -/
def execKeySlot (q : Nat) (s : State) : Host.Outcome State Fault Refusal := .next (s.approve q 0x09)

/-- FUSE_WRITE (R397). -/
def execFuseWrite (q : Nat) (s : State) : Host.Outcome State Fault Refusal := .next (s.approve q 0x0A)

/-- CERTIFICATE (R397). -/
def execCertificate (q : Nat) (s : State) : Host.Outcome State Fault Refusal := .next (s.approve q 0x0B)

/-- CERTIFICATE_AUTHORISATION_EXPIRY (R397). -/
def execCertificateExpiry (s : State) : Host.Outcome State Fault Refusal := .next { s with sec := { s.sec with certAuth := none } }

end Sys2Proof.Machine
end

