-- ==== Sys2Proof/Machine/FarPort.lean ====
section
/-! DEFINITION. Faref ports (R326 to R335): training and widths, lanes, the receiving side of the link layer with its
replay, hold times, and what losing a link ends (R349, R364). -/

namespace Sys2Proof.Machine

/- Widths (R330). -/

/-- The physical lane of a logical lane under a failed lane. -/
def physLane (f : Option Nat) (l : Nat) : Nat := match f with | none => l | some f => if l < f then l else l + 1

/-- Is a group of logical lanes clean under a failed lane? -/
def groupClean (mask : Nat) (f : Option Nat) (first width : Nat) : Bool :=
  (List.range width).all (fun i => bitOf mask (physLane f (first + i)))

/-- The groups of R330 in their order: width and first logical lane. -/
def laneGroups : List (Nat × Nat) := [(16, 0), (8, 0), (8, 8), (4, 0), (4, 4), (4, 8), (4, 12)]

/-- The width, first lane and failed lane that a mask of lanes clean in both directions gives, up to a width (R330). A lane that the map
replaces is one that is not clean. -/
def pickWidth (mask limit : Nat) : Option (Nat × Nat × Option Nat) :=
  let failed := (none :: (List.range 16).map some).filter (fun f => match f with | none => true | some l => !bitOf mask l)
  (laneGroups.filter (fun g => decide (g.1 ≤ limit))).findSome? (fun g => (failed.find? (fun f => groupClean mask f g.2 g.1)).map (fun f => (g.1, g.2, f)))

/- State changes. -/

/-- A port as it enters DOWN: buffers, sequence numbers and messages are gone (R335). -/
def Port.lost (q : Port) : Port :=
  { q with st := .down, width := 0, spared := none, group := 0, badLanes := [], precode := 0, marginal := 0, partnerId := 0xFF, partnerDevice := 0, partnerPort := 0, partnerRoot := false,
           txSeq := 0, ackSeq := 0, rxSeq := 0, nakOut := false, resends := 0, replay := [], credits := [0, 0, 0, 0],
           creditRet := [0, 0, 0, 0], flight := [[], [], [], []], txq := [[], [], [], []], txPos := [0, 0, 0, 0], turn := false, framePos := 0,
           rxPart := [[], [], [], []], frame := none, rxMsgs := [[], [], [], []], rxFlits := 0, rxWords := [] }

/-- The tree loses a port (R346, R347). -/
def State.treeLoses (s : State) (p : Nat) : State :=
  let f := s.fabric
  let s1 := { s with fabric := { f with toVisit := f.toVisit.filter (fun x => x != p), children := f.children.filter (fun c => c.1 != p),
                                        awaiting := if f.awaiting = some p then none else f.awaiting,
                                        parent := if f.parent = some p then none else f.parent } }
  let s2 := if f.parent = some p then s1.partLost none else s1
  let s3 := match f.children.find? (fun c => c.1 == p) with
    | some c => s2.detached c.2
    | none => s2
  if f.awaiting = some p then (State.walkNext 17 s3).walkIfDue else s3

/-- A port enters DOWN (R335, R349, R364). -/
def State.portDown (s : State) (p : Nat) : State :=
  let hit := s.collsWith (fun c j q d => c.openWith j && (q == p || s.route d == some p))
  let owners := (s.portAt p).reqs.map (·.owner) ++ (s.portAt p).spans.map (·.owner)
  let ends := (owners ++ hit.map (fun x => ReqOwner.coll x.1 x.2.1 x.2.2)).filterMap s.ownerItem
  let s0 := s.portEvWith p 0x43 (s.itemsEnded ends)
  let s1 := s0.setPort p { (s0.portAt p).lost with reqs := [], spans := [] }
  ((s1.failOwners owners .linkLost).collsLost hit).treeLoses p

/-- A port enters RETRAINING (R331, R333). -/
def State.portRetrains (s : State) (p : Nat) : State :=
  (s.setPort p { s.portAt p with st := .retraining, retrains := (s.portAt p).retrains + 1 }).portEv p 0x42

/-- A link that has come UP meets the fabric: two roots, or a partner to reach (R344, R346). -/
def State.linkMeets (s : State) (p : Nat) : State :=
  let q := s.portAt p
  if s.fabric.isRoot && q.partnerRoot then
    let s1 := s.idEvent
    if q.partnerDevice.toNat < deviceNat then { s1 with fabric := { s1.fabric with isRoot := false, rewalk := false } } else s1.askWalk
  else s.newLink

/-- The TRAIN flit that this device sends (R329), with its root flags of R348, FABRIC_ROOT and ROOT_CANDIDATE: the order of its fields is the
model's (log entry 31). -/
def State.trainFlit (s : State) (p : Nat) (x : Exchange) : List Byte :=
  flitOf 3 0 0 0 0 [0, 0, 0, 0] (natLE 8 deviceNat ++ natLE 1 s.fabric.id ++ natLE 1 s.fabric.prevId ++
    natLE 1 (s.fabric.ctrl.toNat / 2 % 2 + s.fabric.ctrl.toNat % 2 * 2) ++ natLE 1 p ++ natLE 4 x.localMask ++ natLE 4 x.precode)

/-- A port that has exchanged TRAIN flits knows its partner, a root where its FABRIC_ROOT is 1 (R344), and the precoded lanes. -/
def Port.meets (q : Port) (x : Exchange) : Port :=
  { q with partnerId := x.fabricId % 256, partnerDevice := BitVec.ofNat 64 x.device, partnerPort := x.port, partnerRoot := bitOf x.root 0, precode := x.precode }

/-- A link has trained at a width: one that is below its widest so far has narrowed, and keeps the width as its limit (R330). -/
def Port.widened (q : Port) (w : Nat) : Port := { q with peak := max q.peak w, limit := if w < q.peak then min w q.limit else q.limit }

/-- Both ends are this device: the port enters SELF (R329). -/
def State.portSelf (s : State) (p : Nat) (x : Exchange) : State :=
  (s.setPort p { (s.portAt p).meets x with st := .self, partnerId := s.fabric.id }).portEv p 0x45

/-- Training ends (R328 to R330): SELF, UP at the widest usable width, or DOWN. A link that has narrowed keeps its width until a link
reset. -/
def State.trained (s : State) (p : Nat) (x : Exchange) : State :=
  let q0 := s.portAt p
  if q0.st != .training then s
  else
    let q := { q0 with sent := q0.sent ++ [s.trainFlit p x] }
    let s0 := s.setPort p q
    if x.device = deviceNat then s0.portSelf p x
    else match pickWidth (Nat.land x.mask x.localMask) q.limit with
      | none => (s0.setPort p q.lost).pend (80 + p)
      | some (w, g, f) =>
        ((s0.setPort p ({ q.lost.meets x with st := .up, width := w, group := g, spared := f, credits := [1024, 1024, 1536, 64] }.widened w)).portEv p
          0x44).linkMeets p

/-- PORT_TRAINING (R328). The partner's previous ID only matters to the root, which hears it in the walk. -/
def execPortTraining (port device fabricId _prevId root partnerPort : Nat) (lanes : TrainLanes) (localMask : Nat) (s : State) :
    Host.Outcome State Fault Refusal :=
  .next (s.trained port ⟨device, fabricId, root, partnerPort, lanes.mask, localMask, lanes.precode⟩)

/-- Training starts at a port; without the Faref reference the port is DOWN until it is there (R528). -/
def State.startTraining (s : State) (p : Nat) : State :=
  (s.setPort p { s.portAt p with st := if s.dev.fref then .training else .down }).pend (80 + p)

/-- TRAINING_RETRY (R329): a DOWN port trains again. -/
def execTrainingRetry (port : Nat) (s : State) : Host.Outcome State Fault Refusal :=
  .next (if (s.portAt port).st == .down then s.startTraining port else s)

/-- The idle spare replaces a lane: the event, and the lifetime record (R331, R499). -/
def State.spareLane (s : State) (p lane : Nat) : State :=
  ((s.setPort p { s.portAt p with spared := some lane }).portEv p 0x40).lifeLog 6
    (natLE 1 p ++ natLE 1 1 ++ natLE 1 lane ++ natLE 1 (s.portAt p).width)

/-- The width of a link falls: the event, and the lifetime record (R331, R499). -/
def State.narrowed (s : State) (p width : Nat) : State := (s.portEv p 0x41).lifeLog 6 (natLE 1 p ++ natLE 1 2 ++ natLE 1 0 ++ natLE 1 width)

/-- Is a port's spare lane idle and fit to use? -/
def Port.spareIdle (q : Port) : Bool := q.spared.isNone && !q.badLanes.contains 16

/-- LANE_MARGINAL (R331): the idle spare replaces the lane; with the spare in use the lane is counted. -/
def State.laneMarginal (s : State) (p lane : Nat) : State :=
  let q := s.portAt p
  if q.st != .up || decide (16 < lane) then s
  else if q.spareIdle then
    if lane = 16 then s else (s.setPort p { q with badLanes := setIns q.badLanes lane }).spareLane p lane
  else s.setPort p { q with marginal := q.marginal + 1 }

/-- LANE_MARGINAL (R331). -/
def execLaneMarginal (port lane : Nat) (s : State) : Host.Outcome State Fault Refusal := .next (s.laneMarginal port lane)

/-- LANE_LOST (R331, R438): the port retrains, and an idle spare replaces the lane. The loss of the idle spare itself disturbs nothing. -/
def State.laneLost (s : State) (p lane : Nat) : State :=
  let q := s.portAt p
  if q.st != .up || decide (16 < lane) then s
  else
    let s1 := s.setPort p { q with badLanes := setIns q.badLanes lane }
    if lane = 16 ∧ q.spared.isNone then s1
    else if q.spareIdle then (s1.portRetrains p).spareLane p lane
    else s1.portRetrains p

/-- LANE_LOST (R331). -/
def execLaneLost (port lane : Nat) (s : State) : Host.Outcome State Fault Refusal := .next (s.laneLost port lane)

/- Replay (R333). -/

/-- The flits of the replay buffer from a sequence number on. -/
def Port.resendFrom (q : Port) (seq : Nat) : List (List Byte) :=
  ((q.replay.dropWhile (fun r => r.1 != seq)).map (·.2))

/-- The sender resends from a sequence number; after the sixteenth time without progress the port retrains. -/
def State.resend (s : State) (p seq : Nat) : State :=
  let q := s.portAt p
  let out := q.resendFrom seq
  if out = [] then s
  else
    let s1 := s.setPort p { q with sent := q.sent ++ out, resends := q.resends + 1 }
    if 16 ≤ q.resends + 1 then s1.portRetrains p else s1

/-- The sender takes an ACK: flits before it leave the replay buffer. -/
def Port.acked (q : Port) (ack : Nat) : Port :=
  let rest := q.replay.dropWhile (fun r => r.1 != ack)
  let keep := if ack = q.txSeq then [] else if rest = [] then q.replay else rest
  if keep.length < q.replay.length then { q with replay := keep, ackSeq := ack, resends := 0 } else q

/-- Credits come back, of the oldest flits in flight (R334, log entry 63). -/
def Port.credited (q : Port) (f : List Byte) : Port :=
  { q with credits := (List.range 4).map (fun v => q.credits.getD v 0 + fieldAt f (6 + v) 1),
           flight := (List.range 4).map (fun v => (q.flight.getD v []).drop (fieldAt f (6 + v) 1)) }

/-- The receiver meets a bad flit: one NAK, and DATA is discarded until the expected number comes. -/
def State.rxBad (s : State) (p : Nat) : State :=
  let q := s.portAt p
  if q.nakOut then s
  else s.setPort p { q.sendBare 2 q.rxSeq with nakOut := true, replays := q.replays + 1 }

/-- Is a flit whole, its CRC right and its FTYPE one of R332? -/
def flitGood (f : List Byte) : Bool :=
  f.length == 256 && fieldAt f 252 4 == crc32c (bytesAt f 0 252) && decide (fieldAt f 0 1 / 16 ≤ 3)

/-- Is a TYPE one of R337 that travels on the VC? -/
def typeOnVc (kind v : Nat) : Bool := [1, 2, 3, 4, 5, 6, 0x10, 0x11, 0x12, 0x20, 0x21, 0x22].contains kind && farVc kind == v

/-- Messages from the bytes of a VC: what is left of an unfinished one, and the whole ones. A header of TYPE PAD ends the
content of its flit (R332). -/
def parseMsgs : Nat → List Byte → List Byte → List (List Byte) → List Byte × List (List Byte)
  | 0, part, _, ms => (part, ms)
  | n + 1, part, rest, ms =>
    if part = [] ∧ fieldAt rest 0 1 = 0 then ([], ms)
    else
      let all := part ++ rest
      if all.length < 16 ∨ (fieldAt all 0 1 = 0x11 ∧ all.length < 32) then (all, ms)
      else
        let len := 16 + farPayloadLen (bytesAt all 0 16) (all.drop 16)
        if all.length < len then (all, ms) else parseMsgs n [] (all.drop len) (ms ++ [all.take len])

/-- The flits of buffer that each of `n` messages which end in a flit frees when it is taken: the last of them frees the flit. A flit in which no
message ends is freed as it comes, so that a message of any length drains through an owner's part of the buffers (R334, log entry 63). -/
def freedFlits (n : Nat) : List Nat := (List.range n).map (fun i => if i + 1 = n then 1 else 0)

/-- The port takes the payload of a DATA flit of a VC: whole messages wait, and one of a wrong TYPE is discarded (R332, R337). -/
def State.rxPayload (s : State) (p v : Nat) (payload : List Byte) : State :=
  let q := s.portAt p
  let r := parseMsgs 32 (q.rxPart.getD v []) payload []
  let all := (freedFlits r.2.length).zip r.2
  let bad := all.filter (fun m => !typeOnVc (mgType m.2) v)
  let now := bad.foldl (fun n m => n + m.1) (if r.2 = [] then 1 else 0)
  let s1 := s.setPort p { q with rxPart := q.rxPart.set v r.1,
                                 rxMsgs := q.rxMsgs.set v (q.rxMsgs.getD v [] ++ all.filter (fun m => typeOnVc (mgType m.2) v)),
                                 creditRet := q.creditRet.set v (q.creditRet.getD v 0 + now) }
  bad.foldl (fun t _ => t.portEv p 0x46) s1

/-- The port sends what it may, and an IDLE flit when that carried no ACK. -/
def State.pumpAck (s : State) (p : Nat) : State :=
  let t := s.pumpPort p
  if (t.portAt p).sent.length = (s.portAt p).sent.length then t.setPort p ((t.portAt p).sendBare 0 0) else t

/-- A DATA flit that passed its checks (R333). -/
def State.rxData (s : State) (p : Nat) (f : List Byte) : State :=
  let q := (s.portAt p).acked (fieldAt f 4 2)
  let s1 := s.setPort p q
  if fieldAt f 2 2 ≠ q.rxSeq then (s1.rxBad p).pumpPort p
  else
    let q1 := { q.credited f with rxSeq := (q.rxSeq + 1) % 65536, nakOut := false }
    ((s1.setPort p q1).rxPayload p (fieldAt f 0 1 / 4 % 4) (bytesAt f 12 240)).pumpAck p

/-- An IDLE or NAK flit that passed its checks. -/
def State.rxBare (s : State) (p : Nat) (f : List Byte) : State :=
  s.setPort p (((s.portAt p).acked (fieldAt f 4 2)).credited f)

/-- The codewords of a block that hold bits of its flit `n` (R327). -/
def flitWords (n : Nat) : List Nat :=
  let a := 2048 * n / 5140
  let b := (2048 * n + 2047) / 5140
  if a = b then [a] else [a, b]

/-- A codeword is decoded when the first flit with a bit of it comes: up to 15 bad symbols are corrected and counted for their lanes, and with
more it is uncorrectable (R327). -/
def Port.decodeWord (q : Port) (errs : List (Nat × Nat)) (c : Nat) : Port :=
  let bad := ((errs.filter (fun e => e.1 == c)).map (·.2)).eraseDups
  if 15 < bad.length then { q with rxWords := q.rxWords ++ [c], fecUncorrectable := q.fecUncorrectable + 1 }
  else { q with laneFixed := bad.foldl (fun t s => let l := physLane q.spared (q.group + s % max q.width 1); tabSet t l (tabGet t l 0 + 1)) q.laneFixed }

/-- The codewords of the next flit are decoded: the port, and whether the flit is discarded (R327). -/
def Port.fec (q : Port) (errs : List (Nat × Nat)) : Port × Bool :=
  let ws := flitWords q.rxFlits
  let q1 := (ws.filter (fun c => decide (2048 * q.rxFlits ≤ 5140 * c))).foldl (fun t c => t.decodeWord errs c) q
  let n := (q.rxFlits + 1) % 1285
  ({ q1 with rxFlits := n, rxWords := if n = 0 then [] else q1.rxWords }, ws.any q1.rxWords.contains)

/-- A flit arrives at a port that is UP, with an FTYPE and the bad symbols of its codewords: a bad one is answered by a NAK, whatever it was. -/
def State.rxFlit (s : State) (p ftype : Nat) (f : List Byte) (errs : List (Nat × Nat)) (take : State → State) : State :=
  if (s.portAt p).st != .up then s
  else
    let r := (s.portAt p).fec errs
    let s1 := s.setPort p r.1
    if r.2 || !flitGood f then s1.rxBad p
    else if fieldAt f 0 1 / 16 = ftype then take s1 else s1

/-- DATA_FLIT (R332, R333). -/
def execDataFlit (port : Nat) (bytes : List Byte) (errs : List (Nat × Nat)) (s : State) : Host.Outcome State Fault Refusal :=
  .next (s.rxFlit port 1 bytes errs (fun t => t.rxData port bytes))

/-- IDLE_FLIT (R332). -/
def execIdleFlit (port : Nat) (bytes : List Byte) (errs : List (Nat × Nat)) (s : State) : Host.Outcome State Fault Refusal :=
  .next (s.rxFlit port 0 bytes errs (fun t => (t.rxBare port bytes).pumpPort port))

/-- NAK (R333): the sender resends from the flit that it names. -/
def execNakFlit (port : Nat) (bytes : List Byte) (errs : List (Nat × Nat)) (s : State) : Host.Outcome State Fault Refusal :=
  .next (s.rxFlit port 2 bytes errs (fun t => ((t.rxBare port bytes).resend port (fieldAt bytes 2 2)).pumpPort port))

/-- 4 µs pass without the number that the receiver expects, which repeats its NAK; or without ACK progress at the sender, which resends from
its oldest flit. -/
def State.replayTimeout (s : State) (e : ReplayEnd) : State :=
  match e with
  | .receiver p =>
    let q := s.portAt p
    if q.st == .up && q.nakOut then s.setPort p { q.sendBare 2 q.rxSeq with replays := q.replays + 1 } else s
  | .sender p =>
    let q := s.portAt p
    match q.replay with
    | [] => s
    | r :: _ => if q.st == .up then (s.setPort p { q with replays := q.replays + 1 }).resend p r.1 else s

/-- REPLAY_TIMEOUT (R333). -/
def execReplayTimeout (port : ReplayEnd) (s : State) : Host.Outcome State Fault Refusal :=
  .next (s.replayTimeout port)

/-- A retraining ends (R328 to R331, R333): SELF; UP at the widest usable width without the lanes that were lost, where replay resumes; or DOWN. -/
def State.retrained (s : State) (p : Nat) (x : Exchange) : State :=
  let q0 := s.portAt p
  if q0.st != .retraining then s
  else
    let q := { q0 with sent := q0.sent ++ [s.trainFlit p x] }
    let s0 := s.setPort p q
    let mask := (List.range 17).foldl (fun m l => if bitOf x.mask l && bitOf x.localMask l && !q.badLanes.contains l then m + 2 ^ l else m) 0
    if x.device = deviceNat then (s0.portDown p).portSelf p x
    else match pickWidth mask q.limit with
      | none => s0.portDown p
      | some (w, g, f) =>
        let q1 : Port := { q.meets x with st := .up, width := w, group := g, resends := 0, sent := q.sent ++ q.replay.map (fun r => r.2), rxFlits := 0, rxWords := [] }
        let s1 := (s0.setPort p (q1.widened w)).pend (80 + p)
        let s2 := match f with
          | some l => if q.spared = some l then s1 else s1.spareLane p l
          | none => s1.setPort p { s1.portAt p with spared := none }
        (if w < q.width then s2.narrowed p w else s2).pumpPort p

/-- PORT_RETRAINED (R328). -/
def execPortRetrained (port : Nat) (x : Exchange) (s : State) : Host.Outcome State Fault Refusal := .next (s.retrained port x)

/-- PORT_HOLD_EXPIRY (R335). -/
def execPortHoldExpiry (port : Nat) (s : State) : Host.Outcome State Fault Refusal :=
  .next (if (s.portAt port).st == .retraining then s.portDown port else s)

/-- A port enters DOWN, whatever it was doing (R335). -/
def State.portStops (s : State) (p : Nat) : State :=
  match (s.portAt p).st with
  | .up | .retraining => s.portDown p
  | .training | .self => (s.setPort p (s.portAt p).lost).pend (80 + p)
  | _ => s

/-- The Faref reference is lost: every port that is powered enters DOWN; or it returns: they train (R528). -/
def State.frefChange (s : State) (present : Bool) : State :=
  let s1 := { s with dev := { s.dev with fref := present } }
  if !s.dev.mainOn then s1
  else if present then (List.range 16).foldl (fun t p => if (t.portAt p).st == .down || (t.portAt p).st == .disabled then t.startTraining p else t) s1
  else (List.range 16).foldl (fun t p => if (t.portAt p).st == .disabled then (t.setPort p (t.portAt p).lost).pend (80 + p) else t.portStops p) s1

/-- FREF_LOST (R528). -/
def execFrefLost (present : Bool) (s : State) : Host.Outcome State Fault Refusal := .next (s.frefChange present)

end Sys2Proof.Machine
end

