-- ==== Sys2Proof/Machine/Repair.lean ====
section
/-! DEFINITION. Slips, repair and strip loss (chapter 19): failed tiles (R425), the slip repair (R426 to R431), spares and
rehanging (R432, R433), strips that leave and return (R434 to R437), other failures (R439, R440) and their commands (R441,
R442). -/

namespace Sys2Proof.Machine

/- The plan of a repair (R427). -/

/-- The spare that a failed row takes: the lowest-ranked to the south, else the lowest-ranked. -/
def Column.spareFor (c : Column) (f : Nat) : Option Nat :=
  match c.rank.find? (fun r => decide (f < r)) with | some r => some r | none => c.rank.head?

/-- A column after one failed row has taken its spare. -/
def Column.slip (c : Column) (f sp : Nat) : Column :=
  { c with holes := setIns (setDel c.holes sp) f, dead := setIns c.dead f, rank := setDel c.rank sp }

/-- A column after its failed rows have taken their spares in order, and those spares; none when a row finds no spare. -/
def Column.plan (c : Column) : List Nat → Option (Column × List Nat)
  | [] => some (c, [])
  | f :: fs => match c.spareFor f with
    | none => none
    | some sp => ((c.slip f sp).plan fs).map (fun p => (p.1, sp :: p.2))

/-- The columns of a repair, and its failed rows in one of them. -/
def Repair.cols (r : Repair) : List Nat := (r.failed.map (·.1)).eraseDups
def Repair.rowsIn (r : Repair) (col : Nat) : List Nat := (r.failed.filter (fun f => f.1 == col)).map (fun f => f.2.1)

/-- The logical rows whose physical row a plan changes. -/
def movedRows (old new : Column) : List Nat := (List.range 56).filter (fun y => physRow old.holes y != physRow new.holes y)

/-- The moved cores of a column of a repair: of one without a spare, the failed rows (R427). -/
def State.movedIn (s : State) (r : Repair) (col : Nat) : List (Nat × Nat) :=
  let c := s.columnAt col
  match c.plan (r.rowsIn col) with
  | some p => (movedRows c p.1).map (fun y => (col, y))
  | none => (r.failed.filter (fun f => f.1 == col)).map (fun f => (col, f.2.2.2))

/-- The spares that a repair has chosen. -/
def State.chosen (s : State) (r : Repair) : List (Nat × Nat) :=
  r.cols.flatMap (fun col => match (s.columnAt col).plan (r.rowsIn col) with
    | some p => p.2.map (fun sp => (col, sp))
    | none => [])

/-- A repair with its moved cores computed. -/
def State.replan (s : State) (r : Repair) : Repair :=
  { r with moved := r.cols.flatMap (s.movedIn r) }

/-- Put a repair back, or take it away. -/
def State.setRepair (s : State) (key : Nat) (r : Repair) : State := { s with repairs := tabSet s.repairs key r }
def State.endRepair (s : State) (key : Nat) : State := { s with repairs := tabDel s.repairs key }

/- Slipped work orders (R429). -/

/-- A work order slips: it makes no further write, and reports SLIPPED. What it wrote so far, its standby bank among it, is as landWork says (log
entry 80). It applies no signal, whatever SIGNAL_FAILED, and
a valley work order writes no report (log entries 68, 78). -/
def State.slipWork (s : State) (c : Nat) (w : WorkOrder) : State :=
  let s1 := (s.landWork c w).dropOwner (fun o => match o with | .wo b k l n _ => b == w.bay && k == c && l == w.lid && n == w.nodeIx | _ => false)
  let s2 := { s1 with valley := s1.valley.filter (fun m => m.sender != some (c, w.lid, w.nodeIx)) }
  let k := s2.coreAt c
  (s2.setCore c { k with queue := dropWo k.queue w, tree := dropWo k.tree w }).coreReport c w .slipped 0 0

/-- Every work order that is queued, in progress or on its way at a core slips. -/
def State.slipCore (s : State) (c : Nat) : State :=
  (woList ((s.coreAt c).queue ++ (s.coreAt c).tree)).foldl (fun t w => t.slipWork c w) s

/-- Has a work order at another core an access to a failed core that has not completed: a message on the mesh, or an arrival
signal? -/
def State.touchesDown (s : State) (c : Nat) (w : WorkOrder) : Bool :=
  s.valley.any (fun m => m.sender == some (c, w.lid, w.nodeIx) && s.coreDown m.core) ||
    w.streams.any (fun r => !r.signalled && r.cores.any s.coreDown)

/-- The eave work order of a stack slips when records or signals of it are on their way to a failed core. -/
def State.slipEave (s : State) (k : Nat) : State :=
  let v := s.stackAt k
  match v.eave with
  | [] => s
  | w :: rest =>
    if v.eaveSigs.any (fun l => l.any (fun e => s.coreDown e.1)) then
      (s.setStack k { v with eave := rest, eaveSigs := [] }).report w .slipped 0 0
    else s

/-- The launches whose work orders a repair slips. -/
def newLids (old now : List (Nat × RidgeEvent)) : List Nat :=
  (now.drop old.length).filterMap (fun r => match r.2 with | .report lid _ _ .slipped _ _ => some lid | _ => none)

/-- Step 4 of R428: the slipped work orders end. -/
def State.slipAll (s : State) (key : Nat) (r : Repair) : State :=
  let hit := s.cores.flatMap (fun e => (woList e.2.queue).filterMap (fun w => if s.touchesDown e.1 w then some (e.1, w) else none))
  let s1 := hit.foldl (fun t p => t.slipWork p.1 p.2) s
  let s2 := (List.range 24).foldl (fun t k => t.slipEave k) s1
  let s3 := (r.moved.map (fun m => m.1 * 56 + m.2)).foldl (fun t c => (t.slipCore c).coreSettle c) s2
  let s4 := { s3 with valley := s3.valley.filter (fun m => !(s.coreDown m.core && m.port.isNone)) }
  s4.setRepair key { r with ended := (r.ended ++ newLids s.reports s4.reports).eraseDups }

/- Strip loss (R434 to R436). -/

/-- The strips that the scrubs of a change cover: those that its bay held before or holds. -/
def State.changeCovers (s : State) (c : Change) (k : Nat) : Bool :=
  s.ownsStrip (paBay c.params) k || c.before.any (fun e => decide (e.2.1 ≤ k ∧ k < e.2.1 + e.2.2))

/-- The map that a refused BAY_RESIZE leaves: the former one, with the bay in service, or scrubbed again where a STOP_INTERFACE_REQUEST
waits for it. -/
def State.resizeBack (s : State) (c : Change) : State :=
  let b := paBay c.params
  let t := c.before.foldl (fun (u : State) (e : Nat × Nat × Nat) => u.setMap e.1 e.2.1 e.2.2) s
  let u := t.setBay b { t.bayAt b with scrub := [] }
  if (u.bayAt b).stopping then u.startScrub b 7 (u.bayAt b).strips else u.bayResume b

/-- A strip lost while a BAY_CREATE or BAY_RESIZE scrubs its strips: the operation is refused, and the map returns. What is scrubbed
stays so (R404). -/
def State.refuseScrubbed (s : State) (k : Nat) : State :=
  match s.sec.change with
  | none => s
  | some c =>
    let v := s.bayAt (paBay c.params)
    if c.stage = 1 ∧ v.scrub ≠ [] ∧ s.changeCovers c k then
      if v.afterScrub = 1 then (s.bayGone (paBay c.params)).changeEnd .adminRefused 4
      else if v.afterScrub = 2 then (s.resizeBack c).changeEnd .adminRefused 4
      else s
    else s

/-- The items that a strip loss ends: those already slipped, and every uncompleted item of the bay (R435). -/
def State.lossItems (s : State) (b slipped : Nat) : Nat :=
  slipped + ((s.liveItems b).filter (fun p => (slippedLaunch p.2).isNone)).length

/-- A strip goes out of service for a cause of R422; `slipped` items ended before (R434, R435). -/
def State.stripLost (s : State) (k cause slipped : Nat) : State :=
  if s.dev.outOfService.contains k then s
  else
    let s0 := { s with dev := { s.dev with outOfService := setIns s.dev.outOfService k } }.lifeLog 4 (natLE 1 k ++ natLE 1 1 ++ natLE 1 cause)
    let s1 := s0.refuseScrubbed k
    match s1.stripOwner k with
    | none => (s1.raiseIn pfFn ⟨0x25, k, 0, cause, slipped⟩).gate (tileDoms k ++ stackDoms k ++ eaveDoms k)
    | some b =>
      let s1 := s1.takeSlips b
      let n := s1.lossItems b slipped
      if ((s1.bayAt b).scrub != [] && (s1.bayAt b).afterScrub == 3) || (s1.bayAt b).resets.contains 4 then s1.retiredEvent b (s1.bayAt b).first (k, cause, n)
      else
        let s2 := { s1 with sec := { s1.sec with strips := s1.sec.strips ++ [(k, cause, n)] } }
        let s3 := if s2.locked b then s2.setTdi b .error else s2
        (s3.bayReset b 2).tail

/-- A column of a strip that is lost: its failed rows have taken their spares, so that every dead tile is a hole (R17); one whose rows find
no spare retires with them dead (R434). -/
def State.columnLost (s : State) (r : Repair) (col : Nat) : State :=
  let c := s.columnAt col
  s.setColumn col (match c.plan (r.rowsIn col) with
    | some p => p.1
    | none => { c with retired := true, dead := (r.rowsIn col).foldl setIns c.dead })

/-- Every column of a strip whose failed rows find no spare retires, and the strip is lost (R434). -/
def State.retireColumns (s : State) (key k : Nat) (r : Repair) : State :=
  let s1 := (r.cols.filter (fun c => c / 6 == k)).foldl (fun t c => t.columnLost r c) s
  let left := r.failed.filter (fun f => f.1 / 6 != k)
  let s2 := if left = [] then s1.endRepair key else s1.setRepair key (s1.replan { r with failed := left })
  s2.stripLost k 1 r.ended.length

/- The steps of a repair (R426, R428). -/

/-- The entry of a planned slip ends. -/
def State.planEntryEnd (s : State) (r : Repair) : State :=
  match r.entry with | none => s | some e => s.adminEnd e.1 e.2 .ok r.ended.length

/-- Step 5: a column without a spare retires; the chosen spares are powered, and with every one checked, migration begins. -/
def State.repairAdvance (s : State) (key : Nat) : State :=
  match tabFind s.repairs key with
  | none => s
  | some r =>
    match r.cols.find? (fun col => ((s.columnAt col).plan (r.rowsIn col)).isNone) with
    | some col =>
      let t := s.retireColumns key (col / 6) r
      if tabHas t.repairs key then t else t.planEntryEnd r
    | none =>
      let t := s.ungate ((s.chosen r).map (fun c => tileDom c.1 c.2))
      if (s.chosen r).all (fun c => r.checked.contains c) then t.setRepair key { s.replan r with step := 6 } else t

/-- A repair whose chosen spare has died takes the next one: before the work orders slip the moved cores are those of the new plan; later,
what the new plan moves slips, and the spare is checked (R428, R431). -/
def State.repairReplan (s : State) (key : Nat) : State :=
  match tabFind s.repairs key with
  | none => s
  | some r =>
    let n := s.replan r
    if r.step = 0 ∨ r.step = 3 then s.setRepair key n
    else if (r.step ≠ 5 ∧ r.step ≠ 6) ∨ (n = r ∧ (r.step = 5 ∨ (s.chosen r).all (fun c => r.checked.contains c))) then s
    else (if n = r then s.setRepair key { n with step := 5 } else s.slipAll key { n with step := 5 }).repairAdvance key

/-- A tile meets an unplanned cause of R425: it fails, and a repair that had chosen it as a spare goes on with another. -/
def State.tileDown (s : State) (col row : Nat) : State := (s.tileFails col row false).repairReplan (s.repairKey (col / 6))

/-- The repair of an owner's failed tiles begins: a planned slip waits, another drains the mesh. -/
def State.repairBegin (s : State) (key : Nat) : State :=
  match tabFind s.repairs key with
  | none => s
  | some r =>
    if r.step = 1 then s.setRepair key { s.replan r with step := 0 }
    else if r.step = 2 then s.setRepair key { s.replan r with step := 3 }
    else s

/-- The dead tiles of a column that hold a logical row, with that row. -/
def Column.unslipped (c : Column) : List (Nat × Nat) :=
  if c.retired then [] else c.dead.filterMap (fun f => (logRow c.holes f).map (fun y => (f, y)))

/-- DEVICE_FATAL has been left: the failed tiles whose repairs it abandoned join new repairs of their owners (R425, R431, log entry 75). -/
def State.repairAgain (s : State) : State :=
  ((List.range 72).flatMap (fun col => (s.columnAt col).unslipped.map (fun e => (col, e)))).foldl (fun t e =>
    let key := t.repairKey (e.1 / 6)
    { t with repairs := tabSet t.repairs key ((tabGet t.repairs key ⟨[], [], 1, [], [], none⟩).join e.1 e.2.1 false e.2.2) }) s

/-- SLIP_REPAIR (R428). -/
def execSlipRepair (owner : Nat) (s : State) : Host.Outcome State Fault Refusal := .next (s.repairBegin owner)

/-- Are all the moved cores of a repair without work orders? -/
def State.movedIdle (s : State) (r : Repair) : Bool :=
  r.moved.all (fun m => let c := s.coreAt (m.1 * 56 + m.2); woList (c.queue ++ c.tree) == [])

/-- The mesh has drained: the slipped work orders end, and the spares are checked. A planned slip whose work orders have all
completed slips none. -/
def State.meshDrained (s : State) (key : Nat) : State :=
  match tabFind s.repairs key with
  | none => s
  | some r =>
    if r.step = 3 then (s.slipAll key { r with step := 5 }).repairAdvance key
    else if r.step = 0 && s.movedIdle r then (s.setRepair key { r with step := 5 }).repairAdvance key
    else s

/-- SLIP_MESH_DRAINED (R428). -/
def execSlipMeshDrained (owner : Nat) (s : State) : Host.Outcome State Fault Refusal := .next (s.meshDrained owner)

/-- The wait of a planned slip ends: the work orders that are left will be slipped (R426). -/
def State.planWaitEnds (s : State) (key : Nat) : State :=
  match tabFind s.repairs key with
  | none => s
  | some r => if r.step = 0 then s.setRepair key { r with step := 3 } else s

/-- PLANNED_SLIP_WAIT_EXPIRY (R426). -/
def execPlannedSlipWaitExpiry (owner : Nat) (s : State) : Host.Outcome State Fault Refusal := .next (s.planWaitEnds owner)

/-- A spare has been checked: a check of more than 2 h after the last full one is a full check. -/
def State.spareChecked (s : State) (col row : Nat) : State :=
  let t := s.tileAt col row
  s.setTile col row { t with checking := 0, lastCheck := if t.checking = 1 ∨ t.lastCheck + 7200000000000 ≤ s.time then s.time else t.lastCheck }

/-- The check of a spare ends: of a repair's spare, or the hourly one (R428, R432). -/
def State.spareCheckEnd (s : State) (col row : Nat) (pass : Bool) : State :=
  let key := s.repairKey (col / 6)
  let hourly := if (s.tileAt col row).checking ≠ 1 then s else if pass then s.spareChecked col row else (s.spareDies col row false).repairReplan key
  match tabFind s.repairs key with
  | some r =>
    if r.step = 5 && (s.chosen r).contains (col, row) && !r.checked.contains (col, row) then
      if pass then ((s.spareChecked col row).setRepair key { r with checked := r.checked ++ [(col, row)] }).repairAdvance key
      else
        let s1 := s.spareDies col row false
        (s1.slipAll key (s1.replan { r with checked := r.checked ++ [(col, row)] })).repairAdvance key
    else hourly
  | none => hourly

/-- SPARE_CHECK_DONE (R428, R432). -/
def execSpareCheckDone (col row : Nat) (pass : Bool) (s : State) : Host.Outcome State Fault Refusal := .next (s.spareCheckEnd col row pass)

/-- The spare that the next hourly check takes: the one checked longest ago. -/
def State.nextSpare (s : State) (col : Nat) : Option Nat :=
  (s.columnAt col).rank.foldl (fun best r => match best with
    | none => some r
    | some b => if (s.tileAt col r).lastCheck < (s.tileAt col b).lastCheck then some r else some b) none

/-- The hourly full check of a column's next spare begins, one at a time (R432). -/
def State.fullCheck (s : State) (col : Nat) : State :=
  if (s.columnAt col).rank.any (fun r => (s.tileAt col r).checking == 1) then s
  else match s.nextSpare col with
    | none => s
    | some r => s.setTile col r { s.tileAt col r with checking := 1 }

/-- SPARE_FULL_CHECK (R432). -/
def execSpareFullCheck (col : Nat) (s : State) : Host.Outcome State Fault Refusal := .next (s.fullCheck col)

/- Migration (R430). -/

/-- Table banks whose every entry is poisoned. -/
def lostBank : TableBank := ⟨2048, [], [], true⟩

/-- The scratchpad lines of a core that salvage poisons: those with an uncorrectable word, and those that it cannot read. -/
def State.lostLines (s : State) (core : Nat) (unread : List Nat) : List Nat :=
  let bad := (s.spadFlaws.filter (fun f => f.1 / 0x30000 == core && f.2 != 1)).map (fun f => f.1 % 0x30000 / 8)
  (bad ++ unread.filter (· < 0x6000)).eraseDups.filter (fun l => !s.spadPoison.contains (core * 0x6000 + l))

/-- What salvage could not read of a failed tile: nothing of a planned one, everything after a power fault of its domain (R430, R458). -/
def State.lossOf (s : State) (losses : List TileLoss) (f : Nat × Nat × Bool × Nat) : TileLoss :=
  if f.2.2.1 then ⟨f.1, f.2.1, [], false, false, false⟩
  else if s.power.on.contains (tileDom f.1 f.2.1) then (losses.find? (fun l => l.col == f.1 && l.row == f.2.1)).getD ⟨f.1, f.2.1, [], false, false, false⟩
  else ⟨f.1, f.2.1, List.range 0x6000, true, true, true⟩

/-- The state of a failed tile as its successor gets it: exact, or salvaged, with SCRATCHPAD_POISON for each line that is poisoned (R101,
R430). -/
def State.salvage (s : State) (core : Nat) (l : TileLoss) : State :=
  let s1 := (s.lostLines core l.lines).foldl (fun t x => t.poisonSpad core x) s
  let k := s1.coreAt core
  { s1 with spadFlaws := s1.spadFlaws.filter (fun f => f.1 / 0x30000 != core) }.setCore core
    { k with counters := if l.counters then [] else k.counters, gates := if l.gates then [] else k.gates,
             bank0 := if l.banks then lostBank else k.bank0, bank1 := if l.banks then lostBank else k.bank1,
             active := if l.banks then 0 else k.active }

/-- A moved core at its new tile: its accumulators, and the tile's counts (R430). -/
def State.settleMoved (s : State) (m : Nat × Nat) : State :=
  let core := m.1 * 56 + m.2
  let row := s.coreTile core
  (s.setCore core { s.coreAt core with pairs := [], pairFlaws := [] }).setTile m.1 row
    { s.tileAt m.1 row with spadCorr := 0, accCorr := 0, corrRaised := false }

/-- DETAIL of TILE_SLIPPED (R422): the column's new map, its moved cores, and what of the record's tile was lost. -/
def slipDetail (c : Column) (moved lines : Nat) (l : TileLoss) (planned : Bool) : Nat :=
  c.slipBits + moved % 256 * 2 ^ 28 + lines % 2 ^ 16 * 2 ^ 36 + (if l.counters then 2 ^ 52 else 0) + (if l.gates then 2 ^ 53 else 0) +
    (if l.banks then 2 ^ 54 else 0) + (if planned then 2 ^ 55 else 0)

/-- TILE_SLIPPED for each failed tile, the first with the items (R431). -/
def State.slippedEvents (s : State) (moved : List (Nat × Nat)) : List ((Nat × Nat × Bool × Nat) × Nat × TileLoss) → Nat → State
  | [], _ => s
  | ((col, row, planned, y), lines, lost) :: rest, items =>
    let core := col * 56 + y
    let d := slipDetail (s.columnAt col) (moved.filter (fun m => m.1 == col)).length lines lost planned
    let t := s.raiseStrip (col / 6) (fun b => { s.tileEv b core 0x22 col row with detail := d, items := items })
      ⟨0x22, col + row * 256 + y * 65536, 0xFFFF, d, items⟩
    t.slippedEvents moved rest 0

/-- Steps 6 to 8 of R428: migration, the new slip maps, the records. -/
def State.migrate (s : State) (key : Nat) (losses : List TileLoss) : State :=
  match tabFind s.repairs key with
  | none => s
  | some r =>
    if r.step ≠ 6 then s
    else
      let told := r.failed.map (fun f =>
        (f, if f.2.2.1 then 0 else (s.lostLines (f.1 * 56 + f.2.2.2) (s.lossOf losses f).lines).length, s.lossOf losses f))
      let moved := r.cols.flatMap (s.movedIn r)
      let s1 := r.cols.foldl (fun t col => match (t.columnAt col).plan (r.rowsIn col) with
        | some p => t.setColumn col p.1
        | none => t) s
      let s2 := (r.failed.filter (fun f => !f.2.2.1)).foldl (fun t f => t.salvage (f.1 * 56 + f.2.2.2) (s.lossOf losses f)) s1
      let s3 := (moved.foldl (fun t m => t.settleMoved m) s2).endRepair key
      (((s3.collRetell key).slippedEvents moved told r.ended.length).planEntryEnd r).tail

/-- SLIP_MIGRATION_DONE (R428, R430). -/
def execSlipMigrationDone (owner : Nat) (losses : List TileLoss) (s : State) : Host.Outcome State Fault Refusal := .next (s.migrate owner losses)

/- Detection (R113, R425). -/

/-- Is a place a physical tile? -/
def tilePlace (col row : Nat) : Bool := decide (col < 72 ∧ row < 60)

/-- TILE_SELF_CHECK_FAILURE (R425). -/
def execTileSelfCheckFailure (col row : Nat) (s : State) : Host.Outcome State Fault Refusal :=
  .next (if tilePlace col row then (s.pend (96 + col / 6)).tileDown col row else s)

/-- A heartbeat: the third in a row without an answer fails the tile. In a halted bay heartbeats pause (R480). -/
def State.heartbeat (s : State) (col row : Nat) (answered : Bool) : State :=
  let t := s.tileAt col row
  if (s.stripOwner (col / 6)).any (fun b => (s.bayAt b).halted) then s
  else if answered then s.setTile col row { t with misses := 0 }
  else
    let s1 := (s.pend 156).setTile col row { t with misses := t.misses + 1 }
    if 2 ≤ t.misses then s1.tileDown col row else s1

/-- TILE_HEARTBEAT (R113). -/
def execTileHeartbeat (col row : Nat) (answered : Bool) (s : State) : Host.Outcome State Fault Refusal :=
  .next (if tilePlace col row then s.heartbeat col row answered else s)

/- Other failures (R439, R440). -/

/-- An eave engine fails: its work orders end SLIPPED, and it is held in reset (R439). -/
def State.eaveFails (s : State) (k : Nat) : State :=
  let v := s.stackAt k
  if v.eaveFailed then s
  else
    let s0 := match v.eave with
      | [] => s
      | w :: _ => s.landMerge (((s.unstopped w.bay).evRun k 1).evRun k 2)
    let s1 := (v.eave ++ v.eaveTree).foldl (fun t w => t.report w .slipped 0 0)
      (s0.setStack k { (s0.stackAt k).idle with eaveFailed := true, eaveEnded := v.eaveEnded })
    let n := s.itemsEnded ((v.eave ++ v.eaveTree).map (fun w => (w.bay, w.queue, w.slot))) pfFn
    (s1.pend (56 + k)).raiseStrip (stackStrip k) (fun b => ⟨0x35, s.stackIndex b k, 0, 0, n⟩) ⟨0x35, k, 0, 0, n⟩

/-- EAVE_ENGINE_FAILURE (R439). -/
def execEaveEngineFailure (stack : Nat) (s : State) : Host.Outcome State Fault Refusal :=
  .next (if stack < 24 then s.eaveFails stack else s)

/-- STACK_CONTROLLER_FAILURE (R434). -/
def execStackControllerFailure (stack cause : Nat) (s : State) : Host.Outcome State Fault Refusal :=
  .next (if stack < 24 ∧ (cause = 3 ∨ cause = 4) then (s.pend (32 + stack)).stripLost (stackStrip stack) cause 0 else s)

/-- DEVICE_FATAL (R440). -/
def execDeviceFatal (clock : Bool) (s : State) : Host.Outcome State Fault Refusal :=
  .next ((s.pend (if clock then 4 else 5)).deviceFatal (if clock then .clockLoss else .selfCheck))

/- Repair commands (R441, R442). -/

/-- ADDRESS in space 0x4 with a range, or none, and a COUNT; OPERANDS byte 28, and 29 where a row is named (R74, R441). -/
def repairCheck (col row : Bool) (e : List Byte) : Chk Unit := do
  adminHead e .unused false
  adminNoRange e
  need (if row then decide (fieldAt e 28 1 < 72 ∧ fieldAt e 29 1 < 60) else if col then decide (fieldAt e 28 1 < 72) else
    decide (fieldAt e 28 1 < 12) && fieldAt e 29 1 == 0) .descriptorInvalid
  need (allZero (bytesAt e 30 18)) .descriptorInvalid

/-- A repair command of an item is refused for a reason. -/
def State.refuse (s : State) (q : Nat) (it : Item) (reason : Nat) : State := s.adminEnd q it.slot .adminRefused reason

/-- The record of a column (R442). -/
def State.columnRecord (s : State) (col : Nat) : List Byte :=
  let c := s.columnAt col
  let st := if c.retired then 1 else if s.dev.outOfService.contains (col / 6) then 2 else 0
  let deadBits := ((List.range 4).zip c.holes).foldl (fun n e => n + (if c.dead.contains e.2 then 2 ^ e.1 else 0)) 0
  let ranks := ((List.range 4).zip c.holes).foldl (fun n e => n + (if c.rank.contains e.2 then (c.rank.takeWhile (fun r => r != e.2)).length * 4 ^ e.1 else 0)) 0
  natLE 1 col ++ natLE 1 st ++ natLE 1 c.rank.length ++ natLE 1 c.dead.length ++
    (if st = 1 then natLE 4 0 else c.holes.flatMap (natLE 1)) ++ natLE 1 (if st = 1 then 0 else deadBits) ++ natLE 1 ranks ++
    natLE 2 c.slips ++ natLE 4 0

/-- The fields of COLUMN_STATE. -/
def columnStateCheck (e : List Byte) : Chk Unit := do
  adminHead e .unused false
  adminHost e
  need (adCount e == 72) .lengthRange
  need (allZero (bytesAt e 28 20)) .descriptorInvalid

/-- COLUMN_STATE (R442). -/
def State.columnStates (s : State) (q : Nat) : State :=
  s.adminRun q 0x30 columnStateCheck (fun t it =>
    t.adminWrite q it ((List.range 72).flatMap t.columnRecord) (fun u =>
      u.adminEnd q it.slot .ok ((List.range 72).filter (fun c => (u.columnAt c).retired)).length))

/-- COLUMN_STATE (R442). -/
def execColumnState (q : Nat) (s : State) : Host.Outcome State Fault Refusal := .next (s.columnStates q)

/-- Is a strip being scrubbed? -/
def State.scrubbing (s : State) (k : Nat) : Bool :=
  (List.range 12).any (fun b => (s.bayAt b).scrub.contains k) || (match s.dev.restore with | some r => r.1 == k && r.2.2.2 | none => false)

/-- REHANG powers a dead tile and starts a full check of it (R433, R441). -/
def State.rehang (s : State) (q : Nat) : State :=
  s.adminRun q 0x31 (repairCheck true true) (fun t it =>
    let col := fieldAt it.entry 28 1
    let row := fieldAt it.entry 29 1
    let tile := t.tileAt col row
    if !(t.columnAt col).dead.contains row || decide (3 ≤ tile.failures) || t.scrubbing (col / 6) then t.refuse q it 1
    else if tabHas t.repairs (t.repairKey (col / 6)) || tile.checking == 2 then t.refuse q it 2
    else ((t.ungate [tileDom col row]).setTile col row { tile with checking := 2 }).updItem pfFn q it.slot (fun x => { x with st := .waiting }))

/-- REHANG (R433). -/
def execRehang (q : Nat) (s : State) : Host.Outcome State Fault Refusal := .next (s.rehang q)

/-- The waiting ADMIN item of an opcode that a test picks. -/
def State.waitingAdmin (s : State) (op : Nat) (p : List Byte → Bool) : Option (Nat × Item) :=
  (s.queuesOf pfFn).findSome? (fun e => (e.2.items.find? (fun it =>
    it.st == .waiting && enType it.entry == 7 && adOp it.entry == op && p it.entry)).map (fun it => (e.1, it)))

/-- A dead tile becomes a spare with the highest rank; in a retired column only the dead count falls (R427, R433). -/
def Column.rehung (c : Column) (row : Nat) : Column :=
  if c.retired || !c.holes.contains row then { c with dead := setDel c.dead row }
  else { c with dead := setDel c.dead row, rank := c.rank ++ [row] }

/-- Must a tile domain stay powered: its strip is a bay's, is scrubbed or is tested, or another tile of it is checked for a rehang (R433,
R457)? -/
def State.rehangNeeds (s : State) (d : Nat) : Bool :=
  (s.stripOwner (d / 10)).isSome || s.scrubbing (d / 10) || s.tileChecked d

/-- The full check of a rehang ends; its domain in a strip of no bay is gated again. -/
def State.rehangEnd (s : State) (col row : Nat) (pass : Bool) : State :=
  let tile := s.tileAt col row
  if tile.checking ≠ 2 then s
  else
    let s0 := s.setTile col row { tile with checking := 0, lastCheck := s.time }
    let s1 := if s0.rehangNeeds (tileDom col row) then s0 else s0.gate [tileDom col row]
    let s2 := if pass then
        let c := (s1.columnAt col).rehung row
        let e := holeEv 0x24 col row c.slipBits
        ((s1.setColumn col c).raiseStrip (col / 6) (fun _ => e) e).lifeLog 3 (natLE 1 col ++ natLE 1 row ++ natLE 1 2 ++ natLE 1 tile.failures)
      else s1
    match s.waitingAdmin 0x31 (fun e => fieldAt e 28 1 == col && fieldAt e 29 1 == row) with
    | some p => s2.adminEnd p.1 p.2.slot .ok (if pass then 0 else 1)
    | none => s2

/-- REHANG_CHECK_DONE (R433). -/
def execRehangCheckDone (col row : Nat) (pass : Bool) (s : State) : Host.Outcome State Fault Refusal := .next (s.rehangEnd col row pass)

/-- PLANNED_SLIP of a live tile starts a planned repair; of a spare, it marks the spare dead (R426, R441). In a strip that a RESTORE_STRIP
tests no work order can run: the tile is dead at once, and the maps are rebuilt (log entry 72). -/
def State.plannedSlip (s : State) (q : Nat) : State :=
  s.adminRun q 0x32 (repairCheck true true) (fun t it =>
    let col := fieldAt it.entry 28 1
    let row := fieldAt it.entry 29 1
    let c := t.columnAt col
    let key := t.repairKey (col / 6)
    if c.dead.contains row || c.rank == [] || c.retired then t.refuse q it 1
    else if tabHas t.repairs key then t.refuse q it 2
    else if t.retesting (col / 6) then (t.tileFails col row true).adminEnd q it.slot .ok 0
    else if c.holes.contains row then (t.spareDies col row true).adminEnd q it.slot .ok 0
    else
      let t1 := (t.tileFails col row true).updItem pfFn q it.slot (fun x => { x with st := .waiting })
      let r := tabGet t1.repairs key ⟨[], [], 1, [], [], none⟩
      (t1.setRepair key { r with entry := some (q, it.slot) }).repairBegin key)

/-- PLANNED_SLIP (R426). -/
def execPlannedSlip (q : Nat) (s : State) : Host.Outcome State Fault Refusal := .next (s.plannedSlip q)

/-- RETIRE_STRIP (R434, R441). A strip that is out of service already stays so, and no item ends. -/
def State.retireStrip (s : State) (q : Nat) : State :=
  s.adminRun q 0x33 (repairCheck false false) (fun t it =>
    let k := fieldAt it.entry 28 1
    if !((t.stackAt k).failing || (t.stackAt (12 + k)).failing) then t.refuse q it 1
    else if tabHas t.repairs (t.repairKey k) then t.refuse q it 2
    else
      let n := match t.stripOwner k with | some b => t.lossItems b 0 | none => 0
      (t.stripLost k 2 0).adminEnd q it.slot .ok (if t.dev.outOfService.contains k then 0 else n))

/-- RETIRE_STRIP (R434). -/
def execRetireStrip (q : Nat) (s : State) : Host.Outcome State Fault Refusal := .next (s.retireStrip q)

/-- The bays with a strip next to a strip (R437). -/
def State.adjacentBays (s : State) (k : Nat) : List Nat :=
  ((if k = 0 then [] else (s.stripOwner (k - 1)).toList) ++ (s.stripOwner (k + 1)).toList).eraseDups

/-- Fetching stops for the bays next to a strip: reason 3 of fetchHold. -/
def State.holdAdjacent (s : State) (k : Nat) : State :=
  (s.adjacentBays k).foldl (fun t b => t.setBay b { t.bayAt b with fetchHold := setIns (t.bayAt b).fetchHold 3 }) s

/-- RESTORE_STRIP starts: fetching stops next to the strip (R437, R441). -/
def State.restoreStrip (s : State) (q : Nat) : State :=
  s.adminRun q 0x34 (repairCheck false false) (fun t it =>
    let k := fieldAt it.entry 28 1
    let cols := (List.range 6).map (fun i => 6 * k + i)
    if !t.dev.outOfService.contains k || (t.stripOwner k).isSome || cols.any (fun c => decide (4 < (t.columnAt c).dead.length)) ||
        (t.stackAt k).failing || (t.stackAt (12 + k)).failing || t.scrubbing k then t.refuse q it 1
    else if t.dev.restore.isSome then t.refuse q it 2
    else ({ t with dev := { t.dev with restore := some (k, q, it.slot, false) } }.holdAdjacent k).updItem pfFn q it.slot
      (fun x => { x with st := .waiting }))

/-- RESTORE_STRIP (R437). -/
def execRestoreStrip (q : Nat) (s : State) : Host.Outcome State Fault Refusal := .next (s.restoreStrip q)

/-- Has a bay reached a quiesce point: no fetched, uncompleted item? -/
def State.quiesced (s : State) (b : Nat) : Bool := s.liveItems b == []

/-- Every bay next to the strip has quiesced: its tiles are powered and checked (R437). A tile that fails the check is declared failed. -/
def State.restoreGo (s : State) : State :=
  match s.dev.restore with
  | none => s
  | some (k, q, slot, going) =>
    if going || tabHas s.repairs (16 + k) || !(s.adjacentBays k).all s.quiesced then s
    else ({ s with dev := { s.dev with restore := some (k, q, slot, true) } }).ungate (tileDoms k ++ stackDoms k ++ eaveDoms k)

/-- RESTORE_QUIESCE (R437). -/
def execRestoreQuiesce (s : State) : Host.Outcome State Fault Refusal := .next s.restoreGo

/-- The wait for quiesce points ends: the entry is refused, and fetching resumes. -/
def State.restoreExpires (s : State) : State :=
  match s.dev.restore with
  | none => s
  | some (_, q, slot, going) =>
    if going then s
    else ({ s with dev := { s.dev with restore := none } }.releaseHolds).adminEnd q slot .adminRefused 1

/-- RESTORE_QUIESCE_TIMEOUT (R437). -/
def execRestoreQuiesceTimeout (s : State) : Host.Outcome State Fault Refusal := .next s.restoreExpires

/-- The check and the scrub of a restored strip end: with its maps rebuilt it is free. One whose check leaves a column more than four dead
tiles, or with a stack that fails meanwhile, cannot return: its entry is refused (log entry 72). -/
def State.restoreDone (s : State) : State :=
  match s.dev.restore with
  | none => s
  | some (k, q, slot, going) =>
    if !going || s.dev.fatal.isSome then s
    else if (List.range 6).any (fun i => decide (4 < (s.columnAt (6 * k + i)).dead.length)) || (s.stackAt k).failing || (s.stackAt (12 + k)).failing then
      s.dropRestore.adminEnd q slot .adminRefused 1
    else
      let s1 := ((s.rebuildStrip k).scrubStrip k).releaseHolds
      let s2 := ({ s1 with dev := { s1.dev with restore := none, outOfService := setDel s1.dev.outOfService k } }.gate (tileDoms k)).lifeLog 4
        (natLE 1 k ++ natLE 1 2)
      (s2.raiseIn pfFn ⟨0x26, k, 0, 0, 0⟩).adminEnd q slot .ok 0

/-- BAY_SCRUB_DONE (R401, R437). -/
def execBayScrubDone (bay : Nat) (s : State) : Host.Outcome State Fault Refusal :=
  .next (if bay = 12 then s.restoreDone else s.scrubStep bay)

/-- The fields of READ_ERRORS. -/
def readErrorsCheck (e : List Byte) : Chk Unit := do
  adminHead e .either false
  adminHost e
  need (decide (adCount e ≤ 64)) .lengthRange
  need (allZero (bytesAt e 28 20)) .descriptorInvalid

/-- READ_ERRORS: the most recent records of a function's history (R424, R441). -/
def State.readErrors (s : State) (q : Nat) : State :=
  s.adminRun q 0x35 readErrorsCheck (fun t it => t.needBay q it (fun t =>
    let e := it.entry
    match t.checkAt pfFn (adAddr e) (64 * adCount e) with
    | some st => t.adminEnd q it.slot st 0
    | none =>
      let recs := lastN (adCount e) (t.fnAt (adBay e)).err.history
      t.adminWrite q it recs.flatten (fun u => u.adminEnd q it.slot .ok recs.length)))

/-- READ_ERRORS (R441). -/
def execReadErrors (q : Nat) (s : State) : Host.Outcome State Fault Refusal := .next (s.readErrors q)

end Sys2Proof.Machine
end

