-- ==== Sys2Proof/Machine/MemCtl.lean ====
section
/-! DEFINITION. The stack controllers (chapter 11): patrol scrub (R243), refresh (R245) and row repair (R246, R247). -/

namespace Sys2Proof.Machine

/-- Does the controller of a stack run: the device has booted, the main domains are on, and the stack's is not gated? -/
def State.ctlRuns (s : State) (k : Nat) : Bool :=
  decide (k < 24) && s.dev.boot == .ready && s.dev.mainOn && !s.power.gated.contains (120 + k)

/-- The lines of a stack (R243). -/
def stackLines : Nat := 1207959552

/- Patrol scrub (R243). -/

/-- The next line, its place in the pass, and the visit of its row: one begins at the row's first column, and the corrections of a
row count from there (R246). -/
def Stack.scrubNext (v : Stack) : Stack :=
  let line := v.scrubPos
  let v1 := if line / 32 % 32 = 0 then { v with rowCorr := tabDel v.rowCorr (rowKey line) } else v
  if line + 1 < stackLines then { v1 with scrubPos := line + 1, scrubProgress := v.scrubProgress + 1 }
  else { v1 with scrubPos := 0, scrubProgress := 0, scrubPasses := satInc 32 v.scrubPasses }

/-- What stands in a line after its scrub: where the decode corrected a symbol the line is written back, and whether its failed lanes
fail in the reads that follow is a free value (log entry 50). A poisoned line is written with its tag, and nothing else stands. -/
def Stack.scrubLeaves (v : Stack) (draw : Nat) (f : LineFlaw) (good : Bool) : Stack :=
  if good then v.setFlaw ⟨f.line, [], if Config.outcome draw then f.lanes else [], if f.syms = [] then f.inner else 0, f.tag⟩ else v

/-- The scrub of a line: a read that meets what stands in the line and what this read finds. -/
def State.patrolScrub (s : State) (k : Nat) (found : LineFlaw) : State :=
  let v := s.stackAt k
  let f := LineFlaw.add (v.flawOf v.scrubPos) found
  let s1 := (s.setStack k v.scrubNext).lineRead k f
  (s1.setStack k ((s1.stackAt k).scrubLeaves s1.draws f (lineDecodes v f))).drawn

/-- PATROL_SCRUB_LINE (R243). -/
def execPatrolScrubLine (stack : Nat) (syms : List (Nat × Nat)) (lanes : List Nat) (code : InnerTag) (s : State) :
    Host.Outcome State Fault Refusal :=
  .next (if s.ctlRuns stack then s.patrolScrub stack ⟨(s.stackAt stack).scrubPos, syms, lanes, code.inner, code.tag⟩ else s)

/-- Activations of a bank enter its rolling count; each time the count reaches the stack's threshold a refresh-management command
takes the threshold off it (R245). -/
def Stack.activate (v : Stack) (key acts threshold : Nat) : Stack :=
  let n := tabGet v.activations key 0 + acts
  if threshold = 0 then { v with activations := tabSet v.activations key n }
  else { v with activations := tabSet v.activations key (n % threshold),
                managed := tabSet v.managed key (tabGet v.managed key 0 + n / threshold) }

/-- A refresh of a bank of a pseudo-channel (R245): pseudo-channels 0 to 63, banks 0 to 15. It changes no data, status or order. The
errors that have come to stand in the bank's lines by then join those that stand (log entry 16). -/
def State.refresh (s : State) (k pc bank acts : Nat) (flaws : List LineFlaw) : State :=
  let v := (s.stackAt k).activate (pc * 16 + bank) acts (Config.actThreshold k)
  let here := flaws.filter (fun f => decide (f.line < stackLines ∧ lineBank f.line = bank ∧ lineChannel f.line = pc / 2))
  s.setStack k (here.foldl (fun (u : Stack) f => u.setFlaw (LineFlaw.add (u.flawOf f.line) f))
    { v with refreshes := tabInc v.refreshes (pc * 16 + bank) (2 ^ 64 - 1) })

/-- REFRESH (R245). -/
def execRefresh (stack pc : Nat) (bank : BankRefresh) (s : State) : Host.Outcome State Fault Refusal :=
  .next (if s.ctlRuns stack && decide (pc < 64 ∧ bank.bank < 16) then s.refresh stack pc bank.bank bank.acts bank.flaws else s)

/- Row repair (R246, R247). -/

/-- The bank of a row key among those of the stack: channel × 16 + bank. -/
def rowBank (key : Nat) : Nat := key / 2 ^ 17

/-- The first candidate whose bank holds a spare row. -/
def Stack.repairable (v : Stack) : Option Nat := v.candidates.find? (fun key => decide (tabGet v.sparesUsed (rowBank key) 0 < 2))

/-- A row repair starts. One whose bank has no spare left stays in service (R247). -/
def State.rowRepair (s : State) (k : Nat) : State :=
  let v := s.stackAt k
  match v.repairing, v.repairable with
  | none, some key => s.setStack k { v with candidates := setDel v.candidates key, repairing := some key }
  | _, _ => s

/-- ROW_REPAIR (R246). -/
def execRowRepair (stack : Nat) (s : State) : Host.Outcome State Fault Refusal :=
  .next (if s.ctlRuns stack then s.rowRepair stack else s)

/-- Step 2: a column of the row that is found uncorrectable is a failed decode and poisons its line. -/
def State.rowLoses (s : State) (k line : Nat) : State :=
  let v := s.stackAt k
  (s.setStack k { v with uncorrectable := satInc 32 v.uncorrectable }).poisonLine k line

/-- Step 2: the reads of a row's lines meet what stands in them, and its corrected lines are written corrected. -/
def State.rowMigrates (s : State) (k key : Nat) : State :=
  let hits := (s.stackAt k).latent.filter (fun f => rowKey f.line == key)
  let s1 := hits.foldl (fun t f => t.lineRead k f) s
  s1.setStack k (hits.foldl (fun (v : Stack) f => if lineDecodes (s.stackAt k) f then v.setFlaw ⟨f.line, [], [], 0, f.tag⟩ else v)
    (s1.stackAt k))

/-- MEMORY_SPARE_LOW when the spare count reaches 256 (R247). -/
def State.spareLow (s : State) (k : Nat) : State :=
  let v := s.stackAt k
  if v.spareLow || decide (256 < v.sparesLeft) then s else (s.setStack k { v with spareLow := true }).raiseStack k 0x33 0

/-- Steps 2 to 5 of a row repair: the lines keep their data and tags. -/
def State.rowRepairDone (s : State) (k : Nat) (lost : List Nat) : State :=
  match (s.stackAt k).repairing with
  | none => s
  | some key =>
    let s1 := (lost.filter (· < 32)).foldl (fun t c => t.rowLoses k (rowLine key c)) (s.rowMigrates k key)
    let v := s1.stackAt k
    let v1 := { v with repairing := none, rowCorr := tabDel v.rowCorr key, candidates := setDel v.candidates key,
                       softRepairs := satInc 16 v.softRepairs, softRows := v.softRows ++ [key], sparesUsed := tabInc v.sparesUsed (rowBank key) 2 }
    ((s1.setStack k v1).raiseStack k 0x32 0).spareLow k

/-- ROW_REPAIR_DONE (R246). -/
def execRowRepairDone (stack : Nat) (lost : List Nat) (s : State) : Host.Outcome State Fault Refusal :=
  .next (if s.ctlRuns stack then s.rowRepairDone stack lost else s)

end Sys2Proof.Machine
end

