-- ==== Sys2Proof/Machine/Power.lean ====
section
/-! DEFINITION. Power, droop and temperature (chapter 20): the cap controller (R446 to R451), emergencies (R448, R452, R455),
droop (R454), temperatures (R455), ageing (R456), gating (R457) and regulator faults (R458). -/

namespace Sys2Proof.Machine

/- Operating points (R447, R449). -/

/-- A bit of THROTTLE in a bay's record and in the PF's (R459). -/
def State.throttled (s : State) (b bit : Nat) : State :=
  let v := s.bayAt b
  { s with power := { s.power with pfThrottle := Nat.lor s.power.pfThrottle (2 ^ bit) } }.setBay b { v with throttle := Nat.lor v.throttle (2 ^ bit) }

/-- A bay moves to a lower point for a reason of R453; a rise that was settling is dropped. -/
def State.lowerTo (s : State) (b point reason : Nat) : State :=
  ((s.setBay b { s.bayAt b with aclk := point, aclkTarget := none }).throttled b (reason - 1)).violate b reason

/-- A bay above the lowest point is lowered one step. -/
def State.lower (s : State) (b reason : Nat) : State :=
  if 600 < (s.bayAt b).aclk then s.lowerTo b ((s.bayAt b).aclk - 50) reason else s

/-- A bay that stands above the point its registers allow comes down one step at a tick (R446, R507). -/
def State.followSet (s : State) (b : Nat) : State :=
  let v := s.bayAt b
  if s.pointLimit b < v.aclk ∧ 600 < v.aclk then s.setBay b { v with aclk := v.aclk - 50, aclkTarget := none } else s

/-- An episode of R453 ends when the bay is back at ACLK_SET. -/
def State.episodeEnds (s : State) (b : Nat) : State :=
  let v := s.bayAt b
  if v.violation && decide (v.aclkSet ≤ v.aclk) then s.setBay b { v with violation := false } else s

/-- A bay's voltage starts to rise for the next point. -/
def State.rise (s : State) (b : Nat) : State := s.setBay b { s.bayAt b with aclkTarget := some ((s.bayAt b).aclk + 50) }

def State.capWatts (s : State) : Nat := bitsOf s.power.deviceCap.toNat 11 0
def State.dutyFloor (s : State) : Nat := bitsOf s.power.dutyMin.toNat 2 0

/-- Is the density of one bay below that of another (R449)? -/
def State.thinner (s : State) (pw : Nat → Nat) (a b : Nat) : Bool := decide (pw a * (s.bayAt b).count < pw b * (s.bayAt a).count)

/-- The densest bay of a list; of equals the first. -/
def State.densest (s : State) (pw : Nat → Nat) : List Nat → Option Nat
  | [] => none
  | b :: bs => match s.densest pw bs with
    | none => some b
    | some c => if s.thinner pw b c then some c else some b

/-- A list of bays with the lowest density first; equals keep their order. -/
def State.insertThin (s : State) (pw : Nat → Nat) (b : Nat) : List Nat → List Nat
  | [] => [b]
  | c :: cs => if s.thinner pw c b then c :: s.insertThin pw b cs else b :: c :: cs
def State.byDensity (s : State) (pw : Nat → Nat) (bs : List Nat) : List Nat := bs.foldr (fun b l => s.insertThin pw b l) []

/-- The bay that the cap lowers (R449), outside isolated mode. -/
def State.capLowers (s : State) (pw : Nat → Nat) : Option Nat :=
  if s.dev.isolated then none
  else match s.densest pw (s.bays'.filter (fun b => !s.fixedFreq b && decide ((s.bayAt b).aclkMin < (s.bayAt b).aclk))) with
    | some b => some b
    | none => s.densest pw (s.bays'.filter (fun b => s.fixedFreq b && decide (600 < (s.bayAt b).aclk)))

/-- May the controller raise a bay: nothing holds it down, it is within its envelope and below its limit (R449)? In isolated mode stretches
hold no bay down (R454). -/
def State.mayRise (s : State) (pw : Nat → Nat) (stretched : List Nat) (b : Nat) : Bool :=
  let v := s.bayAt b
  v.heldDown == [] && (s.dev.isolated || !stretched.contains b) && v.aclkTarget.isNone && (v.envelope == 0 || decide (pw b ≤ v.envelope)) &&
    decide (v.aclk < s.pointLimit b)

/-- Does the projection of a raise of something with a power stay within 0.97 of the cap? Powers in W. -/
def State.projects (s : State) (total own : Nat) : Bool := decide (100 * total + 5 * own ≤ 97 * s.capWatts)

/-- The raise of a tick: the port duty, then fixed-frequency bays, then opportunistic bays. The power that the duty's projection
counts is not the spec's, and is a free value (log entry 51). -/
def State.capRaises (s : State) (total : Nat) (pw : Nat → Nat) (stretched : List Nat) : State :=
  if s.power.duty < 4 && s.power.causes == [] && s.projects total (Config.openNat s.draws) then
    { s with power := { s.power with duty := s.power.duty + 1 } }
  else
    let fixed := s.bays'.filter (fun b => s.fixedFreq b)
    let opp := s.byDensity pw (s.bays'.filter (fun b => !s.fixedFreq b))
    match (fixed ++ opp).find? (fun b => s.mayRise pw stretched b && s.projects total (pw b)) with
    | some b => s.rise b
    | none => s

/-- The cap's part of a tick (R449). -/
def State.capStep (s : State) (total : Nat) (pw : Nat → Nat) (stretched : List Nat) : State :=
  if s.capWatts < total then
    match s.capLowers pw with
    | some b => if s.fixedFreq b then s.lower b 1
        else (s.setBay b { s.bayAt b with aclk := (s.bayAt b).aclk - 50, aclkTarget := none }).throttled b 0
    | none => if s.dutyFloor < s.power.duty then
        { s with power := { s.power with duty := s.power.duty - 1, pfThrottle := Nat.lor s.power.pfThrottle 32 } } else s
  else if 100 * total ≤ 97 * s.capWatts then s.capRaises total pw stretched
  else s

/-- The counts of the power records over a tick; 1 W for 10 µs is 10 µJ (R459). -/
def State.meter (s : State) (total : Nat) (pw : Nat → Nat) : State :=
  let p := s.power
  let s1 := { s with power := { p with devicePower := total, pfEnergy := p.pfEnergy + total, pfSum := p.pfSum + total, pfTicks := p.pfTicks + 1,
                                       pfPeak := max p.pfPeak total, overCap := if s.capWatts < total then p.overCap + 1 else 0 } }
  s1.bays'.foldl (fun (t : State) b =>
    let v := t.bayAt b
    t.setBay b { v with energy := v.energy + pw b, powSum := v.powSum + pw b, powTicks := v.powTicks + 1, peak := max v.peak (pw b) }) s1

/- Emergencies (R448, R452, R455). The causes in effect: 1 to 4 of R452; 5 a tile, 6 a stack, 7 a converter or regulator. -/

/-- Every strip moves to 600 MHz and the port duty to ¼. -/
def State.throttleAll (s : State) : State :=
  let s1 := s.bays'.foldl (fun (t : State) b =>
    let v := t.bayAt b
    ((t.setBay b { v with aclk := min v.aclk 600, aclkTarget := none, heldDown := setIns v.heldDown 5 }).throttled b 4).violate b 5) s
  { s1 with power := { s1.power with duty := 1, pfThrottle := Nat.lor s1.power.pfThrottle (16 + 32) } }

/-- A cause comes into effect; its event is raised once while it lasts. -/
def State.emergency (s : State) (cause src : Nat) (e : Ev) : State :=
  if s.power.causes.contains cause then s
  else ({ s with power := { s.power with causes := setIns s.power.causes cause } }.pend src).throttleAll.raiseAll e (fun _ => 0)

/-- A power emergency (R448). -/
def State.powerEmergency (s : State) (cause : Nat) : State := s.emergency cause 3 ⟨0x61, 0, 0, cause, 0⟩

/-- POWER_EMERGENCY (R448). PWR_ALERT_N is the contact of cause 4. -/
def execPowerEmergency (cause : Nat) (s : State) : Host.Outcome State Fault Refusal :=
  .next (if 1 ≤ cause ∧ cause ≤ 4 then
      let t := if cause = 4 then { s with dev := { s.dev with alertN := true } } else s
      t.powerEmergency cause
    else s)

/-- Has a cause that the device measures cleared (R448, R455)? -/
def State.causeCleared (s : State) (cause : Nat) : Bool :=
  match cause with
  | 1 => decide (s.power.devicePower ≤ 3600)
  | 2 => decide (s.power.devicePower ≤ s.capWatts)
  | 5 => s.power.tileTemp.all (fun e => decide (e.2 ≤ 400))
  | 6 => s.power.stackTemp.all (fun e => decide (e.2 ≤ 380))
  | 7 => decide (s.power.regTemp ≤ 440)
  | _ => true

/-- EMERGENCY_RELEASE (R452): the limits are released; the raises of R449 follow. -/
def State.emergencyRelease (s : State) : State :=
  if s.power.causes = [] || !s.power.causes.all s.causeCleared then s
  else
    let s1 := { s with power := { s.power with causes := [] }, dev := { s.dev with alertN := false } }
    (List.range 12).foldl (fun (t : State) b =>
      if (t.bayAt b).heldDown.contains 5 then t.setBay b { t.bayAt b with heldDown := setDel (t.bayAt b).heldDown 5 } else t) s1

/-- EMERGENCY_RELEASE (R452). -/
def execEmergencyRelease (s : State) : Host.Outcome State Fault Refusal := .next s.emergencyRelease

/- CAP_TICK (R449). -/

/-- Does the activation of a management controller image hold every ACLK and the port duty (R492)? -/
def State.capHeld (s : State) : Bool := match s.sec.activation with | some a => a.1 == 2 | none => false

/-- A bay stretched in more than a tenth of a tick is lowered in shared mode (R454). -/
def State.stretchLowers (s : State) (stretched : List Nat) : State :=
  if s.dev.isolated then s
  else (s.bays'.filter (fun b => stretched.contains b)).foldl (fun (t : State) b => t.lower b (if (t.bayAt b).envelope = 0 then 1 else 2)) s

/-- A bay above its envelope is lowered (R449). -/
def State.envelopeLowers (s : State) (pw : Nat → Nat) : State :=
  s.bays'.foldl (fun (t : State) b => if (t.bayAt b).envelope ≠ 0 ∧ (t.bayAt b).envelope < pw b then t.lower b 2 else t) s

/-- The tick of the cap controller. -/
def State.capTick (s : State) (total : Nat) (bays stretched : List Nat) : State :=
  let pw (b : Nat) : Nat := bays.getD b 0
  let s1 := (s.pend 232).meter total pw
  let s2 := if 3600 < total then s1.powerEmergency 1 else s1
  let s3 := if 200 ≤ s2.power.overCap then s2.powerEmergency 2 else s2
  if s3.capHeld then s3.drawn
  else
    let s4 := s3.bays'.foldl (fun (t : State) b => t.followSet b) s3
    let s5 := ((s4.stretchLowers stretched).envelopeLowers pw).capStep total pw stretched
    (s5.bays'.foldl (fun (t : State) b => t.episodeEnds b) s5).drawn

/-- CAP_TICK (R449): `bays` holds the power of bay b at position b. -/
def execCapTick (power : Nat) (bays stretched : List Nat) (s : State) : Host.Outcome State Fault Refusal :=
  .next (if s.dev.mainOn then s.capTick power bays stretched else s)

/-- A bay's frequency changes once its voltage has settled (R447). -/
def State.settleAclk (s : State) (b : Nat) : State :=
  let v := s.bayAt b
  match v.aclkTarget with
  | none => s
  | some point => (s.setBay b { v with aclk := point, aclkTarget := none }).episodeEnds b

/-- ACLK_STEP_SETTLE (R447): not while an activation holds every ACLK (R492). -/
def execAclkStepSettle (bay : Nat) (s : State) : Host.Outcome State Fault Refusal :=
  .next (if s.dev.mainOn && !s.capHeld then s.settleAclk bay else s)

/- The main domains (R452, R455, R489, R527). -/

/-- The domains of the auxiliary input (R24). -/
def auxDoms : List Nat := [185, 186, 188]

/-- Every main domain goes off, and with them the link, the ports, which are DISABLED (R328), and the ridge. -/
def State.mainOff (s : State) (input : Bool) : State :=
  { s with power := { s.power with on := s.power.on.filter (fun d => auxDoms.contains d), gated := [] },
           dev := { s.dev with mainOn := false, mainInput := input, faultN := true, ready := false, configAnswers := false, boot := .rails },
           ports := s.ports.map (fun (e : Nat × Port) => (e.1, { e.2.lost with st := .disabled, reqs := [], spans := [] })) }

/-- The main domains are shut off, with DEVICE_FATAL (R440, R452, R455); the items of a shutdown get no record (R483). -/
def State.mainShutdown (s : State) (cause : FatalCause) : State :=
  (s.deviceFatal cause).mainOff (cause == FatalCause.thermalTrip && s.dev.mainInput)

/-- MAIN_INPUT_SHUTDOWN (R452, R527): below 40 V, or above 59 V. With the main domains off it tells that the input is out of its range
(R529). -/
def execMainInputShutdown (_over : Bool) (s : State) : Host.Outcome State Fault Refusal :=
  .next (if s.dev.mainOn then (s.pend 1).mainShutdown .shutdown else { s with dev := { s.dev with mainInput := false } })

/- Temperatures (R455), in units of 0.25 °C. -/

/-- The bay whose strip a physical tile stands in, or 12. -/
def State.tileBay (s : State) (key : Nat) : Nat := (s.stripOwner (key / 360)).getD 12

/-- The live tiles of a sample: the sensors of dead tiles are excluded. -/
def State.liveTemps (s : State) (tiles : List (Nat × Int)) : List (Nat × Int) :=
  tiles.filter (fun e => decide (e.1 < 4320) && !(s.columnAt (e.1 / 60)).dead.contains (e.1 % 60))

/-- The hottest of a list of sensors; of equals the first. -/
def hottest : List (Nat × Int) → Option (Nat × Int)
  | [] => none
  | e :: es => match hottest es with
    | none => some e
    | some h => if e.2 < h.2 then some h else some e

/-- Has a hottest live tile reached 95 °C and not yet fallen to 92 °C (R455)? -/
def tileHot (was : Bool) (t : Int) : Bool := decide (380 ≤ t) || (was && decide (368 < t))

/-- A bay's tile temperature acts on it: one step down per sample from 95 °C until 92 °C, with raises held; an activation that holds every
ACLK holds the step (R492). -/
def State.bayTemp (s : State) (b : Nat) (hot : Option (Nat × Int)) : State :=
  let held := (s.bayAt b).heldDown.contains 3
  let now := tileHot held ((hot.map (·.2)).getD 0)
  let s1 := if held = now then s else
    s.setBay b { s.bayAt b with heldDown := if now then setIns (s.bayAt b).heldDown 3 else setDel (s.bayAt b).heldDown 3 }
  if now && !s.capHeld then s1.lower b 3 else s1

/-- The interrupt source of each strip whose hottest live tile crosses 95 °C or 92 °C (R460). -/
def State.stripHeat (s : State) (live : List (Nat × Int)) : State :=
  (List.range 12).foldl (fun (t : State) k => match hottest (live.filter (fun e => e.1 / 360 == k)) with
    | none => t
    | some h =>
      let was := t.power.hotStrips.contains k
      let now := tileHot was h.2
      if was = now then t
      else { t with power := { t.power with hotStrips := if now then setIns t.power.hotStrips k else setDel t.power.hotStrips k } }.pend (120 + k)) s

/-- A bit of THROTTLE for a stack: in the record of its bay, and in the PF's (R459). -/
def State.stackThrottled (s : State) (k : Nat) : State :=
  match s.stripOwner (stackStrip k) with
  | some b => s.throttled b 3
  | none => { s with power := { s.power with pfThrottle := Nat.lor s.power.pfThrottle (2 ^ 3) } }

/-- The thresholds of 85, 95, 100 and 105 °C that a stack's reading has reached (R455). -/
def stackSteps (t : Int) : List Bool := [decide (340 ≤ t), decide (380 ≤ t), decide (400 ≤ t), decide (420 ≤ t)]

/-- A stack's temperature: its refresh doubles, and its paths are limited (R245, R248), which the power records tell (R459); a threshold that
its reading crosses is its interrupt source (R460). -/
def State.stackHeat (s : State) (k : Nat) (t : Int) : State :=
  let v := s.stackAt k
  let h := tileHot v.halfRate t
  let s1 := s.setStack k { v with doubled := decide (340 ≤ t), halfRate := h }
  let s2 := if stackSteps (tabGet s.power.stackTemp k 0) = stackSteps t ∧ v.halfRate = h then s1 else s1.pend (132 + k)
  if h then s2.stackThrottled k else s2

/-- LOCATION0 and LOCATION1 of a tile's sensor in a PF record (R421). -/
def State.tileLoc (s : State) (key : Nat) : Nat × Nat :=
  match logRow (s.columnAt (key / 60)).holes (key % 60) with
  | some y => (key / 60 + key % 60 * 256 + y * 65536, 0xFFFF)
  | none => (key / 60 + key % 60 * 256 + 0xFF * 65536, 0xFFFF)

/-- The samples as state. -/
def State.sampled (s : State) (tiles stackList : List (Nat × Int)) (reg : Int) : State :=
  let live := s.liveTemps tiles
  let perBay := (List.range 13).filterMap (fun b => (hottest (live.filter (fun e => s.tileBay e.1 == b))).map (fun h => (b, h.2)))
  { s with life := { s.life with sumHot := live.foldl (fun m e => some (match m with | none => e.2 | some x => max x e.2)) s.life.sumHot },
           power := { s.power with tileTemp := perBay, stackTemp := stackList.filter (fun e => decide (e.1 < 24)), regTemp := reg } }

/-- A thermal emergency of each kind of sensor that meets its threshold. -/
def State.thermalEmergencies (s : State) (live stackList : List (Nat × Int)) (reg : Int) : State :=
  let s1 := match hottest live with
    | some h => if 420 ≤ h.2 then let l := s.tileLoc h.1; s.emergency 5 2 ⟨0x60, l.1, l.2, 1, 0⟩ else s
    | none => s
  let s2 := match hottest stackList with
    | some h => if 400 ≤ h.2 then s1.emergency 6 2 ⟨0x60, h.1, 0, 2, 0⟩ else s1
    | none => s1
  if 460 ≤ reg then s2.emergency 7 2 ⟨0x60, 0, 0, 3, 0⟩ else s2

/-- Does a sample meet a trip threshold? -/
def tripMet (live stackList : List (Nat × Int)) (reg : Int) : Bool :=
  live.any (fun e => decide (460 ≤ e.2)) || stackList.any (fun e => decide (420 ≤ e.2)) || decide (500 ≤ reg)

/-- Do all the trip sensors read below their emergency thresholds (R455)? -/
def State.belowEmergency (s : State) : Bool :=
  s.power.tileTemp.all (fun e => decide (e.2 < 420)) && s.power.stackTemp.all (fun e => decide (e.2 < 400)) && decide (s.power.regTemp < 460)

/-- A sample of the sensors (R455). -/
def State.temperatures (s : State) (tiles stackList : List (Nat × Int)) (reg : Int) : State :=
  let live := s.liveTemps tiles
  let stk := stackList.filter (fun e => decide (e.1 < 24))
  let s1 := s.pend 233
  if !s.dev.mainOn then s1.sampled tiles stackList reg
  else
    let s2 := ((List.range 24).foldl (fun (t : State) k => t.stackHeat k (tabGet stk k 0)) (s1.stripHeat live)).sampled tiles stackList reg
    if tripMet live stk reg then (s2.pend 0).mainShutdown .thermalTrip
    else
      (s2.bays'.foldl (fun (t : State) b => t.bayTemp b (hottest (live.filter (fun e => t.tileBay e.1 == b)))) s2).thermalEmergencies live stk reg

/-- TEMPERATURE_SAMPLE (R455). -/
def execTemperatureSample (tiles stackList : List (Nat × Int)) (reg : Int) (s : State) : Host.Outcome State Fault Refusal :=
  .next (s.temperatures tiles stackList reg)

/- Droop, ageing, gating, regulators (R454, R456 to R458). -/

/-- A droop stretches a clock; the ACLK cycles of a strip are counted. -/
def State.droop (s : State) (kind unit cycles : Nat) : State :=
  if kind ≠ 0 ∨ 12 ≤ unit then s
  else
    let s1 := { s with power := { s.power with pfStretches := s.power.pfStretches + cycles } }
    match s1.stripOwner unit with
    | some b => s1.setBay b { s1.bayAt b with stretches := (s1.bayAt b).stretches + cycles }
    | none => s1

/-- DROOP_TRIP (R454): it changes no result, frequency or operating point. -/
def execDroopTrip (kind unit cycles : Nat) (s : State) : Host.Outcome State Fault Refusal := .next (s.droop kind unit cycles)

/-- Does a domain hold ageing monitors (R456)? -/
def ageingDomain (d : Nat) : Bool := decide (d < 144 ∨ (184 ≤ d ∧ d ≤ 187))

/-- A domain below the trim threshold is trimmed by 2.5 mV, up to 60 mV; one at 60 mV that lacks margin at its highest point waits for a
withdrawal. -/
def State.trim (s : State) (a : AgeingLow) : State :=
  let d := a.domain
  let t := tabGet s.power.trims d 0
  if !ageingDomain d then s
  else if t < 600 then
    { s with power := { s.power with trims := tabSet s.power.trims d (t + 25) } }.lifeLog 2 (natLE 2 d ++ natLE 1 25 ++ natLE 1 ((t + 25) / 10))
  else if a.top then { s with power := { s.power with withdrawDue := setIns s.power.withdrawDue d } }
  else s

/-- AGEING_MEASUREMENT (R456). -/
def execAgeingMeasurement (low : List AgeingLow) (s : State) : Host.Outcome State Fault Refusal :=
  .next (low.eraseDups.foldl (fun (t : State) a => t.trim a) (s.pend 234))

/-- The logical cores of a tile domain: those at its live tiles (R23). -/
def State.domainCores (s : State) (d : Nat) : List Nat :=
  (List.range 6).flatMap (fun i => (List.range 6).filterMap (fun r =>
    (logRow (s.columnAt (d / 10 * 6 + i)).holes (d % 10 * 6 + r)).map (fun y => (d / 10 * 6 + i) * 56 + y)))

/-- Has a core no work order or packet (R112)? -/
def State.coreIdle (s : State) (c : Nat) : Bool := (s.coreAt c).queue == [] && (s.coreAt c).tree == []

/-- Is a tile of a tile domain checked: for a rehang, each hour, or as the spare of a repair (R428, R432, R433)? -/
def State.domainChecked (s : State) (d : Nat) : Bool :=
  s.tileChecked d || s.repairs.any (fun r => decide (5 ≤ r.2.step) && (s.chosen r.2).any (fun c => tileDom c.1 c.2 == d))

/-- May a domain be gated once its idle time has passed (R457)? -/
def State.mayGate (s : State) (d : Nat) : Bool :=
  if d < 120 then !s.domainChecked d && !s.scrubbing (d / 10) && (match s.stripOwner (d / 10) with
    | none => !s.dev.restore.any (fun r => r.1 == d / 10)
    | some b => (s.domainCores d).all s.coreIdle && !((s.bayAt b).halted && !s.locked b) && (s.bayAt b).scrub == [])
  else if d < 144 then s.dev.outOfService.contains ((d - 120) % 12) && !s.dev.restore.any (fun r => r.1 == (d - 120) % 12)
  else if d < 168 then (s.stackAt (d - 144)).eave == [] && (s.stackAt (d - 144)).eaveTree == []
  else decide (168 ≤ d ∧ d < 184) && (s.portAt (d - 168)).st == .disabled

/-- DOMAIN_GATE (R457). -/
def execDomainGate (domain : Nat) (s : State) : Host.Outcome State Fault Refusal :=
  .next (if s.power.on.contains domain && s.mayGate domain then s.gate [domain] else s)

/-- May a domain wake: a tile domain of a bay, an eave engine of a strip in service, a port that trains (R457)? -/
def State.mayWake (s : State) (d : Nat) : Bool :=
  if d < 120 then (s.stripOwner (d / 10)).isSome
  else if 144 ≤ d ∧ d < 168 then !s.dev.outOfService.contains ((d - 144) % 12)
  else decide (168 ≤ d ∧ d < 184) && (s.portAt (d - 168)).st != .disabled

/-- A domain wakes, and what the collective engine owes at the cores of a tile domain is written (R457, R366). -/
def State.domainWakes (s : State) (d : Nat) : State :=
  let s1 := s.ungate [d]
  match (if d < 120 then s1.stripOwner (d / 10) else none) with
  | some b => s1.collRetell b
  | none => s1

/-- DOMAIN_WAKE (R457). -/
def execDomainWake (domain : Nat) (s : State) : Host.Outcome State Fault Refusal :=
  .next (if s.power.gated.contains domain && s.mayWake domain then s.domainWakes domain else s)

/-- A regulator shuts its domain off (R458). -/
def State.regulatorFault (s : State) (d : Nat) : State :=
  let s1 := { s with power := { s.power with on := setDel s.power.on d } }
  if d < 120 then ((domainTiles d).foldl (fun (t : State) p => t.tileFails p.1 p.2 false) (s1.pend (108 + d / 10))).repairReplan (s1.repairKey (d / 10))
  else if d < 144 then (s1.pend (108 + (d - 120) % 12)).stripLost ((d - 120) % 12) 3 0
  else if d < 168 then (s1.pend (108 + (d - 144) % 12)).eaveFails (d - 144)
  else if d < 184 then s1.portStops (d - 168)
  else if d ≤ 189 then (s1.pend 1).deviceFatal .regulator
  else s

/-- REGULATOR_FAULT (R458): of a domain that is on, which the auxiliary domains are while the main input is absent (R24). -/
def execRegulatorFault (domain : Nat) (s : State) : Host.Outcome State Fault Refusal :=
  .next (if s.dev.mainOn || s.power.on.contains domain then s.regulatorFault domain else s)

end Sys2Proof.Machine
end

