-- ==== Sys2Proof/Machine/IctlRegs.lean ====
section
/-! DEFINITION. The interrupt controller (chapter 21): delivery (R462, R463), its registers (R466), the wait instruction (R464),
and MSI-X messages that were pending (R377, R469). -/

namespace Sys2Proof.Machine

/-- A target of the controller: 0 the ridge, 1 the security controller, 2 the management controller. -/
def State.tgtAt (s : State) (t : Nat) : IctlTarget := tabGet s.ictl.tgt t {}
def State.setTgt (s : State) (t : Nat) (v : IctlTarget) : State := { s with ictl := { s.ictl with tgt := tabSet s.ictl.tgt t v } }

/-- The lowest-numbered enabled pending source of a target (R462); an unlisted source is not pending. -/
def State.nextSrc (s : State) (t : Nat) : Option Nat :=
  (s.ictl.src.find? (fun e => e.2.target == t && e.2.enable && e.2.pending)).map (·.1)

/-- Is a target ready for delivery (R462)? -/
def State.tgtReady (s : State) (t : Nat) : Bool := decide (t < 3) && !(s.tgtAt t).mask && (s.tgtAt t).active == 0xFFFF

/-- Delivery to a target: ACTIVE takes the source's number, and its PENDING clears. A processor that waited has woken (R464). -/
def State.deliver (s : State) (t : Nat) : State :=
  if s.tgtReady t then match s.nextSrc t with
    | none => s
    | some n => (s.setSrc n { s.srcAt n with pending := false }).setTgt t { s.tgtAt t with active := n, waiting := false }
  else s

/-- INTERRUPT_DELIVERY (R462). -/
def execInterruptDelivery (target : Nat) (s : State) : Host.Outcome State Fault Refusal := .next (s.deliver target)

/-- ICTL_DONE (R463): it ends handling; where none is in progress it changes nothing. -/
def execIctlDone (target : Nat) (s : State) : Host.Outcome State Fault Refusal :=
  .next (if target < 3 then s.setTgt target { s.tgtAt target with active := 0xFFFF } else s)

/-- ICTL_SOFT_SET (R466). -/
def execIctlSoftSet (value : Nat) (s : State) : Host.Outcome State Fault Refusal :=
  .next (if 256 ≤ value % 512 then s.pend (value % 512) else s)

/-- A source after a write of its register (R466): TARGET unless it is fixed, locked or 3; ENABLE unless it is fixed; PENDING
clears where bit 0 is 1. -/
def srcWritten (v : IctlSrc) (n value : Nat) (locked : Bool) : IctlSrc :=
  let tgt := bitsOf value 3 2
  ⟨if n ≤ 5 || locked || tgt == 3 then v.target else tgt, if n ≤ 5 then v.enable else bitOf value 1, v.pending && !bitOf value 0⟩

/-- ICTL_SRC of a source is written; a reserved source has no bit to write but its TARGET. -/
def State.srcWrite (s : State) (n value : Nat) : State :=
  if 512 ≤ n then s
  else
    let v := srcWritten (s.srcAt n) n value s.ictl.locked
    s.setSrc n (if srcListed n then v else { v with enable := false, pending := false })

/-- ICTL_SRC_WRITE (R466). -/
def execIctlSrcWrite (src value : Nat) (s : State) : Host.Outcome State Fault Refusal := .next (s.srcWrite src value)

/-- ICTL_MASK_WRITE (R466). -/
def execIctlMaskWrite (target value : Nat) (s : State) : Host.Outcome State Fault Refusal :=
  .next (if target < 3 then s.setTgt target { s.tgtAt target with mask := bitOf value 0 } else s)

/-- WAIT_INSTRUCTION (R464). -/
def execWaitInstruction (target : Nat) (s : State) : Host.Outcome State Fault Refusal :=
  .next (if target < 3 then s.setTgt target { s.tgtAt target with waiting := true } else s)

/-- WAIT_WAKE (R464): whatever MASK and ACTIVE are; the source stays pending. -/
def execWaitWake (target : Nat) (s : State) : Host.Outcome State Fault Refusal :=
  .next (if (s.tgtAt target).waiting && (s.nextSrc target).isSome then s.setTgt target { s.tgtAt target with waiting := false } else s)

/- MSI-X (R377, R469). -/

/-- The entries of a function's MSI-X table. -/
def msixEntries (fn : Nat) : Nat := if fn = pfFn then 32 else 66

/-- MSI-X Enable and Bus Master Enable become 1, and the Function Mask 0. -/
def FnState.msixOn (f : FnState) : FnState := { f with msixEnable := true, busMaster := true, functionMask := false }

/-- A write of an entry of a function's MSI-X table. -/
def FnState.msixWrite (f : FnState) (w : MsixWrite) : FnState :=
  { f with msixTab := tabSet f.msixTab w.entry (w.addr, w.data), msixOpen := if w.masked then setDel f.msixOpen w.entry else setIns f.msixOpen w.entry }

/-- MSIX_UNMASK: one entry is written, or the function may send again. A Bus Master Enable that changes so stops the bay of a locked
virtual function (R389). -/
def State.msixUnmask (s : State) (fn : Nat) (entry : Option MsixWrite) : State :=
  if 13 ≤ fn then s else match entry with
    | none =>
      let t := if fn != pfFn && s.locked fn && !(s.fnAt fn).busMaster then (s.pend 25).securityStop fn false else s
      ((t.setFn fn (t.fnAt fn).msixOn).msixFlush fn).tail
    | some w => if w.entry < msixEntries fn then (s.setFn fn ((s.fnAt fn).msixWrite w)).msixFlush fn else s

/-- MSIX_UNMASK (R377, R469). -/
def execMsixUnmask (fn : Nat) (entry : Option MsixWrite) (s : State) : Host.Outcome State Fault Refusal := .next (s.msixUnmask fn entry)

end Sys2Proof.Machine
end

