-- ==== Sys2Proof/Machine/Debug.lean ====
section
/-! DEFINITION. Debug and snapshot (chapter 22): the strobe and the snapshot image (R471 to R478), the traces (R479), halting
(R480) and DEBUG_ACCESS (R470, R471). -/

namespace Sys2Proof.Machine

/- Snapshots (R472 to R478). -/

/-- The fields of SNAPSHOT_STROBE. -/
def strobeCheck (e : List Byte) : Chk Unit := do
  adminHead e .pf false
  adminNoRange e
  need (fieldAt e 36 1 / 2 == 0 && allZero (bytesAt e 37 11)) .descriptorInvalid

/-- SNAPSHOT_STROBE: it captures, and its message leaves where BROADCAST is 1. With one held it counts as missed
(R473), and is refused. -/
def State.hostStrobe (s : State) (q : Nat) : State :=
  s.adminRun q 0x40 strobeCheck (fun t it =>
    if t.dbg.held.isSome then (t.strobe 1 0 (some (fieldAt it.entry 28 8)) none 0).refuse q it 1
    else
      let id := fieldAt it.entry 28 8
      let t1 := t.strobe 1 0 (some id) none 0
      (if byteBit it.entry 36 0 then t1.snapSend none 255 id else t1).adminEnd q it.slot .ok t.stamp)

/-- SNAPSHOT_STROBE (R472). -/
def execSnapshotStrobe (q : Nat) (s : State) : Host.Outcome State Fault Refusal := .next (s.hostStrobe q)

/-- The level that applies to a captured part: 0 where it was or is locked (R417, R478). -/
def capLevel (a b : DomCap) : Nat := if a.locked || b.locked then 0 else min a.level b.level

/-- Does the block of a domain capture counters, or data (R476)? The security controller and the always-on domain have status alone, and the
management controller counters beside it. -/
def domHas (d data : Nat) : Bool := d != 185 && d != 188 && !(d == 186 && data == 1)

/-- The clock of R20 that drives a domain: an ACLK, an MCLK, a link clock, RCLK, SCLK, the PCIe clock, AON (R475). -/
def domClock (d : Nat) : Nat :=
  if d < 120 then d / 10 else if d < 168 then 100 + (d - 120) % 24 else if d < 184 then 200 + d else if d = 184 then 300
  else if d ≤ 186 then 301 else d

/-- The parts of a shared block that belong to the bays of a capture, at a level: the counters or the data of a bay, open where the bay's own
level opens them too (R416). -/
def State.bayParts (s : State) (h : Snapshot) (d applied data : Nat) : List (Bool × List Byte) :=
  if d < 168 || !domHas d 1 then []
  else (List.range 12).filterMap (fun b =>
    let c := h.bays.getD b { on := false, level := 0, locked := true }
    if c.on then some (decide (data + 1 ≤ min applied (capLevel c (s.bayCap b))),
      Config.snapBytes h.draw d (3 + data + 2 * b) (if d ≠ 184 then [] else if data = 0 then c.counts else c.data)) else none)

/-- The slip-map entries of the routers of a tile domain, in the order of its tiles (R262, R476). -/
def Snapshot.routers (h : Snapshot) (d : Nat) : List Byte :=
  if d < 120 then (domainTiles d).flatMap (fun p => natLE 8 (routerEntry h.cols p.1 p.2)) else []

/-- The record of a domain in the image (R478): its status begins with the entries of its routers (log entry 6). -/
def State.domRecord (s : State) (h : Snapshot) (d : Nat) : List Byte :=
  let c := h.doms.getD d { on := false, level := 0, locked := false }
  let lv := capLevel c (s.domCap d)
  if c.on = false then natLE 2 d ++ natLE 1 1 ++ natLE 1 lv ++ List.replicate 20 0
  else
    let parts (data : Nat) : List (Bool × List Byte) :=
      (if domHas d data then [(decide (data + 1 ≤ lv), Config.snapBytes h.draw d (1 + data) (if data = 0 then c.counts else c.data))] else []) ++
        s.bayParts h d lv data
    let shown (ps : List (Bool × List Byte)) : List Byte := (ps.filter (·.1)).flatMap (·.2)
    let omits (ps : List (Bool × List Byte)) : Bool := ps.any (fun p => !p.1)
    let status := h.routers d ++ Config.snapBytes h.draw d 0 c.status ++ shown (parts 0)
    let body := shown (parts 1)
    natLE 2 d ++ natLE 1 (if omits (parts 0) || omits (parts 1) then 2 else 0) ++ natLE 1 lv ++ natLE 4 status.length ++ natLE 4 body.length ++
      natLE 4 0 ++ natLE 8 (Config.snapCycle h.draw (domClock d)) ++ status ++ body

/-- The image of a held snapshot (R477). -/
def State.snapImage (s : State) (h : Snapshot) : List Byte :=
  let body := (List.range 189).flatMap (fun d => s.domRecord h d)
  natLE 4 0x50414E53 ++ natLE 2 1 ++ natLE 1 h.source ++ natLE 1 h.forwards ++ natLE 8 h.snapId ++ natLE 8 h.time ++ natLE 1 h.fabricId ++
    natLE 1 h.level ++ natLE 1 h.origin ++ natLE 1 0 ++ natLE 4 s.dbg.missed ++ natLE 2 189 ++ natLE 2 h.trigger ++
    natLE 4 (64 + body.length) ++ List.replicate 24 0 ++ body

/-- ADDRESS in space 0x4 and a COUNT up to a limit. -/
def rangeUpTo (u : BayUse) (limit : Nat) (e : List Byte) : Chk Unit := do
  adminHead e u false
  need (adAddr e / 2 ^ 60 == 4) .descriptorInvalid
  need (decide (adCount e ≤ limit)) .lengthRange

/-- The fields of SNAPSHOT_READ. -/
def snapReadCheck (e : List Byte) : Chk Unit := do
  rangeUpTo .pf 16777216 e
  need (allZero (bytesAt e 28 20)) .descriptorInvalid

/-- SNAPSHOT_READ (R471). -/
def State.snapRead (s : State) (q : Nat) : State :=
  s.adminRun q 0x41 snapReadCheck (fun t it =>
    match t.dbg.held with
    | none => t.refuse q it 1
    | some h => match t.checkAt pfFn (adAddr it.entry) (adCount it.entry) with
      | some st => t.adminEnd q it.slot st 0
      | none =>
        let image := t.snapImage h
        t.adminWrite q it (image.take (adCount it.entry)) (fun u => u.adminEnd q it.slot .ok image.length))

/-- SNAPSHOT_READ (R477). -/
def execSnapshotRead (q : Nat) (s : State) : Host.Outcome State Fault Refusal := .next (s.snapRead q)

/-- A held snapshot is released, and the traces record again (R473, R479). -/
def State.snapFree (s : State) : State := { s with dbg := { s.dbg with held := none, recording := true } }

/-- The fields of an entry that uses neither ADDRESS nor OPERANDS. -/
def bareCheck (u : BayUse) (e : List Byte) : Chk Unit := do
  adminHead e u false
  adminNoRange e
  need (allZero (bytesAt e 28 20)) .descriptorInvalid

/-- SNAPSHOT_RELEASE (R473). -/
def State.snapRelease (s : State) (q : Nat) : State :=
  s.adminRun q 0x42 (bareCheck .pf) (fun t it =>
    if t.dbg.held.isSome then t.snapFree.adminEnd q it.slot .ok 1 else t.adminEnd q it.slot .ok 0)

/-- SNAPSHOT_RELEASE (R473). -/
def execSnapshotRelease (q : Nat) (s : State) : Host.Outcome State Fault Refusal := .next (s.snapRelease q)

/-- SNAPSHOT_HOLD_EXPIRY (R473): a capture of a DEVICE_FATAL trigger stays. -/
def execSnapshotHoldExpiry (s : State) : Host.Outcome State Fault Refusal :=
  .next (match s.dbg.held with
    | some h => if h.trigger = evDeviceFatal then s else s.snapFree
    | none => s)

/-- SNAP_N (R472, R524): a low of at least 100 ns is a strobe. -/
def execSnapN (ns : Nat) (s : State) : Host.Outcome State Fault Refusal :=
  .next (if 100 ≤ ns ∧ s.dev.auxPower then s.strobe 3 0 none none 0 else s)

/- Traces (R479). -/

/-- The level that opens a bay's entries of a trace: of the ridge's, the lower of the bay's and the device's (R470). -/
def State.traceLevel (s : State) (ridge : Bool) (b : Nat) : Nat :=
  let own := if b = pfFn then s.dev.debugLevel else if s.locked b then 0 else (s.bayAt b).debugLevel
  if ridge then min own s.dev.debugLevel else own

/-- The entries of a trace that TRACE_READ may copy. -/
def State.traceOpen (s : State) (sel : Nat) : List (List Byte) :=
  if sel = 0 then s.dbg.ridgeTrace.filter (fun e => decide (1 ≤ s.traceLevel true (fieldAt e 1 1)))
  else (tabGet s.dbg.coreTrace (sel - 1) []).filter (fun e => decide (1 ≤ s.traceLevel false (fieldAt e 2 1)))

/-- The level of a trace: the ridge's, or the strip's. -/
def State.traceDomain (s : State) (sel : Nat) : Nat := if sel = 0 then s.domainLevel 184 else s.domainLevel (10 * (sel - 1))

/-- The fields of TRACE_READ. -/
def traceCheck (e : List Byte) : Chk Unit := do
  rangeUpTo .pf 32768 e
  need (decide (fieldAt e 28 1 ≤ 12) && allZero (bytesAt e 29 19)) .descriptorInvalid

/-- TRACE_READ copies the most recent entries, oldest first. -/
def State.traceRead (s : State) (q : Nat) : State :=
  s.adminRun q 0x43 traceCheck (fun t it =>
    let sel := fieldAt it.entry 28 1
    if t.traceDomain sel < 1 then t.refuse q it 2
    else match t.checkAt pfFn (adAddr it.entry) (16 * adCount it.entry) with
      | some st => t.adminEnd q it.slot st 0
      | none =>
        let es := lastN (adCount it.entry) (t.traceOpen sel)
        t.adminWrite q it es.flatten (fun u => u.adminEnd q it.slot .ok es.length))

/-- TRACE_READ (R479). -/
def execTraceRead (q : Nat) (s : State) : Host.Outcome State Fault Refusal := .next (s.traceRead q)

/- Halting (R480). -/

/-- A core trace entry for each core of a bay with a work order in progress: event 3 halted, 4 resumed. -/
def State.traceHalt (s : State) (b ev : Nat) : State :=
  (s.cores.filter (fun e => s.ownsStrip b (coreStrip e.1))).foldl (fun (t : State) e =>
    match woList e.2.queue with
    | w :: _ => if w.st == .queued then t else t.traceCore (coreStrip e.1) ev (engineClass (ndType w.rcd)) b 0 (s.coreIndex b e.1) w.nodeIx
    | [] => t) s

/-- HALT, for a bay at level 3 that is not locked. -/
def State.halt (s : State) (q : Nat) : State :=
  s.adminRun q 0x44 (bareCheck .bay) (fun t it =>
    let b := adBay it.entry
    if !t.bayExists b then t.refuse q it 1
    else if (t.bayAt b).debugLevel < 3 then t.refuse q it 2
    else if t.locked b then t.refuse q it 3
    else
      let t1 := if (t.bayAt b).halted then t else t.traceHalt b 3
      (t1.setBay b { t1.bayAt b with halted := true, stepLeft := 0 }).adminEnd q it.slot .ok 0)

/-- HALT (R480). -/
def execHaltBay (q : Nat) (s : State) : Host.Outcome State Fault Refusal := .next (s.halt q)

/-- The fields of STEP. -/
def stepCheck (e : List Byte) : Chk Unit := do
  adminHead e .bay false
  adminNoRange e
  need (decide (1 ≤ fieldAt e 28 4 ∧ fieldAt e 28 4 ≤ 65535) && allZero (bytesAt e 32 16)) .descriptorInvalid

/-- STEP of a halted bay at level 3 that is not locked: its cores run for the cycles given (R417, R470). -/
def State.stepBay (s : State) (q : Nat) : State :=
  s.adminRun q 0x45 stepCheck (fun t it =>
    let b := adBay it.entry
    if !t.bayExists b || !(t.bayAt b).halted then t.refuse q it 1
    else if (t.bayAt b).debugLevel < 3 then t.refuse q it 2
    else if t.locked b then t.refuse q it 3
    else (t.setBay b { t.bayAt b with stepLeft := fieldAt it.entry 28 4 }).adminEnd q it.slot .ok 0)

/-- STEP (R480). -/
def execStepBay (q : Nat) (s : State) : Host.Outcome State Fault Refusal := .next (s.stepBay q)

/-- STEP_EXPIRY (R480): the cores freeze again. -/
def execStepExpiry (bay : Nat) (s : State) : Host.Outcome State Fault Refusal :=
  .next (if (s.bayAt bay).halted && (s.bayAt bay).stepLeft != 0 then s.setBay bay { s.bayAt bay with stepLeft := 0 } else s)

/-- RESUME of a bay at level 3 that is not locked releases everything (R417, R470). -/
def State.resume (s : State) (q : Nat) : State :=
  s.adminRun q 0x46 (bareCheck .bay) (fun t it =>
    let b := adBay it.entry
    if !t.bayExists b then t.refuse q it 1
    else if (t.bayAt b).debugLevel < 3 then t.refuse q it 2
    else if t.locked b then t.refuse q it 3
    else
      let t1 := if (t.bayAt b).halted then t.traceHalt b 4 else t
      (t1.setBay b { t1.bayAt b with halted := false, stepLeft := 0 }).adminEnd q it.slot .ok 0)

/-- RESUME (R480). -/
def execResumeBay (q : Nat) (s : State) : Host.Outcome State Fault Refusal := .next (s.resume q)

/- DEBUG_ACCESS (R470, R471). -/

def daAddr (e : List Byte) : Nat := fieldAt e 28 8
def daWrite (e : List Byte) : Bool := byteBit e 36 0

/-- The fields of DEBUG_ACCESS. -/
def debugCheck (e : List Byte) : Chk Unit := do
  rangeUpTo .bay 1048576 e
  need (decide (daAddr e / 2 ^ 60 ≤ 3)) .descriptorInvalid
  need (fieldAt e 36 1 / 2 == 0 && allZero (bytesAt e 37 11)) .descriptorInvalid

/-- The level that an access needs (R470). A write to space 0x3 is not a matter of level. -/
def debugNeeds (e : List Byte) : Nat := if daWrite e || daAddr e / 2 ^ 60 == 3 then 3 else 2

/-- A debug read of the bay's storage into host memory. -/
def State.debugRead (s : State) (q : Nat) (it : Item) (b : Nat) : State :=
  let n := adCount it.entry
  let s1 := s.touchAt b (daAddr it.entry) n
  match s.readAt ⟨b, b, none⟩ (daAddr it.entry) n with
  | .error st => s1.adminEnd q it.slot st 0
  | .ok bytes => s1.adminWrite q it bytes (fun u => u.adminEnd q it.slot .ok n)

/-- A debug write of host data to the bay's storage. -/
def State.debugWrite (s : State) (q : Nat) (it : Item) (b : Nat) : State :=
  let n := adCount it.entry
  if daAddr it.entry / 2 ^ 60 = 3 then s.adminEnd q it.slot .addressRange 0
  else match s.checkAt b (daAddr it.entry) n with
    | some st => s.adminEnd q it.slot st 0
    | none => match s.readAt ((s.queueAt pfFn q).agent pfFn) (adAddr it.entry) n with
      | .error st => s.drawn.adminEnd q it.slot st 0
      | .ok bytes => match s.drawn.writeAt ⟨b, b, none⟩ (daAddr it.entry) bytes with
        | (t, some st) => t.adminEnd q it.slot st 0
        | (t, none) => t.adminEnd q it.slot .ok n

/-- DEBUG_ACCESS; one to a core whose failed tile is under repair waits (R429). -/
def State.debugAccess (s : State) (q : Nat) : State :=
  if (match s.adminItem q 0x47 with | some it => s.addrWaits (adBay it.entry) (daAddr it.entry) | none => false) then s
  else s.adminRun q 0x47 debugCheck (fun t it =>
    let b := adBay it.entry
    if !t.bayExists b then t.refuse q it 1
    else if daWrite it.entry && daAddr it.entry / 2 ^ 60 == 3 then t.adminEnd q it.slot .addressRange 0
    else if (t.bayAt b).debugLevel < debugNeeds it.entry then t.refuse q it 2
    else if t.locked b then t.refuse q it 3
    else if daWrite it.entry then t.debugWrite q it b else t.debugRead q it b)

/-- DEBUG_ACCESS (R471). -/
def execDebugAccess (q : Nat) (s : State) : Host.Outcome State Fault Refusal := .next (s.debugAccess q)

end Sys2Proof.Machine
end

