-- ==== Sys2Proof/Machine/Kp4.lean ====
section
/-! DEFINITION. The sending side of the codeword stream of a Faref port (R327): the flits that a port sends as RS(544,514) codewords over
GF(2^10), and the lanes that carry their symbols. The field, the generator and the order of bits in a symbol are those of the KP4 code as the
model takes them (PRESUMED, log entry 81). The receiving side is in FarPort.lean. -/

namespace Sys2Proof.Machine

/-- Twice an element of GF(2^10), whose field polynomial is x^10 + x^3 + 1. -/
def gf10Double (x : Nat) : Nat := if 512 ≤ x then Nat.xor (2 * x - 1024) 9 else 2 * x

/-- A product in GF(2^10). -/
def gf10Mul (a b : Nat) : Nat :=
  ((List.range 10).foldl (fun (r : Nat × Nat) i => (if bitOf b i then Nat.xor r.1 r.2 else r.1, gf10Double r.2)) (0, a)).1

/-- A polynomial, its highest coefficient first, times (x + a). -/
def gf10Times (p : List Nat) (a : Nat) : List Nat :=
  List.zipWith (fun x y => Nat.xor x (gf10Mul a y)) (p ++ [0]) (0 :: p)

/-- The generator: the product of (x + 2^j) for j from 0 to 29, without its leading 1. -/
def kp4Generator : List Nat :=
  ((List.range 30).foldl (fun (g : List Nat × Nat) _ => (gf10Times g.1 g.2, gf10Double g.2)) ([1], 1)).1.drop 1

/-- One message symbol enters the division by the generator. -/
def kp4Step (r : List Nat) (m : Nat) : List Nat :=
  let f := Nat.xor (r.headD 0) m
  List.zipWith (fun x y => Nat.xor x (gf10Mul f y)) (r.drop 1 ++ [0]) kp4Generator

/-- A codeword: its 514 message symbols, then 30 parity symbols (R327). -/
def kp4Encode (msg : List Nat) : List Nat := msg ++ msg.foldl kp4Step (List.replicate 30 0)

/-- The value of a codeword's polynomial at an element: 0 at each root of the generator. -/
def kp4At (word : List Nat) (x : Nat) : Nat := word.foldl (fun v c => Nat.xor (gf10Mul v x) c) 0

/-- The message symbols of codeword `c` of a stream of flits that follow one another with no gap: ten bits each, the first bit the least
significant (R327). -/
def kp4Message (flits : List (List Byte)) (c : Nat) : List Nat :=
  let n := leNat (flits.flatten) >>> (5140 * c)
  (List.range 514).map (fun i => n >>> (10 * i) % 1024)

/-- The codewords that the flits which a port has sent fill: 512 for every 1,285 (R327). -/
def Port.codewords (q : Port) : List (List Nat) :=
  (List.range (2048 * q.sent.length / 5140)).map (fun c => kp4Encode (kp4Message q.sent c))

/-- The symbols of a codeword with the physical lanes that carry them: symbol s on logical lane s mod w of the group in use (R327, R330). -/
def Port.onLanes (q : Port) (word : List Nat) : List (Nat × Nat) :=
  (List.range word.length).map (fun s => (physLane q.spared (q.group + s % max q.width 1), word.getD s 0))

end Sys2Proof.Machine
end

