-- ==== Sys2Proof/Machine/Faref.lean ====
section
/-! DEFINITION. Faref messages at this device (R336 to R343, R349): requests with the checks of R341, their answers, and
forwarding. -/

namespace Sys2Proof.Machine

/-- The response TYPE of a request TYPE (R337). -/
def respType (kind : Nat) : Nat :=
  match kind with
  | 0x01 => 0x04 | 0x02 => 0x05 | 0x03 => 0x06 | _ => 0x12

/- Requests (R341, R343). -/

/-- Does a KIND of window accept a TYPE? -/
def kindTakes (wkind kind : Nat) : Bool :=
  (decide (wkind ≤ 1) && [1, 2, 3].contains kind) || (wkind == 2 && kind == 0x11)

/-- The permission bit of a TYPE. -/
def iwPermits (d : List Byte) (kind : Nat) : Bool :=
  match kind with
  | 2 => iwRead d
  | 3 => iwAtomic d
  | _ => iwWrite d

/-- Bytes that a request reaches: an ATOMIC_ADD acts on 8, whatever its LENGTH. -/
def reqLen (m : List Byte) : Nat := if mgType m = 3 then max 8 (mgLen m) else mgLen m

/-- The range check of R341 and R343; a VALLEY message names a scratchpad of the bay. -/
def State.reqRange (s : State) (b : Nat) (d m : List Byte) : Bool :=
  let off := mgOffset m
  match iwKind d with
  | 0 => decide (off + reqLen m ≤ iwSize d) && (mgType m != 3 || off % 8 == 0)
  | 1 => decide (off + mgLen m ≤ 8 * iwCount d) && mgLen m == 8 && off % 8 == 0
  | _ => bitsOf off 35 21 == 0 && decide (bitsOf off 47 36 < 336 * (s.bayAt b).count) &&
      decide (bitsOf off 20 0 + ((mgData m).drop 16).length ≤ spadBytes)

/-- The checks of R341 up to the range: the bay and its window, or the STATUS to answer. -/
def State.reqCheck (s : State) (m : List Byte) : Except Nat (Nat × List Byte) :=
  match s.windowBay (mgWindow m) with
  | none => .error 1
  | some b =>
    let d := s.inWindow b (mgWindow m)
    if kindTakes (iwKind d) (mgType m) = false then .error 1
    else if (iwAccepts d (mgSrc m) (mgBay m) && iwPermits d (mgType m)) = false then .error 2
    else if s.reqRange b d m = false then .error 3
    else if (s.bayAt b).live = false then .error 7
    else .ok (b, d)

/-- The STATUS of a failed access. -/
def farStatus (e : Status) : Nat := if e = .poisonedData then 4 else 3

/-- The answer to a request, in the slots of the bay that owns the window (R408). -/
def State.answer (s : State) (own : Option Nat) (p : Nat) (m : List Byte) (status : Nat) (data : List Byte) : State :=
  s.farAnswer own p (mgSrc m) (mgTag m) (respType (mgType m)) status data

/-- A request that passed its checks acts on a DATA window (R338, R343). -/
def State.reqData (s : State) (p b : Nat) (d m : List Byte) : State :=
  let addr := iwBase d + mgOffset m
  match mgType m with
  | 1 => match s.writeAt (collAgent b) addr (mgData m) with
    | (t, none) => t.answer (some b) p m 0 []
    | (t, some e) => t.answer (some b) p m (farStatus e) []
  | 2 =>
    let t := s.touchAt b addr (mgLen m)
    match t.readAt (collAgent b) addr (mgLen m) with
    | .ok bs => t.answer (some b) p m 0 bs
    | .error e => t.answer (some b) p m (farStatus e) []
  | _ =>
    let t := s.touchAt b addr 8
    match t.readAt (collAgent b) addr 8 with
    | .error e => t.answer (some b) p m (farStatus e) []
    | .ok old => match t.writeAt (collAgent b) addr (natLE 8 ((leNat old + fieldAt (mgData m) 0 8) % 2 ^ 64)) with
      | (u, none) => u.answer (some b) p m 0 old
      | (u, some e) => u.answer (some b) p m (farStatus e) []

/-- A request reaches its destination. -/
def State.reqTake (s : State) (p : Nat) (m : List Byte) : State :=
  match s.reqCheck m with
  | .error e => s.answer (s.windowBay (mgWindow m)) p m e []
  | .ok (b, d) => match iwKind d with
    | 0 => s.reqData p b d m
    | 1 => s.ridgeGets b (.remote (mgType m) (iwFirst d + mgOffset m / 8) (fieldAt (mgData m) 0 8) p (mgSrc m) (mgTag m) (mgWindow m))
    | _ => { s with valley := s.valley ++ [⟨b, s.coreOf b (bitsOf (mgOffset m) 47 36), bytesAt (mgData m) 0 16, bitsOf (mgOffset m) 20 0,
                                            (mgData m).drop 16, none, some (p, mgSrc m, mgTag m, mgWindow m)⟩] }

/-- A request for a failed tile waits for its repair (R428). -/
def State.reqWaits (s : State) (m : List Byte) : Bool :=
  match s.reqCheck m with
  | .ok (b, d) => iwKind d == 0 && s.addrWaits b (iwBase d + mgOffset m)
  | .error _ => false

/-- Is a message for this device, which takes none but management while it has no ID (R346)? -/
def State.forMe (s : State) (m : List Byte) : Bool := s.fabric.id != 0xFF && mgDst m == s.fabric.id

/-- The oldest request of a port, of a TYPE and for this device, arrives. -/
def State.reqArrives (s : State) (p kind : Nat) : State :=
  match s.headMsg p 0 with
  | none => s
  | some m => if mgType m = kind ∧ s.forMe m ∧ s.reqWaits m = false then s.raced ((s.popMsg p 0).drawn.reqTake p m) else s

/-- WRITE (R338, R341). -/
def execFarWrite (port : Nat) (s : State) : Host.Outcome State Fault Refusal := .next (s.reqArrives port 0x01)

/-- READ (R341). -/
def execFarRead (port : Nat) (s : State) : Host.Outcome State Fault Refusal := .next (s.reqArrives port 0x02)

/-- ATOMIC_ADD (R343). -/
def execFarAtomicAdd (port : Nat) (s : State) : Host.Outcome State Fault Refusal := .next (s.reqArrives port 0x03)

/-- VALLEY (R341): the segment or DONE goes to its gate. -/
def execFarValley (port : Nat) (s : State) : Host.Outcome State Fault Refusal := .next (s.reqArrives port 0x11)

/- Responses (R336, R341, R349). -/

/-- The item status of a response STATUS (R341). -/
def respStatus (st : Nat) : Status :=
  match st with
  | 3 => .lengthRange
  | 4 => .poisonedData
  | 5 | 6 => .linkLost
  | _ => .addressRange

/-- Is a request the one that a response answers? A device on the way answers LINK_DOWN or HOP_LIMIT itself (R341). -/
def answers (m : List Byte) (r : FarReq) : Bool :=
  r.tag == mgTag m && respType r.kind == mgType m && (r.dst == mgSrc m || mgBay m == 5 || mgBay m == 6)

/-- The port and request that a response answers: at the port of arrival, else at another. -/
def State.findReq (s : State) (p : Nat) (m : List Byte) : Option (Nat × FarReq) :=
  (p :: (List.range 16).filter (fun q => q != p)).findSome? (fun q => ((s.portAt q).reqs.find? (answers m)).map (fun r => (q, r)))

/-- The agent by which the data of an owner is written. -/
def State.ownerAgent (s : State) (o : ReqOwner) : Agent :=
  match o with
  | .wo b c lid node _ => ⟨b, b, (findWo (s.coreAt c).queue lid node).bind (·.pasid)⟩
  | .item fn q _ => (s.queueAt fn q).agent fn
  | .coll b _ _ => collAgent b

/-- The data of a READ goes to its destinations, on through a fabric window too (R266). -/
def State.readPieces (a : Agent) (own : ReqOwner) (data : List Byte) : List (Nat × Nat × Nat) → State → State × Option Status
  | [], s => (s, none)
  | (pos, addr, len) :: rest, s => match s.putAt a own addr ((data.drop pos).take len) with
    | (t, none) => State.readPieces a own data rest t
    | (t, some e) => (t, some e)

/-- Bytes of a batten come through a fabric window: their places are offsets in it (R69). -/
def State.battenPieces (s : State) (fn q slot : Nat) (data : List Byte) (ps : List (Nat × Nat × Nat)) : State :=
  s.updItem fn q slot (fun it => { it with launch := it.launch.map (fun l =>
    { l with far := l.far.map (fun bs => ps.foldl (fun b x => overlay b x.2.1 ((data.drop x.1).take x.2.2)) bs) }) })

/-- Is a request one for a batten? -/
def State.forBatten (s : State) (o : ReqOwner) : Bool :=
  match o with
  | .item fn q slot => (s.itemAt fn q slot).any (fun it => enType it.entry == 1)
  | _ => false

/-- A REMOTE_ADD has its answer (R361). -/
def State.addAnswered (s : State) (b lid node : Nat) (prior : List Byte) : State :=
  match s.collAt b lid node with
  | none => s
  | some c =>
    if byteBit c.rcd 33 5 then
      match s.writeAt (collAgent b) (clDst c.rcd) prior with
      | (t, none) => t.collEnd b c .ok
      | (t, some e) => t.collFail b c e
    else s.collEnd b c .ok

/-- A response with STATUS OK does what its request asked. -/
def State.respOk (s : State) (r : FarReq) (m : List Byte) : State :=
  match r.kind with
  | 2 => match r.owner, s.forBatten r.owner with
    | .item fn q slot, true => s.battenPieces fn q slot (mgData m) r.pieces
    | _, _ => match State.readPieces (s.ownerAgent r.owner) r.owner (mgData m) r.pieces s with
      | (t, none) => t
      | (t, some e) => t.failOwner r.owner e
  | 3 => match r.owner with
    | .coll b lid node => s.addAnswered b lid node (bytesAt (mgData m) 0 8)
    | _ => s
  | _ => s

/-- Data of a COPY or a collective for a failed tile waits for the repair; that of a work order slips it (R429). -/
def State.respWaits (s : State) (r : FarReq) : Bool :=
  match r.owner with
  | .wo _ _ _ _ _ => false
  | .item fn _ _ => !s.forBatten r.owner && r.pieces.any (fun x => s.addrWaits fn x.2.1)
  | .coll b lid node => (s.collAt b lid node).any (fun c => byteBit c.rcd 33 5 && s.addrWaits b (clDst c.rcd))

/-- A response whose item has failed is discarded and counted (R349). -/
def State.lateResponse (s : State) (p : Nat) : State := s.setPort p { s.portAt p with lateResponses := (s.portAt p).lateResponses + 1 }

/-- The oldest response of a port, of a TYPE and for this device, arrives; a late one is counted (R349). -/
def State.respArrives (s : State) (p kind : Nat) : State :=
  match s.headMsg p 1 with
  | none => s
  | some m =>
    if mgType m ≠ kind ∨ s.forMe m = false then s
    else
      let s1 := s.popMsg p 1
      match s1.findReq p m with
      | none => s1.lateResponse p
      | some (q, r) =>
        if s.respWaits r then s else
        let s2 := s1.setPort q { s1.portAt q with reqs := (s1.portAt q).reqs.filter (fun x => x.tag != r.tag) }
        (if s2.ownerFailed r.owner then s2.lateResponse p
         else if mgBay m = 0 then s.raced (s2.respOk r m) else s2.failOwner r.owner (respStatus (mgBay m))).farNext q

/-- WRITE_ACK (R337). -/
def execFarWriteAck (port : Nat) (s : State) : Host.Outcome State Fault Refusal := .next (s.respArrives port 0x04)

/-- READ_DATA (R337). -/
def execFarReadData (port : Nat) (s : State) : Host.Outcome State Fault Refusal := .next (s.respArrives port 0x05)

/-- ATOMIC_ACK (R337). -/
def execFarAtomicAck (port : Nat) (s : State) : Host.Outcome State Fault Refusal := .next (s.respArrives port 0x06)

/-- VALLEY_ACK (R337). -/
def execFarValleyAck (port : Nat) (s : State) : Host.Outcome State Fault Refusal := .next (s.respArrives port 0x12)

/-- A request gets no response in time (R349). -/
def State.respExpires (s : State) (p tag : Nat) : State :=
  match (s.portAt p).reqs.find? (fun r => r.tag == tag) with
  | none => s
  | some r => ((s.setPort p { s.portAt p with reqs := (s.portAt p).reqs.filter (fun x => x.tag != tag) }).failOwners [r.owner] .peerTimeout).farNext p

/-- RESPONSE_TIMEOUT (R349). -/
def execResponseTimeout (port tag : Nat) (s : State) : Host.Outcome State Fault Refusal := .next (s.respExpires port tag)

/- Forwarding (R338, R339, R341, R345). -/

/-- Is a message for another device? One for every device is management's own. -/
def State.forOther (s : State) (m : List Byte) : Bool :=
  if farVc (mgType m) = 3 then mgDst m != s.fabric.id && mgDst m != 0xFF else !s.forMe m

/-- A message goes on by its route, or is discarded at HOPS 0 or without a link; a request is then answered. A device without an ID discards all
but management (R346, log entry 71). -/
def State.forward (s : State) (p v : Nat) (m : List Byte) : State :=
  let back (t : State) (st : Nat) : State := if v = 0 then t.answer none p m st [] else t
  if s.fabric.id = 0xFF ∧ v ≠ 3 then s
  else if mgHops m = 0 then back (s.portEv p 0x47) 6
  else match s.route (mgDst m) with
    | none => back s 5
    | some q => if (s.portAt q).carries then s.farPush q none (overlay m 1 (natLE 1 (mgHops m - 1))) else back s 5

/-- The oldest message of a VC, for another device, is forwarded. -/
def State.forwards (s : State) (p v : Nat) : State :=
  match s.headMsg p v with
  | none => s
  | some m => if s.forOther m then (s.popMsg p v).forward p v m else s

/-- FAREF_FORWARD (R339). -/
def execFarForward (port vc : Nat) (s : State) : Host.Outcome State Fault Refusal := .next (s.forwards port vc)

end Sys2Proof.Machine
end

