-- ==== Sys2Proof/Machine/Firmware.lean ====
section
/-! DEFINITION. Firmware images (R390, R391, R414, R485, R491 to R493): staging, activation and its drain. -/

namespace Sys2Proof.Machine

/- Images (R414, R491). -/

def FwKind.setSlot (k : FwKind) (n : Nat) (v : FwSlot) : FwKind := if n = 0 then { k with slotA := v } else { k with slotB := v }
def State.setFw (s : State) (kind : Nat) (k : FwKind) : State := { s with sec := { s.sec with fw := tabSet s.sec.fw kind k } }

/-- The minimum that the firmware policy sets for a KIND (R397). -/
def State.policyMin (s : State) (kind : Nat) : Nat := fieldAt s.sec.policy (8 + 2 * kind) 2

/-- The lowest security version that boot and staging accept for a KIND (R414). -/
def State.versionFloor (s : State) (kind : Nat) : Nat := max (floorOf s.sec.floorBank.toNat kind) (s.policyMin kind)

/-- An image is written to the slot that does not run and verified; a failed one leaves the slot invalid. The security
controller's image is selected for the next module cold reset. True when the image verifies. -/
def State.stageImage (s : State) (kind : Nat) (image : List Byte) : State × Bool :=
  let k := s.fwAt kind
  let n := 1 - k.running
  let ver := Config.imageVersion image % 2 ^ 16
  let digest := Config.sha384 image
  if Config.imageVerifies image && decide (s.versionFloor kind ≤ ver) then
    let k1 := k.setSlot n ⟨digest, ver, true⟩
    let t := s.setFw kind (if kind = 0 then { k1 with selector := n } else k1)
    ({ t with sec := { t.sec with staged := tabSet t.sec.staged kind digest } }, true)
  else
    let t := s.setFw kind (k.setSlot n ⟨digest, ver, false⟩)
    ({ t with sec := { t.sec with staged := tabDel t.sec.staged kind } }, false)

/-- Is an update in progress (R491)? -/
def State.updating (s : State) : Bool := s.sec.activation.isSome

/-- The fields of FW_STAGE. -/
def fwStageCheck (e : List Byte) : Chk Unit := do
  adminHead e .pf false
  need (adAddr e / 2 ^ 60 == 4) .descriptorInvalid
  need (decide (4096 ≤ adCount e ∧ adCount e ≤ 67108864)) .lengthRange
  need (decide (fieldAt e 28 1 ≤ 3) && allZero (bytesAt e 29 19)) .descriptorInvalid

/-- FW_STAGE (R485, R491). -/
def State.fwStage (s : State) (q : Nat) : State :=
  s.adminRun q 0x20 fwStageCheck (fun t it =>
    if t.updating then t.refuse q it 4
    else match t.readAt ((t.queueAt pfFn q).agent pfFn) (adAddr it.entry) (adCount it.entry) with
      | .error st => t.drawn.adminEnd q it.slot st 0
      | .ok image =>
        let r := t.drawn.stageImage (fieldAt it.entry 28 1) image
        if r.2 then r.1.adminEnd q it.slot .ok (Config.imageVersion image % 2 ^ 16) else r.1.refuse q it 2)

/-- FW_STAGE (R491). -/
def execFwStage (q : Nat) (s : State) : Host.Outcome State Fault Refusal := .next (s.fwStage q)

/- Activation (R391, R492, R493). -/

/-- Does an item keep running through a drain: the activation's own entry, and a bay operation's, which waits (R404)? -/
def State.drainKeeps (s : State) (fn q : Nat) (it : Item) : Bool :=
  fn == pfFn && ((match s.sec.activation with | some (_, some e, _) => e == (q, it.slot) | _ => false) ||
    (match s.sec.change with | some c => c.entry == some (q, it.slot) | none => false))

/-- The uncompleted items of every function that a drain does not keep: function, queue, item. -/
def State.drainItems (s : State) : List (Nat × Nat × Item) :=
  (List.range 13).flatMap (fun fn => ((s.liveItems fn).filter (fun p => !s.drainKeeps fn p.1 p.2)).map (fun p => (fn, p.1, p.2)))

/-- Step 1: unstarted items and waiting FENCE_WAITs end. -/
def State.drainStart (s : State) : State :=
  (s.drainItems.filter (fun p => p.2.2.st == .fetched || (enType p.2.2.entry == 3 && p.2.2.st == .waiting))).foldl
    (fun (t : State) p => t.endItem p.1 p.2.1 p.2.2.slot .firmwareDrain 0 0 0) s

/-- One item still running at DRAIN_LIMIT ends: a launch as R84 says, its collectives with ABORT; a COPY where it stands, its requests given up,
so that their responses are late ones (R349). -/
def State.drainEnd (s : State) (p : Nat × Nat × Item) : State :=
  match p.2.2.launch with
  | none => (s.endLive p.1 .firmwareDrain false (p.2.1, p.2.2)).dropOwner (itemOwner p.1 p.2.1 p.2.2.slot)
  | some l =>
    let s1 := s.endLaunch p.1 p.2.1 p.2.2.slot (.byStatus .firmwareDrain)
    ((s1.bayAt p.1).coll.running.filter (fun c => c.lid == l.lid)).foldl (fun (t : State) c => t.collFail p.1 c .firmwareDrain) s1

/-- Every bay whose TDI is locked moves to ERROR, where the policy permits (R391). -/
def State.drainLocked (s : State) : State := ((List.range 12).filter s.locked).foldl (fun (t : State) b => t.securityStop b false) s

/-- The fields of FW_ACTIVATE. -/
def fwActivateCheck (e : List Byte) : Chk Unit := do
  adminHead e .pf false
  adminNoRange e
  need (decide (1 ≤ fieldAt e 28 1 ∧ fieldAt e 28 1 ≤ 3) && allZero (bytesAt e 29 3)) .descriptorInvalid
  need (decide (fieldAt e 32 4 ≤ 2000) && allZero (bytesAt e 36 12)) .descriptorInvalid

/-- Why an activation of a KIND is refused: an update in progress, no verified image staged, locked interfaces (R391, R485). -/
def State.activateRefused (s : State) (kind : Nat) : Option Nat :=
  if s.updating then some 4
  else if !tabHas s.sec.staged kind then some 1
  else if (List.range 12).any s.locked && !byteBit s.sec.policy 0 0 then some 5
  else none

/-- An activation begins; KIND 2 does not drain. `entry` is its PF queue and slot; none for one of the sideband. -/
def State.activateStart (s : State) (kind : Nat) (entry : Option (Nat × Nat)) : State :=
  let s1 := { s with sec := { s.sec with activation := some (kind, entry, if kind = 2 then 3 else 1) } }
  let s2 := s1.drainLocked
  if kind = 2 then s2 else s2.drainStart.settle

/-- FW_ACTIVATE (R485, R492). -/
def State.fwActivate (s : State) (q : Nat) : State :=
  s.adminRun q 0x21 fwActivateCheck (fun t it =>
    let kind := fieldAt it.entry 28 1
    match t.activateRefused kind with
    | some r => t.refuse q it r
    | none => (t.updItem pfFn q it.slot (fun x => { x with st := .waiting })).activateStart kind (some (q, it.slot)))

/-- FW_ACTIVATE (R492). -/
def execFwActivate (q : Nat) (s : State) : Host.Outcome State Fault Refusal := .next (s.fwActivate q)

/-- DRAIN_LIMIT has passed since the drain began: what still runs ends. -/
def State.drainLimit (s : State) : State :=
  match s.sec.activation with
  | some (kind, e, 1) => (s.drainItems.foldl (fun (t : State) p => t.drainEnd p)
      { s with sec := { s.sec with activation := some (kind, e, 2) } }).settle
  | _ => s

/-- DRAIN_LIMIT_EXPIRY (R492). -/
def execDrainLimitExpiry (s : State) : Host.Outcome State Fault Refusal := .next s.drainLimit

/-- Does nothing run, so that the new image may be loaded? A slip repair is waited for (R431). -/
def State.drained (s : State) : Bool :=
  s.drainItems == [] && s.repairs == [] && (List.range 12).all (fun b => (s.bayAt b).coll.running == [] && (s.bayAt b).coll.owed == [])

/-- After an activation: MeasurementChanged to each session that subscribed, then every session ends (R390). -/
def State.sessionsEnd (s : State) : State :=
  let told := s.spdm.sessions.filter (fun x => x.subscribed && x.established)
  let s1 := told.foldl (fun (t : State) x => t.respond (natLE 1 0xFD ++ natLE 1 1 ++ natLE 2 x.sid)) s
  { s1 with spdm := { s1.spdm with sessions := [] } }

/-- The entry of an activation completes. -/
def State.activateEntry (s : State) (e : Option (Nat × Nat)) (st : Status) (result : Nat) : State :=
  match e with
  | some (q, slot) => s.adminEnd q slot st result
  | none => s.settle

/-- A COLD_RESET of the sideband that waited for the activation goes on (R493). -/
def State.sideColdGo (s : State) : State := if s.dev.sideCold then s.startCold else s

/-- The new image runs, or its self-checks failed and the old one runs again. -/
def State.activateEnd (s : State) (kind : Nat) (e : Option (Nat × Nat)) (pass : Bool) : State :=
  let k := s.fwAt kind
  let n := 1 - k.running
  let new := k.slot n
  let s1 := { s with sec := { s.sec with activation := none } }
  if pass then
    let s2 := (s1.setFw kind { k with running := n, selector := n }).fwLog kind 0 k.run.version new
    let s3 := { s2 with sec := { s2.sec with staged := tabDel s2.sec.staged kind }, life := { s2.life with updates := satInc 32 s2.life.updates } }
    ((s3.sessionsEnd).activateEntry e .ok new.version).tail.sideColdGo
  else ((s1.fwLog kind 3 k.run.version new).activateEntry e .adminRefused 3).tail.sideColdGo

/-- Steps 3 and 4 of R492, once nothing runs; at once for KIND 2. -/
def State.drainComplete (s : State) (pass : Bool) : State :=
  match s.sec.activation with
  | none => s
  | some (kind, e, _) => if kind = 2 || s.drained then s.activateEnd kind e pass else s

/-- FW_DRAIN_COMPLETE (R492, R493). -/
def execFwDrainComplete (pass : Bool) (s : State) : Host.Outcome State Fault Refusal := .next (s.drainComplete pass)

end Sys2Proof.Machine
end

