-- ==== Sys2Proof/Machine/Reset.lean ====
section
/-! DEFINITION. Resets and boot (chapter 23): device warm resets (R481 to R484), resets of bays, cores and links (R485), FLRs and
configuration space (R371, R373, R389), module cold resets and boot (R486 to R490, R525, R527). -/

namespace Sys2Proof.Machine

/- Device warm resets. -/

/-- The configuration space of every function is reset, and virtual functions cease to exist (R371). -/
def State.configResets (s : State) : State :=
  let s1 := (List.range 13).foldl (fun (t : State) fn =>
    t.setFn fn { (t.fnAt fn).configReset with exists_ := false }) s
  { s1 with dev := { s1.dev with vfEnable := false, numVfs := 0 } }

/-- A device warm reset is triggered (R481). Before READY only configuration space is reset; without main power nothing is. -/
def State.startWarm (s : State) : State :=
  if !s.dev.mainOn || s.dev.warmPending then s
  else if !s.dev.ready then s.configResets
  else if s.dev.fatal.isSome then { s with dev := { s.dev with warmPending := true } }
  else { s with dev := { s.dev with warmPending := true } }.endAll.settle

/-- What a device warm reset does to a bay: the reset of R482, and the scrub of a locked bay. A bay that is being scrubbed has
its RESET_GEN raised, and its scrub goes on (R389). -/
def State.warmBay (s : State) (b : Nat) : State :=
  let v := s.bayAt b
  if v.scrub != [] then
    let t := (s.lockFails b).resetBy b 1
    t.setBay b { t.bayAt b with resets := [] }
  else
    let t := s.resetBy b 1
    if s.locked b then t.startScrub b 6 v.strips else t.bayResume b

/-- The interrupt controller's part: the ridge and its sources (R466). -/
def State.ictlWarm (s : State) : State :=
  { s with ictl := { s.ictl with tgt := tabDel s.ictl.tgt 0,
                                 src := s.ictl.src.map (fun (e : Nat × IctlSrc) => if e.2.target = 0 then (e.1, { e.2 with pending := false }) else e) } }

/-- The re-run self-checks (R484): they may leave DEVICE_FATAL where none has failed again, keep it, or, failing, enter it. -/
def State.recheckBlocks (s : State) (pass : Bool) : State :=
  match s.dev.fatal, pass with
  | some .selfCheck, true => if s.dev.selfCheckBad then s else { s with dev := { s.dev with fatal := none } }.repairAgain
  | some _, true => s
  | some _, false => { s.pend 5 with dev := { s.dev with selfCheckBad := true } }
  | none, true => s
  | none, false => (s.pend 5).deviceFatal .selfCheck

/-- Have all records of a device warm reset been written, and has what reached the ridge before it acted (R483, R501)? In DEVICE_FATAL the rest
is written by the reset (R440). -/
def State.recordsDone (s : State) : Bool :=
  s.dev.fatal.isSome || (List.range 13).all (fun fn => s.heldAt fn == [] && (s.queuesOf fn).all (fun p => p.2.items == []))

/-- A device warm reset takes effect (R482). -/
def State.warmEffect (s : State) (pass : Bool) : State :=
  let wasFatal := s.dev.fatal.isSome
  let s0 := if wasFatal then s.bays'.foldl (fun (t : State) b => t.resetKey b) s else s
  let s1 := s0.flushAll.finishResets
  let s2 := s1.bays'.foldl (fun (t : State) b => t.warmBay b) s1.configResets
  let s3 := s2.setFn pfFn (s2.fnAt pfFn).afterReset
  let s4 := ({ s3 with dev := { s3.dev with warmPending := false },
                       sec := { s3.sec with liveNonce := none, activation := none } }).dropRestore.ictlWarm
  let s5 := s4.lifeLog 1 (natLE 1 (if wasFatal then 7 else 6) ++ natLE 3 0 ++ natLE 4 0 ++ natLE 1 s4.dev.outOfService.length)
  (s5.recheckBlocks pass).tail

/-- DEVICE_WARM_RESET (R482, R484). -/
def execDeviceWarmReset (pass : Bool) (s : State) : Host.Outcome State Fault Refusal :=
  .next (if s.dev.warmPending && s.recordsDone then s.warmEffect pass else s)

/-- The fields of an entry for the PF that uses no other. -/
def resetCheck (e : List Byte) : Chk Unit := bareCheck .pf e

/-- WARM_RESET: its own entry ends BAY_RESET with the others. One that meets an activation waits for it (R493). -/
def State.warmEntry (s : State) (q : Nat) : State :=
  if s.updating then s else s.adminRun q 0x22 resetCheck (fun t _ => t.startWarm)

/-- WARM_RESET (R485). -/
def execWarmReset (q : Nat) (s : State) : Host.Outcome State Fault Refusal := .next (s.warmEntry q)

/-- PERST (R481). -/
def execPerst (s : State) : Host.Outcome State Fault Refusal :=
  .next ({ s with dev := { s.dev with perst := true, configAnswers := false } }.startWarm)

/-- PERST_DEASSERTED (R490): the link trains once domain 187 is powered. -/
def execPerstDeasserted (s : State) : Host.Outcome State Fault Refusal :=
  .next { s with dev := { s.dev with perst := false, configAnswers := s.power.on.contains 187 } }

/-- HOT_RESET (R481), or the loss of REFCLK, which acts as one and takes the link down (R528). -/
def execHotReset (refclk : Bool) (s : State) : Host.Outcome State Fault Refusal :=
  .next (if refclk then { s with dev := { s.dev with configAnswers := false } }.startWarm else s.startWarm)

/-- PF_FLR (R373). -/
def execPfFlr (s : State) : Host.Outcome State Fault Refusal := .next (s.pend 25).startWarm

/- Resets of bays, cores and links (R485). -/

/-- BAY_RESET: the bay's items end, and the entry completes once the reset is done. -/
def State.bayResetEntry (s : State) (q : Nat) : State :=
  s.adminRun q 0x24 (bareCheck .bay) (fun t it =>
    let b := adBay it.entry
    if !t.bayExists b then t.refuse q it 1
    else
      let n := (t.liveItems b).length
      ((t.updItem pfFn q it.slot (fun x => { x with st := .waiting, moved := n })).bayReset b 1).tail)

/-- BAY_RESET (R485). -/
def execBayReset (q : Nat) (s : State) : Host.Outcome State Fault Refusal := .next (s.bayResetEntry q)

/-- The fields of CORE_RESET. -/
def coreResetCheck (e : List Byte) : Chk Unit := do
  adminHead e .bay false
  adminNoRange e
  need (allZero (bytesAt e 30 18)) .descriptorInvalid

/-- CORE_RESET of a core without uncompleted work order. -/
def State.coreResetEntry (s : State) (q : Nat) : State :=
  s.adminRun q 0x25 coreResetCheck (fun t it =>
    let b := adBay it.entry
    let col := fieldAt it.entry 28 1
    let row := fieldAt it.entry 29 1
    let c := t.coreOf b (col * 56 + row)
    if !t.bayExists b then t.refuse q it 1
    else if 6 * (t.bayAt b).count ≤ col ∨ 55 < row then t.adminEnd q it.slot .descriptorInvalid 0
    else if woList ((t.coreAt c).queue ++ (t.coreAt c).tree) != [] then t.refuse q it 1
    else (t.setCore c { t.coreAt c with pairs := [], pairFlaws := [] }).adminEnd q it.slot .ok 0)

/-- CORE_RESET (R482, R485). -/
def execCoreReset (q : Nat) (s : State) : Host.Outcome State Fault Refusal := .next (s.coreResetEntry q)

/-- The fields of LINK_RESET. -/
def linkResetCheck (e : List Byte) : Chk Unit := do
  adminHead e .pf false
  adminNoRange e
  need (decide (fieldAt e 28 1 ≤ 15) && allZero (bytesAt e 29 19)) .descriptorInvalid

/-- LINK_RESET: the port is as it enters DOWN, and trains, at any width again (R330). -/
def State.linkResetEntry (s : State) (q : Nat) : State :=
  s.adminRun q 0x26 linkResetCheck (fun t it =>
    let p := fieldAt it.entry 28 1
    let u := t.portStops p
    ((u.setPort p { u.portAt p with limit := 16, peak := 0 }).startTraining p).adminEnd q it.slot .ok 0)

/-- LINK_RESET (R485). -/
def execLinkReset (q : Nat) (s : State) : Host.Outcome State Fault Refusal := .next (s.linkResetEntry q)

/- Functions (R371, R373, R389). -/

/-- A bay reset that also resets its function's configuration space. Where it is one of R389's security stops of a locked bay, that stop
comes with it: the TDI moves to ERROR. -/
def State.flrBay (s : State) (b : Nat) (stop : Bool) : State :=
  let s1 := s.setBay b { s.bayAt b with flr := true }
  let s2 := ((if stop && s.locked b then s1.securityStop b false else s1).bayReset b 1).tail
  if (s2.bayAt b).flr && (s2.bayAt b).resets == [] then (s2.configReset b).setBay b { s2.bayAt b with flr := false } else s2

/-- An FLR of a virtual function: its items' records are written before its configuration space is reset (R483). -/
def State.vfFlr (s : State) (b : Nat) : State :=
  if 12 ≤ b || !(s.fnAt b).exists_ then s
  else if s.bayExists b then (s.pend 25).flrBay b false
  else (s.pend 25).configReset b

/-- VF_FLR (R373). -/
def execVfFlr (bay : Nat) (s : State) : Host.Outcome State Fault Refusal := .next (s.vfFlr bay)

/-- A virtual function ceases to exist; its bay stays in the map and takes no work (R371). VF Enable cleared stops a locked bay; NumVFs
lowered is a bay reset (R389). -/
def State.vfVanishes (s : State) (b : Nat) (disabled : Bool) : State :=
  let s1 := s.setFn b { s.fnAt b with exists_ := false }
  if s1.bayExists b then s1.flrBay b disabled else s1.configReset b

/-- VF Enable is cleared, or NumVFs lowered. -/
def State.vfLower (s : State) (n : Nat) : State :=
  if s.dev.numVfs ≤ n then s
  else
    let gone := (List.range 12).filter (fun b => decide (n ≤ b) && (s.fnAt b).exists_)
    gone.foldl (fun (t : State) b => t.vfVanishes b (n == 0)) ({ s with dev := { s.dev with numVfs := n, vfEnable := decide (0 < n) } }.pend 25)

/-- VF_ENABLE_CLEARED (R371). -/
def execVfEnableCleared (numVfs : Nat) (s : State) : Host.Outcome State Fault Refusal := .next (s.vfLower numVfs)

/-- A virtual function comes into existence; a bay of its own that is not busy takes work again. -/
def State.vfAppears (s : State) (b : Nat) : State :=
  let s1 := s.setFn b { s.fnAt b with exists_ := true }
  if s1.bayExists b && !s1.bayBusy b then s1.setBay b { s1.bayAt b with live := true } else s1

/-- VF_ENABLE_SET (R371). -/
def State.vfRaise (s : State) (n : Nat) : State :=
  if n ≤ s.dev.numVfs || decide (12 < n) || !s.dev.mainOn then s
  else
    let new := (List.range n).filter (fun b => !(s.fnAt b).exists_)
    new.foldl (fun (t : State) b => t.vfAppears b) ({ s with dev := { s.dev with numVfs := n, vfEnable := true } }.pend 25)

/-- VF_ENABLE_SET (R371). -/
def execVfEnableSet (numVfs : Nat) (s : State) : Host.Outcome State Fault Refusal := .next (s.vfRaise numVfs)

/-- The host changes a function's configuration space; of a locked virtual function, a change of its BARs, Memory Space Enable or
Bus Master Enable stops the bay (R389). -/
def State.vfConfig (s : State) (fn : Nat) (bars mem master ats pasid msix fmask : Bool) : State :=
  let f := s.fnAt fn
  if 12 < fn || !(fn == pfFn || f.exists_) || !s.dev.mainOn then s
  else
    let stop := fn != pfFn && s.locked fn && (bars || mem != f.memSpace || master != f.busMaster)
    let s1 := if stop then (s.pend 25).securityStop fn false else s
    (s1.setFn fn { s1.fnAt fn with barGen := if bars then (s1.fnAt fn).barGen + 1 else (s1.fnAt fn).barGen, memSpace := mem, busMaster := master, ats := ats, pasidEnable := pasid, msixEnable := msix,
                                        functionMask := fmask }).msixFlush fn |>.tail

/-- VF_CONFIG_CHANGE (R389). -/
def execVfConfigChange (fn : Nat) (bars mem master ats pasid msix fmask : Bool) (s : State) : Host.Outcome State Fault Refusal :=
  .next (s.vfConfig fn bars mem master ats pasid msix fmask)

/- Module cold resets and boot (R414, R456, R481, R482, R486 to R489). -/

/-- Does the image in a slot verify at boot: valid, and no version below the floor (R414)? -/
def State.slotBoots (s : State) (kind : Nat) (v : FwSlot) : Bool :=
  v.valid && decide ((if kind = 0 then floorOf s.sec.floorBank.toNat 0 else s.versionFloor kind) ≤ v.version)

/-- The slot that boot runs: the selected one, else the other. -/
def State.bootSlot (s : State) (kind : Nat) : Option Nat :=
  let k := s.fwAt kind
  if s.slotBoots kind (k.slot k.selector) then some k.selector
  else if s.slotBoots kind (k.slot (1 - k.selector)) then some (1 - k.selector) else none

/-- The images after boot's verification; a staged image that now runs is no longer pending. -/
def State.bootImages (s : State) : List (Nat × FwKind) :=
  (List.range 4).map (fun kind => (kind, match s.bootSlot kind with
    | some n => { s.fwAt kind with running := n }
    | none => s.fwAt kind))

/-- The highest operating points after withdrawals: the highest point of each domain that is due is gone from every strip of its bay, or from
its own strip. -/
def State.withdrawals (s : State) : List (Nat × Nat) :=
  (s.power.withdrawDue.filter (· < 144)).foldl (fun (w : List (Nat × Nat)) d =>
    let own := if d < 120 then d / 10 else (d - 120) % 12
    let left := max 600 (tabGet s.power.withdrawn own 1400 - 50)
    (match s.domainBay d with | some b => (s.bayAt b).strips | none => [own]).foldl
      (fun (u : List (Nat × Nat)) k => tabSet u k (min left (tabGet u k 1400))) w) s.power.withdrawn

/-- What a stack keeps through a module cold reset: its marked lanes, to be retested, and its repaired rows (R240, R246). -/
def Stack.cold (v : Stack) : Stack := { marked := v.marked, sparesUsed := v.sparesUsed, softRows := v.softRows, spareLow := v.spareLow }

/-- What a tile keeps: its count of failures (R433). -/
def Tile.cold (t : Tile) : Tile := { failures := t.failures }

/-- The security state that fuses, flash and policy keep. -/
def State.secCold (s : State) : Sec :=
  let x := s.sec
  let fw := s.bootImages
  let ran (kind : Nat) : FwSlot := (tabGet fw kind (fwFactory kind)).run
  { keys := x.keys, policy := x.policy, operatorBank := x.operatorBank, floorBank := x.floorBank, deviceIdKeyDisabled := x.deviceIdKeyDisabled,
    aliasSerial := if (ran 0).digest = (s.fwAt 0).run.digest then x.aliasSerial else x.aliasSerial + 1,
    nextKey := x.nextKey, fw := fw, staged := x.staged.filter (fun e => (ran e.1).digest != e.2), lifecycle := x.lifecycle,
    nonceSeq := x.nonceSeq, recovery := (s.bootSlot 0).isNone }

/-- The security state after the return of the main input: the auxiliary domains keep theirs, and what belongs to bays and items is gone
(R482, R489, log entry 76). -/
def State.secKept (s : State) : Sec :=
  { s.sec with liveNonce := none, change := none, activation := none, mirror := [], strips := [] }

/-- Bus converters and main domains come on, and boot goes on to training and self-tests (R486). A KIND without a valid image
leaves the device in DEVICE_FATAL (R414); after the return of the main input the images are not verified again (R489). PWR_ALERT_N that is low
here is a power emergency (R525). -/
def State.railsOn (s : State) : State :=
  let bad := s.dev.bootCause != 4 && (List.range 3).any (fun i => (s.bootSlot (i + 1)).isNone)
  let s1 := { s with power := { s.power with on := List.range 189, causes := if s.dev.alertN then [4] else [], duty := if s.dev.alertN then 1 else 4 },
                     dev := { s.dev with mainOn := true, boot := .testing, configAnswers := !s.dev.perst,
                                         fatal := if bad then some .image else s.dev.fatal, faultN := s.dev.faultN || bad },
                     ictl := { s.ictl with locked := true } }
  (List.range 16).foldl (fun (t : State) p => t.startTraining p) (if s.dev.alertN then s1.pend 3 else s1)

/-- The lifetime records at a module cold reset. Where auxiliary power was lost, MONO goes on beyond every value used (R497), the calendar time
is not set, and the I3C target has no address. -/
def State.coldLife (s : State) (aux : Bool) : Life :=
  let l := { s.life with coldResets := satInc 32 s.life.coldResets, sumEnergy := s.life.sumEnergy - s.power.pfEnergy }
  if aux then { l with mono := l.committed + 65536, fresh := [], epoch := 0, epochSet := false, epochTime := 0, i3cAddress := none, eid := none,
                       hotJoin := Config.outcome s.draws }
  else { l with epochTime := l.epochTime - s.time, fresh := l.fresh.map (fun e => (e.1, e.2 - (s.time : Int))) }

/-- A module cold reset begins (R481): the values of reset, with what auxiliary power, fuses and flash keep. The contacts and the
host's memory are outside. After the return of the main input (cause 4) it begins at rail sequencing (R489). Without the system reference the
controllers stay in reset (R528). An activation that it cuts off adds its FIRMWARE record (R493). -/
def State.coldStart (s0 : State) (cause : Nat) (sref : Bool) : State :=
  let s := s0.dropActivation
  let r := State.reset
  let aux := cause == 1
  let kept := cause == 4
  let t := { r with
      sec := if kept || !sref then s.secKept else s.secCold,
      spdm := if kept then { s.spdm with ide := [] } else { spdmReset with slot1 := s.spdm.slot1 },
      ictl := if kept then s.ictlWarm.ictl else r.ictl,
      tiles := s.tiles.map (fun (e : Nat × Tile) => (e.1, e.2.cold)),
      stackTab := s.stackTab.map (fun (e : Nat × Stack) => (e.1, e.2.cold)),
      fabric := if aux then r.fabric else { r.fabric with id := s.fabric.id, prevId := if s.fabric.id = 0xFF then s.fabric.prevId else s.fabric.id },
      power := { r.power with trims := s.power.trims, withdrawn := s.withdrawals, tileTemp := s.power.tileTemp, stackTemp := s.power.stackTemp,
                              regTemp := s.power.regTemp },
      dev := { r.dev with mainInput := s.dev.mainInput, perst := s.dev.perst, fref := s.dev.fref, alertN := s.dev.alertN, bootCause := cause, sref := sref,
                          boot := if sref then r.dev.boot else .off },
      life := s.coldLife aux,
      host := s.host, draws := s.draws + 1, pending := s.pending }
  if t.dev.mainInput && sref && !t.sec.recovery then t.railsOn else t

/-- MAIN_INPUT_IN_RANGE (R486, R529): boot that waits at rail sequencing goes on; in recovery the main rails stay off (R414). -/
def execMainInputInRange (s : State) : Host.Outcome State Fault Refusal :=
  let t := { s with dev := { s.dev with mainInput := true } }
  .next (if t.dev.boot == .rails && !t.dev.mainOn && t.dev.fatal.isNone && !t.sec.recovery then t.railsOn else t)

/-- MAIN_INPUT_RETURN (R489, R527): after a shutdown, a module cold reset. -/
def execMainInputReturn (s : State) : Host.Outcome State Fault Refusal :=
  let t := { s with dev := { s.dev with mainInput := true } }
  .next (if t.dev.fatal == some .shutdown then t.coldStart 4 t.dev.sref else t)

/-- A write of a firmware slot stops, and the slot is invalid: boot uses the other one (R525). -/
def State.writeStops (s : State) (kind : Option Nat) : State :=
  match kind with
  | none => s
  | some k =>
    let v := s.fwAt k
    let n := 1 - v.running
    let t := s.setFw k (v.setSlot n { v.slot n with valid := false })
    { t with sec := { t.sec with staged := tabDel t.sec.staged k } }

/-- MOD_RESET_N (R481, R524, R525): a low of at least 10 µs; after a thermal trip the reset waits for the sensors. -/
def execModResetN (pulse : ResetPulse) (s : State) : Host.Outcome State Fault Refusal :=
  .next (if pulse.us < 10 || !s.dev.auxPower then s
    else
      let t := s.writeStops pulse.writing
      if t.dev.fatal == some .thermalTrip && !t.belowEmergency then { t with dev := { t.dev with coldCause := some 2 } }
      else t.coldStart 2 pulse.sref)

/-- COLD_RESET: every item ends BAY_RESET, its own entry too. One that meets an activation waits for it (R493). -/
def State.coldEntry (s : State) (q : Nat) : State :=
  if s.updating then s else s.adminRun q 0x23 resetCheck (fun t _ => t.startCold)

/-- The OPERANDS of R485 that a request over the sideband leaves 0. -/
def sideBare (e : List Byte) : Chk Unit := need (allZero (bytesAt e 28 20)) .descriptorInvalid

/-- COLD_RESET over the sideband, also in DEVICE_FATAL (R440); one that meets an activation waits for it (R493, R495). -/
def State.sideColdReset (s : State) (e : List Byte) : State :=
  if !s.sideOpen then s
  else match sideBare e with
    | .error st => s.announce ((s.pend 200).respond (natLE 1 0xF9 ++ natLE 1 (statusCode st))) true
    | .ok _ =>
      if s.updating then { s.pend 200 with dev := { s.dev with sideCold := true } }
      else if s.dev.coldCause == some 3 then s.pend 200 else (s.pend 200).startCold

/-- COLD_RESET (R485, R495): of a PF queue, or over the sideband. -/
def execColdReset (q : Nat) (side : Option (List Byte)) (s : State) : Host.Outcome State Fault Refusal :=
  .next (match side with | some e => s.sideColdReset e | none => s.coldEntry q)

/-- Is a module cold reset of a cause due: auxiliary power is applied; a reset that waited can go; a thermal trip is released? -/
def State.coldDue (s : State) (cause : Nat) : Bool :=
  match cause with
  | 1 => !s.dev.auxPower
  | 2 => s.dev.coldCause == some 2 && s.belowEmergency
  | 3 => s.dev.coldCause == some 3 && s.recordsDone
  | 5 => s.dev.fatal == some .thermalTrip && s.belowEmergency
  | _ => false

/-- MODULE_COLD_RESET (R481). -/
def execModuleColdReset (release : ColdRelease) (s : State) : Host.Outcome State Fault Refusal :=
  .next (if s.coldDue release.cause then s.coldStart release.cause release.sref else s)

/-- Records of the log that a loss of auxiliary power keeps: all that were committed, and of those of the last second a free number (R496); no
more are lost than MONO skips when it resumes, since it never decreases (R497). -/
def keptLog (l : Life) (committed draw : Nat) : List (List Byte) :=
  let sure := l.log.filter (fun r => decide (fieldAt r 0 8 ≤ committed))
  let rest := l.log.filter (fun r => decide (committed < fieldAt r 0 8))
  sure ++ rest.take (max (rest.length - 65536) (Config.openNat draw % (rest.length + 1)))

/-- AUX_INPUT_LOSS (R527): every domain is off, and no record is written. -/
def State.auxLoss (s : State) : State :=
  let log := keptLog s.life s.committedNow s.draws
  let last := log.foldl (fun (m : Nat) r => max m (fieldAt r 0 8)) s.committedNow
  { (s.mainOff s.dev.mainInput).drawn with
    dev := { s.dev with auxPower := false, boot := .off, mainOn := false, ready := false, configAnswers := false, fatal := none },
    power := { s.power with on := [], gated := [] }, life := { s.life with log := log, committed := last, fresh := [] } }

/-- AUX_INPUT_LOSS (R527). -/
def execAuxInputLoss (s : State) : Host.Outcome State Fault Refusal := .next (if s.dev.auxPower then s.auxLoss else s)

/- BOOT_READY (R486 to R488). -/

/-- A column's slip map from the tiles that boot found dead, whose domain is off or which failed 3 times, and the log records of those (R487,
R499). -/
def State.bootColumn (s : State) (dead : List Nat) (col : Nat) : State :=
  let gone := (List.range 60).filter (fun f =>
    dead.contains (col * 60 + f) || decide (3 ≤ (s.tileAt col f).failures) || !s.power.on.contains (col / 6 * 10 + f / 6))
  let s1 := s.setColumn col { s.columnAt col with dead := gone }.rebuilt
  gone.foldl (fun (t : State) f => t.lifeLog 3 (natLE 1 col ++ natLE 1 f ++ natLE 1 4 ++ natLE 1 (t.tileAt col f).failures)) s1

/-- The retest of a stack's marked lanes, each with a free outcome (log entry 55), and its repairs made hard (R488). -/
def State.bootStack (s : State) (k : Nat) : State :=
  let v := s.stackAt k
  let tested := v.marked.map (fun m => (m, Config.outcome (s.draws + 64 * k + m.1)))
  let s1 := tested.foldl (fun (t : State) e => t.lifeLog 5 (natLE 1 k ++ natLE 1 (if e.2 then 2 else 1) ++ natLE 1 e.1.1 ++ natLE 1 e.1.2)) s
  let s2 := v.softRows.foldl (fun (t : State) key => t.lifeLog 5 (natLE 1 k ++ natLE 1 3 ++ natLE 1 (key / 2 ^ 21) ++ natLE 1 0 ++ natLE 4 (key % 2 ^ 17))) s1
  s2.setStack k { v with marked := (tested.filter (fun e => !e.2)).map (·.1), softRows := [] }

/-- A strip is found lost at boot (R487, R488). -/
def State.bootStrip (s : State) (k cause : Nat) : State :=
  if s.dev.outOfService.contains k then s
  else
    let s1 := { s with dev := { s.dev with outOfService := setIns s.dev.outOfService k } }
    (s1.lifeLog 4 (natLE 1 k ++ natLE 1 1 ++ natLE 1 cause)).raiseIn pfFn ⟨0x25, k, 0, cause, 0⟩

/-- Boot completes: slip maps, stacks with a channel that failed retraining FAILING (R247), lost strips, the RESET record, READY. Free and lost strips are gated (R457). -/
def State.bootReady (s : State) (dead bad badChannels : List Nat) (ms : Nat) : State :=
  let s1 := (List.range 72).foldl (fun (t : State) c => t.bootColumn dead c) s
  let s2 := (badChannels.filter (· < 24)).foldl (fun (t : State) k => t.stackFailing k)
    { (List.range 24).foldl (fun (t : State) k => t.bootStack k) s1 with draws := s1.draws + 2048 }
  let s3 := (List.range 72).foldl (fun (t : State) c => if (t.columnAt c).retired then t.bootStrip (c / 6) 1 else t) s2
  let s4 := (bad.filter (· < 48)).foldl (fun (t : State) k => t.bootStrip (k % 24 % 12) (if k < 24 then 3 else 4)) s3
  let out := s4.dev.outOfService
  let s5 := s4.gate ((List.range 120) ++ out.flatMap (fun k => stackDoms k ++ eaveDoms k))
  let s6 := s5.lifeLog 1 (natLE 1 s5.dev.bootCause ++ natLE 3 0 ++ natLE 4 ms ++ natLE 1 out.length)
  { s6 with dev := { s6.dev with boot := .ready, ready := true } }

/-- BOOT_READY (R486). -/
def execBootReady (dead : List Nat) (found : BootStacks) (bootMs : Nat) (s : State) : Host.Outcome State Fault Refusal :=
  .next (if s.dev.boot == .testing && s.dev.fatal.isNone then s.bootReady dead found.retired found.badChannels bootMs else s)

end Sys2Proof.Machine
end

