-- ==== Sys2Proof/Machine/Sideband.lean ====
section
/-! DEFINITION. The management sideband and the lifetime records (R494 to R499). -/

namespace Sys2Proof.Machine

/- Lifetime records (R496 to R499). -/

/-- The counters block: 1,216 bytes (R498). -/
def State.countersBlock (s : State) : List Byte :=
  let l := s.life
  let mono (r : Option (List Byte)) : Nat := match r with | some x => fieldAt x 0 8 | none => 0
  natLE 8 l.poweredSeconds ++ natLE 4 l.coldResets ++ natLE 4 l.updates ++ natLE 8 (mono l.log.getLast?) ++ natLE 8 (mono l.log.head?) ++
    List.replicate 32 0 ++ (List.range 189).flatMap (fun d => natLE 4 (satField 32 (tabGet l.domainSeconds d 0 / 3600))) ++ List.replicate 12 0 ++
    (List.range 24).flatMap (fun i => natLE 8 (tabGet l.tileBins i 0)) ++ (List.range 24).flatMap (fun i => natLE 8 (tabGet l.stackBins i 0))

/-- The records that LIFETIME_READ copies, by its operands: SELECT in byte 28, FIRST in bytes 32 to 39, COUNT (R485, R499). -/
def State.lifeRecords (s : State) (e : List Byte) : List Byte :=
  if fieldAt e 28 1 = 0 then s.countersBlock
  else ((s.life.log.filter (fun r => decide (fieldAt e 32 8 ≤ fieldAt r 0 8))).take (adCount e)).flatten

/-- SELECT and COUNT: the counters block takes COUNT 19 (R498). -/
def lifeSelect (e : List Byte) : Chk Unit := do
  need (fieldAt e 28 1 != 0 || adCount e == 19) .lengthRange
  need (decide (fieldAt e 28 1 ≤ 1) && allZero (bytesAt e 29 3) && allZero (bytesAt e 40 8)) .descriptorInvalid

/-- The fields of LIFETIME_READ. -/
def lifeReadCheck (e : List Byte) : Chk Unit := do
  adminHead e .pf false
  need (adAddr e / 2 ^ 60 == 4) .descriptorInvalid
  lifeSelect e

/-- LIFETIME_READ of a PF queue. -/
def State.lifeRead (s : State) (q : Nat) : State :=
  s.adminRun q 0x27 lifeReadCheck (fun t it =>
    match t.checkAt pfFn (adAddr it.entry) (64 * adCount it.entry) with
    | some st => t.adminEnd q it.slot st 0
    | none =>
      let bytes := t.lifeRecords it.entry
      t.adminWrite q it bytes (fun u => u.adminEnd q it.slot .ok (bytes.length / 64)))

/-- An answer over the sideband leaves, and an in-band interrupt announces it (R494). -/
def State.sideRespond (s : State) (r : List Byte) : State := s.announce (s.respond r) true

/-- LIFETIME_READ over the sideband answers with the records. -/
def State.sideLifeRead (s : State) (e : List Byte) : State :=
  if !s.sideOpen then s
  else match lifeSelect e with
    | .ok _ => (s.pend 200).sideRespond (natLE 1 0xF7 ++ natLE 1 0 ++ s.lifeRecords e)
    | .error st => (s.pend 200).sideRespond (natLE 1 0xF7 ++ natLE 1 (statusCode st))

/-- LIFETIME_READ (R498, R499). -/
def execLifetimeRead (q : Nat) (side : Option (List Byte)) (s : State) : Host.Outcome State Fault Refusal :=
  .next (match side with | none => s.lifeRead q | some e => s.sideLifeRead e)

/-- A new calendar time, and its EPOCH record (R497). -/
def State.epochSet (s : State) (v : Nat) : State :=
  let old := s.epochNow
  ({ s with life := { s.life with epoch := v, epochSet := true, epochTime := s.time } }).lifeLog 8 (natLE 8 old ++ natLE 8 v)

/-- The OPERANDS of SET_EPOCH beside the calendar time. -/
def epochOperands (e : List Byte) : Chk Unit := need (allZero (bytesAt e 28 4) && allZero (bytesAt e 40 8)) .descriptorInvalid

/-- The fields of SET_EPOCH. -/
def epochCheck (e : List Byte) : Chk Unit := do
  adminHead e .pf false
  adminNoRange e
  epochOperands e

/-- SET_EPOCH of a PF queue; 0 is refused. -/
def State.setEpoch (s : State) (q : Nat) : State :=
  s.adminRun q 0x28 epochCheck (fun t it =>
    let v := fieldAt it.entry 32 8
    if v = 0 then t.refuse q it 1 else (t.epochSet v).adminEnd q it.slot .ok 0)

/-- A calendar time over the sideband: SET_EPOCH with its operands, or PLDM SetDateTime. -/
def State.sideEpoch (s : State) (r : SideEpoch) : State :=
  if !s.sideOpen then s
  else match r with
    | .setDateTime v => ((s.pend 200).epochSet v).sideRespond (natLE 1 0xF6 ++ natLE 1 0)
    | .vendor e => match epochOperands e with
      | .error st => (s.pend 200).sideRespond (natLE 1 0xF8 ++ natLE 1 (statusCode st))
      | .ok _ =>
        if fieldAt e 32 8 = 0 then (s.pend 200).sideRespond (natLE 1 0xF8 ++ natLE 1 1)
        else ((s.pend 200).epochSet (fieldAt e 32 8)).sideRespond (natLE 1 0xF8 ++ natLE 1 0)

/-- SET_EPOCH (R497). -/
def execSetEpoch (q : Nat) (side : Option SideEpoch) (s : State) : Host.Outcome State Fault Refusal :=
  .next (match side with | none => s.setEpoch q | some r => s.sideEpoch r)

/-- Some seconds more for each domain that is powered and not gated. -/
def State.liveSeconds (s : State) (n : Nat) : List (Nat × Nat) :=
  (s.power.on.filter (fun d => !s.power.gated.contains d)).foldl (fun (t : List (Nat × Nat)) d => tabSet t d (tabGet t d 0 + n)) s.life.domainSeconds

/-- Every 24 powered hours, a SUMMARY record of the period (R499). The hottest tile has been read in every period, 10,000 times a second. -/
def State.summary (s : State) (before : Nat) : State :=
  if s.life.poweredSeconds / 86400 = before / 86400 then s
  else
    let t := s.lifeLog 9 (natLE 2 (unsignedOf 16 (s.life.sumHot.getD 0)) ++ natLE 6 0 ++ natLE 8 (((s.power.pfEnergy : Int) - s.life.sumEnergy).toNat / 10 ^ 11))
    { t with life := { t.life with sumHot := none, sumEnergy := s.power.pfEnergy } }

/-- Seconds added to temperature bins (R498). -/
def binsAdd (bins add : List (Nat × Nat)) : List (Nat × Nat) :=
  add.foldl (fun (t : List (Nat × Nat)) e => tabSet t (min 23 e.1) (tabGet t (min 23 e.1) 0 + e.2)) bins

/-- The counters take the seconds that have passed, each in its temperature bins, and are committed (R496, R498). Seconds on the auxiliary
input alone count for the domains that it powers. -/
def State.lifeCommit (s : State) (tileBins stackBins : List (Nat × Nat)) : State :=
  let l := { s.life with domainSeconds := s.liveSeconds (secondsOf tileBins) }
  let l1 := { l with
    poweredSeconds := l.poweredSeconds + secondsOf tileBins,
    tileBins := binsAdd l.tileBins tileBins,
    stackBins := binsAdd l.stackBins stackBins }
  let s2 := if s.dev.mainOn then { s with life := l1 }.summary s.life.poweredSeconds else { s with life := l }
  { s2 with life := { s2.life with committed := s2.life.mono, fresh := [] } }

/-- LIFETIME_COMMIT (R496). -/
def execLifetimeCommit (tileBins stackBins : List (Nat × Nat)) (s : State) : Host.Outcome State Fault Refusal :=
  .next (if s.dev.auxPower then s.lifeCommit tileBins stackBins else s)

/- The sideband (R494, R495). -/

/-- The 48-bit Provisioned ID: the manufacturer, bit 32, the hash of the device identifier (R494). -/
def provisionedId : Nat := Config.i3cMaker.toNat * 2 ^ 33 + 2 ^ 32 + Config.i3cHash.toNat

/-- ENTDAA (R494): a target without an address drives its Provisioned ID, takes the address, and keeps it while auxiliary power stays. What
follows the ID on the bus is not the spec's. -/
def execEntdaa (address : Nat) (s : State) : Host.Outcome State Fault Refusal :=
  .next (if s.dev.auxPower && s.dev.boot != .off && s.life.i3cAddress.isNone && decide (address < 128) then
      ({ s.pend 200 with life := { s.life with i3cAddress := some address, hotJoin := false } }).drawn.respond
        ((natLE 6 provisionedId).reverse ++ Config.reply s.draws)
    else s)

/-- SET_ENDPOINT_ID (R495). -/
def execSetEndpointId (eid : Nat) (s : State) : Host.Outcome State Fault Refusal :=
  .next (if s.sideReached && !s.sec.recovery then { s.pend 200 with life := { s.life with eid := some (eid % 256) } } else s)

/-- PLDM_DISCOVERY (R495): answered in recovery too. The answer's bytes are not the spec's. -/
def execPldmDiscovery (command : Nat) (s : State) : Host.Outcome State Fault Refusal :=
  .next (if s.sideReached then (s.pend 200).drawn.sideRespond (natLE 1 0xF0 ++ natLE 1 command ++ Config.reply s.draws) else s)

/-- The ACLK of a strip: its bay's. That of a strip of no bay is 600 MHz in an emergency (R452, R525), lies in the range of R20, and is not the
spec's otherwise. -/
def State.stripAclk (s : State) (k : Nat) : Nat :=
  match s.stripOwner k with
  | some b => (s.bayAt b).aclk
  | none => if s.power.causes ≠ [] then 600 else 600 + Config.openNat s.draws % 801

/-- The reading of a sensor (R495); its numbers are the model's (log entry 56). -/
def State.sensor (s : State) (n : Nat) : Int :=
  if n = 0 then s.power.devicePower
  else if n ≤ 12 then ((s.bayAt (n - 1)).powSum / (s.bayAt (n - 1)).powTicks : Nat)
  else if n = 13 then maxInt 0 (s.power.tileTemp.map (·.2))
  else if n = 14 then s.hotStack (List.range 24)
  else if n ≤ 26 then (s.stripAclk (n - 15) : Int)
  else if n = 27 then (Config.openNat s.draws : Int)
  else if n = 28 then (if s.dev.ready then 1 else 0)
  else (if s.dev.fatal.isSome then 1 else 0)

/-- PLDM_SENSOR_READ (R495). -/
def execPldmSensorRead (sensor : Nat) (s : State) : Host.Outcome State Fault Refusal :=
  .next (if s.sideOpen then
      (s.pend 200).drawn.sideRespond (if sensor < 30 then natLE 1 0xF2 ++ natLE 1 0 ++ natLE 1 sensor ++ natLE 4 (unsignedOf 32 (s.sensor sensor))
        else natLE 1 0xF2 ++ natLE 1 1 ++ natLE 1 sensor)
    else s)

/-- A component of a PLDM update: it is staged, or ActivateFirmware acts as FW_ACTIVATE with DRAIN_LIMIT 2,000 (R495). The
answer gives the reason of R485, 0 for none. -/
def State.pldmUpdate (s : State) (kind : Nat) (image : List Byte) (activate : Bool) : State :=
  let ans (t : State) (r : Nat) : State := t.sideRespond (natLE 1 0xF5 ++ natLE 1 r ++ natLE 1 kind)
  if activate then
    if kind = 0 then ans s 1
    else match s.activateRefused kind with
      | some r => ans s r
      | none => ans (s.activateStart kind none) 0
  else if s.updating then ans s 4
  else
    let r := s.stageImage kind image
    ans r.1 (if r.2 then 0 else 2)

/-- PLDM_FIRMWARE_UPDATE (R495): served in recovery too (R414). -/
def execPldmFirmwareUpdate (kind : Nat) (image : List Byte) (activate : Bool) (s : State) : Host.Outcome State Fault Refusal :=
  .next (if s.sideReached && decide (kind ≤ 3) then (s.pend 200).pldmUpdate kind image activate else s)

end Sys2Proof.Machine
end

