-- ==== Sys2Proof/Machine/Setup.lean ====
section
/-! DEFINITION. The set-up registers (chapter 24): which register an offset is (R504 to R518), the access rules of R500, the
checks and refusals of each register, queue commands (R514), windows (R340, R341, R516); and the ridge slot in which a bay's
writes are handled (R406, R501). -/

namespace Sys2Proof.Machine

/-- The registers that take writes. -/
inductive SetReg where
  /-- A register that only reads, of 32 bits, or of 64 bits or part of a longer one: a write to it changes nothing. -/
  | readOnly (wide : Bool)
  | status
  | pcieShare | recordCfg | pfPowerDest
  | sqBase (q : Nat) | cqBase (q : Nat) | qCfg (q : Nat) | qPasid (q : Nat) | qTimeout (q : Nat) | qCtrl (q : Nat)
  | errBase | errCfg
  | resPcie (b : Nat) | resEnvelope (b : Nat) | resAclkSet (b : Nat) | resAclkRange (b : Nat) | resMode (b : Nat)
  | deviceCap | uncore | dutyMin
  | portAssign (p : Nat) | portHold (p : Nat) | portResp (p : Nat) | portSlots (p i : Nat)
  | fabricCtrl | scrubHours | corrLimit | snapCtrl | snapTrigger0 | snapTrigger1
  | memHealthDest | linkHealthDest | powerDest
  | fenceType (i : Nat)
  | outWin (w k : Nat) | inWin (w k : Nat)
  | nonce (i : Nat) | evidAddr | evidCfg | evidCtrl
  deriving DecidableEq, Repr

/-- A register of a queue block (R513). -/
def queueReg (q off : Nat) : Option SetReg :=
  match off with
  | 0x00 => some (.sqBase q) | 0x08 => some (.cqBase q) | 0x10 => some (.qCfg q) | 0x14 => some (.qPasid q)
  | 0x18 => some (.qTimeout q) | 0x1C => some (.qCtrl q) | 0x20 => some (.readOnly true) | 0x24 => some (.readOnly true) | _ => none

/-- A register of a resource block (R507). -/
def resReg (b off : Nat) : Option SetReg :=
  match off with
  | 0x00 => some (.resPcie b) | 0x04 => some (.resEnvelope b) | 0x08 => some (.resAclkSet b) | 0x0C => some (.resAclkRange b)
  | 0x10 => some (.resMode b) | _ => none

/-- A register of a port block (R508). -/
def portReg (p off : Nat) : Option SetReg :=
  match off with
  | 0x00 => some (.portAssign p) | 0x04 => some (.portHold p) | 0x08 => some (.portResp p)
  | 0x10 => some (.portSlots p 0) | 0x14 => some (.portSlots p 1) | 0x18 => some (.portSlots p 2) | _ => none

/-- The register at an offset of the PF's BAR0 (R504). -/
def pfReg (off : Nat) : Option SetReg :=
  if off % 4 ≠ 0 then none
  else if off < 0x18 then (if off = 4 then none else some (.readOnly (off != 0)))
  else if off = 0x18 then some .status
  else if 0x20 ≤ off ∧ off < 0x84 then some (.readOnly (off != 0x80))
  else if off = 0x90 then some .pcieShare
  else if off = 0x98 then some .recordCfg
  else if off = 0xA0 then some .pfPowerDest
  else if 0x1000 ≤ off ∧ off < 0x1100 then queueReg ((off - 0x1000) / 0x40) (off % 0x40)
  else if off = 0x2000 then some .errBase
  else if off = 0x2008 then some .errCfg
  else if 0x3000 ≤ off ∧ off < 0x4000 then some (.readOnly true)
  else if 0x10000 ≤ off ∧ off < 0x10C00 then resReg ((off - 0x10000) / 0x100) (off % 0x100)
  else if 0x30000 ≤ off ∧ off < 0x30200 then portReg ((off - 0x30000) / 0x20) (off % 0x20)
  else match off with
    | 0x20000 => some .deviceCap | 0x20004 => some .uncore | 0x20008 => some .dutyMin | 0x30200 => some .fabricCtrl
    | 0x40000 => some .scrubHours | 0x40004 => some .corrLimit | 0x50000 => some .snapCtrl
    | 0x50008 => some .snapTrigger0 | 0x5000C => some .snapTrigger1 | _ => none

/-- The register at an offset of a VF's BAR0 (R510). -/
def vfReg (off : Nat) : Option SetReg :=
  if off % 4 ≠ 0 then none
  else if off = 0x08 then some .status
  else if off < 0x08 ∨ (0x10 ≤ off ∧ off < 0x18) then some (.readOnly (decide (0x10 ≤ off)))
  else if 0x1000 ≤ off ∧ off < 0x2000 then queueReg ((off - 0x1000) / 0x40) (off % 0x40)
  else if 0x2000 ≤ off ∧ off < 0x2200 then some (.fenceType ((off - 0x2000) / 4))
  else if 0x3000 ≤ off ∧ off < 0x3400 then some (.outWin ((off - 0x3000) / 16) (off % 16 / 4))
  else if 0x4000 ≤ off ∧ off < 0x4800 then some (.inWin ((off - 0x4000) / 32) (off % 32 / 4))
  else if 0x6000 ≤ off ∧ off < 0x7000 then some (.readOnly true)
  else if 0x7000 ≤ off ∧ off < 0x7030 then some (.nonce ((off - 0x7000) / 4))
  else match off with
    | 0x18 => some .memHealthDest | 0x20 => some .linkHealthDest | 0x28 => some .powerDest
    | 0x5000 => some .errBase | 0x5008 => some .errCfg
    | 0x7030 => some .evidAddr | 0x7038 => some .evidCfg | 0x703C => some .evidCtrl | _ => none

/-- The register at an offset of a function's BAR0. -/
def regAt (fn off : Nat) : Option SetReg := if fn = pfFn then pfReg off else vfReg off

/-- Is a register 64 bits wide? -/
def SetReg.wide : SetReg → Bool
  | .pfPowerDest | .sqBase _ | .cqBase _ | .errBase | .memHealthDest | .linkHealthDest | .powerDest | .evidAddr => true
  | _ => false

/-- The value of a 64-bit register. -/
def State.wideReg (s : State) (fn : Nat) (r : SetReg) : BitVec 64 :=
  match r with
  | .pfPowerDest => s.dev.powerDest
  | .sqBase q => (s.queueAt fn q).sqBase
  | .cqBase q => (s.queueAt fn q).cqBase
  | .errBase => (s.fnAt fn).err.base
  | .memHealthDest => (s.bayAt fn).memHealthDest
  | .linkHealthDest => (s.bayAt fn).linkHealthDest
  | .powerDest => (s.bayAt fn).powerDest
  | .evidAddr => (s.bayAt fn).evid.addr
  | _ => 0

/- The reasons of R502. -/
def rsIllegal : Nat := 1
def rsState : Nat := 2
def rsLocked : Nat := 3
def rsConflict : Nat := 4
def rsRange : Nat := 5
def rsPasid : Nat := 7
def rsNotAssigned : Nat := 8

/-- The outcome of a write's checks: the register's new state, or the reason of its refusal. -/
abbrev SetOut := Except Nat State

/-- A legal write, or its refusal. -/
def setIf (ok : Bool) (reason : Nat) (out : SetOut) : SetOut := if ok then out else .error reason

/-- Does a value give a PASID while PASID Enable of the function is 0 (R376)? -/
def State.pasidBad (s : State) (fn v : Nat) : Bool := bitOf v 31 && !(s.fnAt fn).pasidEnable

/-- The PASID fields of a register (R505, R513, R518). -/
def pasidBits (v : Nat) : BitVec 32 := BitVec.ofNat 32 v &&& 0x800FFFFF#32

/- The sum rules (R378, R451). -/

/-- The shares of all functions fit the frame (R378). -/
def State.sharesFit (s : State) : Bool :=
  decide ((List.range 12).foldl (fun n b => n + (s.bayAt b).share) (bitsOf s.dev.pcieShare.toNat 6 0) ≤ 64)

/-- The inequality of R451 does not break in isolated mode. -/
def State.capFits (s : State) : Bool :=
  !s.dev.isolated ||
    decide ((((List.range 12).filter s.bayExists).foldl (fun n b => n + (s.bayAt b).envelope) 0) + bitsOf s.power.uncore.toNat 9 0 +
      40 * ((List.range 12).filter s.stripFree).length ≤ bitsOf s.power.deviceCap.toNat 11 0)

/- The resource block (R507, R519). -/

/-- A write to a resource register of a bay: LOCKED first. -/
def State.setRes (s : State) (b : Nat) (out : SetOut) : SetOut := setIf (!s.locked b) rsLocked out

def State.setPcie (s : State) (b v : Nat) : SetOut :=
  let t := s.setBay b { s.bayAt b with resPcie := BitVec.ofNat 32 (v % 128) }
  setIf (decide (v % 128 ≤ 64)) rsIllegal
    (setIf (t.sharesFit && !(v % 128 == 0 && s.dev.isolated && s.bayExists b)) rsConflict (.ok t))

def State.setEnvelope (s : State) (b v : Nat) : SetOut :=
  let e := v % 2 ^ 16
  let n := (s.bayAt b).count
  let t := s.setBay b { s.bayAt b with resEnvelope := BitVec.ofNat 32 e }
  let legal := e == 0 || (if s.bayExists b then decide (60 * n ≤ e ∧ e ≤ 300 * n) else decide (60 ≤ e ∧ e ≤ 3600))
  setIf legal rsIllegal
    (setIf (!s.bayExists b || !s.dev.isolated || (e != 0 && t.capFits)) rsConflict (.ok t))

/-- An operating point (R507). -/
def aclkOk (f : Nat) : Bool := decide (600 ≤ f ∧ f ≤ 1400 ∧ f % 50 = 0)

def State.setAclk (s : State) (b v : Nat) : SetOut :=
  setIf (aclkOk (v % 2 ^ 11)) rsIllegal (.ok (s.setBay b { s.bayAt b with resAclkSet := BitVec.ofNat 32 (v % 2 ^ 11) }))

def State.setAclkRange (s : State) (b v : Nat) : SetOut :=
  let hi := bitsOf v 26 16
  let lo := v % 2 ^ 11
  setIf (aclkOk hi && aclkOk lo && decide (lo ≤ hi)) rsIllegal
    (.ok (s.setBay b { s.bayAt b with resAclkRange := BitVec.ofNat 32 (hi * 2 ^ 16 + lo) }))

def State.setFreqMode (s : State) (b v : Nat) : SetOut := .ok (s.setBay b { s.bayAt b with resMode := BitVec.ofNat 32 (v % 2) })

/- Faref ports (R508, R512, R519). -/

/-- A port's registers after a write: refused when the port names a locked bay, before it or after it. Every bay whose share of
the port changes has its destinations checked again, and one that gets the port counts its events from then on (R350, R410). The slots of the
frame under way stay (R508). -/
def State.setPortMap (s : State) (p : Nat) (v : Port) (named : Port → Nat → Bool) (out : SetOut → SetOut) : SetOut :=
  let old := s.portAt p
  let changed := (List.range 12).filter (fun b => s.bayExists b && old.servesBay b != v.servesBay b)
  setIf ((List.range 12).all (fun b => !(s.locked b && (named old b || named v b)))) rsLocked
    (out (.ok (changed.foldl (fun (t : State) b => (if v.servesBay b then t.linkRestart b [p] else t).destRecheck b) ((s.setPort p (old.remap v)).pumpPort p))))

/-- The three slot registers hold no slot. -/
def Port.noSlots (v : Port) : Bool := v.slots.all (· == 0)

def State.setAssign (s : State) (p v : Nat) : SetOut :=
  let mode := bitsOf v 31 30
  let owner := bitsOf v 27 24
  let old := s.portAt p
  s.setPortMap p { old with assign := BitVec.ofNat 32 (mode * 2 ^ 30 + owner * 2 ^ 24) } Port.servesBay
    (setIf (mode != 3 && (if mode = 1 then decide (owner ≤ 11) else owner == 0) && (mode == 2 || old.noSlots)) rsIllegal)

def State.setSlots (s : State) (p i v : Nat) : SetOut :=
  let old := s.portAt p
  let w := BitVec.ofNat 32 v &&& 0x3F3F3F3F#32
  let new := { old with slots := setAt old.slots i w }
  s.setPortMap p new (fun q b => decide (b / 4 = i) && q.slotsOf b != 0)
    (fun out => setIf (w == 0 || bitsOf old.assign.toNat 31 30 == 2) rsIllegal
      (setIf (decide ((List.range 12).foldl (fun n b => n + new.slotsOf b) 0 ≤ 63)) rsConflict out))

/-- A field with a legal range. -/
def setRange (v bits lo hi : Nat) (out : BitVec 32 → State) : SetOut :=
  setIf (decide (lo ≤ v % 2 ^ bits ∧ v % 2 ^ bits ≤ hi)) rsIllegal (.ok (out (BitVec.ofNat 32 (v % 2 ^ bits))))

/- Device parameters (R344, R505, R509). -/

/-- A parameter under the inequality of R451. -/
def capCheck (out : SetOut) : SetOut :=
  match out with
  | .error e => .error e
  | .ok t => setIf t.capFits rsConflict (.ok t)

/-- FABRIC_CTRL: a device whose FABRIC_ROOT becomes 1 is root and walks; one whose FABRIC_ROOT becomes 0 is root no more (R344). -/
def State.setFabric (s : State) (v : Nat) : State :=
  let was := bitOf s.fabric.ctrl.toNat 1
  let t := { s with fabric := { s.fabric with ctrl := BitVec.ofNat 32 (v % 4) } }
  if bitOf v 1 && !was then t.startWalk
  else if !bitOf v 1 && was then { t with fabric := { t.fabric with isRoot := false } }
  else t

/-- Is an event code listed in R420, or 0 for none? -/
def trigOk (c : Nat) : Bool := [0, 0x01, 0x10, 0x11, 0x12, 0x13, 0x20, 0x21, 0x22, 0x23, 0x24, 0x25, 0x26, 0x30, 0x31, 0x32, 0x33, 0x34,
  0x35, 0x40, 0x41, 0x42, 0x43, 0x44, 0x45, 0x46, 0x47, 0x48, 0x49, 0x50, 0x60, 0x61, 0x62, 0x70].contains c

/-- The codes of a trigger register. -/
def setTrig (v : Nat) (out : BitVec 32 → State) : SetOut :=
  setIf (trigOk (v % 2 ^ 16) && trigOk (v / 2 ^ 16)) rsIllegal (.ok (out (BitVec.ofNat 32 v)))

/- Record destinations (R512). -/

/-- A destination's checks: space and alignment, then the range of the records. -/
def State.setDest (s : State) (fn v len : Nat) (spaces : List Nat) (out : BitVec 64 → State) : SetOut :=
  if !bitOf v 0 then .ok (out (BitVec.ofNat 64 v))
  else setIf (v % 64 == 1 && spaces.contains (bitsOf v 63 60)) rsIllegal
    (setIf ((s.calm.checkAt fn (v / 64 * 64) len).isNone) rsRange (.ok (out (BitVec.ofNat 64 v))))

/- Queues (R513, R514). -/

/-- A register of a queue that takes writes only while the queue is DISABLED. -/
def State.setQReg (s : State) (fn q : Nat) (ok : Bool) (reason : Nat) (new : Queue → Queue) : SetOut :=
  let v := s.queueAt fn q
  setIf (v.st == .disabled) rsState (setIf ok reason (.ok (s.setQueue fn q (new v))))

/-- A ring's base: 4 KiB aligned, in a space that the function may use. -/
def ringBaseOk (fn v : Nat) : Bool := v % 4096 == 0 && (if fn = pfFn then [4] else [0, 1, 4]).contains (bitsOf v 63 60)

/-- The fields of Q_CFG. -/
def qCfgOk (fn v : Nat) : Bool :=
  decide (6 ≤ bitsOf v 16 12 ∧ bitsOf v 16 12 ≤ 16) && (bitOf v 23 || bitsOf v 11 0 == 0) &&
    (if fn = pfFn then decide (1 ≤ bitsOf v 30 24 ∧ bitsOf v 30 24 ≤ 4) && !bitOf v 23 else decide (bitsOf v 30 24 ≤ 63))

/-- ENABLE (R514): a parameter that still holds an illegal value refuses it (R61). -/
def State.qEnable (s : State) (fn q : Nat) : SetOut :=
  let v := s.queueAt fn q
  let size := 2 ^ bitsOf v.cfg.toNat 16 12
  setIf (v.st == .disabled) rsState (setIf (qCfgOk fn v.cfg.toNat && ringBaseOk fn v.sqBase.toNat && ringBaseOk fn v.cqBase.toNat) rsIllegal
    (setIf ((s.calm.checkAt fn v.sqBase.toNat (64 * size)).isNone && (s.calm.checkAt fn v.cqBase.toNat (32 * size)).isNone) rsRange
      (setIf (!s.pasidBad fn v.pasid.toNat) rsPasid
        (.ok (s.setQueue fn q { v with st := .running, sqHead := 0, sqTail := 0, cqHead := 0, recHead := 0, fetched := 0 })))))

/-- DISABLE (R514): records that its completed items still wait for are written first. -/
def State.qDisable (s : State) (fn q : Nat) : SetOut :=
  let t := if allDone (s.queueAt fn q).items then State.flushQueue fn q (s.queueAt fn q).items.length s else s
  let v := t.queueAt fn q
  setIf ((v.st == .running || v.st == .stopped || v.st == .fetchFault) && v.items == [] && v.retained == []) rsState
    (.ok (t.setQueue fn q { v with st := .disabled, sqHead := 0, sqTail := 0, cqHead := 0, recHead := 0, fetched := 0 }))

/-- RESTART (R514). -/
def State.qRestart (s : State) (fn q : Nat) : SetOut :=
  let v := s.queueAt fn q
  setIf (v.st == .stopped || v.st == .fetchFault) rsState (.ok (s.setQueue fn q { v with st := .running }))

/-- Q_CTRL (R514). -/
def State.qCommand (s : State) (fn q cmd : Nat) : SetOut :=
  match cmd with
  | 1 => s.qEnable fn q
  | 2 => s.qDisable fn q
  | 3 => s.qRestart fn q
  | _ => .ok s

/- Error rings (R517). -/

/-- The ring of an error vector under R33, when it has a size. -/
def State.setErr (s : State) (fn : Nat) (e : ErrVec) : SetOut :=
  let lg := bitsOf e.cfg.toNat 24 20
  setIf (lg == 0 || (s.calm.checkAt fn e.base.toNat (64 * 2 ^ lg)).isNone) rsRange (.ok (s.setFn fn { s.fnAt fn with err := e }))

/- Windows (R340 to R342, R516). -/

/-- The bytes of a window descriptor, whole. -/
def winBytes (inbound : Bool) (bs : List Byte) : List Byte := fixLen (if inbound then 32 else 16) bs

/-- The bits of word k of a descriptor that take writes (R340, R341, R516). -/
def winMask (inbound : Bool) (k : Nat) : BitVec 32 :=
  match inbound, k with
  | false, 0 => 0x003FFF8F#32 | false, 1 => 0 | true, 0 => 0x00FFFFFC#32 | true, 6 => 0 | true, 7 => 0 | _, _ => 0xFFFFFFFF#32

/-- The checks of R340 on an outbound descriptor. -/
def State.outWinCheck (s : State) (b : Nat) (d : List Byte) : Option Nat :=
  let size := fieldAt d 8 8
  if owTarget d = 0xFF ∨ size % 4096 ≠ 0 ∨ size < 4096 ∨ 2 ^ 44 < size then some rsIllegal
  else if (s.portAt (owPort d)).servesBay b then none else some rsNotAssigned

/-- The rules of R341 and R355 on an inbound descriptor. -/
def State.inWinOk (s : State) (b : Nat) (d : List Byte) : Bool :=
  let kind := fieldAt d 0 1 / 32 % 4
  let src := fieldAt d 2 1
  let first := fieldAt d 4 2
  let count := fieldAt d 6 2
  let base := fieldAt d 8 8
  let size := fieldAt d 16 8
  (decide (src ≤ 11) || src == 0xFF) &&
    (match kind with
     | 0 => first == 0 && count == 0 && size % 4096 == 0 && size != 0 && decide (base / 2 ^ 60 ≤ 2) && (s.calm.checkAt b base size).isNone
     | 1 => base == 0 && size == 0 && decide (1 ≤ count ∧ count ≤ 4096 ∧ first + count ≤ 4096)
     | 2 => first == 0 && count == 0 && base == 0 && size == 0 && !byteBit d 0 4 && !byteBit d 0 2
     | _ => first == 0 && count == 0 && base == 0 && size == 0 && !byteBit d 0 4 && !byteBit d 0 2)

/-- Why a descriptor may not open. -/
def State.winCheck (s : State) (b : Nat) (inbound : Bool) (d : List Byte) : Option Nat :=
  if inbound then (if s.inWinOk b d then none else some rsIllegal) else s.outWinCheck b d

/-- Put a window descriptor. -/
def State.putWin (s : State) (b : Nat) (inbound : Bool) (w : Nat) (d : List Byte) : State :=
  let v := s.bayAt b
  s.setBay b (if inbound then { v with inWin := tabSet v.inWin w ⟨d⟩ } else { v with outWin := tabSet v.outWin w ⟨d⟩ })

/-- A descriptor as a close leaves it: CLOSING is 1 while accepted messages of the window are still to be applied (R341, R342). -/
def State.winClosing (s : State) (b w : Nat) (d : List Byte) : List Byte :=
  if s.windowBusy b w && !byteBit d 0 1 then overlay d 0 (natLE 1 (fieldAt d 0 1 + 2)) else d

/-- A write of word k of a window descriptor (R516); CLOSING is read-only. -/
def State.setWin (s : State) (b : Nat) (inbound : Bool) (w k v : Nat) : SetOut :=
  let cur := winBytes inbound (if inbound then s.inWindow b w else s.outWindow b w)
  let word := (BitVec.ofNat 32 v &&& winMask inbound k).toNat
  let new := overlay cur (4 * k) (natLE 4 (if inbound && k == 0 && byteBit cur 0 1 then word + 2 else word))
  if byteBit cur 0 7 then
    if k = 0 ∧ byteBit new 0 7 = false then .ok (s.putWin b inbound w (if inbound then s.winClosing b w new else new))
    else setIf (k == 0 && new == cur) rsState (.ok s)
  else if k = 0 ∧ byteBit new 0 7 then
    match s.winCheck b inbound new with
    | some r => .error r
    | none => .ok (s.putWin b inbound w new)
  else .ok (s.putWin b inbound w new)

/- Evidence registers (R518). -/

/-- A write to an evidence register: refused while BUSY. -/
def State.setEvid (s : State) (b : Nat) (ok : Bool) (reason : Nat) (new : Evidence → Evidence) : SetOut :=
  let v := (s.bayAt b).evid
  setIf (!v.busy) rsState (setIf ok reason (.ok (s.setBay b { s.bayAt b with evid := new v })))

/-- The nonce words, all twelve. -/
def nonceWords (l : List (BitVec 32)) : List (BitVec 32) := (List.range 12).map (fun i => l.getD i 0)

/- All registers. -/

/-- FENCE_TYPE i: bit j types fence 32i + j (R515). -/
def fenceTypes (old : List Nat) (i v : Nat) : List Nat :=
  (List.range 32).foldl (fun (l : List Nat) j => if bitOf v j then setIns l (32 * i + j) else l) (old.filter (fun f => f / 32 != i))

/-- The checks and the effect of a write of a whole register. -/
def State.setReg (s : State) (fn : Nat) (r : SetReg) (v : Nat) : SetOut :=
  let f := s.fnAt fn
  let y := s.bayAt fn
  match r with
  | .readOnly _ => .ok s
  | .status => .ok (s.setFn fn { f with setupStatus := f.setupStatus &&& ~~~(BitVec.ofNat 32 v &&& 0xC0000000#32) })
  | .pcieShare =>
    let t := { s with dev := { s.dev with pcieShare := BitVec.ofNat 32 (v % 128) } }
    setIf (decide (1 ≤ v % 128 ∧ v % 128 ≤ 64)) rsIllegal (setIf t.sharesFit rsConflict (.ok t))
  | .recordCfg => setIf (!s.pasidBad fn v) rsPasid (.ok { s with dev := { s.dev with recordCfg := pasidBits v } })
  | .pfPowerDest => s.setDest fn v 64 [4] (fun d => { s with dev := { s.dev with powerDest := d } })
  | .sqBase q => s.setQReg fn q (ringBaseOk fn v) rsIllegal (fun u => { u with sqBase := BitVec.ofNat 64 v })
  | .cqBase q => s.setQReg fn q (ringBaseOk fn v) rsIllegal (fun u => { u with cqBase := BitVec.ofNat 64 v })
  | .qCfg q => s.setQReg fn q (qCfgOk fn v) rsIllegal (fun u => { u with cfg := BitVec.ofNat 32 v &&& 0x7FF1FFFF#32 })
  | .qPasid q => s.setQReg fn q (!s.pasidBad fn v) rsPasid (fun u => { u with pasid := pasidBits v })
  | .qTimeout q => .ok (s.setQueue fn q { s.queueAt fn q with timeout := BitVec.ofNat 32 v })
  | .qCtrl q => s.qCommand fn q (v % 4)
  | .errBase => setIf (v % 64 == 0 && (if fn = pfFn then [4] else [0, 1, 4]).contains (bitsOf v 63 60)) rsIllegal
      (s.setErr fn { f.err with base := BitVec.ofNat 64 v })
  | .errCfg => setIf (bitsOf v 24 20 == 0 || decide (6 ≤ bitsOf v 24 20 ∧ bitsOf v 24 20 ≤ 16)) rsIllegal
      (setIf (!s.pasidBad fn v) rsPasid (s.setErr fn { f.err with cfg := BitVec.ofNat 32 v &&& 0x81FFFFFF#32 }))
  | .resPcie b => s.setRes b (s.setPcie b v)
  | .resEnvelope b => s.setRes b (s.setEnvelope b v)
  | .resAclkSet b => s.setRes b (s.setAclk b v)
  | .resAclkRange b => s.setRes b (s.setAclkRange b v)
  | .resMode b => s.setRes b (s.setFreqMode b v)
  | .deviceCap => capCheck (setRange v 12 1200 3300 (fun x => { s with power := { s.power with deviceCap := x } }))
  | .uncore => capCheck (setRange v 10 150 600 (fun x => { s with power := { s.power with uncore := x } }))
  | .dutyMin => setRange v 3 1 4 (fun x => { s with power := { s.power with dutyMin := x } })
  | .portAssign p => s.setAssign p v
  | .portHold p => setRange v 11 10 2000 (fun x => s.setPort p { s.portAt p with hold := x })
  | .portResp p => setRange v 14 1 10000 (fun x => s.setPort p { s.portAt p with resp := x })
  | .portSlots p i => s.setSlots p i v
  | .fabricCtrl => .ok (s.setFabric v)
  | .scrubHours => setRange v 10 1 720 (fun x => { s with dev := { s.dev with scrubHours := x } })
  | .corrLimit => setRange v 16 16 65535 (fun x => { s with dev := { s.dev with corrLimit := x } })
  | .snapCtrl => .ok { s with dbg := { s.dbg with ctrl := BitVec.ofNat 32 (v % 4) } }
  | .snapTrigger0 => setTrig v (fun x => { s with dbg := { s.dbg with trig0 := x } })
  | .snapTrigger1 => setTrig v (fun x => { s with dbg := { s.dbg with trig1 := x } })
  | .memHealthDest => s.setDest fn v (128 * y.count) [0, 1] (fun d => s.setBay fn { y with memHealthDest := d })
  | .linkHealthDest => s.setDest fn v (64 * (s.bayPorts fn).length) [0, 1] (fun d => s.setBay fn { y with linkHealthDest := d })
  | .powerDest => s.setDest fn v 64 [0, 1] (fun d => s.setBay fn { y with powerDest := d })
  | .fenceType i => .ok (s.setBay fn { y with external := fenceTypes y.external i v })
  | .outWin w k => s.setWin fn false w k v
  | .inWin w k => s.setWin fn true w k v
  | .nonce i => s.setEvid fn true 0 (fun e => { e with nonce := setAt (nonceWords e.nonce) i (BitVec.ofNat 32 v) })
  | .evidAddr => s.setEvid fn (v % 64 == 0 && bitsOf v 63 60 == 4) rsIllegal (fun e => { e with addr := BitVec.ofNat 64 v })
  | .evidCfg => s.setEvid fn (!s.pasidBad fn v) rsPasid (fun e => { e with cfg := pasidBits v })
  | .evidCtrl => setIf (!y.evid.busy) rsState (.ok (if bitOf v 0 then s.evidenceGo fn else s))

/-- The write of a whole register at its offset: its effect, or the refusal in SETUP_STATUS (R502). -/
def State.putReg (s : State) (fn off : Nat) (r : SetReg) (v : Nat) : State :=
  match s.setReg fn r v with
  | .ok t => t
  | .error reason => s.setupRefuse fn reason off

/-- The high half of a 64-bit register: the value takes effect with it (R500). Without a write of the low half, the register's
own low half stands. -/
def State.putHigh (s : State) (fn off : Nat) (r : SetReg) (v : Nat) : State :=
  let lo := (tabFind (s.fnAt fn).lowHalf off).getD ((s.wideReg fn r).toNat % 2 ^ 32)
  (s.setFn fn { s.fnAt fn with lowHalf := tabDel (s.fnAt fn).lowHalf off }).putReg fn off r (v % 2 ^ 32 * 2 ^ 32 + lo)

/-- A write to a function's BAR0; one to an unimplemented offset is discarded, and reported through the function's AER (R370, R500). -/
def State.setupWrite (s : State) (fn off width value : Nat) : State :=
  let v := value % 256 ^ width
  match regAt fn off with
  | some r =>
    if (r = .readOnly true ∨ r = .readOnly false) ∧ width = 4 ∨ r = .readOnly true ∧ width = 8 ∧ off % 8 = 0 then s
    else if r.wide && width == 8 && off % 8 == 0 then s.putReg fn off r v
    else if r.wide && width == 4 then s.setFn fn { s.fnAt fn with lowHalf := tabSet (s.fnAt fn).lowHalf off v }
    else if !r.wide && width == 4 then s.putReg fn off r v
    else s.countAer fn
  | none =>
    if width = 4 ∧ off % 8 = 4 then
      match regAt fn (off - 4) with
      | some r => if r.wide then s.putHigh fn (off - 4) r v else s.countAer fn
      | none => s.countAer fn
    else s.countAer fn

/- When the ridge handles a write (R501). -/

/-- An event acts at the ridge: a set-up write, or one of Ridge.lean. -/
def State.ridgeActs (s : State) (fn : Nat) (e : RidgeEvent) : State :=
  match e with
  | .setup off width value => (s.setupWrite fn off width value).settle
  | e => (s.applyEvent fn e).settle

/-- A set-up write that a BAR takes: it acts now, or is held until the bay's slot (R406, R501). -/
def State.setupGets (s : State) (fn off width value : Nat) : State :=
  if s.barOpen fn = false || s.dev.fatal.isSome then s
  else if s.takesNow fn then s.ridgeActs fn (.setup off width value)
  else s.hold fn (.setup off width value)

/-- The oldest event that is held for a bay acts, where the ridge serves the bay. -/
def State.releaseOne (s : State) (b : Nat) : State :=
  match s.heldAt b with
  | [] => s
  | e :: rest => if s.serves b then (s.setHeld b rest).ridgeActs b e else s

/-- The events that a bay's slot lets through, in order. -/
def State.releaseHeld (s : State) (b : Nat) : State := (s.heldAt b).foldl (fun (t : State) _ => t.releaseOne b) s

/-- The place in a cycle of the slot that begins at a time (R406): in isolated mode by the time; in shared mode that of the next bay with
work after the one that had the last slot. -/
def State.slotPlace (s : State) (cyc : List Nat) (time : Nat) (isolated : Bool) : Nat :=
  let from_ := (cyc.filter (fun b => decide (b ≤ s.slotBay.getD (s.dev.cycle.getD s.dev.slotIx 12)))).length % cyc.length
  if cyc = [] then 0
  else if isolated then time / 2000 % cyc.length
  else match (cyc.drop from_ ++ cyc.take from_).find? s.hasWork with
    | some b => (cyc.takeWhile (· != b)).length
    | none => from_

/-- The next ridge slot begins: time, the set of bays and the mode, and the bay that the slot serves (R405, R406). -/
def State.slotBoundary (s : State) : State :=
  let time := (s.time / 2000 + 1) * 2000
  let isolated := s.dev.nextMode.getD s.dev.isolated
  let s1 := { s with time := time, dev := { s.dev with cycle := s.ridgeCycle, slotIx := s.slotPlace s.ridgeCycle time isolated,
                                                        isolated := isolated, nextMode := none } }
  (((List.range 12).foldl (fun t b => t.releaseHeld b) s1)).settle

/-- RIDGE_SLOT_BOUNDARY (R406): the records that a reset waited for may have left in this slot (R483). -/
def execRidgeSlotBoundary (s : State) : Host.Outcome State Fault Refusal := .next s.slotBoundary.tail

/- The commands. -/

/-- SETUP_REGISTER_WRITE (R500 to R520): a write with EP is discarded, and reported (R370). -/
def execSetupRegisterWrite (fn off width : Nat) (data : HostData) (s : State) : Host.Outcome State Fault Refusal :=
  .next (if data.ep then (if s.barOpen fn then s.countAer fn else s) else s.setupGets fn off width data.value)

/-- A write of a command to Q_CTRL of a queue. -/
def State.queueCommand (s : State) (fn q cmd : Nat) : State :=
  if q < (if fn = pfFn then 4 else 64) then s.setupGets fn (0x1000 + 0x40 * q + 0x1C) 4 cmd else s

/-- ENABLE (R514). -/
def execEnableQueue (fn q : Nat) (s : State) : Host.Outcome State Fault Refusal := .next (s.queueCommand fn q 1)

/-- DISABLE (R514). -/
def execDisableQueue (fn q : Nat) (s : State) : Host.Outcome State Fault Refusal := .next (s.queueCommand fn q 2)

/-- RESTART (R514). -/
def execRestartQueue (fn q : Nat) (s : State) : Host.Outcome State Fault Refusal := .next (s.queueCommand fn q 3)

/-- A write of the word of byte 0 of a window descriptor, with OPEN as given. -/
def State.winCommand (s : State) (b : Nat) (inbound : Bool) (w word : Nat) (isOpen : Bool) : State :=
  if w < 64 ∧ b < 12 then
    s.setupGets b (if inbound then 0x4000 + 0x20 * w else 0x3000 + 0x10 * w) 4
      (word % 128 + (if isOpen then 128 else 0) + word / 256 % 2 ^ 24 * 256)
  else s

/-- WINDOW_OPEN (R340, R341, R516). -/
def execWindowOpen (bay : Nat) (inbound : Bool) (w word : Nat) (s : State) : Host.Outcome State Fault Refusal :=
  .next (s.winCommand bay inbound w word true)

/-- WINDOW_CLOSE (R342, R516). -/
def execWindowClose (bay : Nat) (inbound : Bool) (w word : Nat) (s : State) : Host.Outcome State Fault Refusal :=
  .next (s.winCommand bay inbound w word false)

/-- EVIDENCE_GO (R412, R518). -/
def execEvidenceGo (bay : Nat) (s : State) : Host.Outcome State Fault Refusal :=
  .next (if bay < 12 then s.setupGets bay 0x703C 4 1 else s)

end Sys2Proof.Machine
end

