-- ==== Sys2Proof/Machine/HostIf.lean ====
section
/-! DEFINITION. The host's side (R370, R374, R375), the IDE streams (R384, R385), and requests off a bound stream (R387). -/

namespace Sys2Proof.Machine

/- Host reads and translations. -/

/-- The bytes that a read of a range finds from now on: data, or a failure (R370). -/
def State.hostSupply (s : State) (fn : Nat) (pasid : Option Nat) (iova : Nat) (data : List Byte) : State :=
  let key := hostKey fn pasid iova
  { s with host := { s.host with mem := hostLay s.host.mem key data, errs := errsOutside s.host.errs key data.length } }
def State.hostFails (s : State) (fn : Nat) (pasid : Option Nat) (iova len : Nat) (poisoned : Bool) : State :=
  let key := hostKey fn pasid iova
  { s with host := { s.host with errs := errsOutside s.host.errs key len ++ [(key, len, poisoned)] } }

/-- HOST_READ_COMPLETION (R370): status 0 data, 1 UR or CA, otherwise EP. -/
def execHostReadCompletion (fn : Nat) (pasid : Option Nat) (iova status : Nat) (data : List Byte) (s : State) :
    Host.Outcome State Fault Refusal :=
  .next (if status = 0 then s.hostSupply fn pasid iova data else s.hostFails fn pasid iova data.length (status != 1))

/-- COMPLETION_TIMEOUT (R370). -/
def execCompletionTimeout (fn : Nat) (pasid : Option Nat) (iova len : Nat) (s : State) : Host.Outcome State Fault Refusal :=
  .next (s.hostFails fn pasid iova len false)

/-- Ranges of refused translations without those that a range takes in; what a range cuts stays outside it. -/
def refusedOutside (rs : List Refused) (key len : Nat) : List Refused :=
  rs.flatMap (fun r => [{ r with len := min r.len (key - r.key) },
    { r with key := max r.key (key + len), len := r.key + r.len - max r.key (key + len) }].filter (fun p => p.len ≠ 0))

/-- The running COPYs of a function move a free part of their bytes under the translations of now (R375). -/
def State.copiesSoFar (s : State) (fn : Nat) : State :=
  (s.queuesOf fn).foldl (fun t p => p.2.items.foldl (fun u it => u.copyPart fn p.1 it) t) s

/-- An invalidation: later translations of the range lack read or write permission, or are given. Bytes of a COPY, and runs of a stream of
a copy work order, before it have moved under the old ones; what was issued before it has completed, so the Invalidate Completion leaves at once (R375). -/
def State.invalidate (s : State) (fn : Nat) (pasid : Option Nat) (iova len : Nat) (noRead noWrite : Bool) : State :=
  if (s.fnAt fn).ats then
    let key := hostKey fn pasid iova
    let t := (s.copiesSoFar fn).streamsSoFar fn
    let rest := refusedOutside t.host.refused key len
    { t with host := { t.host with refused := if noRead || noWrite then rest ++ [⟨key, len, noRead, noWrite⟩] else rest,
                                   invalidations := t.host.invalidations ++ [fn] } }
  else s

/-- ATS_INVALIDATION (R374, R375). -/
def execAtsInvalidation (fn : Nat) (pasid : Option Nat) (iova len : Nat) (lacks : Lacks) (s : State) :
    Host.Outcome State Fault Refusal :=
  .next (s.invalidate fn pasid iova len lacks.read lacks.write)

/- IDE and TDIs. -/

/-- A request off the bound stream of a TDI in RUN: Unsupported Request, and IDE_REJECTED; a write is discarded with it (R387). -/
def State.nonTee (s : State) (b : Nat) : State :=
  if (s.bayAt b).tdi == .run && (s.fnAt b).memSpace then
    { s with host := { s.host with unsupported := s.host.unsupported + 1 } }.raiseIn b ⟨0x50, 0, 0, 0, 0⟩
  else s

/-- NON_TEE_REQUEST (R387): a read and a write have one effect on the device. -/
def execNonTeeRequest (bay : Nat) (_write : Bool) (s : State) : Host.Outcome State Fault Refusal := .next (s.nonTee bay)

/-- An IDE stream. -/
def State.ideAt (s : State) (n : Nat) : IdeStream := tabGet s.spdm.ide n {}
def State.setIde (s : State) (n : Nat) (v : IdeStream) : State := { s with spdm := { s.spdm with ide := tabSet s.spdm.ide n v } }

/-- A stream enters Insecure: its keys are destroyed, the PF management vector is raised, and the TDIs bound to it move to
ERROR (R385, R389, R415). -/
def State.ideFails (s : State) (n : Nat) : State :=
  if (s.ideAt n).secure then
    let s1 := ((s.pend (8 + n % 16)).setIde n { s.ideAt n with secure := false, keys := [], going := [] }).msix pfFn 0
    (((List.range 12).filter (fun b => s.locked b && (s.bayAt b).boundStream == n)).foldl (fun (t : State) b => t.securityStop b false) s1).tail
  else s

/-- IDE_INTEGRITY_FAILURE (R385). -/
def execIdeIntegrityFailure (stream : Nat) (s : State) : Host.Outcome State Fault Refusal := .next (s.ideFails stream)

end Sys2Proof.Machine
end

