-- ==== Sys2Proof/Machine/Spdm.lean ====
section
/-! DEFINITION. The SPDM responder (R380 to R383, R390, R413), IDE_KM (R384) and TDISP (R386 to R389). The spec names the
messages and says what each does; the codes of messages and errors are those of SPDM, IDE_KM and TDISP, and the form of a
response here is the model's (log entry 54). -/

namespace Sys2Proof.Machine

/- Requests and answers. -/

/-- An ERROR response: its code; ResponseNotReady carries the retry time of 1 s in microseconds (R390). -/
def State.spdmError (s : State) (code : Nat) : State :=
  s.respond (natLE 1 0x7F ++ natLE 1 code ++ (if code = 0x42 then natLE 4 1000000 else []))

/-- Does a transport reach the responder (R380, R490, R495)? Over DOE from the first configuration answer on. -/
def State.spdmReached (s : State) (sideband : Bool) : Bool :=
  s.dev.auxPower && !s.sec.recovery && (if sideband then s.sideReached else s.dev.configAnswers)

/-- A request arrives on a transport, with its interrupt source (R460). While an activation runs the answer is
ResponseNotReady (R390); a decommissioned part answers four requests (R413). Over the sideband each answer is announced (R494). -/
def State.spdmRun (s : State) (sideband always : Bool) (act : State → State) : State :=
  if s.spdmReached sideband then
    let t := s.pend (if sideband then 200 else 24)
    s.announce (if t.updating then t.spdmError 0x42
      else if t.sec.lifecycle = 3 ∧ always = false then t.spdmError 0x07
      else act t) sideband
  else s

/-- The transport of a request that names an unknown session: DOE where it is reached. -/
def State.openTransport (s : State) : Bool := !s.spdmReached false

/-- A session by its number. -/
def State.sessionAt (s : State) (sid : Nat) : Option Session := s.spdm.sessions.find? (fun x => x.sid == sid)
def State.setSession (s : State) (sid : Nat) (f : Session → Session) : State :=
  { s with spdm := { s.spdm with sessions := s.spdm.sessions.map (fun x => if x.sid = sid then f x else x) } }
def State.dropSession (s : State) (sid : Nat) : State :=
  { s with spdm := { s.spdm with sessions := s.spdm.sessions.filter (fun x => x.sid != sid) } }

/-- What a transport's connection has negotiated. -/
def State.connAt (s : State) (sideband : Bool) : SpdmConn := if sideband then s.spdm.side else s.spdm.doe
def State.setConn (s : State) (sideband : Bool) (c : SpdmConn) : State :=
  { s with spdm := if sideband then { s.spdm with side := c } else { s.spdm with doe := c } }

/-- The transport of a session's messages; of an unknown session, the open one. -/
def State.sessionSide (s : State) (sid : Nat) : Bool :=
  match s.sessionAt sid with | some x => x.sideband | none => s.openTransport

/-- A request inside an established session, which it keeps alive. An ended or unknown session gets InvalidSession (R390). -/
def State.inSession (s : State) (sid : Nat) (always : Bool) (act : State → State) : State :=
  s.spdmRun (s.sessionSide sid) always (fun t =>
    match t.sessionAt sid with
    | some x => if x.established then act (t.setSession sid (fun y => { y with misses := 0 })) else t.spdmError 0x04
    | none => t.spdmError 0x02)

/-- A request inside a session, or on a transport after the negotiation of its connection (R380, R381). -/
def State.inEither (s : State) (path : SpdmPath) (always : Bool) (act : State → State) : State :=
  let outside (sideband : Bool) : State := s.spdmRun sideband always (fun t => if (t.connAt sideband).algs then act t else t.spdmError 0x04)
  match path with
  | .session sid => s.inSession sid always act
  | .doe => outside false
  | .sideband => outside true

/- The connection (R381). -/

/-- GET_VERSION: versions 1.2 and 1.3; the connection starts again. -/
def State.spdmVersion (s : State) (sideband : Bool) : State :=
  s.spdmRun sideband true (fun t => (t.setConn sideband { versions := true }).respond (natLE 1 0x04 ++ natLE 1 2 ++ natLE 2 0x1200 ++ natLE 2 0x1300))

/-- GET_VERSION (R381). -/
def execGetVersion (sideband : Bool) (s : State) : Host.Outcome State Fault Refusal := .next (s.spdmVersion sideband)

/-- GET_CAPABILITIES: the version, and CTExponent 18. -/
def State.spdmCaps (s : State) (sideband : Bool) (version : Nat) : State :=
  s.spdmRun sideband true (fun t =>
    if (t.connAt sideband).versions = false then t.spdmError 0x04
    else if version = 0x12 ∨ version = 0x13 then
      (t.setConn sideband { t.connAt sideband with version := version }).respond (natLE 1 0x61 ++ natLE 1 version ++ natLE 1 18)
    else t.spdmError 0x41)

/-- GET_CAPABILITIES (R381). -/
def execGetCapabilities (sideband : Bool) (version : Nat) (s : State) : Host.Outcome State Fault Refusal := .next (s.spdmCaps sideband version)

/-- The algorithms of R381 in SPDM's bit numbers: ECDSA P-384, SHA-384, secp384r1, AES-256-GCM. -/
def algAsym : Nat := 7
def algHash : Nat := 1
def algDhe : Nat := 4
def algAead : Nat := 1

/-- NEGOTIATE_ALGORITHMS: each of the device's algorithms that the requester lists is agreed. -/
def State.spdmAlgs (s : State) (sideband : Bool) (asym hash dhe aead : List Nat) : State :=
  s.spdmRun sideband true (fun t =>
    let c := t.connAt sideband
    if c.version = 0 then t.spdmError 0x04
    else
      let sel (l : List Nat) (a : Nat) : List Byte := natLE 4 (if l.contains a then 2 ^ a else 0)
      let ok := asym.contains algAsym && hash.contains algHash
      (t.setConn sideband { c with algs := ok, keyed := ok && dhe.contains algDhe && aead.contains algAead }).respond
        (natLE 1 0x63 ++ sel asym algAsym ++ sel hash algHash ++ sel dhe algDhe ++ sel aead algAead))

/-- NEGOTIATE_ALGORITHMS (R381). -/
def execNegotiateAlgorithms (sideband : Bool) (asym hash dhe aead : List Nat) (s : State) : Host.Outcome State Fault Refusal :=
  .next (s.spdmAlgs sideband asym hash dhe aead)

/- Certificates (R382). -/

/-- The chain of a slot, with the current Alias certificate appended. -/
def State.chainOf (s : State) (slot : Nat) : Option (List Byte) :=
  let leaf := Config.aliasCert s.sec.aliasSerial
  match slot with
  | 0 => some (Config.certChain ++ leaf)
  | 1 => s.spdm.slot1.map (fun c => c ++ leaf)
  | _ => none

/-- The digests of the chains that are installed. -/
def State.spdmDigests (s : State) (path : SpdmPath) : State :=
  s.inEither path false (fun t =>
    let ds := (List.range 2).filterMap t.chainOf
    t.respond (natLE 1 0x01 ++ natLE 1 (if t.spdm.slot1.isSome then 3 else 1) ++ ds.flatMap (fun c => natLE 48 (Config.sha384 c).toNat)))

/-- GET_DIGESTS (R382). -/
def execGetDigests (path : SpdmPath) (s : State) : Host.Outcome State Fault Refusal := .next (s.spdmDigests path)

/-- The bytes of an object of 64 KiB, and those that a portion of a chain or report can have in one (R380, log entry 54). -/
def objectMax : Nat := 65536
def portionMax : Nat := objectMax - 24

/-- A portion of a chain, and how much follows it. -/
def State.spdmCert (s : State) (path : SpdmPath) (slot off len : Nat) : State :=
  s.inEither path false (fun t =>
    match t.chainOf slot with
    | some c =>
      if c.length ≤ off then t.spdmError 0x01
      else
        let part := (c.drop off).take (min len portionMax)
        t.respond (natLE 1 0x02 ++ natLE 1 slot ++ natLE 2 part.length ++ natLE 2 (c.length - off - part.length) ++ part)
    | none => t.spdmError 0x01)

/-- GET_CERTIFICATE (R382). -/
def execGetCertificate (path : SpdmPath) (certSlot off len : Nat) (s : State) : Host.Outcome State Fault Refusal :=
  .next (s.spdmCert path certSlot off len)

/-- A signed answer: the body, 32 random bytes, and the Alias key's signature over what is signed. -/
def State.spdmSigned (s : State) (body extra : List Byte) : State :=
  let full := body ++ natLE 32 (Config.random384 s.draws).toNat
  s.drawn.respond (full ++ fixLen 96 (Config.aliasSign s.sec.aliasSerial (full ++ extra)))

/-- CHALLENGE: the digest of a slot's chain, signed with the requester's nonce. -/
def State.spdmChallenge (s : State) (path : SpdmPath) (slot : Nat) (nonce : List Byte) : State :=
  s.inEither path false (fun t =>
    match t.chainOf slot with
    | some c => t.spdmSigned (natLE 1 0x03 ++ natLE 1 slot ++ natLE 48 (Config.sha384 c).toNat) nonce
    | none => t.spdmError 0x01)

/-- CHALLENGE (R381). -/
def execChallenge (path : SpdmPath) (certSlot : Nat) (nonce : List Byte) (s : State) : Host.Outcome State Fault Refusal :=
  .next (s.spdmChallenge path certSlot nonce)

/-- SET_CERTIFICATE: slot 1, when a CERTIFICATE approval authorised that chain; the authorisation is used up (R397). A chain that no
object carries does not reach the responder (R380). -/
def State.spdmSetCert (s : State) (path : SpdmPath) (slot : Nat) (chain : List Byte) : State :=
  if portionMax < chain.length then s else s.inEither path false (fun t =>
    if slot = 1 ∧ t.sec.certAuth = some (Config.sha384 chain) then
      { t with spdm := { t.spdm with slot1 := some chain }, sec := { t.sec with certAuth := none } }.respond (natLE 1 0x6E ++ natLE 1 slot)
    else t.spdmError 0x07)

/-- SET_CERTIFICATE (R382, R397). -/
def execSetCertificate (path : SpdmPath) (certSlot : Nat) (chain : List Byte) (s : State) : Host.Outcome State Fault Refusal :=
  .next (s.spdmSetCert path certSlot chain)

/- Measurements (R383). -/

/-- The 64 bytes of the firmware policy (R397). -/
def State.policyBytes (s : State) : List Byte := fixLen 64 s.sec.policy

/-- The type (bit 7: raw) and the content of a measurement block. -/
def State.measurement (s : State) (ix : Nat) : Option (Nat × List Byte) :=
  let digest (k : Nat) : List Byte := natLE 48 (s.fwAt k).run.digest.toNat
  match ix with
  | 1 => some (0, natLE 48 Config.romDigest.toNat)
  | 2 => some (1, digest 0) | 3 => some (1, digest 1) | 4 => some (1, digest 2) | 5 => some (1, digest 3)
  | 6 => some (0x87, (List.range 4).flatMap (fun k => natLE 2 (s.fwAt k).run.version))
  | 7 => some (0x83, natLE 16 s.sec.lifecycle ++ natLE 48 (Config.sha384 s.policyBytes).toNat)
  | 8 => some (0x85, natLE 1 s.dev.debugLevel ++ (List.range 12).flatMap (fun b => natLE 1 (s.bayAt b).debugLevel) ++ natLE 3 0)
  | 9 => some (4, (List.range 4).flatMap (fun k => natLE 48 (match tabFind s.sec.staged k with | some d => d.toNat | none => 0)))
  | 10 => some (0x82, natLE 1 (if s.dev.isolated then 1 else 0) ++
      (List.range 12).flatMap (fun k => natLE 1 ((s.stripOwner k).getD 0xFF)) ++ natLE 3 0)
  | n => if 16 ≤ n ∧ n < 28 ∧ s.bayExists (n - 16) then some (0x82, s.interfaceReport (n - 16)) else none

/-- A measurement block in the DMTF format. -/
def measBlock (ix : Nat) (m : Nat × List Byte) : List Byte :=
  natLE 1 ix ++ natLE 1 1 ++ natLE 2 (m.2.length + 3) ++ natLE 1 m.1 ++ natLE 2 m.2.length ++ m.2

/-- The indices that have a block. -/
def State.measIndices (s : State) : List Nat := (List.range 28).filter (fun i => (s.measurement i).isSome)

/-- GET_MEASUREMENTS: index 0 asks for the count, 255 for all. A signed answer is refused once decommissioned (R413). -/
def State.spdmMeas (s : State) (path : SpdmPath) (ix : Nat) (signed : Bool) (nonce : List Byte) : State :=
  s.inEither path (!signed) (fun t =>
    let ixs := if ix = 0 then [] else if ix = 255 then t.measIndices else [ix]
    if ixs.all (fun i => (t.measurement i).isSome) then
      let blocks := ixs.flatMap (fun i => match t.measurement i with | some m => measBlock i m | none => [])
      let body := natLE 1 0x60 ++ natLE 1 (if ix = 0 then t.measIndices.length else ixs.length) ++ natLE 3 blocks.length ++ blocks
      if signed then t.spdmSigned body nonce else t.respond body
    else t.spdmError 0x01)

/-- GET_MEASUREMENTS (R383). -/
def execGetMeasurements (path : SpdmPath) (index : Nat) (signed : Bool) (nonce : List Byte) (s : State) :
    Host.Outcome State Fault Refusal :=
  .next (s.spdmMeas path index signed nonce)

/- Sessions (R381, R390). -/

/-- KEY_EXCHANGE: a session of four at most begins its handshake; HeartbeatPeriod is 60 s. -/
def State.spdmKeyExchange (s : State) (sideband : Bool) (slot : Nat) (share : List Byte) : State :=
  s.spdmRun sideband false (fun t =>
    if (t.connAt sideband).keyed = false then t.spdmError 0x04
    else if (t.chainOf slot).isNone then t.spdmError 0x01
    else if 4 ≤ t.spdm.sessions.length then t.spdmError 0x0A
    else
      let sid := t.spdm.nextSid + 1
      let x : Session := { sid := sid, established := false, misses := 0, subscribed := false, sideband := sideband, keyGen := 0, peer := none }
      let body := natLE 1 0x64 ++ natLE 1 60 ++ natLE 2 sid ++ fixLen 96 (Config.reply t.draws)
      { t with spdm := { t.spdm with sessions := t.spdm.sessions ++ [x], nextSid := sid } }.spdmSigned body share)

/-- KEY_EXCHANGE (R381). -/
def execKeyExchange (sideband : Bool) (certSlot : Nat) (share : List Byte) (s : State) : Host.Outcome State Fault Refusal :=
  .next (s.spdmKeyExchange sideband certSlot share)

/-- Does a requester's chain end at the trust anchor of the firmware policy: has its root the digest of bytes 16 to 63 (R381, R397)? -/
def State.anchorOk (s : State) (root : Option (BitVec 384)) : Bool := root.all (fun d => d.toNat == fieldAt s.policyBytes 16 48)

/-- FINISH: the session is established, or its handshake, or its mutual authentication, has failed and it ends. -/
def State.spdmFinish (s : State) (sid : Nat) (pass : Bool) (root : Option (BitVec 384)) : State :=
  s.spdmRun (s.sessionSide sid) false (fun t =>
    match t.sessionAt sid with
    | some x =>
      if x.established then t.spdmError 0x04
      else if pass && t.anchorOk root then (t.setSession sid (fun y => { y with established := true, peer := root })).respond (natLE 1 0x65)
      else (t.dropSession sid).spdmError 0x06
    | none => t.spdmError 0x02)

/-- FINISH (R381). -/
def execSpdmFinish (sid : Nat) (proof : FinishProof) (s : State) : Host.Outcome State Fault Refusal :=
  .next (s.spdmFinish sid proof.pass proof.root)

/-- KEY_UPDATE (R381). -/
def execKeyUpdate (sid : Nat) (s : State) : Host.Outcome State Fault Refusal :=
  .next (s.inSession sid false (fun t => (t.setSession sid (fun x => { x with keyGen := x.keyGen + 1 })).respond (natLE 1 0x69)))

/-- HEARTBEAT (R381): like every message of a session, it starts the period again. -/
def execHeartbeat (sid : Nat) (s : State) : Host.Outcome State Fault Refusal :=
  .next (s.inSession sid false (fun t => t.respond (natLE 1 0x68)))

/-- A heartbeat period without a message; the second in a row ends the session. -/
def State.spdmMiss (s : State) (sid : Nat) : State :=
  match s.sessionAt sid with
  | none => s
  | some x =>
    let t := s.pend 241
    if 1 ≤ x.misses then t.dropSession sid else t.setSession sid (fun y => { y with misses := y.misses + 1 })

/-- SESSION_HEARTBEAT_EXPIRY (R381). -/
def execSessionHeartbeatExpiry (sid : Nat) (s : State) : Host.Outcome State Fault Refusal := .next (s.spdmMiss sid)

/-- END_SESSION (R381): no IDE stream and no TDI changes. -/
def execEndSession (sid : Nat) (s : State) : Host.Outcome State Fault Refusal :=
  .next (s.inSession sid false (fun t => (t.dropSession sid).respond (natLE 1 0x6C)))

/-- SUBSCRIBE_EVENT_TYPES of a connection of version 1.3 (R381, R390). -/
def State.spdmSubscribe (s : State) (sid : Nat) (subscribe : Bool) : State :=
  s.inSession sid false (fun t =>
    if (t.connAt (t.sessionSide sid)).version = 0x13 then
      (t.setSession sid (fun x => { x with subscribed := subscribe })).respond (natLE 1 0x70)
    else t.spdmError 0x07)

/-- SUBSCRIBE_EVENT_TYPES (R381, R390). -/
def execSubscribeEventTypes (sid : Nat) (subscribe : Bool) (s : State) : Host.Outcome State Fault Refusal := .next (s.spdmSubscribe sid subscribe)

/-- PSK_EXCHANGE: UnsupportedRequest (R381). -/
def execPskExchange (sideband : Bool) (s : State) : Host.Outcome State Fault Refusal := .next (s.spdmRun sideband false (fun t => t.spdmError 0x07))

/-- PSK_FINISH: UnsupportedRequest (R381). -/
def execPskFinish (sideband : Bool) (s : State) : Host.Outcome State Fault Refusal := .next (s.spdmRun sideband false (fun t => t.spdmError 0x07))

/- IDE_KM (R384). -/

/-- An IDE_KM answer: its object, the stream, and its status. -/
def ideAnswer (object stream status : Nat) : List Byte := natLE 1 0xFC ++ natLE 1 object ++ natLE 1 stream ++ natLE 1 status

/-- The number of a key of a stream; none where the operands name no key. -/
def ideKey (stream keySet sub dir : Nat) : Option Nat :=
  if stream < 16 ∧ keySet < 2 ∧ sub < 3 ∧ dir < 2 then some (keySet * 6 + sub * 2 + dir) else none

/-- KEY_PROG: one key of a key set is loaded. `rid` is the function (1 to 12 VF n) in the stream's RID association, `addrs` are its address
associations, four at most. A key in use is not replaced. -/
def State.ideProg (s : State) (sid stream keySet sub dir rid : Nat) (addrs : List (Nat × Nat)) : State :=
  s.inSession sid false (fun t =>
    match ideKey stream keySet sub dir with
    | none => t.respond (ideAnswer 3 stream 1)
    | some k =>
      let v := t.ideAt stream
      if 4 < addrs.length then t.respond (ideAnswer 3 stream 1)
      else if v.going.contains k then t.respond (ideAnswer 3 stream 2)
      else (t.setIde stream { v with keys := setIns v.keys k, rid := rid, addrs := addrs }).respond (ideAnswer 3 stream 0))

/-- KEY_PROG (R384). -/
def execKeyProg (sid stream keySet sub dir : Nat) (assoc : IdeAssoc) (s : State) : Host.Outcome State Fault Refusal :=
  .next (s.ideProg sid stream keySet sub dir assoc.rid assoc.addrs)

/-- A stream after K_SET_GO of a key: the other set's key of that sub-stream and direction is destroyed (R415), and the stream
is Secure once all six have a key in use. -/
def IdeStream.switch (v : IdeStream) (k : Nat) : IdeStream :=
  let going := setIns (v.going.filter (fun j => j % 6 != k % 6)) k
  { v with going := going, keys := v.keys.filter (fun j => j % 6 != k % 6 || j == k), secure := v.secure || going.length == 6 }

/-- K_SET_GO: a key that is loaded comes into use. -/
def State.ideGo (s : State) (sid stream keySet sub dir : Nat) : State :=
  s.inSession sid false (fun t =>
    match ideKey stream keySet sub dir with
    | none => t.respond (ideAnswer 6 stream 1)
    | some k =>
      let v := t.ideAt stream
      if v.keys.contains k then (t.setIde stream (v.switch k)).respond (ideAnswer 6 stream 0)
      else t.respond (ideAnswer 6 stream 2))

/-- K_SET_GO (R384). -/
def execKSetGo (sid stream keySet sub dir : Nat) (s : State) : Host.Outcome State Fault Refusal := .next (s.ideGo sid stream keySet sub dir)

/- TDISP (R386 to R389). -/

/-- A TDISP error answer. -/
def State.tdispError (s : State) (b code : Nat) : State := s.respond (tdispFault b code)

/-- A TDISP request in a session, for a VF whose bay exists. -/
def State.tdisp (s : State) (sid b : Nat) (act : State → State) : State :=
  s.inSession sid false (fun t => if t.bayExists b && (t.fnAt b).exists_ then act t else t.tdispError b 0x101)

/-- GET_TDISP_VERSION (R386): one version, 1.0. -/
def execGetTdispVersion (sid bay : Nat) (s : State) : Host.Outcome State Fault Refusal :=
  .next (s.tdisp sid bay (fun t => t.respond (tdispDone 0x01 bay 0 (natLE 1 1 ++ natLE 1 0x10))))

/-- GET_TDISP_CAPABILITIES (R386): the seven requests of R386. -/
def execGetTdispCapabilities (sid bay : Nat) (s : State) : Host.Outcome State Fault Refusal :=
  .next (s.tdisp sid bay (fun t => t.respond (tdispDone 0x02 bay 0 (natLE 2 0xFE))))

/-- Does a bay meet the conditions of R386 to be locked to a stream? A bay under a reset or scrub does not. -/
def State.lockable (s : State) (b stream : Nat) : Bool :=
  let x := s.ideAt stream
  (s.bayAt b).tdi == .unlocked && !s.bayBusy b && (s.liveItems b) == [] && (s.queuesOf b).all (fun p => p.2.st == .disabled) &&
    decide (stream < 16) && x.secure && x.rid == b + 1

/-- LOCK_INTERFACE_REQUEST: the bay's scrub begins; CONFIG_LOCKED and the answer follow it (R386, R401). -/
def State.tdispLock (s : State) (sid b stream : Nat) : State :=
  s.tdisp sid b (fun t =>
    if t.lockable b stream then
      (t.setBay b { t.bayAt b with boundStream := stream }).startScrub b 4 (t.bayAt b).strips
    else t.tdispError b 4)

/-- LOCK_INTERFACE_REQUEST (R386). -/
def execLockInterface (sid bay stream : Nat) (s : State) : Host.Outcome State Fault Refusal := .next (s.tdispLock sid bay stream)

/-- The pages of 4 KiB of a VF's BARs: 1 MiB, 512 KiB and 64 KiB (R372). -/
def barPages (bar : Nat) : Nat := if bar = 0 then 256 else if bar = 2 then 128 else 16

/-- The MMIO range entry of a VF's BAR: first page, pages, attributes, BAR (R372, R388). -/
def State.mmioRange (s : State) (b bar : Nat) : List Byte :=
  natLE 8 (Config.barPage b bar (s.fnAt b).barGen) ++ natLE 4 (barPages bar) ++ natLE 2 (Config.barAttr b bar) ++ natLE 2 bar

/-- The interface report: the range entries of the three BARs, then the 64 bytes of R388. -/
def State.fullReport (s : State) (b : Nat) : List Byte := [0, 2, 4].flatMap (s.mmioRange b) ++ s.interfaceReport b

/-- GET_DEVICE_INTERFACE_REPORT: a portion of the report of a TDI in CONFIG_LOCKED or RUN, and how much follows it. -/
def State.tdispReport (s : State) (sid b off len : Nat) : State :=
  s.tdisp sid b (fun t =>
    if t.locked b = false then t.tdispError b 4
    else
      let r := t.fullReport b
      if r.length ≤ off then t.tdispError b 1
      else
        let part := (r.drop off).take (min len portionMax)
        t.respond (tdispDone 0x04 b 0 (natLE 2 part.length ++ natLE 2 (r.length - off - part.length) ++ part)))

/-- GET_DEVICE_INTERFACE_REPORT (R388). -/
def execGetInterfaceReport (sid bay off len : Nat) (s : State) : Host.Outcome State Fault Refusal := .next (s.tdispReport sid bay off len)

/-- The code of a TDI state (R386, R511). -/
def tdiCode : Tdi → Nat
  | .unlocked => 0 | .locked => 1 | .run => 2 | .error => 3

/-- GET_DEVICE_INTERFACE_STATE (R386). -/
def execGetInterfaceState (sid bay : Nat) (s : State) : Host.Outcome State Fault Refusal :=
  .next (s.tdisp sid bay (fun t => t.respond (tdispDone 0x05 bay 0 (natLE 1 (tdiCode (t.bayAt bay).tdi)))))

/-- START_INTERFACE_REQUEST with the lock nonce: a locked TDI moves to RUN (R386). -/
def State.tdispStart (s : State) (sid b : Nat) (nonce : BitVec 384) : State :=
  s.tdisp sid b (fun t =>
    if (t.bayAt b).tdi ≠ .locked ∨ t.bayBusy b = true then t.tdispError b 4
    else if (t.bayAt b).lockNonce ≠ nonce then t.tdispError b 0x102
    else (t.setTdi b .run).respond (tdispDone 0x06 b 0 []))

/-- START_INTERFACE_REQUEST (R386). -/
def execStartInterface (sid bay : Nat) (nonce : BitVec 384) (s : State) : Host.Outcome State Fault Refusal := .next (s.tdispStart sid bay nonce)

/-- STOP_INTERFACE_REQUEST (R389): the bay is stopped, and the TDI is CONFIG_UNLOCKED once its scrub completes. A stop or reset that is
under way goes on to CONFIG_UNLOCKED; a TDI that is unlocked stays so. -/
def State.tdispStop (s : State) (sid b : Nat) : State :=
  s.tdisp sid b (fun t =>
    let v := t.bayAt b
    if v.tdi = .unlocked then (if t.bayBusy b then t.tdispError b 3 else t.respond (tdispDone 0x07 b 0 []))
    else if t.bayBusy b then if v.stopping then t.tdispError b 3 else t.setBay b { v with stopping := true }
    else (t.securityStop b true).tail)

/-- STOP_INTERFACE_REQUEST (R386, R389). -/
def execStopInterface (sid bay : Nat) (s : State) : Host.Outcome State Fault Refusal := .next (s.tdispStop sid bay)

end Sys2Proof.Machine
end

