-- ==== Sys2Proof/Machine/Dispatch.lean ====
section
/-! DEFINITION. The dispatch: one arm per command, each one direct call of its meaning. -/

namespace Sys2Proof.Machine

def exec (i : Instr) (s : State) : Host.Outcome State Fault Refusal :=
  match i with
  | .sqTailDoorbell fn q width data => Sys2Proof.Machine.execSqTailDoorbell fn q width data s
  | .cqHeadDoorbell fn q width data => Sys2Proof.Machine.execCqHeadDoorbell fn q width data s
  | .fenceWindowWrite bay off width data => Sys2Proof.Machine.execFenceWindowWrite bay off width data s
  | .entryFetch fn q => Sys2Proof.Machine.execEntryFetch fn q s
  | .launch fn q => Sys2Proof.Machine.execLaunch fn q s
  | .launchReadsComplete fn q slot => Sys2Proof.Machine.execLaunchReadsComplete fn q slot s
  | .courseNodeRead fn q slot => Sys2Proof.Machine.execCourseNodeRead fn q slot s
  | .nodeDispatch fn q slot node => Sys2Proof.Machine.execNodeDispatch fn q slot node s
  | .workOrderArrive eave unit => Sys2Proof.Machine.execWorkOrderArrive eave unit s
  | .workOrderStart core => Sys2Proof.Machine.execWorkOrderStart core s
  | .workOrderComplete eave unit lid node => Sys2Proof.Machine.execWorkOrderComplete eave unit lid node s
  | .workOrderReport n => Sys2Proof.Machine.execWorkOrderReport n s
  | .endNotice n => Sys2Proof.Machine.execEndNotice n s
  | .counterWaitTimeout core => Sys2Proof.Machine.execCounterWaitTimeout core s
  | .syncArrive core => Sys2Proof.Machine.execSyncArrive core s
  | .syncReport core => Sys2Proof.Machine.execSyncReport core s
  | .syncRelease fn q slot node => Sys2Proof.Machine.execSyncRelease fn q slot node s
  | .matrixWorkOrder run => Sys2Proof.Machine.execMatrixWorkOrder run s
  | .fusedChain core => Sys2Proof.Machine.execFusedChain core s
  | .sparProgram core => Sys2Proof.Machine.execSparProgram core s
  | .softmax core => Sys2Proof.Machine.execSoftmax core s
  | .partialState core => Sys2Proof.Machine.execPartialState core s
  | .mergeStates core => Sys2Proof.Machine.execMergeStates core s
  | .applyState core => Sys2Proof.Machine.execApplyState core s
  | .layerNorm core => Sys2Proof.Machine.execLayerNorm core s
  | .rmsNorm core => Sys2Proof.Machine.execRmsNorm core s
  | .routerSelect core => Sys2Proof.Machine.execRouterSelect core s
  | .routerAdmit core => Sys2Proof.Machine.execRouterAdmit core s
  | .routerCombine core => Sys2Proof.Machine.execRouterCombine core s
  | .exitTest core => Sys2Proof.Machine.execExitTest core s
  | .dmaCopy core lid node stream => Sys2Proof.Machine.execDmaCopy core lid node stream s
  | .dmaGather core lid node stream => Sys2Proof.Machine.execDmaGather core lid node stream s
  | .dmaScatter core lid node stream => Sys2Proof.Machine.execDmaScatter core lid node stream s
  | .dmaFill core lid node stream => Sys2Proof.Machine.execDmaFill core lid node stream s
  | .arrivalSignal core lid node stream => Sys2Proof.Machine.execArrivalSignal core lid node stream s
  | .remoteScratchpadAccess core off ecc write data => Sys2Proof.Machine.execRemoteScratchpadAccess core off ecc write data s
  | .valleyDispatch core lid node => Sys2Proof.Machine.execValleyDispatch core lid node s
  | .valleyReturn core lid node => Sys2Proof.Machine.execValleyReturn core lid node s
  | .valleySegment n => Sys2Proof.Machine.execValleySegment n s
  | .valleyDone n => Sys2Proof.Machine.execValleyDone n s
  | .attend stack => Sys2Proof.Machine.execAttend stack s
  | .pageCopy stack => Sys2Proof.Machine.execPageCopy stack s
  | .eavePartialReturn stack => Sys2Proof.Machine.execEavePartialReturn stack s
  | .copyStart fn q => Sys2Proof.Machine.execCopyStart fn q s
  | .copyComplete fn q slot => Sys2Proof.Machine.execCopyComplete fn q slot s
  | .fenceWait fn q => Sys2Proof.Machine.execFenceWait fn q s
  | .fenceSignal fn q => Sys2Proof.Machine.execFenceSignal fn q s
  | .barrierStart fn q => Sys2Proof.Machine.execBarrierStart fn q s
  | .cancelStart fn q => Sys2Proof.Machine.execCancelStart fn q s
  | .waitTimeout fn q slot node => Sys2Proof.Machine.execWaitTimeout fn q slot node s
  | .completionPathLost fn q => Sys2Proof.Machine.execCompletionPathLost fn q s
  | .readRetained q => Sys2Proof.Machine.execReadRetained q s
  | .resetQueue q => Sys2Proof.Machine.execResetQueue q s
  | .queueState q => Sys2Proof.Machine.execQueueState q s
  | .approvalNonce q => Sys2Proof.Machine.execApprovalNonce q s
  | .nonceExpiry => Sys2Proof.Machine.execNonceExpiry s
  | .bayMap q => Sys2Proof.Machine.execBayMap q s
  | .bayCreate q => Sys2Proof.Machine.execBayCreate q s
  | .bayResize q => Sys2Proof.Machine.execBayResize q s
  | .bayDestroy q => Sys2Proof.Machine.execBayDestroy q s
  | .setMode q => Sys2Proof.Machine.execSetMode q s
  | .releaseLock q => Sys2Proof.Machine.execReleaseLock q s
  | .setDebug q => Sys2Proof.Machine.execSetDebug q s
  | .setPolicy q => Sys2Proof.Machine.execSetPolicy q s
  | .lifecycleChange q => Sys2Proof.Machine.execLifecycleChange q s
  | .keySlot q => Sys2Proof.Machine.execKeySlot q s
  | .fuseWrite q => Sys2Proof.Machine.execFuseWrite q s
  | .certificate q => Sys2Proof.Machine.execCertificate q s
  | .certificateExpiry => Sys2Proof.Machine.execCertificateExpiry s
  | .bayScrubDone bay => Sys2Proof.Machine.execBayScrubDone bay s
  | .ridgeSlotBoundary => Sys2Proof.Machine.execRidgeSlotBoundary s
  | .evidenceGo bay => Sys2Proof.Machine.execEvidenceGo bay s
  | .fwStage q => Sys2Proof.Machine.execFwStage q s
  | .fwActivate q => Sys2Proof.Machine.execFwActivate q s
  | .drainLimitExpiry => Sys2Proof.Machine.execDrainLimitExpiry s
  | .fwDrainComplete pass => Sys2Proof.Machine.execFwDrainComplete pass s
  | .warmReset q => Sys2Proof.Machine.execWarmReset q s
  | .coldReset q side => Sys2Proof.Machine.execColdReset q side s
  | .bayReset q => Sys2Proof.Machine.execBayReset q s
  | .coreReset q => Sys2Proof.Machine.execCoreReset q s
  | .linkReset q => Sys2Proof.Machine.execLinkReset q s
  | .lifetimeRead q side => Sys2Proof.Machine.execLifetimeRead q side s
  | .setEpoch q side => Sys2Proof.Machine.execSetEpoch q side s
  | .columnState q => Sys2Proof.Machine.execColumnState q s
  | .rehang q => Sys2Proof.Machine.execRehang q s
  | .rehangCheckDone col row pass => Sys2Proof.Machine.execRehangCheckDone col row pass s
  | .plannedSlip q => Sys2Proof.Machine.execPlannedSlip q s
  | .plannedSlipWaitExpiry owner => Sys2Proof.Machine.execPlannedSlipWaitExpiry owner s
  | .retireStrip q => Sys2Proof.Machine.execRetireStrip q s
  | .restoreStrip q => Sys2Proof.Machine.execRestoreStrip q s
  | .restoreQuiesce => Sys2Proof.Machine.execRestoreQuiesce s
  | .restoreQuiesceTimeout => Sys2Proof.Machine.execRestoreQuiesceTimeout s
  | .readErrors q => Sys2Proof.Machine.execReadErrors q s
  | .snapshotStrobe q => Sys2Proof.Machine.execSnapshotStrobe q s
  | .snapshotRead q => Sys2Proof.Machine.execSnapshotRead q s
  | .snapshotRelease q => Sys2Proof.Machine.execSnapshotRelease q s
  | .snapshotHoldExpiry => Sys2Proof.Machine.execSnapshotHoldExpiry s
  | .snapN ns => Sys2Proof.Machine.execSnapN ns s
  | .traceRead q => Sys2Proof.Machine.execTraceRead q s
  | .haltBay q => Sys2Proof.Machine.execHaltBay q s
  | .stepBay q => Sys2Proof.Machine.execStepBay q s
  | .stepExpiry bay => Sys2Proof.Machine.execStepExpiry bay s
  | .resumeBay q => Sys2Proof.Machine.execResumeBay q s
  | .debugAccess q => Sys2Proof.Machine.execDebugAccess q s
  | .enableQueue fn q => Sys2Proof.Machine.execEnableQueue fn q s
  | .disableQueue fn q => Sys2Proof.Machine.execDisableQueue fn q s
  | .restartQueue fn q => Sys2Proof.Machine.execRestartQueue fn q s
  | .windowOpen bay inbound w word => Sys2Proof.Machine.execWindowOpen bay inbound w word s
  | .windowClose bay inbound w word => Sys2Proof.Machine.execWindowClose bay inbound w word s
  | .setupRegisterWrite fn off width data => Sys2Proof.Machine.execSetupRegisterWrite fn off width data s
  | .tileSelfCheckFailure col row => Sys2Proof.Machine.execTileSelfCheckFailure col row s
  | .tileHeartbeat col row answered => Sys2Proof.Machine.execTileHeartbeat col row answered s
  | .slipRepair owner => Sys2Proof.Machine.execSlipRepair owner s
  | .slipMeshDrained owner => Sys2Proof.Machine.execSlipMeshDrained owner s
  | .spareCheckDone col row pass => Sys2Proof.Machine.execSpareCheckDone col row pass s
  | .slipMigrationDone owner losses => Sys2Proof.Machine.execSlipMigrationDone owner losses s
  | .spareFullCheck col => Sys2Proof.Machine.execSpareFullCheck col s
  | .eaveEngineFailure stack => Sys2Proof.Machine.execEaveEngineFailure stack s
  | .stackControllerFailure stack cause => Sys2Proof.Machine.execStackControllerFailure stack cause s
  | .deviceFatal clock => Sys2Proof.Machine.execDeviceFatal clock s
  | .patrolScrubLine stack syms lanes code => Sys2Proof.Machine.execPatrolScrubLine stack syms lanes code s
  | .refresh stack pc bank => Sys2Proof.Machine.execRefresh stack pc bank s
  | .rowRepair stack => Sys2Proof.Machine.execRowRepair stack s
  | .rowRepairDone stack lost => Sys2Proof.Machine.execRowRepairDone stack lost s
  | .memoryHealthRecord bay => Sys2Proof.Machine.execMemoryHealthRecord bay s
  | .linkHealthRecord bay => Sys2Proof.Machine.execLinkHealthRecord bay s
  | .powerRecord fn => Sys2Proof.Machine.execPowerRecord fn s
  | .portTraining port device fabricId prevId root partnerPort lanes localMask => Sys2Proof.Machine.execPortTraining port device fabricId prevId root partnerPort lanes localMask s
  | .trainingRetry port => Sys2Proof.Machine.execTrainingRetry port s
  | .laneMarginal port lane => Sys2Proof.Machine.execLaneMarginal port lane s
  | .laneLost port lane => Sys2Proof.Machine.execLaneLost port lane s
  | .dataFlit port bytes errs => Sys2Proof.Machine.execDataFlit port bytes errs s
  | .idleFlit port bytes errs => Sys2Proof.Machine.execIdleFlit port bytes errs s
  | .nakFlit port bytes errs => Sys2Proof.Machine.execNakFlit port bytes errs s
  | .replayTimeout port => Sys2Proof.Machine.execReplayTimeout port s
  | .portHoldExpiry port => Sys2Proof.Machine.execPortHoldExpiry port s
  | .farWrite port => Sys2Proof.Machine.execFarWrite port s
  | .farRead port => Sys2Proof.Machine.execFarRead port s
  | .farAtomicAdd port => Sys2Proof.Machine.execFarAtomicAdd port s
  | .farWriteAck port => Sys2Proof.Machine.execFarWriteAck port s
  | .farReadData port => Sys2Proof.Machine.execFarReadData port s
  | .farAtomicAck port => Sys2Proof.Machine.execFarAtomicAck port s
  | .farValley port => Sys2Proof.Machine.execFarValley port s
  | .farValleyAck port => Sys2Proof.Machine.execFarValleyAck port s
  | .responseTimeout port tag => Sys2Proof.Machine.execResponseTimeout port tag s
  | .farForward port vc => Sys2Proof.Machine.execFarForward port vc s
  | .enumMessage port => Sys2Proof.Machine.execEnumMessage port s
  | .topologyMessage port => Sys2Proof.Machine.execTopologyMessage port s
  | .rootTakeover => Sys2Proof.Machine.execRootTakeover s
  | .snapshotMessage port => Sys2Proof.Machine.execSnapshotMessage port s
  | .allReduce bay n => Sys2Proof.Machine.execAllReduce bay n s
  | .reduceScatter bay n => Sys2Proof.Machine.execReduceScatter bay n s
  | .allGather bay n => Sys2Proof.Machine.execAllGather bay n s
  | .allToAll bay n => Sys2Proof.Machine.execAllToAll bay n s
  | .broadcast bay n => Sys2Proof.Machine.execBroadcast bay n s
  | .remoteAdd bay n => Sys2Proof.Machine.execRemoteAdd bay n s
  | .collGrant port => Sys2Proof.Machine.execCollGrant port s
  | .collData port => Sys2Proof.Machine.execCollData port s
  | .collAbort port => Sys2Proof.Machine.execCollAbort port s
  | .frameReduce bay n piece => Sys2Proof.Machine.execFrameReduce bay n piece s
  | .collectiveTimeout bay n member => Sys2Proof.Machine.execCollectiveTimeout bay n member s
  | .capTick power bays stretched => Sys2Proof.Machine.execCapTick power bays stretched s
  | .aclkStepSettle bay => Sys2Proof.Machine.execAclkStepSettle bay s
  | .powerEmergency cause => Sys2Proof.Machine.execPowerEmergency cause s
  | .emergencyRelease => Sys2Proof.Machine.execEmergencyRelease s
  | .mainInputShutdown tooHigh => Sys2Proof.Machine.execMainInputShutdown tooHigh s
  | .mainInputReturn => Sys2Proof.Machine.execMainInputReturn s
  | .auxInputLoss => Sys2Proof.Machine.execAuxInputLoss s
  | .temperatureSample tiles stackList reg => Sys2Proof.Machine.execTemperatureSample tiles stackList reg s
  | .droopTrip kind unit cycles => Sys2Proof.Machine.execDroopTrip kind unit cycles s
  | .ageingMeasurement low => Sys2Proof.Machine.execAgeingMeasurement low s
  | .domainGate domain => Sys2Proof.Machine.execDomainGate domain s
  | .domainWake domain => Sys2Proof.Machine.execDomainWake domain s
  | .regulatorFault domain => Sys2Proof.Machine.execRegulatorFault domain s
  | .interruptDelivery target => Sys2Proof.Machine.execInterruptDelivery target s
  | .ictlDone target => Sys2Proof.Machine.execIctlDone target s
  | .ictlSoftSet value => Sys2Proof.Machine.execIctlSoftSet value s
  | .ictlSrcWrite src value => Sys2Proof.Machine.execIctlSrcWrite src value s
  | .ictlMaskWrite target value => Sys2Proof.Machine.execIctlMaskWrite target value s
  | .waitInstruction target => Sys2Proof.Machine.execWaitInstruction target s
  | .waitWake target => Sys2Proof.Machine.execWaitWake target s
  | .msixUnmask fn entry => Sys2Proof.Machine.execMsixUnmask fn entry s
  | .vfFlr bay => Sys2Proof.Machine.execVfFlr bay s
  | .pfFlr => Sys2Proof.Machine.execPfFlr s
  | .vfEnableCleared numVfs => Sys2Proof.Machine.execVfEnableCleared numVfs s
  | .vfConfigChange fn bars mem master ats pasid msix fmask => Sys2Proof.Machine.execVfConfigChange fn bars mem master ats pasid msix fmask s
  | .perst => Sys2Proof.Machine.execPerst s
  | .hotReset refclk => Sys2Proof.Machine.execHotReset refclk s
  | .deviceWarmReset pass => Sys2Proof.Machine.execDeviceWarmReset pass s
  | .modResetN pulse => Sys2Proof.Machine.execModResetN pulse s
  | .moduleColdReset release => Sys2Proof.Machine.execModuleColdReset release s
  | .bootReady dead found bootMs => Sys2Proof.Machine.execBootReady dead found bootMs s
  | .hostReadCompletion fn pasid iova status data => Sys2Proof.Machine.execHostReadCompletion fn pasid iova status data s
  | .completionTimeout fn pasid iova len => Sys2Proof.Machine.execCompletionTimeout fn pasid iova len s
  | .atsInvalidation fn pasid iova len lacks => Sys2Proof.Machine.execAtsInvalidation fn pasid iova len lacks s
  | .nonTeeRequest bay write => Sys2Proof.Machine.execNonTeeRequest bay write s
  | .ideIntegrityFailure stream => Sys2Proof.Machine.execIdeIntegrityFailure stream s
  | .getVersion sideband => Sys2Proof.Machine.execGetVersion sideband s
  | .getCapabilities sideband version => Sys2Proof.Machine.execGetCapabilities sideband version s
  | .negotiateAlgorithms sideband asym hash dhe aead => Sys2Proof.Machine.execNegotiateAlgorithms sideband asym hash dhe aead s
  | .getDigests path => Sys2Proof.Machine.execGetDigests path s
  | .getCertificate path certSlot off len => Sys2Proof.Machine.execGetCertificate path certSlot off len s
  | .challenge path certSlot nonce => Sys2Proof.Machine.execChallenge path certSlot nonce s
  | .getMeasurements path index signed nonce => Sys2Proof.Machine.execGetMeasurements path index signed nonce s
  | .keyExchange sideband certSlot share => Sys2Proof.Machine.execKeyExchange sideband certSlot share s
  | .spdmFinish sid proof => Sys2Proof.Machine.execSpdmFinish sid proof s
  | .keyUpdate sid => Sys2Proof.Machine.execKeyUpdate sid s
  | .heartbeat sid => Sys2Proof.Machine.execHeartbeat sid s
  | .sessionHeartbeatExpiry sid => Sys2Proof.Machine.execSessionHeartbeatExpiry sid s
  | .endSession sid => Sys2Proof.Machine.execEndSession sid s
  | .setCertificate path certSlot chain => Sys2Proof.Machine.execSetCertificate path certSlot chain s
  | .subscribeEventTypes sid subscribe => Sys2Proof.Machine.execSubscribeEventTypes sid subscribe s
  | .pskExchange sideband => Sys2Proof.Machine.execPskExchange sideband s
  | .pskFinish sideband => Sys2Proof.Machine.execPskFinish sideband s
  | .keyProg sid stream keySet sub dir assoc => Sys2Proof.Machine.execKeyProg sid stream keySet sub dir assoc s
  | .kSetGo sid stream keySet sub dir => Sys2Proof.Machine.execKSetGo sid stream keySet sub dir s
  | .getTdispVersion sid bay => Sys2Proof.Machine.execGetTdispVersion sid bay s
  | .getTdispCapabilities sid bay => Sys2Proof.Machine.execGetTdispCapabilities sid bay s
  | .lockInterface sid bay stream => Sys2Proof.Machine.execLockInterface sid bay stream s
  | .getInterfaceReport sid bay off len => Sys2Proof.Machine.execGetInterfaceReport sid bay off len s
  | .getInterfaceState sid bay => Sys2Proof.Machine.execGetInterfaceState sid bay s
  | .startInterface sid bay nonce => Sys2Proof.Machine.execStartInterface sid bay nonce s
  | .stopInterface sid bay => Sys2Proof.Machine.execStopInterface sid bay s
  | .entdaa address => Sys2Proof.Machine.execEntdaa address s
  | .setEndpointId eid => Sys2Proof.Machine.execSetEndpointId eid s
  | .pldmDiscovery command => Sys2Proof.Machine.execPldmDiscovery command s
  | .pldmSensorRead sensor => Sys2Proof.Machine.execPldmSensorRead sensor s
  | .pldmFirmwareUpdate kind image activate => Sys2Proof.Machine.execPldmFirmwareUpdate kind image activate s
  | .lifetimeCommit tileBin stackBin => Sys2Proof.Machine.execLifetimeCommit tileBin stackBin s
  | .frefLost present => Sys2Proof.Machine.execFrefLost present s
  | .portRetrained port x => Sys2Proof.Machine.execPortRetrained port x s
  | .vfEnableSet numVfs => Sys2Proof.Machine.execVfEnableSet numVfs s
  | .perstDeasserted => Sys2Proof.Machine.execPerstDeasserted s
  | .mainInputInRange => Sys2Proof.Machine.execMainInputInRange s

end Sys2Proof.Machine
end

