-- ==== Sys2Proof/WellFormed.lean ====
section
/-! DEFINITION. Which commands are well formed: every operand names something that the part has. A well-formed command
may still name an item, a work order or a message that is absent at the time (log entry 4). -/

namespace Sys2Proof

/-- A function: a bay's VF 0 to 11, or the PF 12 (R368). -/
def fnOk (fn : Nat) : Bool := decide (fn < 13)

/-- A bay (R391). -/
def bayOk (bay : Nat) : Bool := decide (bay < 12)

/-- A queue of a function: 64 for a bay, 4 for the PF (R61). -/
def queueOk (fn q : Nat) : Bool := fnOk fn && decide (q < if fn = 12 then 4 else 64)

/-- A slot of the largest ring (R61). -/
def slotOk (slot : Nat) : Bool := decide (slot < 65536)

/-- A logical core: 72 columns of 56 rows (R17). -/
def coreOk (core : Nat) : Bool := decide (core < 4032)

/-- A column of physical tiles (R17). -/
def colOk (col : Nat) : Bool := decide (col < 72)

/-- A physical tile: 60 rows (R17). -/
def tileOk (col row : Nat) : Bool := colOk col && decide (row < 60)

/-- A stack (R14). -/
def stackOk (stack : Nat) : Bool := decide (stack < 24)

/-- A Faref port (R326). -/
def portOk (port : Nat) : Bool := decide (port < 16)

/-- A virtual channel (R332). -/
def vcOk (vc : Nat) : Bool := decide (vc < 4)

/-- A power domain, or 189 for a bus converter (R23, R456). -/
def domainOk (domain : Nat) : Bool := decide (domain ≤ 189)

/-- A processor of the interrupt controller (R460). -/
def targetOk (target : Nat) : Bool := decide (target < 3)

/-- A source of the interrupt controller (R460). -/
def srcOk (src : Nat) : Bool := decide (src < 512)

/-- A certificate slot (R382). -/
def certSlotOk (slot : Nat) : Bool := decide (slot < 8)

/-- An IDE stream (R384). -/
def streamOk (stream : Nat) : Bool := decide (stream < 16)

/-- An IOVA that can be expressed (R374). -/
def iovaOk (iova : Nat) : Bool := decide (iova < 2 ^ 60)

/-- A PASID (R376). -/
def pasidOk (p : Option Nat) : Bool := match p with | none => true | some v => decide (v < 2 ^ 20)

/-- A window of a bay (R340, R341). -/
def windowOk (w : Nat) : Bool := decide (w < 64)

/-- A write of `width` bytes carries a value of that width. -/
def widthOk (width value : Nat) : Bool := (width == 1 || width == 2 || width == 4 || width == 8) && decide (value < 256 ^ width)

/-- A unit that takes work orders: a core, or the eave engine of a stack (R97, R277). -/
def unitOk (eave : Bool) (unit : Nat) : Bool := if eave then stackOk unit else coreOk unit

/-- The well-formed commands. -/
def wellFormed (i : Instr) : Bool :=
  match i with
  | .sqTailDoorbell fn q width data => queueOk fn q && widthOk width data.value
  | .cqHeadDoorbell fn q width data => queueOk fn q && widthOk width data.value
  | .fenceWindowWrite bay _ width data => widthOk width data.value && bayOk bay
  | .entryFetch fn q => queueOk fn q
  | .launch fn q => queueOk fn q
  | .launchReadsComplete fn q slot => queueOk fn q && slotOk slot
  | .courseNodeRead fn q slot => queueOk fn q && slotOk slot
  | .nodeDispatch fn q slot _ => queueOk fn q && slotOk slot
  | .workOrderArrive eave unit => unitOk eave unit
  | .workOrderStart core => coreOk core
  | .workOrderComplete eave unit _ _ => unitOk eave unit
  | .workOrderReport _ => true
  | .endNotice _ => true
  | .counterWaitTimeout core => coreOk core
  | .syncArrive core => coreOk core
  | .syncReport core => coreOk core
  | .syncRelease fn q slot _ => queueOk fn q && slotOk slot
  | .matrixWorkOrder run => coreOk run.core
  | .fusedChain core => coreOk core
  | .sparProgram core => coreOk core
  | .softmax core => coreOk core
  | .partialState core => coreOk core
  | .mergeStates core => coreOk core
  | .applyState core => coreOk core
  | .layerNorm core => coreOk core
  | .rmsNorm core => coreOk core
  | .routerSelect core => coreOk core
  | .routerAdmit core => coreOk core
  | .routerCombine core => coreOk core
  | .exitTest core => coreOk core
  | .dmaCopy core _ _ stream => coreOk core && streamOk stream
  | .dmaGather core _ _ stream => coreOk core && streamOk stream
  | .dmaScatter core _ _ stream => coreOk core && streamOk stream
  | .dmaFill core _ _ stream => coreOk core && streamOk stream
  | .arrivalSignal core _ _ stream => coreOk core && streamOk stream
  | .remoteScratchpadAccess core _ _ _ _ => coreOk core
  | .valleyDispatch core _ _ => coreOk core
  | .valleyReturn core _ _ => coreOk core
  | .valleySegment _ => true
  | .valleyDone _ => true
  | .attend stack => stackOk stack
  | .pageCopy stack => stackOk stack
  | .eavePartialReturn stack => stackOk stack
  | .copyStart fn q => queueOk fn q
  | .copyComplete fn q slot => queueOk fn q && slotOk slot
  | .fenceWait fn q => queueOk fn q
  | .fenceSignal fn q => queueOk fn q
  | .barrierStart fn q => queueOk fn q
  | .cancelStart fn q => queueOk fn q
  | .waitTimeout fn q slot _ => queueOk fn q && slotOk slot
  | .completionPathLost fn q => queueOk fn q
  | .readRetained q => queueOk 12 q
  | .resetQueue q => queueOk 12 q
  | .queueState q => queueOk 12 q
  | .approvalNonce q => queueOk 12 q
  | .nonceExpiry => true
  | .bayMap q => queueOk 12 q
  | .bayCreate q => queueOk 12 q
  | .bayResize q => queueOk 12 q
  | .bayDestroy q => queueOk 12 q
  | .setMode q => queueOk 12 q
  | .releaseLock q => queueOk 12 q
  | .setDebug q => queueOk 12 q
  | .setPolicy q => queueOk 12 q
  | .lifecycleChange q => queueOk 12 q
  | .keySlot q => queueOk 12 q
  | .fuseWrite q => queueOk 12 q
  | .certificate q => queueOk 12 q
  | .certificateExpiry => true
  | .bayScrubDone bay => decide (bay ≤ 12)
  | .ridgeSlotBoundary => true
  | .evidenceGo bay => bayOk bay
  | .fwStage q => queueOk 12 q
  | .fwActivate q => queueOk 12 q
  | .drainLimitExpiry => true
  | .fwDrainComplete _ => true
  | .warmReset q => queueOk 12 q
  | .coldReset q _ => queueOk 12 q
  | .bayReset q => queueOk 12 q
  | .coreReset q => queueOk 12 q
  | .linkReset q => queueOk 12 q
  | .lifetimeRead q _ => queueOk 12 q
  | .setEpoch q _ => queueOk 12 q
  | .columnState q => queueOk 12 q
  | .rehang q => queueOk 12 q
  | .rehangCheckDone col row _ => tileOk col row
  | .plannedSlip q => queueOk 12 q
  | .plannedSlipWaitExpiry _ => true
  | .retireStrip q => queueOk 12 q
  | .restoreStrip q => queueOk 12 q
  | .restoreQuiesce => true
  | .restoreQuiesceTimeout => true
  | .readErrors q => queueOk 12 q
  | .snapshotStrobe q => queueOk 12 q
  | .snapshotRead q => queueOk 12 q
  | .snapshotRelease q => queueOk 12 q
  | .snapshotHoldExpiry => true
  | .snapN _ => true
  | .traceRead q => queueOk 12 q
  | .haltBay q => queueOk 12 q
  | .stepBay q => queueOk 12 q
  | .stepExpiry bay => bayOk bay
  | .resumeBay q => queueOk 12 q
  | .debugAccess q => queueOk 12 q
  | .enableQueue fn q => queueOk fn q
  | .disableQueue fn q => queueOk fn q
  | .restartQueue fn q => queueOk fn q
  | .windowOpen bay _ w _ => bayOk bay && windowOk w
  | .windowClose bay _ w _ => bayOk bay && windowOk w
  | .setupRegisterWrite fn _ width data => widthOk width data.value && fnOk fn
  | .tileSelfCheckFailure col row => tileOk col row
  | .tileHeartbeat col row _ => tileOk col row
  | .slipRepair _ => true
  | .slipMeshDrained _ => true
  | .spareCheckDone col row _ => tileOk col row
  | .slipMigrationDone _ _ => true
  | .spareFullCheck col => colOk col
  | .eaveEngineFailure stack => stackOk stack
  | .stackControllerFailure stack _ => stackOk stack
  | .deviceFatal _ => true
  | .patrolScrubLine stack _ _ _ => stackOk stack
  | .refresh stack _ _ => stackOk stack
  | .rowRepair stack => stackOk stack
  | .rowRepairDone stack _ => stackOk stack
  | .memoryHealthRecord bay => bayOk bay
  | .linkHealthRecord bay => bayOk bay
  | .powerRecord fn => fnOk fn
  | .portTraining port _ _ _ _ _ _ _ => portOk port
  | .trainingRetry port => portOk port
  | .laneMarginal port _ => portOk port
  | .laneLost port _ => portOk port
  | .dataFlit port _ _ => portOk port
  | .idleFlit port _ _ => portOk port
  | .nakFlit port _ _ => portOk port
  | .replayTimeout port => match port with | .sender p => portOk p | .receiver p => portOk p
  | .portHoldExpiry port => portOk port
  | .farWrite port => portOk port
  | .farRead port => portOk port
  | .farAtomicAdd port => portOk port
  | .farWriteAck port => portOk port
  | .farReadData port => portOk port
  | .farAtomicAck port => portOk port
  | .farValley port => portOk port
  | .farValleyAck port => portOk port
  | .responseTimeout port _ => portOk port
  | .farForward port vc => portOk port && vcOk vc
  | .enumMessage port => portOk port
  | .topologyMessage port => portOk port
  | .rootTakeover => true
  | .snapshotMessage port => portOk port
  | .allReduce bay _ => bayOk bay
  | .reduceScatter bay _ => bayOk bay
  | .allGather bay _ => bayOk bay
  | .allToAll bay _ => bayOk bay
  | .broadcast bay _ => bayOk bay
  | .remoteAdd bay _ => bayOk bay
  | .collGrant port => portOk port
  | .collData port => portOk port
  | .collAbort port => portOk port
  | .frameReduce bay _ _ => bayOk bay
  | .collectiveTimeout bay _ _ => bayOk bay
  | .capTick _ _ _ => true
  | .aclkStepSettle bay => bayOk bay
  | .powerEmergency _ => true
  | .emergencyRelease => true
  | .mainInputShutdown _ => true
  | .mainInputReturn => true
  | .auxInputLoss => true
  | .temperatureSample _ _ _ => true
  | .droopTrip _ _ _ => true
  | .ageingMeasurement low => low.all (fun a => domainOk a.domain)
  | .domainGate domain => domainOk domain
  | .domainWake domain => domainOk domain
  | .regulatorFault domain => domainOk domain
  | .interruptDelivery target => targetOk target
  | .ictlDone target => targetOk target
  | .ictlSoftSet _ => true
  | .ictlSrcWrite src _ => srcOk src
  | .ictlMaskWrite target _ => targetOk target
  | .waitInstruction target => targetOk target
  | .waitWake target => targetOk target
  | .msixUnmask fn w => fnOk fn && (match w with | none => true | some x => decide (x.entry < if fn = 12 then 32 else 66))
  | .vfFlr bay => bayOk bay
  | .pfFlr => true
  | .vfEnableCleared _ => true
  | .vfConfigChange fn _ _ _ _ _ _ _ => fnOk fn
  | .perst => true
  | .hotReset _ => true
  | .deviceWarmReset _ => true
  | .modResetN p => match p.writing with | none => true | some k => decide (k ≤ 3)
  | .moduleColdReset _ => true
  | .bootReady _ _ _ => true
  | .hostReadCompletion fn pasid iova _ _ => fnOk fn && pasidOk pasid && iovaOk iova
  | .completionTimeout fn pasid iova _ => fnOk fn && pasidOk pasid && iovaOk iova
  | .atsInvalidation fn pasid iova _ _ => fnOk fn && pasidOk pasid && iovaOk iova
  | .nonTeeRequest bay _ => bayOk bay
  | .ideIntegrityFailure stream => streamOk stream
  | .getVersion _ => true
  | .getCapabilities _ _ => true
  | .negotiateAlgorithms _ _ _ _ _ => true
  | .getDigests _ => true
  | .getCertificate _ certSlot _ _ => certSlotOk certSlot
  | .challenge _ certSlot _ => certSlotOk certSlot
  | .getMeasurements _ _ _ _ => true
  | .keyExchange _ certSlot _ => certSlotOk certSlot
  | .spdmFinish _ _ => true
  | .keyUpdate _ => true
  | .heartbeat _ => true
  | .sessionHeartbeatExpiry _ => true
  | .endSession _ => true
  | .setCertificate _ certSlot _ => certSlotOk certSlot
  | .subscribeEventTypes _ _ => true
  | .pskExchange _ => true
  | .pskFinish _ => true
  | .keyProg _ stream _ _ _ _ => streamOk stream
  | .kSetGo _ stream _ _ _ => streamOk stream
  | .getTdispVersion _ bay => bayOk bay
  | .getTdispCapabilities _ bay => bayOk bay
  | .lockInterface _ bay stream => bayOk bay && streamOk stream
  | .getInterfaceReport _ bay _ _ => bayOk bay
  | .getInterfaceState _ bay => bayOk bay
  | .startInterface _ bay _ => bayOk bay
  | .stopInterface _ bay => bayOk bay
  | .entdaa _ => true
  | .setEndpointId _ => true
  | .pldmDiscovery _ => true
  | .pldmSensorRead _ => true
  | .pldmFirmwareUpdate _ _ _ => true
  | .lifetimeCommit t k => decide (secondsOf t = secondsOf k)
  | .frefLost _ => true
  | .portRetrained port _ => portOk port
  | .vfEnableSet _ => true
  | .perstDeasserted => true
  | .mainInputInRange => true

end Sys2Proof
end

