-- ==== Sys2Proof/Safety.lean ====
section
/-! DEFINITION. What a safe run is: every step answers a next state. And the form of the interrupt controller's sources that every
step keeps. -/

namespace Sys2Proof

/-- The state after `n` steps, when each of them answers a next state. -/
def runSteps : Nat → Machine.State → Option Machine.State
  | 0, s => some s
  | n + 1, s =>
    match Machine.step s with
    | .next t => runSteps n t
    | .fault _ => none
    | .refused _ => none

/-- A run of every length from `s` never stops. -/
def Safe (s : Machine.State) : Prop := ∀ n, (runSteps n s).isSome = true

namespace Machine

/-- The keys of a table rise strictly, from a bound. -/
def keysRising {V : Type} (a : Nat) : List (Nat × V) → Bool
  | [] => true
  | (k, _) :: rest => decide (a ≤ k) && keysRising (k + 1) rest

/-- The sources of the interrupt controller are listed once each, in order, and sources 0 to 5 keep the fixed TARGET and ENABLE of
R460 and R466. -/
def Ictl.Sound (x : Ictl) : Prop :=
  keysRising 0 x.src = true ∧
    ∀ i ≤ 5, (tabGet x.src i (srcReset i)).target = (srcReset i).target ∧ (tabGet x.src i (srcReset i)).enable = true

end Machine

end Sys2Proof
end

