-- ==== Sys2Proof/Certificates/Slice0/Obligations.lean ====
section
/-! DEFINITION. The statements about the model for the provers, one Prop each. -/

open Sys2Proof Sys2Proof.Machine

/-- A step runs the command at the front of the queue. For every state whose queue holds a command at its front, the step is that
command on the state with the rest of the queue, and on an empty queue the block idles. The queue and the idle step are the model's
own (log entry 5). -/
def Obligations.StepRunsTheFrontCommand : Prop :=
  (∀ (s : State) (i : Instr) (rest : List Instr), s.pending = i :: rest → step s = exec i { s with pending := rest }) ∧
  (∀ s : State, s.pending = [] → step s = .next s)

/-- Every command answers a next state. Every command in every state answers a next state: none ends in a fault or a refusal, since
the spec gives each of them an effect, and one that finds no object leaves the state unchanged (log entry 4). -/
def Obligations.EveryCommandAnswersANextState : Prop :=
  ∀ (i : Instr) (s : State), ∃ t, exec i s = .next t

/-- No command changes the queue of commands. Whatever command runs, in whatever state, the commands that wait are the same after
it. The queue is the model's own (log entry 5). -/
def Obligations.NoCommandTouchesTheQueue : Prop :=
  ∀ (i : Instr) (s t : State), exec i s = .next t → t.pending = s.pending

/-- Every step keeps the memories in their canonical form. From every state whose stack memory and scratchpad memory are in the
canonical form (addresses rising, no entry of the value that an unlisted address reads as), every step that answers a next state
gives one whose memories are in that form too. The form is the model's (log entry 1 for the value that memory reads as at reset).
-/
def Obligations.EveryStepKeepsMemoriesCanonical : Prop :=
  ∀ s t : State, memWf s.stackMem = true → memWf s.spadMem = true → step s = .next t →
    memWf t.stackMem = true ∧ memWf t.spadMem = true

/-- Every step keeps the interrupt sources sound. From every state whose table of written interrupt sources has strictly rising numbers and
in which sources 0 to 5 keep their TARGET and ENABLE (R460, R466), every step that answers a next state keeps both so. -/
def Obligations.EveryStepKeepsSourcesSound : Prop :=
  ∀ s t : State, s.ictl.Sound → step s = .next t → t.ictl.Sound

/-- No step clears a fuse. Whatever command is at the front of the queue, in every state, each fuse of the operator bank and of the
floor bank that is blown before the step is blown after it. -/
def Obligations.NoStepClearsAFuse : Prop :=
  ∀ s t : State, step s = .next t →
    s.sec.operatorBank &&& t.sec.operatorBank = s.sec.operatorBank ∧ s.sec.floorBank &&& t.sec.floorBank = s.sec.floorBank

/-- What reset leaves. At reset the memories have their canonical form, the interrupt controller's table rises strictly with sources 0 to 5
as R460 and R466 fix them, and no command waits; every source has its reset target, the sources 0 to 5 are enabled and none is pending,
both kinds of target state are as reset; no bay exists, the mode is isolated, READY is 0, memory reads zero and no line is poisoned,
accumulators are zero and core queues empty, error histories are empty, no session and no IDE key exists, no snapshot is held,
DEVICE_CAP is 3,300 and the fabric ID is 0xFF. What memory reads as at power-on is the model's choice (log entry 1). -/
def Obligations.ResetLeavesTheStatedValues : Prop :=
  (memWf State.reset.stackMem = true ∧ memWf State.reset.spadMem = true ∧ State.reset.ictl.Sound ∧ State.reset.pending = []) ∧
  (let s := State.reset
  (∀ n, s.srcAt n = ⟨srcTarget n, decide (n ≤ 5), false⟩) ∧ (∀ t, (s.tgtAt t).mask = true ∧ (s.tgtAt t).active = 0xFFFF) ∧
  (∀ b, s.bayExists b = false) ∧ s.dev.isolated = true ∧ s.dev.ready = false ∧
  (∀ a, memGet s.stackMem a = 0 ∧ memGet s.spadMem a = 0) ∧ (∀ k l, linePoisoned (s.stackAt k) l = false) ∧
  (∀ c p, tabGet (s.coreAt c).pairs p (0, 0) = (0, 0) ∧ (s.coreAt c).queue = []) ∧
  (∀ fn, (s.fnAt fn).err.history = []) ∧ s.spdm.sessions = [] ∧ (∀ n, (s.ideAt n).keys = []) ∧ s.dbg.held = none ∧
  s.dbg.missed = 0 ∧ s.power.deviceCap = 3300 ∧ s.fabric.id = 0xFF)

/-- A module cold reset clears the device and keeps the fuses. In every state where a module cold reset of a cause is due, with or without
SREF, the command answers a next state in which no bay exists, the mode is isolated, stack and scratchpad memory read zero, no line is
poisoned, every core is as at reset, error histories are empty, no session, no IDE key and no held snapshot is left, and the fuse banks
are those before; the log is that before unless an activation is cut off, which adds its record (log entry 45), and the fabric ID stays
unless auxiliary power was applied anew. -/
def Obligations.ColdResetsClearTheDevice : Prop :=
  ∀ (s : State) (release : ColdRelease), s.coldDue release.cause = true → ∃ t, exec (.moduleColdReset release) s = .next t ∧
    (∀ b, t.bayExists b = false) ∧ t.dev.isolated = true ∧ (∀ a, memGet t.stackMem a = 0 ∧ memGet t.spadMem a = 0) ∧
    (∀ k l, linePoisoned (t.stackAt k) l = false) ∧ (∀ c, t.coreAt c = coreReset) ∧ (∀ fn, (t.fnAt fn).err.history = []) ∧
    t.spdm.sessions = [] ∧ (∀ n, (t.ideAt n).keys = []) ∧ t.dbg.held = none ∧
    (s.sec.activation = none → t.life.log = s.life.log) ∧ (release.cause ≠ 1 → t.fabric.id = s.fabric.id) ∧ t.sec.operatorBank = s.sec.operatorBank ∧ t.sec.floorBank = s.sec.floorBank

/-- Device time moves only at slot boundaries and cold resets. RIDGE_SLOT_BOUNDARY moves the device time to the next multiple of 2
us, a module cold reset may set it to 0, and no other command changes it. That no other command takes time is the model's choice
(log entry 9). -/
def Obligations.TimeMovesOnlyAtSlotBoundariesAndColdResets : Prop :=
  ∀ (i : Instr) (s t : State), exec i s = .next t → match i with
    | .ridgeSlotBoundary => t.time = (s.time / 2000 + 1) * 2000
    | .mainInputReturn | .modResetN _ | .moduleColdReset _ => t.time = s.time ∨ t.time = 0
    | _ => t.time = s.time

/-- Only SPDM, IDE_KM and TDISP requests, activations, IDE failures and cold resets change sessions and keys. For every command but
those listed, the SPDM connections and sessions and the IDE streams with their keys are unchanged. -/
def Obligations.OnlySessionAndResetCommandsChangeSessions : Prop :=
  ∀ (i : Instr) (s t : State), exec i s = .next t → match i with
    | .fwDrainComplete _ | .mainInputReturn | .modResetN _ | .moduleColdReset _ | .ideIntegrityFailure _ | .getVersion _
    | .getCapabilities _ _ | .negotiateAlgorithms _ _ _ _ _ | .getDigests _ | .getCertificate _ _ _ _
    | .challenge _ _ _ | .getMeasurements _ _ _ _ | .keyExchange _ _ _ | .spdmFinish _ _ | .keyUpdate _ | .heartbeat _ | .sessionHeartbeatExpiry _
    | .endSession _ | .setCertificate _ _ _ | .subscribeEventTypes _ _ | .keyProg _ _ _ _ _ _ | .kSetGo _ _ _ _ _
    | .getTdispVersion _ _ | .getTdispCapabilities _ _ | .lockInterface _ _ _ | .getInterfaceReport _ _ _ _
    | .getInterfaceState _ _ | .startInterface _ _ _ | .stopInterface _ _ => True
    | _ => t.spdm = s.spdm

/-- A held snapshot stays until it is released. In every state that holds a snapshot, every command but SNAPSHOT_RELEASE, the
expiry of its hold and a module cold reset leaves it held and unchanged, except that a DEVICE_FATAL capture may replace one that is
not. -/
def Obligations.HeldSnapshotsStayUntilReleased : Prop :=
  ∀ (i : Instr) (s t : State) (h : Snapshot), exec i s = .next t → s.dbg.held = some h → match i with
    | .snapshotRelease _ | .snapshotHoldExpiry | .mainInputReturn | .modResetN _ | .moduleColdReset _ => True
    | _ => ∃ g, t.dbg.held = some g ∧ (g = h ∨ (g.trigger = evDeviceFatal ∧ h.trigger ≠ evDeviceFatal))

/-- Bay memory is interleaved in 4 KiB units and has exactly two addresses. For every bay whose strips exist and every offset
inside its memory, the byte at that bay-memory address stands in stack i at offset w as R29 computes them; reading and writing it
through the stack window {0x1, i, w} is the same as through bay memory; and no other device address of the bay resolves to that
byte. -/
def Obligations.BayMemoryInterleavesItsStacks : Prop :=
  ∀ (s : State) (a : Agent) (off : Nat), let v := s.bayAt a.bay
    v.first + v.count ≤ 12 → off < v.count * 2 * stackBytes →
    let S := 2 * v.count
    let u := off / 4096
    let i := u - S * (u / S)
    let w := u / S * 4096 + off % 4096
    let win := 2 ^ 60 + i * 2 ^ 43 + w
    s.memPlace a.bay off = (s.stackOf a.bay i, w) ∧
    s.readAt a off 1 = s.readStackByte (s.stackOf a.bay i) w >>= (fun b => .ok [b]) ∧ s.readAt a win 1 = s.readAt a off 1 ∧
    (∀ b, s.writeAt a off [b] = (s.writeStack (s.stackOf a.bay i) w [b], none) ∧ s.writeAt a win [b] = s.writeAt a off [b]) ∧
    (∀ addr, addr < 2 ^ 64 → (∀ o, s.resolve a.bay addr 1 = .ok (.mem o) → s.memPlace a.bay o = s.memPlace a.bay off → addr = off) ∧
      (∀ k o, s.resolve a.bay addr 1 = .ok (.stack k o) → (k, o) = s.memPlace a.bay off → addr = win))

/-- A write of a bay's agent changes no other bay's storage. In every state in which no error stands in memory, a write by an agent
of a bay leaves every byte of every stack and scratchpad outside the strips of that bay as it was, whatever address and bytes it
has and whether it succeeds or not. That errors stand in memory at all is part of log entry 16. -/
def Obligations.BayWritesStayInTheirBay : Prop :=
  ∀ (s t : State) (a : Agent) (addr : Nat) (bytes : List Byte) (e : Option Status), let v := s.bayAt a.bay
    v.first + v.count ≤ 12 → (∀ k, (s.stackAt k).latent = []) → s.spadFlaws = [] → s.writeAt a addr bytes = (t, e) →
    (∀ k off, off < stackBytes → k < 24 → (k % 12 < v.first ∨ v.first + v.count ≤ k % 12) →
      memGet t.stackMem (k * stackBytes + off) = memGet s.stackMem (k * stackBytes + off)) ∧
    (∀ core off, off < spadBytes → (core / 336 < v.first ∨ v.first + v.count ≤ core / 336) →
      memGet t.spadMem (core * spadBytes + off) = memGet s.spadMem (core * spadBytes + off))

/-- The physical row of a logical row follows from the column's holes. For every four ascending holes below 60 and every logical
row below 56 the model's map of rows is phys_row of R261; the column at reset has holes 56 to 59 and maps each row to itself; the
distance of a physical row from its logical row is 0 to 4; and the physical rows of one logical row in any two columns differ by at
most 4. -/
def Obligations.PhysicalRowsFollowTheHoles : Prop :=
  let physical (h0 h1 h2 h3 y : Nat) : Nat := [h0, h1, h2, h3].foldl (fun p h => if h ≤ p then p + 1 else p) y
  (∀ h0 h1 h2 h3 y, h0 < h1 → h1 < h2 → h2 < h3 → h3 < 60 → y < 56 → physRow [h0, h1, h2, h3] y = physical h0 h1 h2 h3 y) ∧
  (columnReset.holes = [56, 57, 58, 59] ∧ ∀ y, y < 56 → physRow [56, 57, 58, 59] y = y) ∧
  (∀ h0 h1 h2 h3 y, h0 < h1 → h1 < h2 → h2 < h3 → h3 < 60 → y < 56 →
    y ≤ physRow [h0, h1, h2, h3] y ∧ physRow [h0, h1, h2, h3] y ≤ y + 4) ∧
  (∀ h0 h1 h2 h3 g0 g1 g2 g3 y, h0 < h1 → h1 < h2 → h2 < h3 → h3 < 60 → g0 < g1 → g1 < g2 → g2 < g3 → g3 < 60 → y < 56 →
    physRow [h0, h1, h2, h3] y ≤ physRow [g0, g1, g2, g3] y + 4)

/-- E8M0 scales and the codes of INT8 and INT4 have their values. Every E8M0 byte c up to 0xFE is 2^(c - 127) and 0xFF is NaN;
every INT8 and INT4 code is its two's-complement value, and none of them is a negative zero, an infinity or a NaN. -/
def Obligations.NumberCodesHaveTheirValues : Prop :=
  ((∀ c, c < 127 → scaleVal .e8m0 c = some (mkRat 1 (2 ^ (127 - c)))) ∧
  (∀ c, 127 ≤ c → c ≤ 0xFE → scaleVal .e8m0 c = some (mkRat (2 ^ (c - 127)) 1)) ∧ scaleVal .e8m0 0xFF = none) ∧
  (let int (z : Int) : Machine.Num := if z = 0 then .zero false else .fin (z : Rat)
  (∀ c, c ≤ 0x7F → decodeFmt .int8 c = int c) ∧ (∀ c, 0x80 ≤ c → c ≤ 0xFF → decodeFmt .int8 c = int ((c : Int) - 256)) ∧
  (∀ c, c ≤ 0x7 → decodeFmt .int4 c = int c) ∧ (∀ c, 0x8 ≤ c → c ≤ 0xF → decodeFmt .int4 c = int ((c : Int) - 16)))

/-- The engine commands run the started work order of their kind. For every state, core and work order that is the started one of
the command's kind at that core, with its engine not stopped, MATRIX_WORK_ORDER, FUSED_CHAIN, SPAR_PROGRAM, SOFTMAX, PARTIAL_STATE,
MERGE_STATES, APPLY_STATE, LAYER_NORM, RMS_NORM, ROUTER_SELECT, ROUTER_ADMIT, ROUTER_COMBINE and EXIT_TEST each answer the next
state of the work order's effect; the work order is then marked as run with its status. Bytes that raced with the work order may be read
as they were when it started (R48, log entry 7). The operand of MATRIX_WORK_ORDER, the bit errors that its accumulator pairs meet, is the
model's (log entry 16). -/
def Obligations.EngineWorkOrderRuns : Prop :=
  ∀ (s : State) (core : Nat) (w : WorkOrder), s.engineStopped w.bay core = false →
    let ends (run : State → Ran) : Host.Outcome State Fault Refusal :=
      .next (s.raceRun w (fun v => { (run v).s.putRan core w (run v) with draws := (run v).s.draws + 1 }))
    let picks (p : WorkOrder → Bool) : Prop := pickStarted (s.coreAt core).queue p = some w
    (∀ hits, picks (fun v => fieldAt v.rcd 0 1 == 1) →
      exec (.matrixWorkOrder ⟨core, hits⟩) s = ends (fun v => v.mxWork ⟨core, w.member, w.rcd⟩ hits)) ∧
    (picks (fun v => fieldAt v.rcd 0 1 == 2 && s.vecMode core v == 0) → exec (.fusedChain core) s = ends (fun v => v.vecWork core w)) ∧
    (picks (fun v => fieldAt v.rcd 0 1 == 2 && s.vecMode core v == 1) → exec (.sparProgram core) s = ends (fun v => v.vecWork core w)) ∧
    (picks (s.isRn core 1) → exec (.softmax core) s = ends (fun v => v.rnWork core w)) ∧
    (picks (s.isRn core 2) → exec (.partialState core) s = ends (fun v => v.rnWork core w)) ∧
    (picks (s.isRn core 3) → exec (.mergeStates core) s = ends (fun v => v.rnWork core w)) ∧
    (picks (s.isRn core 4) → exec (.applyState core) s = ends (fun v => v.rnWork core w)) ∧
    (picks (s.isRn core 5) → exec (.layerNorm core) s = ends (fun v => v.rnWork core w)) ∧
    (picks (s.isRn core 6) → exec (.rmsNorm core) s = ends (fun v => v.rnWork core w)) ∧
    (picks (s.isRt core 1) → exec (.routerSelect core) s = ends (fun v => v.rtWork core w)) ∧
    (picks (s.isRt core 2) → exec (.routerAdmit core) s = ends (fun v => v.rtWork core w)) ∧
    (picks (s.isRt core 3) → exec (.routerCombine core) s = ends (fun v => v.rtWork core w)) ∧
    (picks (fun v => fieldAt v.rcd 0 1 == 6) → exec (.exitTest core) s = ends (fun v => v.exitWork core w))

/-- A DMA stream without a fault runs all its runs. For every started copy work order whose descriptors pass their checks, whose
endpoints are awake and whose stream meets no fault, DMA_COPY, DMA_GATHER, DMA_SCATTER and DMA_FILL answer the next state in which the
runs not made yet are made and the stream is recorded as ended OK. Bytes that raced with the stream may be read as they were (R48, log
entry 7). -/
def Obligations.DmaStreamRuns : Prop :=
  ∀ (s : State) (core lid node k : Nat) (w : WorkOrder) (m : Dma) (t : State) (n op : Nat),
    pickStarted (s.coreAt core).queue (fun v => s.dmaPick core lid node k op v && !s.engineStopped v.bay core) = some w →
    s.dmaWaits core w k = false →
    let v := s.raceView w.stale
    let s0 := { v.touchAll core ((List.range (dmaStreams w)).map (fun j => (fieldAt w.rcd 56 4 + 128 * j, 128))) with draws := v.draws + 1 }
    (w.streams ≠ [] ∨ s0.dmaFirstBad core w = none) → s0.dmaDesc core w k = .ok m →
    State.dmaRuns s0 m (m.runs.drop (tabGet w.begun k 0)) 0 s0 = (t, n, none) →
    let after := s.raced (s.raceEnd v (t.dmaDone core { w with streams := w.streams ++ [t.dmaRan m k .ok] }) w.stale)
    (op = 1 → exec (.dmaCopy core lid node k) s = .next after) ∧ (op = 2 → exec (.dmaGather core lid node k) s = .next after) ∧
    (op = 3 → exec (.dmaScatter core lid node k) s = .next after) ∧ (op = 4 → exec (.dmaFill core lid node k) s = .next after)

/-- Arrival signals and eave partials add to the counters of their cores. ARRIVAL_SIGNAL of a stream that ended OK adds its
increment to its counter at every member core and marks it signalled; EAVE_PARTIAL_RETURN adds the increments of one finished
request, in order, and takes it from the list; each waits while a core it names is asleep (log entry 66). -/
def Obligations.SignalsAddToCounters : Prop :=
  (∀ (s : State) (core lid node k : Nat) (w : WorkOrder) (r : StreamRun),
    findWo (s.coreAt core).queue lid node = some w → w.streams.find? (fun x => x.ix == k) = some r → woFailed w = false →
    r.st = .ok → r.signalled = false → s.streamWaits core lid node k = false → (∀ c ∈ r.cores, s.coreAsleep c = false) →
    exec (.arrivalSignal core lid node k) s = .next (r.cores.foldl (fun t c => t.addCounter c r.ctr r.incr)
      (s.putWork core { w with streams := w.streams.map (fun x => if x.ix = k then { x with signalled := true } else x) }))) ∧
  (∀ (s : State) (k : Nat) (sigs : List (Nat × Nat × Nat)) (rest : List (List (Nat × Nat × Nat))),
    (s.stackAt k).eaveSigs = sigs :: rest → (∀ g ∈ sigs, s.coreAsleep g.1 = false) →
    exec (.eavePartialReturn k) s = .next (sigs.foldl (fun t g => t.addCounter g.1 g.2.1 g.2.2)
      (s.setStack k { s.stackAt k with eaveSigs := rest })))

/-- A remote scratchpad write stores exactly its bytes. For every core of a bay that is awake, offset and non-empty data that fit the
scratchpad, where no error stands in scratchpads, the command answers a next state whose scratchpad memory holds the data at the core's
offset and every other byte as before, and in which nothing but scratchpad memory and its poison differs, apart from what waiting work
orders remember of the bytes before (log entry 7). -/
def Obligations.RemoteWriteStoresItsBytes : Prop :=
  ∀ (s : State) (core off : Nat) (data : List Byte), data ≠ [] → off + data.length ≤ spadBytes →
    (s.stripOwner (coreStrip core)).isSome = true → s.coreAsleep core = false → s.spadFlaws = [] →
    ∃ u, exec (.remoteScratchpadAccess core off 0 true data) s = .next (s.raced u) ∧
      (∀ a, memGet (s.raced u).spadMem a = if core * spadBytes + off ≤ a ∧ a < core * spadBytes + off + data.length
        then data.getD (a - (core * spadBytes + off)) 0 else memGet s.spadMem a) ∧
      u = { s with spadMem := u.spadMem, spadPoison := u.spadPoison }

/-- ATTEND and PAGE_COPY run the work order at the head of their stack. For every stack whose eave engine is up and whose first
work order is queued, with its cores awake, the command of its operation answers the next state of the work order's effect, and the work
order is marked with its status. Bytes that raced with it may be read as they were (R48, log entry 7). -/
def Obligations.EaveWorkOrderRuns : Prop :=
  ∀ (s : State) (k : Nat) (w : WorkOrder) (rest : List WorkOrder), (s.stackAt k).eave = w :: rest → s.eaveUp k = true →
    w.st = .queued → s.evAsleep k w = false →
    let op := (s.touchStack k (bitsOf (fieldAt w.rcd 40 8) 42 0) 64).evOp k w
    let ran (r : State × Status) : State :=
      { r.1.setStack k { r.1.stackAt k with eave := { w with st := .ran r.2 0 0 } :: (r.1.stackAt k).eave.drop 1 } with draws := r.1.draws + 1 }
    let after := s.raceRun w (fun v => ran (v.evWork k w))
    (op = 1 → exec (.attend k) s = .next after) ∧ (op = 2 → exec (.pageCopy k) s = .next after)

/-- Valley segments and dones meet their gates, and dispatches and returns send. A DONE that arrives at a core that is live and awake, with
no earlier message of its source before it, counts at its gate; a segment is met by its gate and is written to the scratchpad only where
the gate takes it; both are acknowledged. A started valley work order of the command's direction sends its messages, from bytes that a
race may give as they were (R48, log entry 7). -/
def Obligations.ValleyMessagesMeetTheirGates : Prop :=
  ∀ (s : State) (n core lid node : Nat) (m : ValleyMsg) (w : WorkOrder),
    let g := fieldAt m.header 7 1
    let s1 := { s with valley := s.valley.take n ++ s.valley.drop (n + 1) }
    let sent := { (s.raceView w.stale).valleyWork core w with spadMem := s.spadMem, stackMem := s.stackMem }
    (s.valley[n]? = some m → s.valleyHeld n m = false → byteBit m.header 6 1 = true →
      exec (.valleyDone n) s = .next ((s1.setCore m.core (putGate (s1.coreAt m.core) g
        ((gateAt (s1.coreAt m.core) g).done (fieldAt m.header 0 4) (fieldAt m.header 4 2) (fieldAt m.header 12 4)))).valleyAck m)) ∧
    (s.valley[n]? = some m → s.valleyHeld n m = false → byteBit m.header 6 1 = false →
      let r := (gateAt (s1.coreAt m.core) g).segment (fieldAt m.header 0 4) (fieldAt m.header 4 2) (fieldAt m.header 8 2)
      let s2 := if r.2 then s1.writeSpad m.core m.offset m.payload else s1
      exec (.valleySegment n) s = .next (s1.raced ((s2.setCore m.core (putGate (s2.coreAt m.core) g r.1)).valleyAck m))) ∧
    (pickStarted (s.coreAt core).queue (fun v => fieldAt v.rcd 0 1 == 5 && byteBit v.rcd 52 4 == false && v.lid == lid && v.nodeIx == node) =
      some w → s.engineStopped w.bay core = false → exec (.valleyDispatch core lid node) s = .next sent) ∧
    (pickStarted (s.coreAt core).queue (fun v => fieldAt v.rcd 0 1 == 5 && byteBit v.rcd 52 4 == true && v.lid == lid && v.nodeIx == node) =
      some w → s.engineStopped w.bay core = false → exec (.valleyReturn core lid node) s = .next sent)

/-- Doorbells and fence writes reach the ridge, and a fetch submits an item. In a slot of its function, a tail doorbell in range of an
enabled queue without a tail fence sets the tail, a head doorbell in range moves the head, a doorbell of a disabled queue raises
QUEUE_DOORBELL whatever its width, and a fence window write of an external fence raises that fence to the maximum while another raises
its event. ENTRY_FETCH of a queue whose turn it is reads 64 bytes at its head, advances the head and appends the item. -/
def Obligations.DoorbellsAndEntryFetch : Prop :=
  (∀ (s : State) (fn q value : Nat), s.barOpen fn = true → s.dev.fatal = none → s.takesNow fn = true →
    let v := s.queueAt fn q
    let s1 := s.pend (doorbellSrc fn)
    (v.st ≠ .disabled → v.tailFence = none → value < v.size →
      exec (.sqTailDoorbell fn q 4 ⟨value, false⟩) s = .next (s1.setQueue fn q { v with sqTail := value }).settle) ∧
    (v.st ≠ .disabled → value < v.size → (value + v.size - v.cqHead) % v.size ≤ (v.recHead + v.size - v.cqHead) % v.size →
      exec (.cqHeadDoorbell fn q 4 ⟨value, false⟩) s = .next (s1.setQueue fn q { v with cqHead := value }).settle) ∧
    (∀ width, v.st = .disabled →
      exec (.sqTailDoorbell fn q width ⟨value, false⟩) s = .next (s1.raiseIn fn ⟨0x10, q, value, 0, 0⟩).settle ∧
      exec (.cqHeadDoorbell fn q width ⟨value, false⟩) s = .next (s1.raiseIn fn ⟨0x10, q, value, 0, 0⟩).settle) ∧
    (∀ f, f < 4096 → value < 2 ^ 64 →
      exec (.fenceWindowWrite fn (8 * f) 8 ⟨value, false⟩) s = .next (if s.fenceExternal fn f
        then (s.pend (176 + fn)).fenceMax fn f value
        else (s.pend (176 + fn)).raiseIn fn ⟨0x13, f, value, 0, 0⟩).settle)) ∧
  (∀ (s : State) (fn q : Nat) (e : List Byte), s.turn fn q = true → s.fetchable fn q = true →
    let v := s.queueAt fn q
    let s0 := (s.served fn q).touchAt fn (v.sqBase.toNat + 64 * v.sqHead) 64
    s0.readAt (v.agent fn) (v.sqBase.toNat + 64 * v.sqHead) 64 = .ok e →
    let s1 := s0.setQueue fn q { v with items := v.items ++ [itemNew v.sqHead v.fetched s.dev.nextOrder e],
                                        sqHead := (v.sqHead + 1) % v.size, fetched := v.fetched + 1 }
    let s2 := { s1 with dev := { s1.dev with nextOrder := s1.dev.nextOrder + 1 },
                        sec := { s1.sec with mirror := s1.sec.mirror ++ [MirrorEntry.mk fn q v.sqHead (fieldAt e 4 4) v.cqBase.toNat] } }
    exec (.entryFetch fn q) s = .next (s2.traceRidge 1 fn q 0 v.sqHead 0).settle)

/-- The entry next to start starts as its type says. For the item that is next to start in its queue and passes its checks: a LAUNCH gets a
launch number, runs and asks for a batten that lies in an outbound window, a COPY runs, a FENCE_WAIT waits with its timer, a
FENCE_SIGNAL and a BARRIER wait for their turn, and a CANCEL takes its targets; the ridge then does what it can at once (log entry 14). -/
def Obligations.ItemsStart : Prop :=
  ∀ (s : State) (fn q : Nat) (it : Item),
    let s1 := s.served fn q
    let waits := s1.startWait fn q it.slot
    (s.toStart fn q 1 = some it → s.launchFault fn it.entry = none →
      exec (.launch fn q) s = .next ({ s1.updItem fn q it.slot (fun x => { x with st := .running, launch := some (launchNew s.dev.nextLid) }) with
        dev := { s1.dev with nextLid := s1.dev.nextLid + 1 } }.farBatten fn q it).settle) ∧
    (s.toStart fn q 2 = some it → s.calm.copyFault fn it.entry = none →
      exec (.copyStart fn q) s = .next (s1.updItem fn q it.slot (fun x => { x with st := .running })).settle) ∧
    (s.toStart fn q 3 = some it →
      exec (.fenceWait fn q) s = .next (waits.gainWaiter fn (fwFence it.entry) (fwValue it.entry)).settle) ∧
    (s.toStart fn q 4 = some it → exec (.fenceSignal fn q) s = .next waits.settle) ∧
    (s.toStart fn q 6 = some it → exec (.barrierStart fn q) s = .next waits.settle) ∧
    (s.toStart fn q 5 = some it → s.cancelFault fn it.entry = none →
      let v := s1.queueAt fn (caQueue it.entry)
      let r := State.cancelEach fn (caQueue it.entry)
        (v.items.filter (fun x => cancelHas v.size it.entry x.slot && x.order != it.order)) waits
      exec (.cancelStart fn q) s = .next ((r.1.updItem fn q it.slot (fun x => { x with targets := r.2 })).evaluate fn).settle)

/-- A launch reads its course and dispatches its nodes. For a running launch of a served function: its reads complete and make it
ready; a node is read as the next of its course; bytes that other work wrote since the launch started may be read as they were (R48, log
entry 7); a node that may be sent is sent with its members counted as owed, a fence node
acts, and a node that owes nothing is done. -/
def Obligations.LaunchesAdvance : Prop :=
  ∀ (s : State) (fn q slot : Nat) (it : Item) (l : Launch),
    s.itemAt fn q slot = some it → it.launch = some l → s.serves fn = true → it.active = true → l.goes = true →
    let a := (s.queueAt fn q).agent fn
    (∀ h bt ps, l.ready = false → s.farPending (fun o => o == .item fn q slot) = false →
      ((s.launchTouch a it).itemView it).launchReads a it = .ok (h, bt, ps) →
      exec (.launchReadsComplete fn q slot) s = .next (((s.launchTouch a it).updItem fn q slot
        (fun x => { x with launch := some { l with ready := true, header := h, batten := bt, patches := ps } })).traceRidge
          2 fn q 0 slot 0).settle) ∧
    (l.ready = true → l.nodes.length < coNodes l.header →
      let s0 := s.nodeTouch a it l
      let v := (s0.itemView it).nextNode a it l
      v.fail = none → exec (.courseNodeRead fn q slot) s =
        .next (s0.updItem fn q slot (fun x => { x with launch := some { l with nodes := l.nodes ++ [v] } })).settle) ∧
    (∀ node v, (s.bayAt fn).halted = false → s.nodeToSend fn l = some node → l.nodes[node]? = some v →
      let r := scopeMask l.nodes node v
      let l1 := { l with packets := l.packets + ndPackets r, nodes := l.nodes.set node { v with rcd := r, st := .sent, owed := ndOwed r } }
      let s1 := (s.updItem fn q slot (fun x => { x with launch := some l1 })).traceRidge 3 fn q 0 slot node
      exec (.nodeDispatch fn q slot node) s = .next (
        if ndType r = 8 then (s1.fenceNode fn q slot node r).settle
        else if ndOwed r = 0 then (s1.nodeDone fn q slot node).settle
        else s1.sendNode fn q slot node l.lid r))

/-- Copies complete, and a lost completion path is recorded. COPY_COMPLETE of a running copy moves its bytes, those that raced with other
work as they are or were (R48, log entry 7), and ends it, and of a copy that waits for its abandoned reads it ends it;
COMPLETION_PATH_LOST of an enabled queue with ATS makes the translation of its next record refused. -/
def Obligations.ItemsEnd : Prop :=
  ∀ (s : State) (fn q slot : Nat) (it : Item),
    (s.itemAt fn q slot = some it → enType it.entry = 2 → it.st = .running → s.serves fn = true → s.copyWaits fn it.entry = false →
      let r := s.itemRace it (fun v => v.copyMove fn q it)
      exec (.copyComplete fn q slot) s = .next (((s.raced r.1).updItem fn q slot (fun x =>
        { x with moved := r.2.1, endAs := match x.endAs with | some e => some e | none => r.2.2 })).copyEnd fn q slot)) ∧
    (s.itemAt fn q slot = some it → enType it.entry = 2 → it.st = .waiting → s.serves fn = true → s.copyWaits fn it.entry = false →
      exec (.copyComplete fn q slot) s = .next (s.copyEnd fn q slot)) ∧
    (let v := s.queueAt fn q
     v.cqBase.toNat / 2 ^ 60 = 4 → (s.fnAt fn).ats = true → v.st ≠ .disabled → v.st ≠ .pathLost →
      exec (.completionPathLost fn q) s = .next { s with host := { s.host with refused := s.host.refused ++
        [Refused.mk (hostKey fn v.pasidOf ((v.cqBase.toNat + 32 * v.recHead) % 2 ^ 60)) 32 false true] } }.settle)

/-- A wait whose time runs out fails with WAIT_TIMEOUT. WAIT_TIMEOUT of a FENCE_WAIT with a timeout that waits for a counter below its
value, in a function that the ridge serves and whose bay is not halted, ends the item with WAIT_TIMEOUT; of a node of an active launch
that so waits, it fails the node with WAIT_TIMEOUT and the node ends. A counter that has reached the value completes the wait instead
(R91). -/
def Obligations.WaitsTimeOut : Prop :=
  ∀ (s : State) (fn q slot : Nat) (it : Item), s.itemAt fn q slot = some it → s.serves fn = true → (s.bayAt fn).halted = false →
    (it.st = .waiting → enType it.entry = 3 → it.timeout ≠ 0 → s.fenceAt fn (fwFence it.entry) < fwValue it.entry →
      exec (.waitTimeout fn q slot none) s = .next ((s.pend 157).endItem fn q slot .waitTimeout 0 0 0).settle) ∧
    (∀ l n v, it.active = true → it.launch = some l → l.nodes[n]? = some v → v.st = .waiting → ndFenceWait v.rcd = true → v.timeout ≠ 0 →
      s.fenceAt fn (ndFence v.rcd) < ndValue v.rcd →
      exec (.waitTimeout fn q slot (some n)) s = .next
        (((s.pend 157).failNode fn q slot n 0 .waitTimeout).nodeEnds fn q slot n .waitTimeout).settle)

/-- READ_RETAINED, RESET_QUEUE and QUEUE_STATE run. For an ADMIN item whose fields pass and whose function exists: READ_RETAINED
writes the oldest retained records to its range and drops them; RESET_QUEUE of a queue that may be reset cancels every item of it;
QUEUE_STATE answers the state word. -/
def Obligations.AdminQueueCommandsRun : Prop :=
  ∀ (s : State) (q : Nat) (it : Item),
    let e := it.entry
    let t := s.served pfFn q
    let v := t.queueAt (adBay e) (adQueue e)
    (adBay e = 12 ∨ t.bayExists (adBay e) = true) →
    (∀ u, s.adminItem q 1 = some it → readRetainedCheck e = .ok () → t.checkAt pfFn (adAddr e) (32 * adCount e) = none →
      t.writeAt ((t.queueAt pfFn q).agent pfFn) (adAddr e) ((v.retained.take (adCount e)).flatMap retainedOut) = (u, none) →
      exec (.readRetained q) s = .next ((u.setQueue (adBay e) (adQueue e) { u.queueAt (adBay e) (adQueue e) with
        retained := v.retained.drop (v.retained.take (adCount e)).length }).adminEnd q it.slot .ok (v.retained.take (adCount e)).length).settle) ∧
    (s.adminItem q 2 = some it → queueAdminCheck e = .ok () → t.resetRefused q e = false →
      let r := State.cancelEach (adBay e) (adQueue e) v.items (t.updItem pfFn q it.slot (fun x => { x with st := .waiting, moved := v.sqHead }))
      exec (.resetQueue q) s = .next ((if adBay e = pfFn then r.1 else r.1.evaluate (adBay e)).settle).settle) ∧
    (s.adminItem q 3 = some it → queueAdminCheck e = .ok () →
      exec (.queueState q) s = .next (t.adminEnd q it.slot .ok (t.queueStateWord (adBay e) (adQueue e))).settle)

/-- Work orders arrive, start, complete, time out and report at cores and eave engines. A work order arrives where fewer than 16
entries (8 at an eave engine) are held; it starts when its counters and places allow, clearing the counter its field names; one
that has run and is acknowledged completes; a counter wait that times out ends with WAIT_TIMEOUT; a failed eave engine reports
SLIPPED; and a report reaches the ridge. -/
def Obligations.CoreAndEaveQueuesRun : Prop :=
  (∀ (s : State) (c : Nat) (w : WorkOrder) (rest : List CoreEntry),
    let k := s.coreAt c
    (k.tree = .wo w :: rest → entriesHeld k.queue < 16 → s.coreAsleep c = false →
      exec (.workOrderArrive false c) s = .next ((s.setCore c { k with tree := rest, queue := k.queue ++ [.wo w] }).coreSettle c)) ∧
    (queueHead k.queue = some w → s.mayStart c w = true →
      exec (.workOrderStart c) s = .next (((s.setCore c { k with
        counters := if byteBit w.rcd 35 7 then tabDel k.counters (fieldAt w.rcd 35 1 % 64) else k.counters,
        queue := putWo k.queue { w with st := .started } }).traceCore (coreStrip c) 1 (engineClass (ndType w.rcd)) w.bay 0 w.member
          w.nodeIx).coreSettle c)) ∧
    (∀ st mask exit_, findWo k.queue w.lid w.nodeIx = some w → w.st = .ran st mask exit_ → s.woAcked c w st = true →
      s.engineStopped w.bay c = false →
      exec (.workOrderComplete false c w.lid w.nodeIx) s = .next (s.woDone c w st mask exit_)) ∧
    (queueHead k.queue = some w → w.timeout ≠ 0 → waitsMet k w.rcd = false → (s.bayAt w.bay).halted = false →
      let s0 := if ndType w.rcd = 5 then (s.pend 157).touchSpad c (fieldAt w.rcd 60 4) 64 else s.pend 157
      let s1 := (s0.writeReport c w (s0.reportAt c w)).woSignal c w.rcd .waitTimeout
      exec (.counterWaitTimeout c) s = .next ((((s1.setCore c { s1.coreAt c with queue := dropWo (s1.coreAt c).queue w }).traceCore
        (coreStrip c) 2 (engineClass (ndType w.rcd)) w.bay (statusCode .waitTimeout) w.member w.nodeIx).report w .waitTimeout 0 0).coreSettle
        c)) ∧
    (∀ n r, s.reports[n]? = some r →
      exec (.workOrderReport n) s = .next ({ s with reports := s.reports.take n ++ s.reports.drop (n + 1) }.ridgeGets r.1 r.2))) ∧
  (∀ (s : State) (k : Nat) (w : WorkOrder) (rest : List WorkOrder),
    let v := s.stackAt k
    (v.eaveTree = w :: rest → v.eaveFailed = false → v.eaveEnded.contains w.lid = false → v.eave.length < 8 →
      exec (.workOrderArrive true k) s = .next (s.setStack k { v with eaveTree := rest, eave := v.eave ++ [w] })) ∧
    (v.eaveTree = w :: rest → v.eaveFailed = true →
      exec (.workOrderArrive true k) s = .next ((s.setStack k { v with eaveTree := rest }).report w .slipped 0 0)) ∧
    (∀ st mask exit_, v.eave = w :: rest → w.st = .ran st mask exit_ → v.eaveSigs = [] →
      exec (.workOrderComplete true k w.lid w.nodeIx) s = .next ((s.setStack k { v with eave := rest }).report w st 0 0)))

/-- Sync packets arrive, report and release, and end notices take effect. A sync packet joins its core's queue unless its launch
ended there; it is reported once it is at the head; its release takes it from every core and the node is done; an end notice acts
on its core, stack or collective engine. -/
def Obligations.SyncsAndEndNotices : Prop :=
  (∀ (s : State) (c b lid node : Nat) (r : Bool) (rest : List CoreEntry),
    let k := s.coreAt c
    (k.tree = .barrier b lid node r :: rest → s.coreAsleep c = false →
      exec (.syncArrive c) s = .next (s.setCore c
        { k with tree := rest, queue := if k.ended.contains lid then k.queue else k.queue ++ [.barrier b lid node r] })) ∧
    (syncDue k.queue = some (b, lid, node) →
      exec (.syncReport c) s = .next ((s.setCore c { k with queue := markBarrier k.queue b lid node }).ridgeGets b
        (.syncReport lid node c))) ∧
    (∀ fn q slot n it l v, s.itemAt fn q slot = some it → it.launch = some l → l.nodes[n]? = some v → s.serves fn = true →
      it.active = true → l.goes = true → v.st = .waiting → ndType v.rcd = 9 →
      exec (.syncRelease fn q slot n) s = .next ((((ndCores v.rcd).foldl (fun t i => t.barrierFalls fn l.lid n (t.coreOf fn i)) s).nodeDone
        fn q slot n).settle))) ∧
  (∀ (s : State) (n : Nat) (m : Notice), s.notices[n]? = some m →
    let s1 := { s with notices := s.notices.take n ++ s.notices.drop (n + 1) }
    (∀ c, m.dest = .core c → exec (.endNotice n) s = .next (s1.noticeCore m c)) ∧
    (∀ k, m.dest = .eave k → exec (.endNotice n) s = .next (s1.noticeEave m k)) ∧
    (m.dest = .coll → exec (.endNotice n) s = .next (s1.noticeColl m)))

/-- Collectives start, take their messages, reduce, and time out. A waiting collective whose turn it is, whose group table,
sequence and ranges pass, begins under the command of its operation; GRANT, DATA and ABORT messages that a window takes are applied
to their collective; the next frame is reduced once every member's part is there; a member that does not answer ends it with
PEER_TIMEOUT. -/
def Obligations.CollectivesStartAndTakeMessages : Prop :=
  (∀ (s : State) (b n : Nat) (c0 : Coll), (s.bayAt b).coll.waiting[n]? = some c0 → s.collTurnOf b n = true → s.collDown b c0 = false →
    let waiting := (s.bayAt b).coll.waiting
    let c := { c0 with started := true, startTime := s.stamp }
    let s1 := (s.setWaiting b (waiting.take n ++ waiting.drop (n + 1))).setColls b ((s.bayAt b).coll.running ++ [c])
    (clOp c0.rcd = 6 → exec (.remoteAdd b n) s = .next (s1.remoteAddStart b c)) ∧
    (∀ tbl, let s2 := s1.touchAt b (clTab c.rcd) (16 + 8 * min (gtP ((s1.readAt (collAgent b) (clTab c.rcd) 16).toOption.getD [])) 64)
      s2.collRead b c.rcd = .ok tbl →
      let c1 := { c with table := tbl }
      let s3 := s2.putColl b c1
      let cx := (s3.bayAt b).coll
      s3.collTable b c.rcd tbl = .ok () → seqNewer (tabFind cx.lastSeq (gtGroup tbl)) (clSeq c.rcd) = true →
      let s4 := s3.setBay b { s3.bayAt b with coll := { cx with lastSeq := tabSet cx.lastSeq (gtGroup tbl) (clSeq c.rcd) } }
      s4.collRanges b c1 = .ok () →
      (clOp c0.rcd = 1 → exec (.allReduce b n) s = .next (s.raced (s4.collBegin b c1))) ∧
      (clOp c0.rcd = 2 → exec (.reduceScatter b n) s = .next (s.raced (s4.collBegin b c1))) ∧
      (clOp c0.rcd = 3 → exec (.allGather b n) s = .next (s.raced (s4.collBegin b c1))) ∧
      (clOp c0.rcd = 4 → exec (.allToAll b n) s = .next (s.raced (s4.collBegin b c1))) ∧
      (clOp c0.rcd = 5 → exec (.broadcast b n) s = .next (s.raced (s4.collBegin b c1))))) ∧
  (∀ (s t : State) (p b n piece : Nat) (m : List Byte) (c : Coll),
    (s.headMsg p 2 = some m → s.fabric.id ≠ 0xFF → mgDst m = s.fabric.id → (s.popMsg p 2).collWindow m = (t, some b) →
      (s.bayAt b).coll.running.any (fun d => s.collDown b d) = false →
      let h := bytesAt (mgData m) 0 32
      let after := s.raced (t.collApply b h ((mgData m).drop 32))
      (fieldAt h 0 1 = 1 → exec (.collData p) s = .next after) ∧ (fieldAt h 0 1 = 2 → exec (.collGrant p) s = .next after) ∧
      (fieldAt h 0 1 = 3 → exec (.collAbort p) s = .next after)) ∧
    ((s.bayAt b).coll.running[n]? = some c → s.collDown b c = false → clReduces c.rcd = true → piece = c.reduced → piece < c.pieces →
      (∀ j ∈ c.others, c.hasFrame piece j = true) → exec (.frameReduce b n piece) s = .next (s.raced (s.frameReduce b c piece))) ∧
    (∀ member, (s.bayAt b).coll.running[n]? = some c → clOp c.rcd ≠ 6 → c.other member = true → c.waitsOn member = true →
      exec (.collectiveTimeout b n member) s = .next (s.collFail b c .peerTimeout)))

/-- Management messages act, and messages for other devices go on. ENUM and TOPOLOGY messages at the head of their channel act and are
passed on, a TOPOLOGY without hops not, and one whose table gives this device's ID to another device takes the ID away; SNAPSHOT strobes
where SNAP_ACCEPT is 1 and, with hops left, is passed on unless its strobe was refused; a device that lost its root and may be one
starts a walk; a message for another device loses a hop and leaves by the route, and a request without hops or route is answered with
its status; a device without a fabric ID discards it (log entry 71). The bytes of ENUM and TOPOLOGY are the model's (log entry 31), and
the routes are read as in log entry 32. -/
def Obligations.ManagementAndForwardedMessages : Prop :=
  (∀ (s : State) (p : Nat) (m : List Byte),
    let s1 := (s.popMsg p 3).pend 192
    (s.mgmtHead p 0x20 = some m → exec (.enumMessage p) s = .next (s1.enumTake p (mgData m))) ∧
    (s.mgmtHead p 0x21 = some m → mgHops m ≠ 0 →
      let s2 := s1.applyTable (topoTable (mgData m))
      (∀ e, tabFind (topoTable (mgData m)) s2.fabric.id = some e → e.2 ≠ deviceNat →
        exec (.topologyMessage p) s = .next ((s2.takeId 0xFF).onTree (some p) 0x21 (mgHops m - 1) (mgData m))) ∧
      ((∀ e, tabFind (topoTable (mgData m)) s2.fabric.id = some e → e.2 = deviceNat) →
        exec (.topologyMessage p) s = .next (s2.onTree (some p) 0x21 (mgHops m - 1) (mgData m)))) ∧
    (s.mgmtHead p 0x21 = some m → mgHops m = 0 →
      let s2 := s1.applyTable (topoTable (mgData m))
      (∀ e, tabFind (topoTable (mgData m)) s2.fabric.id = some e → e.2 ≠ deviceNat → exec (.topologyMessage p) s = .next (s2.takeId 0xFF)) ∧
      ((∀ e, tabFind (topoTable (mgData m)) s2.fabric.id = some e → e.2 = deviceNat) → exec (.topologyMessage p) s = .next s2)) ∧
    (s.mgmtHead p 0x22 = some m →
      let accepts := bitOf s1.dbg.ctrl.toNat 0
      let s2 := if accepts then s1.strobe 4 (255 - mgHops m) (some (fieldAt (mgData m) 0 8)) (some (mgSrc m)) 0 else s1
      (mgHops m = 0 → exec (.snapshotMessage p) s = .next s2) ∧
      (mgHops m ≠ 0 → accepts = false ∨ s1.strobeTakes 0 = true →
        exec (.snapshotMessage p) s = .next ((s2.treePorts.filter (fun q => q != p)).foldl (fun t q =>
          if (t.portAt q).carries then t.farPush q none (overlay m 1 (natLE 1 (mgHops m - 1))) else t) s2)) ∧
      (accepts = true → s1.strobeTakes 0 = false → exec (.snapshotMessage p) s = .next s2)) ∧
    (s.fabric.rootLost = true → s.fabric.isRoot = false → bitOf s.fabric.ctrl.toNat 0 = true → s.fabric.id ≠ 0xFF →
      s.fabric.parent = none → s.fabric.children = [] → exec .rootTakeover s = .next s.drawn.startWalk)) ∧
  (∀ (s : State) (p v : Nat) (m : List Byte), s.headMsg p v = some m → s.forOther m = true →
    let s1 := s.popMsg p v
    let goes := s.fabric.id ≠ 0xFF ∨ v = 3
    (s.fabric.id = 0xFF → v ≠ 3 → exec (.farForward p v) s = .next s1) ∧
    (∀ q, goes → mgHops m ≠ 0 → s1.route (mgDst m) = some q → (s1.portAt q).carries = true →
      exec (.farForward p v) s = .next (s1.farPush q none (overlay m 1 (natLE 1 (mgHops m - 1))))) ∧
    (goes → mgHops m = 0 → v = 0 → exec (.farForward p v) s = .next ((s1.portEv p 0x47).answer none p m 6 [])) ∧
    (goes → mgHops m ≠ 0 → s1.route (mgDst m) = none → v = 0 → exec (.farForward p v) s = .next (s1.answer none p m 5 [])))

/-- Ports train, spare lanes, retrain, and take or refuse flits. A training port sends its TRAIN flit and becomes SELF, DOWN or UP with the
width, group and spare that the clean lanes give; a retry trains a port again; with the main power on, the return of the reference
trains the DOWN and DISABLED ports and its loss takes every port down; once a port was up at a width, a narrower one limits it until a
link reset (R330); a marginal or lost lane of an UP port is spared, is counted or makes the port retrain; a retrained port takes the
width, group and spare that the clean lanes give and resends, or goes down; a hold that expires takes the port down; a flit whose words
are corrected and whose code is good is taken by its type, another is refused, and the two timers resend or repeat the NAK. Which of two
clean settings a port picks is log entry 59, and the bytes of a TRAIN flit are log entry 31. -/
def Obligations.PortsTrainSpareLanesAndTakeFlits : Prop :=
  (∀ (s : State) (p device fabricId prevId root partnerPort mask localMask precode : Nat),
    let x : Exchange := ⟨device, fabricId, root, partnerPort, mask, localMask, precode⟩
    let q := { s.portAt p with sent := (s.portAt p).sent ++ [s.trainFlit p x] }
    let s0 := s.setPort p q
    let train := exec (.portTraining p device fabricId prevId root partnerPort ⟨mask, precode⟩ localMask) s
    let again := exec (.portRetrained p x) s
    (q.st = .training → device = deviceNat → train = .next (s0.portSelf p x)) ∧
    (q.st = .training → device ≠ deviceNat → pickWidth (Nat.land mask localMask) q.limit = none →
      train = .next ((s0.setPort p q.lost).pend (80 + p))) ∧
    (∀ w g f, q.st = .training → device ≠ deviceNat → pickWidth (Nat.land mask localMask) q.limit = some (w, g, f) →
      train = .next (((s0.setPort p ({ q.lost.meets x with
        st := .up, width := w, group := g, spared := f, credits := [1024, 1024, 1536, 64] }.widened w)).portEv p 0x44).linkMeets p)) ∧
    (let clean := (List.range 17).foldl
        (fun m l => if bitOf mask l && bitOf localMask l && !q.badLanes.contains l then m + 2 ^ l else m) 0
     (q.st = .retraining → device = deviceNat → again = .next ((s0.portDown p).portSelf p x)) ∧
     (q.st = .retraining → device ≠ deviceNat → pickWidth clean q.limit = none → again = .next (s0.portDown p)) ∧
     (∀ w g f, q.st = .retraining → device ≠ deviceNat → pickWidth clean q.limit = some (w, g, f) →
       let q1 : Port := { q.meets x with
         st := .up, width := w, group := g, resends := 0, sent := q.sent ++ q.replay.map (·.2), rxFlits := 0, rxWords := [] }
       let s1 := (s0.setPort p (q1.widened w)).pend (80 + p)
       let s2 := match f with
         | some l => if q.spared = some l then s1 else s1.spareLane p l
         | none => s1.setPort p { s1.portAt p with spared := none }
       again = .next ((if w < q.width then s2.narrowed p w else s2).pumpPort p))) ∧
    (q.st = .down → s.dev.fref = true →
      exec (.trainingRetry p) s = .next ((s.setPort p { s.portAt p with st := .training }).pend (80 + p))) ∧
    (s.dev.mainOn = true → exec (.frefLost true) s = .next ((List.range 16).foldl (fun t p =>
      if (t.portAt p).st == .down || (t.portAt p).st == .disabled then t.startTraining p else t) { s with dev := { s.dev with fref := true } })) ∧
    (s.dev.mainOn = true → exec (.frefLost false) s = .next ((List.range 16).foldl (fun t p =>
      if (t.portAt p).st == .disabled then (t.setPort p (t.portAt p).lost).pend (80 + p) else t.portStops p)
      { s with dev := { s.dev with fref := false } })) ∧
    (∀ present, s.dev.mainOn = false → exec (.frefLost present) s = .next { s with dev := { s.dev with fref := present } })) ∧
  (∀ (s : State) (p lane : Nat),
    let q := s.portAt p
    let bad := s.setPort p { q with badLanes := setIns q.badLanes lane }
    (q.st = .up → q.spareIdle = true → lane < 16 → exec (.laneMarginal p lane) s = .next (bad.spareLane p lane) ∧
      exec (.laneLost p lane) s = .next ((bad.portRetrains p).spareLane p lane)) ∧
    (q.st = .up → q.spareIdle = false → lane ≤ 16 →
      exec (.laneMarginal p lane) s = .next (s.setPort p { q with marginal := q.marginal + 1 })) ∧
    (q.st = .up → q.spareIdle = false → lane < 16 → exec (.laneLost p lane) s = .next (bad.portRetrains p)) ∧
    (q.st = .up → q.spared = none → exec (.laneLost p 16) s = .next (s.setPort p { q with badLanes := setIns q.badLanes 16 })) ∧
    (q.st = .retraining → exec (.portHoldExpiry p) s = .next (s.portDown p))) ∧
  (∀ (s : State) (p : Nat) (f : List Byte) (errs : List (Nat × Nat)), (s.portAt p).st = .up →
    let ftype := fieldAt f 0 1 / 16
    let r := (s.portAt p).fec errs
    let s1 := s.setPort p r.1
    let good := r.2 = false ∧ flitGood f = true
    (¬ good → exec (.dataFlit p f errs) s = .next (s1.rxBad p) ∧ exec (.idleFlit p f errs) s = .next (s1.rxBad p) ∧
      exec (.nakFlit p f errs) s = .next (s1.rxBad p)) ∧
    (good → ftype = 1 → exec (.dataFlit p f errs) s = .next (s1.rxData p f)) ∧
    (good → ftype = 0 → exec (.idleFlit p f errs) s = .next ((s1.rxBare p f).pumpPort p)) ∧
    (good → ftype = 2 → exec (.nakFlit p f errs) s = .next (((s1.rxBare p f).resend p (fieldAt f 2 2)).pumpPort p)) ∧
    (∀ n rest, (s.portAt p).replay = n :: rest →
      exec (.replayTimeout (.sender p)) s = .next ((s.setPort p { s.portAt p with replays := (s.portAt p).replays + 1 }).resend p n.1)) ∧
    ((s.portAt p).nakOut = true → exec (.replayTimeout (.receiver p)) s = .next (s.setPort p
      { (s.portAt p).sendBare 2 (s.portAt p).rxSeq with replays := (s.portAt p).replays + 1 })))

/-- FAR_WRITE, FAR_READ, FAR_ATOMIC_ADD and FAR_VALLEY act on the window they name. A request at the head of its channel for this
device is answered with its error where its checks fail; where they pass a write stores its bytes, a read answers the bytes, an
atomic add stores the wrapped sum and answers the former value, and a VALLEY segment is put on the mesh for its core. -/
def Obligations.FarRequestsAct : Prop :=
  ∀ (s : State) (p : Nat) (m : List Byte), s.headMsg p 0 = some m → s.forMe m = true → s.reqWaits m = false →
    let t := (s.popMsg p 0).drawn
    let w := t.windowBay (mgWindow m)
    (∀ e, t.reqCheck m = .error e →
      (mgType m = 0x01 → exec (.farWrite p) s = .next (s.raced (t.answer w p m e []))) ∧ (mgType m = 0x02 → exec (.farRead p) s = .next (s.raced (t.answer w p m e []))) ∧
      (mgType m = 0x03 → exec (.farAtomicAdd p) s = .next (s.raced (t.answer w p m e []))) ∧
      (mgType m = 0x11 → exec (.farValley p) s = .next (s.raced (t.answer w p m e [])))) ∧
    (∀ b d, t.reqCheck m = .ok (b, d) →
      let addr := iwBase d + mgOffset m
      (∀ u, iwKind d = 0 → mgType m = 0x01 → t.writeAt (collAgent b) addr (mgData m) = (u, none) →
        exec (.farWrite p) s = .next (s.raced (u.answer (some b) p m 0 []))) ∧
      (∀ bs, iwKind d = 0 → mgType m = 0x02 → (t.touchAt b addr (mgLen m)).readAt (collAgent b) addr (mgLen m) = .ok bs →
        exec (.farRead p) s = .next (s.raced ((t.touchAt b addr (mgLen m)).answer (some b) p m 0 bs))) ∧
      (∀ old u, iwKind d = 0 → mgType m = 0x03 → (t.touchAt b addr 8).readAt (collAgent b) addr 8 = .ok old →
        (t.touchAt b addr 8).writeAt (collAgent b) addr (natLE 8 ((leNat old + fieldAt (mgData m) 0 8) % 2 ^ 64)) = (u, none) →
        exec (.farAtomicAdd p) s = .next (s.raced (u.answer (some b) p m 0 old))) ∧
      (iwKind d = 2 → mgType m = 0x11 →
        exec (.farValley p) s = .next (s.raced { t with valley := t.valley ++ [⟨b, t.coreOf b (bitsOf (mgOffset m) 47 36), bytesAt (mgData m) 0 16,
          bitsOf (mgOffset m) 20 0, (mgData m).drop 16, none, some (p, mgSrc m, mgTag m, mgWindow m)⟩] })))

/-- Responses end their requests, and unanswered requests time out. A response for an outstanding request of a port frees its tag, hands its
data or its failure to the request's owner unless that has failed already, and lets the next request go; a request without an answer
fails its owner with PEER_TIMEOUT. Where a response is looked for is log entry 28. -/
def Obligations.FarRequestsEnd : Prop :=
  (∀ (s : State) (p q : Nat) (m : List Byte) (r : FarReq), s.headMsg p 1 = some m → s.forMe m = true →
    (s.popMsg p 1).findReq p m = some (q, r) → s.respWaits r = false →
    let s1 := s.popMsg p 1
    let s2 := s1.setPort q { s1.portAt q with reqs := (s1.portAt q).reqs.filter (fun x => x.tag != r.tag) }
    let after := if s2.ownerFailed r.owner then s2.lateResponse p else if mgBay m = 0 then s.raced (s2.respOk r m) else s2.failOwner r.owner (respStatus (mgBay m))
    (mgType m = 0x04 → exec (.farWriteAck p) s = .next (after.farNext q)) ∧ (mgType m = 0x05 → exec (.farReadData p) s = .next (after.farNext q)) ∧
    (mgType m = 0x06 → exec (.farAtomicAck p) s = .next (after.farNext q)) ∧ (mgType m = 0x12 → exec (.farValleyAck p) s = .next (after.farNext q))) ∧
  (∀ (s : State) (p tag : Nat) (r : FarReq), (s.portAt p).reqs.find? (fun x => x.tag == tag) = some r →
    exec (.responseTimeout p tag) s = .next (((s.setPort p { s.portAt p with reqs := (s.portAt p).reqs.filter (fun x => x.tag != tag)
      }).failOwners [r.owner] .peerTimeout).farNext p))

/-- The eleven APPROVED_CHANGE operations start or are refused. For an APPROVED_CHANGE item whose block is read, is well formed and
answers the live nonce, the nonce is used up; then the change is refused with its reason, or begins with the stops that it needs,
under the command of its operation. -/
def Obligations.ApprovedChangesStart : Prop :=
  ∀ (s : State) (q : Nat) (it : Item) (x : List Byte), s.adminItem q 0x11 = some it → s.nextBlock q = some x → approvedCheck it.entry = .ok () →
    let t := (s.served pfFn q).drawn
    (s.served pfFn q).readAt (((s.served pfFn q).queueAt pfFn q).agent pfFn) (adAddr it.entry) 384 = .ok x → blockOk x = true →
    t.sec.change = none → t.sec.liveNonce.map (·.toNat) = some (apNonce x) →
    let s1 := { t with sec := { t.sec with liveNonce := none } }
    let stops := s1.toStop (apOp x) (apParams x)
    let s2 := { s1 with sec := { s1.sec with change := some ⟨apOp x, apParams x, some (q, it.slot), 0, stops, []⟩ } }.updItem pfFn q it.slot
      (fun i => { i with st := .waiting })
    let after := (match s1.approvalRefusal x with
      | some r => s1.adminEnd q it.slot .adminRefused r
      | none => (stops.foldl (fun (t : State) b => t.securityStop b false) s2).tail).settle
    (apOp x = 0x01 → exec (.bayCreate q) s = .next after) ∧ (apOp x = 0x02 → exec (.bayResize q) s = .next after) ∧
    (apOp x = 0x03 → exec (.bayDestroy q) s = .next after) ∧ (apOp x = 0x04 → exec (.setMode q) s = .next after) ∧
    (apOp x = 0x05 → exec (.releaseLock q) s = .next after) ∧ (apOp x = 0x06 → exec (.setDebug q) s = .next after) ∧
    (apOp x = 0x07 → exec (.setPolicy q) s = .next after) ∧ (apOp x = 0x08 → exec (.lifecycleChange q) s = .next after) ∧
    (apOp x = 0x09 → exec (.keySlot q) s = .next after) ∧ (apOp x = 0x0A → exec (.fuseWrite q) s = .next after) ∧
    (apOp x = 0x0B → exec (.certificate q) s = .next after)

/-- Nonces and the bay map are written, nonces and authorities expire, and scrubs step through their strips. APPROVAL_NONCE writes a fresh
nonce and makes it live; BAY_MAP writes the 16 bytes of the map; expiry clears the nonce and the certificate authority; BAY_SCRUB_DONE
scrubs the next strip of a bay and after the last one what waits for it follows, and of a restored strip it rebuilds the maps, scrubs
and frees the strip and completes the entry, or refuses it where a column has more than 4 dead tiles or a stack fails; that clause is
the model's reading (log entry 72). Which nonce is drawn is a free value (log entry 2). -/
def Obligations.NoncesMapsAndScrubs : Prop :=
  (∀ (s u : State) (q : Nat) (it : Item), fixedCount 48 it.entry = .ok () ∨ fixedCount 16 it.entry = .ok () →
    let t := s.served pfFn q
    let n := Config.random384 t.draws
    (s.adminItem q 0x10 = some it → fixedCount 48 it.entry = .ok () → t.drawn.checkAt pfFn (adAddr it.entry) (natLE 48 n.toNat).length = none →
      t.drawn.writeAt ((t.drawn.queueAt pfFn q).agent pfFn) (adAddr it.entry) (natLE 48 n.toNat) = (u, none) →
      exec (.approvalNonce q) s = .next ({ u with sec := { u.sec with liveNonce := some n, nonceSeq := u.sec.nonceSeq + 1 } }.adminEnd q it.slot
        .ok (u.sec.nonceSeq + 1)).settle) ∧
    (s.adminItem q 0x12 = some it → fixedCount 16 it.entry = .ok () → t.checkAt pfFn (adAddr it.entry) t.mapBytes.length = none →
      t.writeAt ((t.queueAt pfFn q).agent pfFn) (adAddr it.entry) t.mapBytes = (u, none) →
      exec (.bayMap q) s = .next (u.adminEnd q it.slot .ok 0).settle) ∧
    (∀ n, s.sec.liveNonce = some n → exec .nonceExpiry s = .next { s.pend 240 with sec := { s.sec with liveNonce := none } }) ∧
    exec .certificateExpiry s = .next { s with sec := { s.sec with certAuth := none } }) ∧
  (∀ (s : State) (b k : Nat) (rest : List Nat),
    let v := s.bayAt b
    let s1 := (s.scrubStrip k).setBay b { v with scrub := rest }
    (b ≠ 12 → v.scrub = k :: rest → s.dev.fatal = none → v.resets = [] → (∀ r ∈ s.repairs, r.1 ≠ b ∧ r.1 ≠ 16 + k) →
      exec (.bayScrubDone b) s = .next (if rest = [] then (s1.finishScrub b).tail else s1)) ∧
    (∀ q slot, s.dev.restore = some (k, q, slot, true) → s.dev.fatal = none →
      (((∃ i, i < 6 ∧ 4 < (s.columnAt (6 * k + i)).dead.length) ∨ (s.stackAt k).failing = true ∨ (s.stackAt (12 + k)).failing = true) →
        let s1 := ({ s with dev := { s.dev with restore := none } }.releaseHolds).rebuildStrip k
        exec (.bayScrubDone 12) s = .next ((s1.gate (tileDoms k ++ stackDoms k ++ eaveDoms k)).adminEnd q slot .adminRefused 1)) ∧
      ((∀ i, i < 6 → (s.columnAt (6 * k + i)).dead.length ≤ 4) → (s.stackAt k).failing = false → (s.stackAt (12 + k)).failing = false →
        let s1 := ((s.rebuildStrip k).scrubStrip k).releaseHolds
        let s2 := ({ s1 with dev := { s1.dev with restore := none, outOfService := setDel s1.dev.outOfService k } }.gate (tileDoms k)).lifeLog 4
          (natLE 1 k ++ natLE 1 2)
        exec (.bayScrubDone 12) s = .next ((s2.raiseIn pfFn ⟨0x26, k, 0, 0, 0⟩).adminEnd q slot .ok 0))))

/-- A slip repair takes its steps in order. For a repair at each of its steps: it begins, waits or drains, slips its work orders,
checks its spares, and at migration salvages or copies the failed tiles, sets the new slip maps, raises TILE_SLIPPED and completes
the entry of a planned slip; a collective whose bytes moved is told of them. The details are those of log entry 39. -/
def Obligations.SlipRepairsTakeTheirSteps : Prop :=
  ∀ (s : State) (key : Nat) (r : Repair), tabFind s.repairs key = some r →
    (r.step = 1 → exec (.slipRepair key) s = .next (s.setRepair key { s.replan r with step := 0 })) ∧
    (r.step = 2 → exec (.slipRepair key) s = .next (s.setRepair key { s.replan r with step := 3 })) ∧
    (r.step = 0 → exec (.plannedSlipWaitExpiry key) s = .next (s.setRepair key { r with step := 3 })) ∧
    (r.step = 3 → exec (.slipMeshDrained key) s = .next ((s.slipAll key { r with step := 5 }).repairAdvance key)) ∧
    (r.step = 0 → s.movedIdle r = true → exec (.slipMeshDrained key) s = .next ((s.setRepair key { r with step := 5 }).repairAdvance key)) ∧
    (∀ col row, key = s.repairKey (col / 6) → r.step = 5 → (col, row) ∈ s.chosen r → (col, row) ∉ r.checked →
      exec (.spareCheckDone col row true) s = .next (((s.spareChecked col row).setRepair key
        { r with checked := r.checked ++ [(col, row)] }).repairAdvance key)) ∧
    (∀ losses, r.step = 6 →
      let told := r.failed.map (fun f =>
        (f, if f.2.2.1 then 0 else (s.lostLines (f.1 * 56 + f.2.2.2) (s.lossOf losses f).lines).length, s.lossOf losses f))
      let moved := r.cols.flatMap (s.movedIn r)
      let s1 := r.cols.foldl (fun t col => match (t.columnAt col).plan (r.rowsIn col) with
        | some p => t.setColumn col p.1
        | none => t) s
      let s2 := (r.failed.filter (fun f => !f.2.2.1)).foldl (fun t f => t.salvage (f.1 * 56 + f.2.2.2) (s.lossOf losses f)) s1
      let s3 := (moved.foldl (fun t m => t.settleMoved m) s2).endRepair key
      exec (.slipMigrationDone key losses) s = .next (((s3.collRetell key).slippedEvents moved told r.ended.length).planEntryEnd r).tail)

/-- Failures are taken up and spares are checked. A tile that fails its self-check or a third heartbeat in a row is declared failed, unless
its bay is halted, where heartbeats pause; an eave engine, a stack controller, a clock or the ridge that fails has its effect; the
hourly check takes the spare checked longest ago, and its end records the check or buries the tile and has a repair choose again; a
rehang check that passes clears the tile's DEAD bit, gives it the highest rank among the column's spares and raises TILE_REHUNG, and one
that fails leaves it dead; either completes the entry. -/
def Obligations.FailuresAndSpares : Prop :=
  (∀ (s : State) (col row k cause : Nat),
    (col < 72 → row < 60 → exec (.tileSelfCheckFailure col row) s = .next ((s.pend (96 + col / 6)).tileDown col row)) ∧
    (col < 72 → row < 60 → (s.stripOwner (col / 6)).any (fun b => (s.bayAt b).halted) = true → ∀ answered,
      exec (.tileHeartbeat col row answered) s = .next s) ∧
    (col < 72 → row < 60 → (s.stripOwner (col / 6)).any (fun b => (s.bayAt b).halted) = false →
      exec (.tileHeartbeat col row true) s = .next (s.setTile col row { s.tileAt col row with misses := 0 }) ∧
      ((s.tileAt col row).misses < 2 → exec (.tileHeartbeat col row false) s = .next ((s.pend 156).setTile col row
        { s.tileAt col row with misses := (s.tileAt col row).misses + 1 })) ∧
      (2 ≤ (s.tileAt col row).misses → exec (.tileHeartbeat col row false) s = .next (((s.pend 156).setTile col row
        { s.tileAt col row with misses := (s.tileAt col row).misses + 1 }).tileDown col row))) ∧
    (k < 24 → exec (.eaveEngineFailure k) s = .next (s.eaveFails k)) ∧
    (k < 24 → cause = 3 ∨ cause = 4 → exec (.stackControllerFailure k cause) s = .next ((s.pend (32 + k)).stripLost (stackStrip k) cause 0)) ∧
    exec (.deviceFatal true) s = .next ((s.pend 4).deviceFatal .clockLoss) ∧
    exec (.deviceFatal false) s = .next ((s.pend 5).deviceFatal .selfCheck)) ∧
  (∀ (s : State) (col row : Nat) (pass : Bool),
    (∀ r, (∀ x ∈ (s.columnAt col).rank, (s.tileAt col x).checking ≠ 1) → s.nextSpare col = some r →
      exec (.spareFullCheck col) s = .next (s.setTile col r { s.tileAt col r with checking := 1 })) ∧
    (tabFind s.repairs (s.repairKey (col / 6)) = none → (s.tileAt col row).checking = 1 →
      exec (.spareCheckDone col row pass) s = .next (if pass then s.spareChecked col row else
        (s.spareDies col row false).repairReplan (s.repairKey (col / 6)))) ∧
    (∀ q it, (s.tileAt col row).checking = 2 →
      let s0 := s.setTile col row { s.tileAt col row with checking := 0, lastCheck := s.time }
      let s1 := if s0.rehangNeeds (tileDom col row) then s0 else s0.gate [tileDom col row]
      let c := (s1.columnAt col).rehung row
      let e := holeEv 0x24 col row c.slipBits
      let s2 := ((s1.setColumn col c).raiseStrip (col / 6) (fun _ => e) e).lifeLog 3
        (natLE 1 col ++ natLE 1 row ++ natLE 1 2 ++ natLE 1 (s.tileAt col row).failures)
      s.waitingAdmin 0x31 (fun e => fieldAt e 28 1 == col && fieldAt e 29 1 == row) = some (q, it) →
      exec (.rehangCheckDone col row false) s = .next (s1.adminEnd q it.slot .ok 1) ∧
      exec (.rehangCheckDone col row true) s = .next (s2.adminEnd q it.slot .ok 0)) ∧
    (let c := (s.columnAt col).rehung row
     row ∉ c.dead ∧ ((s.columnAt col).retired = false → c.holes.contains row = true → c.rank.getLast? = some row)))

/-- COLUMN_STATE, REHANG, PLANNED_SLIP, RETIRE_STRIP, RESTORE_STRIP and READ_ERRORS run. Each of these ADMIN commands whose fields pass and
whose conditions hold has its effect: the states of 72 columns are written, a dead tile is checked again, a live tile begins a planned
slip and a spare dies, a strip with a failing stack retires, a strip out of service begins its restore, and the newest error records are
written. A restore goes on once its neighbours have quiesced and no repair runs in its strip, and is refused when they do not quiesce in
time. -/
def Obligations.RepairCommandsAndRestores : Prop :=
  (∀ (s u : State) (q : Nat) (it : Item),
    let t := s.served pfFn q
    let col := fieldAt it.entry 28 1
    let row := fieldAt it.entry 29 1
    let states := (List.range 72).flatMap t.columnRecord
    (s.adminItem q 0x30 = some it → columnStateCheck it.entry = .ok () → t.checkAt pfFn (adAddr it.entry) states.length = none →
      t.writeAt ((t.queueAt pfFn q).agent pfFn) (adAddr it.entry) states = (u, none) →
      exec (.columnState q) s = .next (u.adminEnd q it.slot .ok ((List.range 72).filter (fun c => (u.columnAt c).retired)).length).settle) ∧
    (s.adminItem q 0x31 = some it → repairCheck true true it.entry = .ok () → row ∈ (t.columnAt col).dead → (t.tileAt col row).failures < 3 →
      t.scrubbing (col / 6) = false → tabHas t.repairs (t.repairKey (col / 6)) = false → (t.tileAt col row).checking ≠ 2 →
      exec (.rehang q) s = .next ((((t.ungate [tileDom col row]).setTile col row { t.tileAt col row with checking := 2 }).updItem pfFn q it.slot
        (fun x => { x with st := .waiting })).settle)) ∧
    (s.adminItem q 0x32 = some it → repairCheck true true it.entry = .ok () → row ∉ (t.columnAt col).dead → (t.columnAt col).rank ≠ [] →
      (t.columnAt col).retired = false → tabHas t.repairs (t.repairKey (col / 6)) = false →
      (t.retesting (col / 6) = true → exec (.plannedSlip q) s = .next ((t.tileFails col row true).adminEnd q it.slot .ok 0).settle) ∧
      (t.retesting (col / 6) = false → row ∈ (t.columnAt col).holes → exec (.plannedSlip q) s = .next ((t.spareDies col row true).adminEnd q it.slot .ok 0).settle) ∧
      (t.retesting (col / 6) = false → row ∉ (t.columnAt col).holes →
        let t1 := (t.tileFails col row true).updItem pfFn q it.slot (fun x => { x with st := .waiting })
        let r := tabGet t1.repairs (t.repairKey (col / 6)) ⟨[], [], 1, [], [], none⟩
        exec (.plannedSlip q) s = .next (((t1.setRepair (t.repairKey (col / 6)) { r with entry := some (q, it.slot) }).repairBegin
          (t.repairKey (col / 6))).settle))) ∧
    (s.adminItem q 0x33 = some it → repairCheck false false it.entry = .ok () →
      ((t.stackAt col).failing = true ∨ (t.stackAt (12 + col)).failing = true) → tabHas t.repairs (t.repairKey col) = false →
      exec (.retireStrip q) s = .next ((t.stripLost col 2 0).adminEnd q it.slot .ok (if t.dev.outOfService.contains col then 0 else
        match t.stripOwner col with | some b => t.lossItems b 0 | none => 0)).settle) ∧
    (s.adminItem q 0x34 = some it → repairCheck false false it.entry = .ok () → col ∈ t.dev.outOfService → t.stripOwner col = none →
      (∀ i < 6, (t.columnAt (6 * col + i)).dead.length ≤ 4) → (t.stackAt col).failing = false → (t.stackAt (12 + col)).failing = false →
      t.scrubbing col = false → t.dev.restore = none →
      exec (.restoreStrip q) s = .next ((({ t with dev := { t.dev with restore := some (col, q, it.slot, false) } }.holdAdjacent
        col).updItem pfFn q it.slot (fun x => { x with st := .waiting })).settle)) ∧
    (s.adminItem q 0x35 = some it → readErrorsCheck it.entry = .ok () → adBay it.entry = 12 ∨ t.bayExists (adBay it.entry) = true →
      let recs := lastN (adCount it.entry) (t.fnAt (adBay it.entry)).err.history
      t.checkAt pfFn (adAddr it.entry) (64 * adCount it.entry) = none → t.checkAt pfFn (adAddr it.entry) recs.flatten.length = none →
      t.writeAt ((t.queueAt pfFn q).agent pfFn) (adAddr it.entry) recs.flatten = (u, none) →
      exec (.readErrors q) s = .next (u.adminEnd q it.slot .ok recs.length).settle)) ∧
  (∀ (s : State) (k q slot : Nat), s.dev.restore = some (k, q, slot, false) →
    ((s.adjacentBays k).all s.quiesced = true → tabHas s.repairs (16 + k) = false →
      exec .restoreQuiesce s = .next (({ s with dev := { s.dev with restore := some (k, q, slot, true) } }).ungate
        (tileDoms k ++ stackDoms k ++ eaveDoms k))) ∧
    exec .restoreQuiesceTimeout s = .next
      (({ s with dev := { s.dev with restore := none } }.releaseHolds).adminEnd q slot .adminRefused 1))

/-- Stack controllers scrub, refresh and repair rows. Where a stack's controller runs, a scrub reads the next line and writes it back, a
refresh counts at its bank with its activations and brings the flaws that stand there, a row repair takes the first candidate with a
spare, and its end moves the lines, uses a spare and raises its event. Whether failed lanes fail again after a scrub is a free value
(log entry 50), what stands in memory is log entry 16, and that a repair takes the first candidate with a spare, one at a time, is log
entry 43. -/
def Obligations.StackControllersScrubRefreshAndRepair : Prop :=
  ∀ (s : State) (k : Nat), s.ctlRuns k = true →
    let v := s.stackAt k
    (∀ syms lanes inner tag,
      let f := LineFlaw.add (v.flawOf v.scrubPos) ⟨v.scrubPos, syms, lanes, inner, tag⟩
      let s1 := (s.setStack k v.scrubNext).lineRead k f
      exec (.patrolScrubLine k syms lanes ⟨inner, tag⟩) s = .next
        (s1.setStack k ((s1.stackAt k).scrubLeaves s1.draws f (lineDecodes v f))).drawn) ∧
    (∀ pc bank acts flaws, pc < 64 → bank < 16 →
      let v1 := v.activate (pc * 16 + bank) acts (Config.actThreshold k)
      let here := flaws.filter (fun f => decide (f.line < stackLines ∧ lineBank f.line = bank ∧ lineChannel f.line = pc / 2))
      exec (.refresh k pc ⟨bank, acts, flaws⟩) s = .next (s.setStack k
        (here.foldl (fun (u : Stack) f => u.setFlaw (LineFlaw.add (u.flawOf f.line) f))
          { v1 with refreshes := tabInc v1.refreshes (pc * 16 + bank) (2 ^ 64 - 1) }))) ∧
    (∀ key, v.repairing = none → v.repairable = some key →
      exec (.rowRepair k) s = .next (s.setStack k { v with candidates := setDel v.candidates key, repairing := some key })) ∧
    (∀ key lost, v.repairing = some key →
      let s1 := (lost.filter (· < 32)).foldl (fun t c => t.rowLoses k (rowLine key c)) (s.rowMigrates k key)
      let v1 := s1.stackAt k
      exec (.rowRepairDone k lost) s = .next (((s1.setStack k { v1 with
        repairing := none, rowCorr := tabDel v1.rowCorr key, candidates := setDel v1.candidates key,
        softRepairs := satInc 16 v1.softRepairs, softRows := v1.softRows ++ [key],
        sparesUsed := tabInc v1.sparesUsed (rowBank key) 2 }).raiseStack k 0x32 0).spareLow k))

/-- Power, droop, ageing and gating events act, and health and power records are written. A tick of the cap controller, a settled operating
point, an emergency and its release, a shutdown, a sample that meets a trip and a regulator fault act; droops, ageing and gating are
counted; memory, link and power records are written to their destinations and a bay's power record starts its averages again. A trip
sheds heat and records the sample before it shuts off, and a collective is told of tiles that wake. The order of work in a tick is log
entry 42. -/
def Obligations.PowerDroopsAndRecords : Prop :=
  (∀ (s : State),
    (∀ total bays stretched, s.dev.mainOn = true → exec (.capTick total bays stretched) s = .next (s.capTick total bays stretched)) ∧
    (∀ b point, s.dev.mainOn = true → s.capHeld = false → (s.bayAt b).aclkTarget = some point →
      exec (.aclkStepSettle b) s = .next ((s.setBay b { s.bayAt b with aclk := point, aclkTarget := none }).episodeEnds b)) ∧
    (∀ cause, 1 ≤ cause → cause ≤ 3 → s.power.causes.contains cause = false → exec (.powerEmergency cause) s = .next
      (({ s with power := { s.power with causes := setIns s.power.causes cause } }.pend 3).throttleAll.raiseAll ⟨0x61, 0, 0, cause, 0⟩ (fun _ => 0))) ∧
    (s.power.causes.contains 4 = false → exec (.powerEmergency 4) s = .next
      (({ s with dev := { s.dev with alertN := true }, power := { s.power with causes := setIns s.power.causes 4 } }.pend 3).throttleAll.raiseAll
        ⟨0x61, 0, 0, 4, 0⟩ (fun _ => 0))) ∧
    (s.power.causes ≠ [] → s.power.causes.all s.causeCleared = true → exec .emergencyRelease s = .next ((List.range 12).foldl
      (fun t b => if (t.bayAt b).heldDown.contains 5 then t.setBay b { t.bayAt b with heldDown := setDel (t.bayAt b).heldDown 5 } else t)
      { s with power := { s.power with causes := [] }, dev := { s.dev with alertN := false } })) ∧
    (∀ high, s.dev.mainOn = true → exec (.mainInputShutdown high) s = .next ((s.pend 1).mainShutdown .shutdown)) ∧
    (∀ high, s.dev.mainOn = false → exec (.mainInputShutdown high) s = .next { s with dev := { s.dev with mainInput := false } }) ∧
    (∀ tiles stk reg, s.dev.mainOn = true → tripMet (s.liveTemps tiles) (stk.filter (fun e => decide (e.1 < 24))) reg = true →
      let heated := (List.range 24).foldl (fun (t : State) k =>
        t.stackHeat k (tabGet (stk.filter (fun e => decide (e.1 < 24))) k 0)) ((s.pend 233).stripHeat (s.liveTemps tiles))
      exec (.temperatureSample tiles stk reg) s = .next (((heated.sampled tiles stk reg).pend 0).mainShutdown .thermalTrip)) ∧
    (∀ d, s.dev.mainOn = true → exec (.regulatorFault d) s = .next (s.regulatorFault d))) ∧
  (∀ (s : State) (unit cycles b d : Nat) (low : List AgeingLow),
    (unit < 12 → s.stripOwner unit = some b →
      let s1 := { s with power := { s.power with pfStretches := s.power.pfStretches + cycles } }
      exec (.droopTrip 0 unit cycles) s = .next (s1.setBay b { s1.bayAt b with stretches := (s1.bayAt b).stretches + cycles })) ∧
    exec (.ageingMeasurement low) s = .next (low.eraseDups.foldl (fun t x => t.trim x) (s.pend 234)) ∧
    (s.power.on.contains d = true → s.mayGate d = true → exec (.domainGate d) s = .next (s.gate [d])) ∧
    (s.power.gated.contains d = true → s.mayWake d = true → exec (.domainWake d) s = .next (
      match (if d < 120 then (s.ungate [d]).stripOwner (d / 10) else none) with
      | some bay => (s.ungate [d]).collRetell bay
      | none => s.ungate [d]))) ∧
  (∀ (s : State) (b d : Nat), s.recordsFor b = true →
    (destOf (s.bayAt b).memHealthDest = some d →
      exec (.memoryHealthRecord b) s = .next ((List.range (2 * (s.bayAt b).count)).foldl
        (fun t i => t.healthWrite b (d + 64 * i) (stackRecord (t.stackAt (t.stackOf b i)) i t.stamp)) (s.pend 158))) ∧
    (destOf (s.bayAt b).linkHealthDest = some d →
      exec (.linkHealthRecord b) s = .next (((List.range (s.bayPorts b).length).zip (s.bayPorts b)).foldl
        (fun t e => t.healthWrite b (d + 64 * e.1) (portRecord e.2 (t.portAt e.2) (tabGet (t.bayAt b).linkBase e.2 []) t.stamp))
        (s.pend 158))) ∧
    (destOf (s.bayAt b).powerDest = some d → b ≠ pfFn →
      let w := (s.pend 159).healthWrite b d (s.bayPower b)
      exec (.powerRecord b) s = .next (w.setBay b { w.bayAt b with powSum := 0, powTicks := 0, peak := 0, throttle := 0 })))

/-- The outcome of a regulator fault depends on its domain. While the domain is supplied, a fault of a tile domain declares its
tiles failed, of a stack controller takes its strip out of service, of an eave engine fails the engine, of a Faref port takes the
port down, and of domains 184 to 188 or a bus converter is DEVICE_FATAL; the domain is off in each case. That a bus converter is number
189 is log entry 42 and the interrupt sources are log entry 48: both are the model's. -/
def Obligations.RegulatorFaultsFollowTheirDomain : Prop :=
  ∀ (s : State) (d : Nat), (s.dev.mainOn || s.power.on.contains d) = true →
    let s1 := { s with power := { s.power with on := setDel s.power.on d } }
    let goes (t : State) : Prop := exec (.regulatorFault d) s = .next t
    (d < 120 → goes (((domainTiles d).foldl (fun (t : State) p => t.tileFails p.1 p.2 false) (s1.pend (108 + d / 10))).repairReplan (s1.repairKey (d / 10)))) ∧
    (120 ≤ d → d < 144 → goes ((s1.pend (108 + (d - 120) % 12)).stripLost ((d - 120) % 12) 3 0)) ∧
    (144 ≤ d → d < 168 → goes ((s1.pend (108 + (d - 144) % 12)).eaveFails (d - 144))) ∧
    (168 ≤ d → d < 184 → goes (s1.portStops (d - 168))) ∧
    (184 ≤ d → d ≤ 189 → goes ((s1.pend 1).deviceFatal .regulator))

/-- Delivery takes the lowest-numbered source that is due. In every state whose sources are sound, an unmasked target without an
active source takes the lowest-numbered source of its own that is enabled and pending, which is then active and no longer pending;
a target that is masked or active, or has no source due, is unchanged. -/
def Obligations.DeliveryTakesTheLowestPendingSource : Prop :=
  ∀ (s : State) (t : Nat), s.ictl.Sound → t < 3 →
    let due (n : Nat) : Prop := (s.srcAt n).target = t ∧ (s.srcAt n).enable = true ∧ (s.srcAt n).pending = true
    let takes : Prop := (s.tgtAt t).mask = false ∧ (s.tgtAt t).active = 0xFFFF
    (∀ n, takes → due n → (∀ m, m < n → ¬ due m) → exec (.interruptDelivery t) s = .next
      ((s.setSrc n { s.srcAt n with pending := false }).setTgt t { s.tgtAt t with active := n, waiting := false })) ∧
    (¬ takes ∨ (∀ n, ¬ due n) → exec (.interruptDelivery t) s = .next s)

/-- The interrupt controller's registers and MSI-X act. Delivery, DONE, SOFT_SET, the writes of sources and masks, WAIT and its wake each
change what their registers say; MSIX_UNMASK writes an entry's address, data and mask, or opens the function, and sends what is pending,
and stops a locked bay whose bus mastering it turns on. MSI-X entries are as in log entry 12. -/
def Obligations.InterruptsAndMsixAct : Prop :=
  (∀ (s : State) (t n value : Nat),
    ((s.tgtAt t).mask = false → (s.tgtAt t).active = 0xFFFF → t < 3 → s.nextSrc t = some n → exec (.interruptDelivery t) s = .next
      ((s.setSrc n { s.srcAt n with pending := false }).setTgt t { s.tgtAt t with active := n, waiting := false })) ∧
    (t < 3 → exec (.ictlDone t) s = .next (s.setTgt t { s.tgtAt t with active := 0xFFFF }) ∧
      exec (.ictlMaskWrite t value) s = .next (s.setTgt t { s.tgtAt t with mask := bitOf value 0 }) ∧
      exec (.waitInstruction t) s = .next (s.setTgt t { s.tgtAt t with waiting := true })) ∧
    ((s.tgtAt t).waiting = true → s.nextSrc t = some n → exec (.waitWake t) s = .next (s.setTgt t { s.tgtAt t with waiting := false })) ∧
    (256 ≤ value → value < 512 → exec (.ictlSoftSet value) s = .next (s.pend value)) ∧
    (n < 512 → srcListed n = true → exec (.ictlSrcWrite n value) s = .next (s.setSrc n (srcWritten (s.srcAt n) n value s.ictl.locked)))) ∧
  (∀ (s : State) (fn : Nat) (w : MsixWrite), fn < 13 →
    (w.entry < msixEntries fn → exec (.msixUnmask fn (some w)) s = .next ((s.setFn fn
      { s.fnAt fn with
        msixTab := tabSet (s.fnAt fn).msixTab w.entry (w.addr, w.data),
        msixOpen := if w.masked then setDel (s.fnAt fn).msixOpen w.entry else setIns (s.fnAt fn).msixOpen w.entry }).msixFlush fn)) ∧
    (let t := if (fn != pfFn && s.locked fn && !(s.fnAt fn).busMaster) = true then (s.pend 25).securityStop fn false else s
     exec (.msixUnmask fn none) s = .next (((t.setFn fn
      { t.fnAt fn with msixEnable := true, busMaster := true, functionMask := false }).msixFlush fn).tail)))

/-- Snapshots, traces, halting and debug access run. Snapshots are strobed, read, released and expire; TRACE_READ writes the newest
open entries; HALT, STEP, its expiry and RESUME act on a bay whose level permits it; DEBUG_ACCESS reads or writes. What a snapshot
holds is log entry 6, and the reasons are log entry 44. -/
def Obligations.SnapshotsAndDebugCommandsRun : Prop :=
  (∀ (s u : State) (q : Nat) (it : Item),
    let t := s.served pfFn q
    (s.adminItem q 0x40 = some it → strobeCheck it.entry = .ok () → t.dbg.held = none →
      let t1 := t.strobe 1 0 (some (fieldAt it.entry 28 8)) none 0
      exec (.snapshotStrobe q) s = .next ((if byteBit it.entry 36 0 then t1.snapSend none 255 (fieldAt it.entry 28 8) else t1).adminEnd q it.slot
        .ok t.stamp).settle) ∧
    (∀ h, s.adminItem q 0x41 = some it → snapReadCheck it.entry = .ok () → t.dbg.held = some h →
      let part := (t.snapImage h).take (adCount it.entry)
      t.checkAt pfFn (adAddr it.entry) (adCount it.entry) = none → t.checkAt pfFn (adAddr it.entry) part.length = none →
      t.writeAt ((t.queueAt pfFn q).agent pfFn) (adAddr it.entry) part = (u, none) →
      exec (.snapshotRead q) s = .next (u.adminEnd q it.slot .ok (t.snapImage h).length).settle) ∧
    (∀ h, s.adminItem q 0x42 = some it → bareCheck .pf it.entry = .ok () → t.dbg.held = some h →
      exec (.snapshotRelease q) s = .next (t.snapFree.adminEnd q it.slot .ok 1).settle) ∧
    (∀ h, s.dbg.held = some h → h.trigger ≠ evDeviceFatal → exec .snapshotHoldExpiry s = .next s.snapFree) ∧
    (∀ ns, 100 ≤ ns → s.dev.auxPower = true → exec (.snapN ns) s = .next (s.strobe 3 0 none none 0))) ∧
  (∀ (s u : State) (q : Nat) (it : Item),
    let t := s.served pfFn q
    let e := it.entry
    let b := adBay e
    (s.adminItem q 0x43 = some it → traceCheck e = .ok () → 1 ≤ t.traceDomain (fieldAt e 28 1) →
      let es := lastN (adCount e) (t.traceOpen (fieldAt e 28 1))
      t.checkAt pfFn (adAddr e) (16 * adCount e) = none → t.checkAt pfFn (adAddr e) es.flatten.length = none →
      t.writeAt ((t.queueAt pfFn q).agent pfFn) (adAddr e) es.flatten = (u, none) →
      exec (.traceRead q) s = .next (u.adminEnd q it.slot .ok es.length).settle) ∧
    (s.adminItem q 0x44 = some it → bareCheck .bay e = .ok () → t.bayExists b = true → 3 ≤ (t.bayAt b).debugLevel → t.locked b = false →
      (t.bayAt b).halted = false →
      exec (.haltBay q) s = .next (((t.traceHalt b 3).setBay b { (t.traceHalt b 3).bayAt b with halted := true, stepLeft := 0 }).adminEnd q it.slot
        .ok 0).settle) ∧
    (s.adminItem q 0x45 = some it → stepCheck e = .ok () → t.bayExists b = true → 3 ≤ (t.bayAt b).debugLevel → t.locked b = false → (t.bayAt b).halted = true →
      exec (.stepBay q) s = .next ((t.setBay b { t.bayAt b with stepLeft := fieldAt e 28 4 }).adminEnd q it.slot .ok 0).settle) ∧
    (∀ bay, (s.bayAt bay).halted = true → (s.bayAt bay).stepLeft ≠ 0 →
      exec (.stepExpiry bay) s = .next (s.setBay bay { s.bayAt bay with stepLeft := 0 })) ∧
    (s.adminItem q 0x46 = some it → bareCheck .bay e = .ok () → t.bayExists b = true → 3 ≤ (t.bayAt b).debugLevel → t.locked b = false →
      (t.bayAt b).halted = true →
      exec (.resumeBay q) s = .next (((t.traceHalt b 4).setBay b { (t.traceHalt b 4).bayAt b with halted := false, stepLeft := 0 }).adminEnd q
        it.slot .ok 0).settle) ∧
    (s.adminItem q 0x47 = some it → debugCheck e = .ok () → s.addrWaits b (daAddr e) = false → t.bayExists b = true →
      (daWrite e && daAddr e / 2 ^ 60 == 3) = false → debugNeeds e ≤ (t.bayAt b).debugLevel → t.locked b = false →
      exec (.debugAccess q) s = .next (if daWrite e then t.debugWrite q it b else t.debugRead q it b).settle))

/-- Firmware is staged and activated. FW_STAGE writes its image to the slot that does not run, marks it valid and staged where it
verifies and is not below the floor, and is refused with reason 2 otherwise; FW_ACTIVATE begins its drain; the limit ends what
still runs; and the activation ends once nothing runs. That FW_STAGE of KIND 0 turns the boot selector at staging is the model's
reading (log entry 45). -/
def Obligations.FirmwareIsStagedAndActivated : Prop :=
  ∀ (s : State) (q : Nat) (it : Item),
    let t := s.served pfFn q
    let kind := fieldAt it.entry 28 1
    (∀ image, s.adminItem q 0x20 = some it → fwStageCheck it.entry = .ok () → t.sec.activation = none →
      t.readAt ((t.queueAt pfFn q).agent pfFn) (adAddr it.entry) (adCount it.entry) = .ok image →
      let k := t.drawn.fwAt kind
      let ver := Config.imageVersion image % 2 ^ 16
      let fits := Config.imageVerifies image && decide (t.drawn.versionFloor kind ≤ ver)
      let k1 := k.setSlot (1 - k.running) ⟨Config.sha384 image, ver, fits⟩
      let t1 := t.drawn.setFw kind (if fits = true ∧ kind = 0 then { k1 with selector := 1 - k.running } else k1)
      exec (.fwStage q) s = .next (if fits
        then ({ t1 with sec := { t1.sec with staged := tabSet t1.sec.staged kind (Config.sha384 image) } }).adminEnd q it.slot .ok ver
        else ({ t1 with sec := { t1.sec with staged := tabDel t1.sec.staged kind } }).refuse q it 2).settle) ∧
    (s.adminItem q 0x21 = some it → fwActivateCheck it.entry = .ok () → t.activateRefused kind = none →
      exec (.fwActivate q) s = .next (((t.updItem pfFn q it.slot (fun x => { x with st := .waiting })).activateStart kind
        (some (q, it.slot))).settle)) ∧
    (∀ k e, s.sec.activation = some (k, e, 1) → exec .drainLimitExpiry s = .next ((s.drainItems.foldl (fun (t : State) p => t.drainEnd p)
      { s with sec := { s.sec with activation := some (k, e, 2) } }).settle)) ∧
    (∀ k e stage pass, s.sec.activation = some (k, e, stage) → k = 2 ∨ s.drained = true →
      exec (.fwDrainComplete pass) s = .next (s.activateEnd k e pass))

/-- Device warm resets, module cold resets and boot take effect. A hot reset, an FLR of the PF, PERST and WARM_RESET begin a device warm
reset of an idle device, which takes effect after the records; MOD_RESET_N, COLD_RESET and the return of the input begin a module cold
reset, a MOD_RESET_N after a thermal trip waits until the device has cooled and a COLD_RESET over the sideband until an update ends;
power in range starts boot, boot completes, and a loss of auxiliary power shuts all off. The order is log entry 47. -/
def Obligations.ResetsOfTheDeviceRun : Prop :=
  (∀ (s : State) (q : Nat) (it : Item),
    let idle (t : State) : Prop := t.dev.mainOn = true ∧ t.dev.warmPending = false ∧ t.dev.ready = true ∧ t.dev.fatal = none
    let begins (t : State) : State := { t with dev := { t.dev with warmPending := true } }.endAll.settle
    (∀ side, idle s → exec (.hotReset side) s = .next (begins (if side then
        { s with dev := { s.dev with configAnswers := false } } else s)) ∧ exec .pfFlr s = .next (begins (s.pend 25)) ∧
      exec .perst s = .next (begins { s with dev := { s.dev with perst := true, configAnswers := false } })) ∧
    (let t := s.served pfFn q
     s.adminItem q 0x22 = some it → resetCheck it.entry = .ok () → s.updating = false → idle t →
      exec (.warmReset q) s = .next (begins t).settle) ∧
    (∀ pass, s.dev.warmPending = true → s.recordsDone = true → exec (.deviceWarmReset pass) s = .next (s.warmEffect pass)) ∧
    exec .perstDeasserted s = .next { s with dev := { s.dev with perst := false, configAnswers := s.power.on.contains 187 } }) ∧
  (∀ (s : State) (q : Nat) (it : Item),
    (s.dev.boot = .rails → s.dev.mainOn = false → s.dev.fatal = none → s.sec.recovery = false →
      exec .mainInputInRange s = .next ({ s with dev := { s.dev with mainInput := true } }.railsOn)) ∧
    (s.dev.fatal = some .shutdown → exec .mainInputReturn s = .next
      ({ s with dev := { s.dev with mainInput := true } }.coldStart 4 s.dev.sref)) ∧
    (∀ pulse, 10 ≤ pulse.us → s.dev.auxPower = true →
      let t := s.writeStops pulse.writing
      (t.dev.fatal = some .thermalTrip → t.belowEmergency = false →
        exec (.modResetN pulse) s = .next { t with dev := { t.dev with coldCause := some 2 } }) ∧
      (t.dev.fatal ≠ some .thermalTrip ∨ t.belowEmergency = true → exec (.modResetN pulse) s = .next (t.coldStart 2 pulse.sref))) ∧
    (let t := s.served pfFn q
     s.adminItem q 0x23 = some it → resetCheck it.entry = .ok () → s.updating = false →
      exec (.coldReset q none) s = .next (({ t with dev := { t.dev with coldCause := some 3, sideCold := false } }.endAll).settle).settle) ∧
    (∀ e, s.sideOpen = true → sideBare e = .ok () →
      (s.updating = true → exec (.coldReset q (some e)) s = .next { s.pend 200 with dev := { s.dev with sideCold := true } }) ∧
      (s.updating = false → s.dev.coldCause ≠ some 3 →
        exec (.coldReset q (some e)) s = .next ({ s.pend 200 with dev := { s.dev with coldCause := some 3, sideCold := false } }.endAll.settle))) ∧
    (∀ release, s.coldDue release.cause = true → exec (.moduleColdReset release) s = .next (s.coldStart release.cause release.sref)) ∧
    (s.dev.auxPower = true → exec .auxInputLoss s = .next s.auxLoss) ∧
    (∀ dead bad channels ms, s.dev.boot = .testing → s.dev.fatal = none →
      exec (.bootReady dead ⟨bad, channels⟩ ms) s = .next (s.bootReady dead bad channels ms)))

/-- BAY_RESET, CORE_RESET and LINK_RESET run, and functions come and go. The three reset entries whose fields and conditions hold
have their effect; FLRs, changes of NumVFs and configuration changes act on their functions and bays. -/
def Obligations.ResetEntriesAndFunctions : Prop :=
  (∀ (s : State) (q : Nat) (it : Item),
    let t := s.served pfFn q
    let b := adBay it.entry
    (s.adminItem q 0x24 = some it → bareCheck .bay it.entry = .ok () → t.bayExists b = true →
      exec (.bayReset q) s = .next (((t.updItem pfFn q it.slot (fun x => { x with st := .waiting, moved := (t.liveItems b).length })).bayReset b
        1).tail).settle) ∧
    (let c := t.coreOf b (fieldAt it.entry 28 1 * 56 + fieldAt it.entry 29 1)
     s.adminItem q 0x25 = some it → coreResetCheck it.entry = .ok () → t.bayExists b = true →
      fieldAt it.entry 28 1 < 6 * (t.bayAt b).count → fieldAt it.entry 29 1 ≤ 55 → woList ((t.coreAt c).queue ++ (t.coreAt c).tree) = [] →
      exec (.coreReset q) s = .next ((t.setCore c { t.coreAt c with pairs := [], pairFlaws := [] }).adminEnd q it.slot .ok 0).settle) ∧
    (s.adminItem q 0x26 = some it → linkResetCheck it.entry = .ok () →
      let p := fieldAt it.entry 28 1
      let u := t.portStops p
      exec (.linkReset q) s = .next (((u.setPort p { u.portAt p with limit := 16, peak := 0 }).startTraining p).adminEnd q it.slot .ok 0).settle)) ∧
  (∀ (s : State) (b n : Nat),
    (b < 12 → (s.fnAt b).exists_ = true → s.bayExists b = true → exec (.vfFlr b) s = .next ((s.pend 25).flrBay b false)) ∧
    (b < 12 → (s.fnAt b).exists_ = true → s.bayExists b = false → exec (.vfFlr b) s = .next ((s.pend 25).configReset b)) ∧
    (n < s.dev.numVfs → exec (.vfEnableCleared n) s = .next (((List.range 12).filter (fun c => decide (n ≤ c) && (s.fnAt c).exists_)).foldl
      (fun (t : State) c => t.vfVanishes c (n == 0)) ({ s with dev := { s.dev with numVfs := n, vfEnable := decide (0 < n) } }.pend 25))) ∧
    (s.dev.numVfs < n → n ≤ 12 → s.dev.mainOn = true → exec (.vfEnableSet n) s = .next (((List.range n).filter (fun c =>
      !(s.fnAt c).exists_)).foldl (fun (t : State) c => t.vfAppears c) ({ s with dev := { s.dev with numVfs := n, vfEnable := true } }.pend 25))) ∧
    (∀ bars mem master ats pasid msix fmask, b < 12 → (s.fnAt b).exists_ = true → s.dev.mainOn = true →
      let stop := s.locked b && (bars || mem != (s.fnAt b).memSpace || master != (s.fnAt b).busMaster)
      let s1 := if stop then (s.pend 25).securityStop b false else s
      exec (.vfConfigChange b bars mem master ats pasid msix fmask) s = .next (((s1.setFn b { s1.fnAt b with
        barGen := if bars then (s1.fnAt b).barGen + 1 else (s1.fnAt b).barGen, memSpace := mem, busMaster := master, ats := ats, pasidEnable := pasid, msixEnable := msix, functionMask := fmask }).msixFlush b).tail)))

/-- Lifetime records and the sideband run. LIFETIME_READ and SET_EPOCH act from a queue and over the sideband, a powered hour commits its
counters, ENTDAA answers the Provisioned ID, the endpoint ID takes effect, and PLDM discovery, sensors, the date and updates are
answered; that ActivateFirmware is answered at once is the model's reading (log entry 45). The bytes of answers and sensor numbers are
the model's (log entries 54 and 56). -/
def Obligations.LifetimeAndSidebandRun : Prop :=
  (∀ (s u : State) (q : Nat) (it : Item) (e : List Byte),
    let t := s.served pfFn q
    let bytes := t.lifeRecords it.entry
    (s.adminItem q 0x27 = some it → lifeReadCheck it.entry = .ok () → t.checkAt pfFn (adAddr it.entry) (64 * adCount it.entry) = none →
      t.checkAt pfFn (adAddr it.entry) bytes.length = none →
      t.writeAt ((t.queueAt pfFn q).agent pfFn) (adAddr it.entry) bytes = (u, none) →
      exec (.lifetimeRead q none) s = .next (u.adminEnd q it.slot .ok (bytes.length / 64)).settle) ∧
    (s.sideOpen = true → lifeSelect e = .ok () →
      exec (.lifetimeRead q (some e)) s = .next ((s.pend 200).sideRespond (natLE 1 0xF7 ++ natLE 1 0 ++ s.lifeRecords e))) ∧
    (s.adminItem q 0x28 = some it → epochCheck it.entry = .ok () → fieldAt it.entry 32 8 ≠ 0 →
      exec (.setEpoch q none) s = .next ((t.epochSet (fieldAt it.entry 32 8)).adminEnd q it.slot .ok 0).settle) ∧
    (s.sideOpen = true → epochOperands e = .ok () → fieldAt e 32 8 ≠ 0 →
      exec (.setEpoch q (some (.vendor e))) s = .next (((s.pend 200).epochSet (fieldAt e 32 8)).sideRespond (natLE 1 0xF8 ++ natLE 1 0))) ∧
    (∀ v, s.sideOpen = true →
      exec (.setEpoch q (some (.setDateTime v))) s = .next (((s.pend 200).epochSet v).sideRespond (natLE 1 0xF6 ++ natLE 1 0))) ∧
    (∀ tb sb, s.dev.auxPower = true → exec (.lifetimeCommit tb sb) s = .next (s.lifeCommit tb sb))) ∧
  (∀ (s : State),
    (∀ a, s.dev.auxPower = true → s.dev.boot ≠ .off → s.life.i3cAddress = none → a < 128 →
      exec (.entdaa a) s = .next (({ s.pend 200 with life := { s.life with i3cAddress := some a, hotJoin := false } }).drawn.respond
        ((natLE 6 provisionedId).reverse ++ Config.reply s.draws))) ∧
    (s.sideReached = true → s.sec.recovery = false → ∀ eid,
      exec (.setEndpointId eid) s = .next { s.pend 200 with life := { s.life with eid := some (eid % 256) } }) ∧
    (s.sideReached = true → ∀ c, exec (.pldmDiscovery c) s = .next ((s.pend 200).drawn.sideRespond (natLE 1 0xF0 ++ natLE 1 c ++ Config.reply s.draws))) ∧
    (s.sideOpen = true → ∀ n, n < 30 → exec (.pldmSensorRead n) s = .next ((s.pend 200).drawn.sideRespond
      (natLE 1 0xF2 ++ natLE 1 0 ++ natLE 1 n ++ natLE 4 (unsignedOf 32 (s.sensor n))))) ∧
    (s.sideReached = true → ∀ kind image, kind ≤ 3 → s.updating = false →
      let r := (s.pend 200).stageImage kind image
      exec (.pldmFirmwareUpdate kind image false) s = .next (r.1.sideRespond (natLE 1 0xF5 ++ natLE 1 (if r.2 then 0 else 2) ++ natLE 1 kind))) ∧
    (s.sideReached = true → ∀ kind image, 1 ≤ kind → kind ≤ 3 → (s.pend 200).activateRefused kind = none →
      exec (.pldmFirmwareUpdate kind image true) s = .next (((s.pend 200).activateStart kind none).sideRespond
        (natLE 1 0xF5 ++ natLE 1 0 ++ natLE 1 kind))))

/-- Slot boundaries and set-up writes act. A slot boundary moves the time, takes the next mode and releases what was held; a set-up
write, in a slot of its function, acts as its register says, and the queue, window and evidence commands are the writes of their
registers; outside its slot a write is held. That set-up writes wait for a slot at all and where a slot lies in shared mode are log entry
69, and the time of a boundary is log entry 9: both are the model's choice. -/
def Obligations.SlotsAndSetUpWritesAct : Prop :=
  ∀ (s : State) (fn off width value q : Nat), s.dev.fatal = none →
    let acts (f o w v : Nat) : Host.Outcome State Fault Refusal := .next ((s.setupWrite f o w v).settle)
    (let cyc := s.ridgeCycle
     let time := (s.time / 2000 + 1) * 2000
     let s1 := { s with
       time := time, dev := { s.dev with
         cycle := cyc, slotIx := s.slotPlace cyc time (s.dev.nextMode.getD s.dev.isolated), isolated := s.dev.nextMode.getD s.dev.isolated,
         nextMode := none } }
     exec .ridgeSlotBoundary s = .next (((List.range 12).foldl (fun (t : State) b => t.releaseHeld b) s1).settle).tail) ∧
    (s.barOpen fn = true → s.takesNow fn = true →
      exec (.setupRegisterWrite fn off width ⟨value, false⟩) s = acts fn off width value ∧
      (q < (if fn = pfFn then 4 else 64) →
        exec (.enableQueue fn q) s = acts fn (0x1000 + 0x40 * q + 0x1C) 4 1 ∧ exec (.disableQueue fn q) s = acts fn (0x1000 + 0x40 * q + 0x1C) 4 2 ∧
        exec (.restartQueue fn q) s = acts fn (0x1000 + 0x40 * q + 0x1C) 4 3) ∧
      (fn < 12 → q < 64 → ∀ inbound word,
        let o := if inbound then 0x4000 + 0x20 * q else 0x3000 + 0x10 * q
        exec (.windowOpen fn inbound q word) s = acts fn o 4 (word % 128 + 128 + word / 256 % 2 ^ 24 * 256) ∧
        exec (.windowClose fn inbound q word) s = acts fn o 4 (word % 128 + word / 256 % 2 ^ 24 * 256)) ∧
      (fn < 12 → exec (.evidenceGo fn) s = acts fn 0x703C 4 1)) ∧
    (s.barOpen fn = true → s.takesNow fn = false → exec (.setupRegisterWrite fn off width ⟨value, false⟩) s = .next (s.setHeld fn
      (s.heldAt fn ++ [.setup off width value])))

/-- Host completions, invalidations, rejected requests and IDE failures are taken. A read completion supplies bytes or a failure for its
range, a timeout a failure, an invalidation moves what running copies and copy streams have moved so far (log entry 33), refuses or
gives its range and answers, a request off a bound stream is rejected with its event, and a failed stream becomes Insecure and stops its
bays. Host memory is as in log entry 3. -/
def Obligations.HostLinkEventsAreTaken : Prop :=
  ∀ (s : State) (fn iova : Nat) (pasid : Option Nat) (data : List Byte),
    let key := hostKey fn pasid iova
    exec (.hostReadCompletion fn pasid iova 0 data) s = .next { s with host := { s.host with
      mem := hostLay s.host.mem key data, errs := errsOutside s.host.errs key data.length } } ∧
    (∀ status, status ≠ 0 → exec (.hostReadCompletion fn pasid iova status data) s = .next { s with host := { s.host with
      errs := errsOutside s.host.errs key data.length ++ [(key, data.length, status != 1)] } }) ∧
    (∀ len, exec (.completionTimeout fn pasid iova len) s = .next { s with host := { s.host with
      errs := errsOutside s.host.errs key len ++ [(key, len, false)] } }) ∧
    (∀ len, (s.fnAt fn).ats = true →
      let t := (s.copiesSoFar fn).streamsSoFar fn
      let rest := refusedOutside t.host.refused key len
      (∀ noRead noWrite, (noRead || noWrite) = true → exec (.atsInvalidation fn pasid iova len ⟨noRead, noWrite⟩) s = .next { t with
        host := { t.host with
          refused := rest ++ [Refused.mk key len noRead noWrite], invalidations := t.host.invalidations ++ [fn] } }) ∧
      exec (.atsInvalidation fn pasid iova len ⟨false, false⟩) s = .next { t with
        host := { t.host with refused := rest, invalidations := t.host.invalidations ++ [fn] } }) ∧
    (∀ b write, (s.bayAt b).tdi = .run → (s.fnAt b).memSpace = true → exec (.nonTeeRequest b write) s = .next
      ({ s with host := { s.host with unsupported := s.host.unsupported + 1 } }.raiseIn b ⟨0x50, 0, 0, 0, 0⟩)) ∧
    (∀ n, (s.ideAt n).secure = true →
      let s1 := ((s.pend (8 + n % 16)).setIde n { s.ideAt n with secure := false, keys := [], going := [] }).msix pfFn 0
      exec (.ideIntegrityFailure n) s = .next
        ((((List.range 12).filter (fun b => s.locked b && (s.bayAt b).boundStream == n)).foldl (fun (t : State) b => t.securityStop b false) s1).tail))

/-- SPDM connections negotiate, and certificates and measurements are answered. GET_VERSION, GET_CAPABILITIES, NEGOTIATE_ALGORITHMS
and KEY_EXCHANGE set what their connection has agreed; digests, certificates, challenges, measurements and SET_CERTIFICATE are
answered. That GET_VERSION starts the connection again and that a message in a session resets its misses is the model's reading (log
entry 57); the form of answers is the model's (log entry 54). -/
def Obligations.SpdmConnectionsAndAnswers : Prop :=
  (∀ (s : State) (side : Bool), s.spdmReached side = true → s.updating = false →
    let t := s.pend (if side then 200 else 24)
    let ans (u : State) : Host.Outcome State Fault Refusal := .next (s.announce u side)
    exec (.getVersion side) s = ans ((t.setConn side { versions := true }).respond (natLE 1 0x04 ++ natLE 1 2 ++ natLE 2 0x1200 ++ natLE 2 0x1300)) ∧
    (∀ version, (t.connAt side).versions = true → version = 0x12 ∨ version = 0x13 → exec (.getCapabilities side version) s = ans
      ((t.setConn side { t.connAt side with version := version }).respond (natLE 1 0x61 ++ natLE 1 version ++ natLE 1 18))) ∧
    (∀ asym hash dhe aead, (t.connAt side).version ≠ 0 →
      let sel (l : List Nat) (a : Nat) : List Byte := natLE 4 (if l.contains a then 2 ^ a else 0)
      let ok := asym.contains algAsym && hash.contains algHash
      exec (.negotiateAlgorithms side asym hash dhe aead) s = ans ((t.setConn side { t.connAt side with
        algs := ok, keyed := ok && dhe.contains algDhe && aead.contains algAead }).respond
          (natLE 1 0x63 ++ sel asym algAsym ++ sel hash algHash ++ sel dhe algDhe ++ sel aead algAead))) ∧
    (∀ certSlot share, s.sec.lifecycle ≠ 3 → (t.connAt side).keyed = true → (t.chainOf certSlot).isSome = true → t.spdm.sessions.length < 4 →
      let sid := t.spdm.nextSid + 1
      let x : Session := { sid := sid, established := false, misses := 0, subscribed := false, sideband := side, keyGen := 0, peer := none }
      exec (.keyExchange side certSlot share) s = ans ({ t with spdm := { t.spdm with sessions := t.spdm.sessions ++ [x], nextSid := sid }
        }.spdmSigned (natLE 1 0x64 ++ natLE 1 60 ++ natLE 2 sid ++ fixLen 96 (Config.reply t.draws)) share))) ∧
  (∀ (s t : State) (path : SpdmPath) (side : Bool), s.updating = false → s.sec.lifecycle ≠ 3 → s.spdmReached side = true →
    (path = (if side then SpdmPath.sideband else SpdmPath.doe) ∧ t = s.pend (if side then 200 else 24) ∧ (t.connAt side).algs = true) ∨
    (∃ sid x, path = .session sid ∧ side = s.sessionSide sid ∧ s.sessionAt sid = some x ∧ x.established = true ∧
      t = (s.pend (if side then 200 else 24)).setSession sid (fun y => { y with misses := 0 })) →
    let ans (u : State) : Host.Outcome State Fault Refusal := .next (s.announce u side)
    (exec (.getDigests path) s = ans (t.respond (natLE 1 0x01 ++ natLE 1 (if t.spdm.slot1.isSome then 3 else 1) ++
      ((List.range 2).filterMap t.chainOf).flatMap (fun c => natLE 48 (Config.sha384 c).toNat)))) ∧
    (∀ slot off len c, t.chainOf slot = some c → off < c.length → exec (.getCertificate path slot off len) s = ans (t.respond (natLE 1 0x02 ++
      natLE 1 slot ++ natLE 2 ((c.drop off).take (min len portionMax)).length ++
        natLE 2 (c.length - off - ((c.drop off).take (min len portionMax)).length) ++ (c.drop off).take (min len portionMax)))) ∧
    (∀ slot nonce c, t.chainOf slot = some c → exec (.challenge path slot nonce) s = ans (t.spdmSigned (natLE 1 0x03 ++ natLE 1 slot ++
      natLE 48 (Config.sha384 c).toNat) nonce)) ∧
    (∀ index nonce m, index ≠ 0 → index ≠ 255 → t.measurement index = some m →
      let body := natLE 1 0x60 ++ natLE 1 1 ++ natLE 3 (measBlock index m).length ++ measBlock index m
      exec (.getMeasurements path index true nonce) s = ans (t.spdmSigned body nonce) ∧
      exec (.getMeasurements path index false nonce) s = ans (t.respond body)) ∧
    (∀ nonce, exec (.getMeasurements path 0 false nonce) s = ans (t.respond (natLE 1 0x60 ++ natLE 1 t.measIndices.length ++ natLE 3 0))) ∧
    (∀ chain, chain.length ≤ portionMax → t.sec.certAuth = some (Config.sha384 chain) → exec (.setCertificate path 1 chain) s = ans
      ({ t with spdm := { t.spdm with slot1 := some chain }, sec := { t.sec with certAuth := none } }.respond (natLE 1 0x6E ++ natLE 1 1))))

/-- Requests inside SPDM sessions run, and IDE keys are loaded and switched. FINISH establishes a session whose requester's root is the
policy's anchor where it names one, or drops it; key updates, heartbeats, subscriptions and ends act on it, PSK requests are
unsupported, and missed heartbeats end it; KEY_PROG loads a key and K_SET_GO brings it into use. That a failed FINISH drops the
session and that messages reset the misses is log entry 57, and the conditions of KEY_PROG and K_SET_GO are log entry 58: both are the
model's reading. The form of answers is the model's (log entry 54). -/
def Obligations.SpdmSessionsAndIdeKeys : Prop :=
  (∀ (s : State) (sid : Nat) (x : Session), s.updating = false → s.sec.lifecycle ≠ 3 → s.sessionAt sid = some x → s.spdmReached x.sideband = true →
    let ans (u : State) : Host.Outcome State Fault Refusal := .next (s.announce u x.sideband)
    let t0 := s.pend (if x.sideband then 200 else 24)
    let t := t0.setSession sid (fun y => { y with misses := 0 })
    (∀ root, x.established = false →
      (t0.anchorOk root = true → exec (.spdmFinish sid ⟨true, root⟩) s = ans ((t0.setSession sid
        (fun y => { y with established := true, peer := root })).respond (natLE 1 0x65))) ∧
      (t0.anchorOk root = false → exec (.spdmFinish sid ⟨true, root⟩) s = ans ((t0.dropSession sid).spdmError 0x06)) ∧
      exec (.spdmFinish sid ⟨false, root⟩) s = ans ((t0.dropSession sid).spdmError 0x06)) ∧
    (x.established = true →
      exec (.keyUpdate sid) s = ans ((t.setSession sid (fun y => { y with keyGen := y.keyGen + 1 })).respond (natLE 1 0x69)) ∧
      exec (.heartbeat sid) s = ans (t.respond (natLE 1 0x68)) ∧
      exec (.endSession sid) s = ans ((t.dropSession sid).respond (natLE 1 0x6C)) ∧
      (∀ sub, (t.connAt (t.sessionSide sid)).version = 0x13 → exec (.subscribeEventTypes sid sub) s = ans ((t.setSession sid (fun y =>
        { y with subscribed := sub })).respond (natLE 1 0x70)))) ∧
    exec (.pskExchange x.sideband) s = ans (t0.spdmError 0x07) ∧ exec (.pskFinish x.sideband) s = ans (t0.spdmError 0x07) ∧
    (1 ≤ x.misses → exec (.sessionHeartbeatExpiry sid) s = .next ((s.pend 241).dropSession sid)) ∧
    (x.misses = 0 → exec (.sessionHeartbeatExpiry sid) s = .next ((s.pend 241).setSession sid (fun y => { y with misses := y.misses + 1 })))) ∧
  (∀ (s : State) (sid stream keySet sub dir : Nat) (x : Session), s.updating = false → s.sec.lifecycle ≠ 3 → s.sessionAt sid = some x →
    s.spdmReached x.sideband = true → x.established = true → stream < 16 → keySet < 2 → sub < 3 → dir < 2 →
    let ans (u : State) : Host.Outcome State Fault Refusal := .next (s.announce u x.sideband)
    let t := (s.pend (if x.sideband then 200 else 24)).setSession sid (fun y => { y with misses := 0 })
    let k := keySet * 6 + sub * 2 + dir
    (∀ rid addrs, addrs.length ≤ 4 → (s.ideAt stream).going.contains k = false → exec (.keyProg sid stream keySet sub dir ⟨rid, addrs⟩) s = ans ((t.setIde
      stream { t.ideAt stream with keys := setIns (t.ideAt stream).keys k, rid := rid, addrs := addrs }).respond (ideAnswer 3 stream 0))) ∧
    ((s.ideAt stream).keys.contains k = true → exec (.kSetGo sid stream keySet sub dir) s = ans ((t.setIde stream
      ((t.ideAt stream).switch k)).respond (ideAnswer 6 stream 0))))

/-- TDISP requests run. Inside an established session, for a virtual function whose bay exists, each TDISP request answers or changes the
state of the interface: LOCK begins the scrub, START with the nonce moves to RUN, STOP begins the stop, and the report is given in
portions. That STOP in CONFIG_UNLOCKED answers at once is log entry 58 and that each request resets the session's misses is log entry
57: both are the model's reading. The form of answers is the model's (log entry 54). -/
def Obligations.TdispRequestsRun : Prop :=
  ∀ (s : State) (sid b : Nat) (x : Session), s.updating = false → s.sec.lifecycle ≠ 3 → s.sessionAt sid = some x → s.spdmReached x.sideband = true →
    x.established = true → s.bayExists b = true → (s.fnAt b).exists_ = true →
    let ans (u : State) : Host.Outcome State Fault Refusal := .next (s.announce u x.sideband)
    let t := (s.pend (if x.sideband then 200 else 24)).setSession sid (fun y => { y with misses := 0 })
    exec (.getTdispVersion sid b) s = ans (t.respond (tdispDone 0x01 b 0 (natLE 1 1 ++ natLE 1 0x10))) ∧
    exec (.getTdispCapabilities sid b) s = ans (t.respond (tdispDone 0x02 b 0 (natLE 2 0xFE))) ∧
    (∀ stream, t.lockable b stream = true → exec (.lockInterface sid b stream) s = ans
      ((t.setBay b { t.bayAt b with boundStream := stream }).startScrub b 4 (t.bayAt b).strips)) ∧
    (∀ off len, t.locked b = true → off < (t.fullReport b).length → exec (.getInterfaceReport sid b off len) s = ans (t.respond (tdispDone 0x04 b 0
      (let part := ((t.fullReport b).drop off).take (min len portionMax)
       natLE 2 part.length ++ natLE 2 ((t.fullReport b).length - off - part.length) ++ part)))) ∧
    exec (.getInterfaceState sid b) s = ans (t.respond (tdispDone 0x05 b 0 (natLE 1 (tdiCode (t.bayAt b).tdi)))) ∧
    (∀ nonce, (t.bayAt b).tdi = .locked → t.bayBusy b = false → (t.bayAt b).lockNonce = nonce →
      exec (.startInterface sid b nonce) s = ans ((t.setTdi b .run).respond (tdispDone 0x06 b 0 []))) ∧
    ((t.bayAt b).tdi ≠ .unlocked → t.bayBusy b = false → exec (.stopInterface sid b) s = ans (t.securityStop b true).tail) ∧
    ((t.bayAt b).tdi = .unlocked → t.bayBusy b = false → exec (.stopInterface sid b) s = ans (t.respond (tdispDone 0x07 b 0 [])))

/-- The frame of engine and transfer commands. For each command named, whatever its operands and the state, what the next state
keeps of the state before: the parts of the machine that the command does not write are unchanged. Each group lists its commands
and the parts. -/
def Obligations.EnginesAndTransfersChangeOnlyTheirParts : Prop :=
  ∀ (i : Instr) (s t : State), exec i s = .next t → match i with
    | .matrixWorkOrder _ | .fusedChain _ | .sparProgram _ | .softmax _ | .partialState _ | .mergeStates _ | .applyState _
    | .layerNorm _ | .rmsNorm _ | .routerSelect _ | .routerAdmit _ | .routerCombine _ | .exitTest _
    | .remoteScratchpadAccess _ _ _ _ _ | .attend _ | .pageCopy _ =>
      t.time = s.time ∧ t.dev = s.dev ∧ t.sec = s.sec ∧ t.spdm = s.spdm ∧ t.bays = s.bays ∧ t.ports = s.ports ∧ t.fabric = s.fabric ∧
        t.power = s.power ∧ t.reports = s.reports ∧ t.notices = s.notices ∧ t.valley = s.valley
    | .dmaCopy _ _ _ _ | .dmaGather _ _ _ _ | .dmaScatter _ _ _ _ | .dmaFill _ _ _ _ =>
      t.time = s.time ∧ t.dev = s.dev ∧ t.sec = s.sec ∧ t.spdm = s.spdm ∧ t.bays = s.bays ∧ t.fabric = s.fabric ∧ t.power = s.power ∧
        t.reports = s.reports ∧ t.notices = s.notices ∧ t.valley = s.valley
    | .arrivalSignal _ _ _ _ =>
      t = { s with cores := t.cores }
    | .valleyDispatch _ _ _ | .valleyReturn _ _ _ =>
      t.time = s.time ∧ t.dev = s.dev ∧ t.sec = s.sec ∧ t.spdm = s.spdm ∧ t.bays = s.bays ∧ t.fabric = s.fabric ∧ t.power = s.power ∧
        t.spadMem = s.spadMem ∧ t.reports = s.reports ∧ t.notices = s.notices ∧ t.itemStale = s.itemStale
    | .valleySegment _ | .valleyDone _ =>
      t.time = s.time ∧ t.dev = s.dev ∧ t.sec = s.sec ∧ t.spdm = s.spdm ∧ t.fabric = s.fabric ∧ t.power = s.power ∧
        t.reports = s.reports ∧ t.notices = s.notices
    | .eavePartialReturn _ =>
      t = { s with cores := t.cores, stackTab := t.stackTab }
    | _ => True

/-- The frame of queue and core commands. For each command named, whatever its operands and the state, what the next state keeps of
the state before: the parts of the machine that the command does not write are unchanged. Each group lists its commands and the
parts. -/
def Obligations.QueueAndCoreCommandsChangeOnlyTheirParts : Prop :=
  ∀ (i : Instr) (s t : State), exec i s = .next t → match i with
    | .sqTailDoorbell _ _ _ _ | .cqHeadDoorbell _ _ _ _ | .fenceWindowWrite _ _ _ _ | .waitTimeout _ _ _ _ =>
      t.time = s.time ∧ t.dev = s.dev ∧ t.spdm = s.spdm ∧ t.cores = s.cores ∧ t.fabric = s.fabric ∧ t.power = s.power ∧
        t.reports = s.reports ∧ t.valley = s.valley ∧ t.itemStale = s.itemStale
    | .entryFetch _ _ =>
      t.time = s.time ∧ t.spdm = s.spdm ∧ t.fabric = s.fabric ∧ t.power = s.power ∧ t.reports = s.reports ∧ t.notices = s.notices ∧
        t.valley = s.valley ∧ t.itemStale = s.itemStale
    | .launch _ _ | .copyStart _ _ | .fenceSignal _ _ | .barrierStart _ _ | .readRetained _ | .queueState _ =>
      t.time = s.time ∧ t.spdm = s.spdm ∧ t.cores = s.cores ∧ t.fabric = s.fabric ∧ t.power = s.power ∧ t.reports = s.reports ∧
        t.notices = s.notices ∧ t.valley = s.valley ∧ t.itemStale = s.itemStale
    | .launchReadsComplete _ _ _ =>
      t.time = s.time ∧ t.dev = s.dev ∧ t.spdm = s.spdm ∧ t.fabric = s.fabric ∧ t.power = s.power ∧ t.reports = s.reports ∧
        t.notices = s.notices ∧ t.valley = s.valley ∧ t.itemStale = s.itemStale
    | .courseNodeRead _ _ _ | .nodeDispatch _ _ _ _ | .syncReport _ =>
      t.time = s.time ∧ t.dev = s.dev ∧ t.spdm = s.spdm ∧ t.fabric = s.fabric ∧ t.power = s.power ∧ t.reports = s.reports ∧
        t.valley = s.valley ∧ t.itemStale = s.itemStale
    | .workOrderArrive _ _ =>
      t = { s with cores := t.cores, stackTab := t.stackTab, dbg := t.dbg, reports := t.reports, draws := t.draws }
    | .workOrderStart _ =>
      t = { s with cores := t.cores, dbg := t.dbg, reports := t.reports, draws := t.draws }
    | .workOrderComplete _ _ _ _ | .counterWaitTimeout _ =>
      t.time = s.time ∧ t.dev = s.dev ∧ t.sec = s.sec ∧ t.spdm = s.spdm ∧ t.bays = s.bays ∧ t.ports = s.ports ∧ t.fabric = s.fabric ∧
        t.power = s.power ∧ t.notices = s.notices ∧ t.valley = s.valley ∧ t.itemStale = s.itemStale
    | .workOrderReport _ =>
      t.time = s.time ∧ t.dev = s.dev ∧ t.spdm = s.spdm ∧ t.cores = s.cores ∧ t.fabric = s.fabric ∧ t.power = s.power ∧
        t.valley = s.valley ∧ t.itemStale = s.itemStale
    | .endNotice _ =>
      t.time = s.time ∧ t.dev = s.dev ∧ t.sec = s.sec ∧ t.spdm = s.spdm ∧ t.fabric = s.fabric ∧ t.power = s.power ∧
        t.valley = s.valley ∧ t.itemStale = s.itemStale
    | .syncArrive _ =>
      t = { s with cores := t.cores }
    | .syncRelease _ _ _ _ =>
      t.time = s.time ∧ t.dev = s.dev ∧ t.spdm = s.spdm ∧ t.fabric = s.fabric ∧ t.power = s.power ∧ t.notices = s.notices ∧
        t.valley = s.valley ∧ t.itemStale = s.itemStale
    | .copyComplete _ _ _ =>
      t.time = s.time ∧ t.dev = s.dev ∧ t.spdm = s.spdm ∧ t.fabric = s.fabric ∧ t.power = s.power ∧ t.reports = s.reports ∧
        t.notices = s.notices ∧ t.valley = s.valley
    | .fenceWait _ _ | .cancelStart _ _ | .resetQueue _ =>
      t.time = s.time ∧ t.spdm = s.spdm ∧ t.cores = s.cores ∧ t.fabric = s.fabric ∧ t.power = s.power ∧ t.reports = s.reports ∧
        t.valley = s.valley ∧ t.itemStale = s.itemStale
    | .completionPathLost _ _ =>
      t.time = s.time ∧ t.dev = s.dev ∧ t.spdm = s.spdm ∧ t.cores = s.cores ∧ t.fabric = s.fabric ∧ t.power = s.power ∧
        t.reports = s.reports ∧ t.notices = s.notices ∧ t.valley = s.valley ∧ t.itemStale = s.itemStale
    | _ => True

/-- The frame of fabric and collective commands. For each command named, whatever its operands and the state, what the next state
keeps of the state before: the parts of the machine that the command does not write are unchanged. Each group lists its commands
and the parts. -/
def Obligations.FabricAndCollectiveCommandsChangeOnlyTheirParts : Prop :=
  ∀ (i : Instr) (s t : State), exec i s = .next t → match i with
    | .portTraining _ _ _ _ _ _ _ _ | .portHoldExpiry _ | .enumMessage _ | .topologyMessage _ | .rootTakeover | .portRetrained _ _ =>
      t.time = s.time ∧ t.dev = s.dev ∧ t.sec = s.sec ∧ t.spdm = s.spdm ∧ t.power = s.power ∧ t.notices = s.notices ∧
        t.valley = s.valley ∧ t.itemStale = s.itemStale
    | .trainingRetry _ =>
      t = { s with ports := t.ports, ictl := t.ictl }
    | .laneMarginal _ _ | .laneLost _ _ | .dataFlit _ _ _ | .nakFlit _ _ _ | .replayTimeout _ | .farForward _ _ =>
      t = { s with
        fns := t.fns, stackTab := t.stackTab, ports := t.ports, dbg := t.dbg, life := t.life, ictl := t.ictl,
        host := t.host, stackMem := t.stackMem, draws := t.draws, slotWork := t.slotWork }
    | .idleFlit _ _ _ =>
      t = { s with ports := t.ports }
    | .farWrite _ | .farRead _ | .farAtomicAdd _ | .farValley _ =>
      t.time = s.time ∧ t.dev = s.dev ∧ t.spdm = s.spdm ∧ t.fabric = s.fabric ∧ t.power = s.power ∧ t.reports = s.reports
    | .farWriteAck _ | .farReadData _ | .farAtomicAck _ | .farValleyAck _ | .allReduce _ _ | .reduceScatter _ _ | .allGather _ _
    | .allToAll _ _ | .broadcast _ _ | .remoteAdd _ _ | .collGrant _ | .collData _ | .collAbort _ | .frameReduce _ _ _ =>
      t.time = s.time ∧ t.dev = s.dev ∧ t.sec = s.sec ∧ t.spdm = s.spdm ∧ t.fabric = s.fabric ∧ t.power = s.power ∧
        t.notices = s.notices ∧ t.valley = s.valley
    | .responseTimeout _ _ =>
      t.time = s.time ∧ t.dev = s.dev ∧ t.sec = s.sec ∧ t.spdm = s.spdm ∧ t.fabric = s.fabric ∧ t.power = s.power ∧
        t.notices = s.notices ∧ t.valley = s.valley ∧ t.itemStale = s.itemStale
    | .snapshotMessage _ =>
      t = { s with ports := t.ports, dbg := t.dbg, ictl := t.ictl, draws := t.draws }
    | .collectiveTimeout _ _ _ =>
      t.time = s.time ∧ t.dev = s.dev ∧ t.sec = s.sec ∧ t.spdm = s.spdm ∧ t.cores = s.cores ∧ t.fabric = s.fabric ∧
        t.power = s.power ∧ t.notices = s.notices ∧ t.valley = s.valley ∧ t.itemStale = s.itemStale
    | .frefLost _ =>
      t.time = s.time ∧ t.sec = s.sec ∧ t.spdm = s.spdm ∧ t.power = s.power ∧ t.notices = s.notices ∧ t.valley = s.valley ∧
        t.itemStale = s.itemStale
    | _ => True

/-- The frame of management commands. For each command named, whatever its operands and the state, what the next state keeps of the
state before: the parts of the machine that the command does not write are unchanged. Each group lists its commands and the parts.
-/
def Obligations.ManagementCommandsChangeOnlyTheirParts : Prop :=
  ∀ (i : Instr) (s t : State), exec i s = .next t → match i with
    | .approvalNonce _ | .bayMap _ | .fwStage _ | .lifetimeRead _ _ | .setEpoch _ _ | .columnState _ | .plannedSlip _
    | .restoreStrip _ | .restoreQuiesceTimeout | .readErrors _ | .snapshotStrobe _ | .snapshotRead _ | .snapshotRelease _
    | .traceRead _ | .haltBay _ | .stepBay _ | .resumeBay _ =>
      t.time = s.time ∧ t.spdm = s.spdm ∧ t.cores = s.cores ∧ t.fabric = s.fabric ∧ t.power = s.power ∧ t.reports = s.reports ∧
        t.notices = s.notices ∧ t.valley = s.valley ∧ t.itemStale = s.itemStale
    | .nonceExpiry =>
      t = { s with sec := t.sec, ictl := t.ictl }
    | .bayCreate _ | .bayResize _ | .bayDestroy _ | .setMode _ | .releaseLock _ | .setDebug _ | .setPolicy _ | .lifecycleChange _
    | .keySlot _ | .fuseWrite _ | .certificate _ | .bayScrubDone _ | .bayReset _ | .retireStrip _ =>
      t.time = s.time ∧ t.spdm = s.spdm ∧ t.fabric = s.fabric
    | .certificateExpiry =>
      t = { s with sec := t.sec }
    | .ridgeSlotBoundary =>
      t.spdm = s.spdm
    | .evidenceGo _ | .enableQueue _ _ | .disableQueue _ _ | .restartQueue _ _ | .windowOpen _ _ _ _ | .windowClose _ _ _ _
    | .setupRegisterWrite _ _ _ _ =>
      t.time = s.time ∧ t.spdm = s.spdm ∧ t.valley = s.valley ∧ t.itemStale = s.itemStale
    | .fwActivate _ | .warmReset _ | .coldReset _ _ =>
      t.time = s.time ∧ t.spdm = s.spdm ∧ t.fabric = s.fabric ∧ t.power = s.power
    | .drainLimitExpiry =>
      t.time = s.time ∧ t.dev = s.dev ∧ t.spdm = s.spdm ∧ t.fabric = s.fabric ∧ t.power = s.power ∧ t.valley = s.valley ∧
        t.itemStale = s.itemStale
    | .fwDrainComplete _ =>
      t.time = s.time ∧ t.fabric = s.fabric
    | .coreReset _ | .debugAccess _ =>
      t.time = s.time ∧ t.spdm = s.spdm ∧ t.fabric = s.fabric ∧ t.power = s.power ∧ t.reports = s.reports ∧ t.notices = s.notices ∧
        t.valley = s.valley ∧ t.itemStale = s.itemStale
    | .linkReset _ =>
      t.time = s.time ∧ t.spdm = s.spdm ∧ t.power = s.power ∧ t.notices = s.notices ∧ t.valley = s.valley ∧ t.itemStale = s.itemStale
    | .rehang _ =>
      t.time = s.time ∧ t.spdm = s.spdm ∧ t.cores = s.cores ∧ t.fabric = s.fabric ∧ t.reports = s.reports ∧ t.notices = s.notices ∧
        t.valley = s.valley ∧ t.itemStale = s.itemStale
    | .rehangCheckDone _ _ _ =>
      t.time = s.time ∧ t.dev = s.dev ∧ t.spdm = s.spdm ∧ t.cores = s.cores ∧ t.fabric = s.fabric ∧ t.reports = s.reports ∧
        t.notices = s.notices ∧ t.valley = s.valley ∧ t.itemStale = s.itemStale
    | .plannedSlipWaitExpiry _ =>
      t = { s with repairs := t.repairs }
    | .restoreQuiesce =>
      t = { s with dev := t.dev, power := t.power }
    | .snapshotHoldExpiry =>
      t = { s with dbg := t.dbg }
    | .snapN _ =>
      t = { s with dbg := t.dbg, draws := t.draws }
    | .stepExpiry _ =>
      t = { s with bays := t.bays }
    | _ => True

/-- The frame of fault and power events. For each command named, whatever its operands and the state, what the next state keeps of
the state before: the parts of the machine that the command does not write are unchanged. Each group lists its commands and the
parts. -/
def Obligations.FaultAndPowerEventsChangeOnlyTheirParts : Prop :=
  ∀ (i : Instr) (s t : State), exec i s = .next t → match i with
    | .tileSelfCheckFailure _ _ | .tileHeartbeat _ _ _ | .slipMeshDrained _ | .spareCheckDone _ _ _ | .slipMigrationDone _ _
    | .stackControllerFailure _ _ | .deviceFatal _ | .mainInputShutdown _ | .temperatureSample _ _ _ =>
      t.time = s.time ∧ t.spdm = s.spdm ∧ t.fabric = s.fabric
    | .slipRepair _ =>
      t = { s with repairs := t.repairs }
    | .spareFullCheck _ =>
      t = { s with tiles := t.tiles }
    | .eaveEngineFailure _ =>
      t.time = s.time ∧ t.sec = s.sec ∧ t.spdm = s.spdm ∧ t.ports = s.ports ∧ t.fabric = s.fabric ∧ t.power = s.power ∧
        t.notices = s.notices ∧ t.valley = s.valley
    | .patrolScrubLine _ _ _ _ | .rowRepairDone _ _ =>
      t = { s with
        fns := t.fns, stackTab := t.stackTab, dbg := t.dbg, life := t.life, ictl := t.ictl, host := t.host,
        stackMem := t.stackMem, draws := t.draws, slotWork := t.slotWork }
    | .refresh _ _ _ | .rowRepair _ =>
      t = { s with stackTab := t.stackTab }
    | .memoryHealthRecord _ | .linkHealthRecord _ =>
      t = { s with
        fns := t.fns, tiles := t.tiles, columns := t.columns, stackTab := t.stackTab, dbg := t.dbg, life := t.life,
        ictl := t.ictl, host := t.host, stackMem := t.stackMem, spadMem := t.spadMem, spadPoison := t.spadPoison,
        spadFlaws := t.spadFlaws, repairs := t.repairs, draws := t.draws, slotWork := t.slotWork }
    | .powerRecord _ =>
      t.time = s.time ∧ t.dev = s.dev ∧ t.sec = s.sec ∧ t.spdm = s.spdm ∧ t.cores = s.cores ∧ t.ports = s.ports ∧
        t.fabric = s.fabric ∧ t.reports = s.reports ∧ t.notices = s.notices ∧ t.valley = s.valley ∧ t.itemStale = s.itemStale
    | .capTick _ _ _ =>
      t = { s with
        fns := t.fns, bays := t.bays, stackTab := t.stackTab, power := t.power, dbg := t.dbg, life := t.life,
        ictl := t.ictl, host := t.host, stackMem := t.stackMem, draws := t.draws, slotWork := t.slotWork }
    | .aclkStepSettle _ =>
      t = { s with bays := t.bays }
    | .powerEmergency _ =>
      t = { s with
        dev := t.dev, fns := t.fns, bays := t.bays, stackTab := t.stackTab, power := t.power, dbg := t.dbg, life := t.life,
        ictl := t.ictl, host := t.host, stackMem := t.stackMem, draws := t.draws, slotWork := t.slotWork }
    | .emergencyRelease =>
      t = { s with dev := t.dev, bays := t.bays, power := t.power }
    | .auxInputLoss =>
      t = { s with dev := t.dev, ports := t.ports, power := t.power, life := t.life, draws := t.draws }
    | .droopTrip _ _ _ =>
      t = { s with bays := t.bays, power := t.power }
    | .ageingMeasurement _ =>
      t = { s with power := t.power, life := t.life, ictl := t.ictl }
    | .domainGate _ =>
      t = { s with power := t.power }
    | .domainWake _ =>
      t.time = s.time ∧ t.dev = s.dev ∧ t.sec = s.sec ∧ t.spdm = s.spdm ∧ t.cores = s.cores ∧ t.ports = s.ports ∧
        t.fabric = s.fabric ∧ t.notices = s.notices ∧ t.valley = s.valley ∧ t.itemStale = s.itemStale
    | .regulatorFault _ =>
      t.time = s.time ∧ t.spdm = s.spdm
    | _ => True

/-- The frame of reset, host and session commands. For each command named, whatever its operands and the state, what the next state
keeps of the state before: the parts of the machine that the command does not write are unchanged. Each group lists its commands
and the parts. -/
def Obligations.ResetHostAndSessionCommandsChangeOnlyTheirParts : Prop :=
  ∀ (i : Instr) (s t : State), exec i s = .next t → match i with
    | .interruptDelivery _ | .ictlDone _ | .ictlSoftSet _ | .ictlSrcWrite _ _ | .ictlMaskWrite _ _ | .waitInstruction _ | .waitWake _ =>
      t = { s with ictl := t.ictl }
    | .msixUnmask _ _ | .vfFlr _ | .vfEnableCleared _ | .vfConfigChange _ _ _ _ _ _ _ _ | .deviceWarmReset _ =>
      t.time = s.time ∧ t.spdm = s.spdm ∧ t.fabric = s.fabric
    | .pfFlr | .perst | .hotReset _ | .pldmFirmwareUpdate _ _ _ =>
      t.time = s.time ∧ t.spdm = s.spdm ∧ t.fabric = s.fabric ∧ t.power = s.power
    | .bootReady _ _ _ =>
      t = { s with
        dev := t.dev, fns := t.fns, columns := t.columns, stackTab := t.stackTab, power := t.power, dbg := t.dbg,
        life := t.life, ictl := t.ictl, host := t.host, stackMem := t.stackMem, draws := t.draws, slotWork := t.slotWork }
    | .hostReadCompletion _ _ _ _ _ | .completionTimeout _ _ _ _ =>
      t = { s with host := t.host }
    | .atsInvalidation _ _ _ _ _ =>
      t.time = s.time ∧ t.dev = s.dev ∧ t.sec = s.sec ∧ t.spdm = s.spdm ∧ t.bays = s.bays ∧ t.fabric = s.fabric ∧ t.power = s.power ∧
        t.reports = s.reports ∧ t.notices = s.notices ∧ t.valley = s.valley
    | .nonTeeRequest _ _ =>
      t = { s with
        fns := t.fns, stackTab := t.stackTab, dbg := t.dbg, life := t.life, ictl := t.ictl, host := t.host,
        stackMem := t.stackMem, draws := t.draws, slotWork := t.slotWork }
    | .ideIntegrityFailure _ | .stopInterface _ _ =>
      t.time = s.time ∧ t.fabric = s.fabric
    | .getVersion _ | .getCapabilities _ _ | .negotiateAlgorithms _ _ _ _ _ | .getDigests _ | .getCertificate _ _ _ _
    | .spdmFinish _ _ | .keyUpdate _ | .heartbeat _ | .endSession _ | .subscribeEventTypes _ _ | .keyProg _ _ _ _ _ _
    | .kSetGo _ _ _ _ _ | .getTdispVersion _ _ | .getTdispCapabilities _ _ | .getInterfaceReport _ _ _ _ | .getInterfaceState _ _ =>
      t = { s with spdm := t.spdm, life := t.life, ictl := t.ictl, host := t.host }
    | .challenge _ _ _ | .getMeasurements _ _ _ _ | .keyExchange _ _ _ =>
      t = { s with spdm := t.spdm, life := t.life, ictl := t.ictl, host := t.host, draws := t.draws }
    | .sessionHeartbeatExpiry _ =>
      t = { s with spdm := t.spdm, ictl := t.ictl }
    | .setCertificate _ _ _ =>
      t = { s with sec := t.sec, spdm := t.spdm, life := t.life, ictl := t.ictl, host := t.host }
    | .pskExchange _ | .pskFinish _ =>
      t = { s with life := t.life, ictl := t.ictl, host := t.host }
    | .lockInterface _ _ _ =>
      t = { s with spdm := t.spdm, bays := t.bays, power := t.power, life := t.life, ictl := t.ictl, host := t.host }
    | .startInterface _ _ _ =>
      t = { s with
        spdm := t.spdm, fns := t.fns, bays := t.bays, life := t.life, ictl := t.ictl, host := t.host,
        slotWork := t.slotWork }
    | .entdaa _ | .pldmDiscovery _ | .pldmSensorRead _ =>
      t = { s with life := t.life, ictl := t.ictl, host := t.host, draws := t.draws }
    | .setEndpointId _ =>
      t = { s with life := t.life, ictl := t.ictl }
    | .lifetimeCommit _ _ =>
      t = { s with life := t.life }
    | .vfEnableSet _ =>
      t = { s with dev := t.dev, fns := t.fns, bays := t.bays, ictl := t.ictl }
    | .perstDeasserted =>
      t = { s with dev := t.dev }
    | .mainInputInRange =>
      t = { s with dev := t.dev, ports := t.ports, power := t.power, ictl := t.ictl }
    | _ => True
end

