-- ==== Sys2Proof/Laws/Tables.lean ====
section
/-! SUPPORT. Laws of the tables and sets of Store.lean: what a read gives after an update. -/

namespace Sys2Proof.Machine

variable {V : Type}

/-- The key set reads as the value set. -/
@[simp] theorem tabGet_set (m : List (Nat × V)) (k : Nat) (v d : V) : tabGet (tabSet m k v) k d = v := by
  induction m with
  | nil => simp [tabSet, tabGet]
  | cons e m ih =>
    obtain ⟨j, w⟩ := e
    simp only [tabSet]
    split
    · simp [tabGet]
    · split
      · simp [tabGet]
      · simp [tabGet, *]

/-- Every other key reads as before. -/
theorem tabGet_set_ne (m : List (Nat × V)) (k : Nat) (v d : V) (j : Nat) (h : j ≠ k) :
    tabGet (tabSet m k v) j d = tabGet m j d := by
  induction m with
  | nil => simp [tabSet, tabGet, Ne.symm h]
  | cons e m ih =>
    obtain ⟨i, w⟩ := e
    simp only [tabSet]
    split
    · next hi => subst hi; simp [tabGet, Ne.symm h]
    · split
      · simp [tabGet, Ne.symm h]
      · simp [tabGet, ih]

/-- A read after an update, by cases on the key. -/
theorem tabGet_set_eq (m : List (Nat × V)) (k : Nat) (v d : V) (j : Nat) :
    tabGet (tabSet m k v) j d = if j = k then v else tabGet m j d := by
  split
  · next h => rw [h, tabGet_set]
  · next h => rw [tabGet_set_ne _ _ _ _ _ h]

/-- An inserted element is in the set. -/
@[simp] theorem mem_setIns (l : List Nat) (k a : Nat) : a ∈ setIns l k ↔ a = k ∨ a ∈ l := by
  induction l with
  | nil => simp [setIns]
  | cons j l ih =>
    simp only [setIns]
    split
    · next h => subst h; simp
    · split
      · simp
      · simp [ih]; constructor <;> (rintro (h | h | h) <;> simp [h])

/-- A removed element is not in the set. -/
@[simp] theorem mem_setDel (l : List Nat) (k a : Nat) : a ∈ setDel l k ↔ a ∈ l ∧ a ≠ k := by
  simp [setDel]

/-- The length of a number as bytes, and of a string cut or filled. -/
@[simp] theorem natLE_length (n v : Nat) : (natLE n v).length = n := by
  induction n generalizing v with
  | zero => rfl
  | succ n ih => simp [natLE, ih]

@[simp] theorem fixLen_length (n : Nat) (bs : List Byte) : (bytesAt bs 0 n).length = n := by
  simp [bytesAt] <;> omega

end Sys2Proof.Machine
end

