-- ==== Sys2Proof/Laws/State.lean ====
section
/-! SUPPORT. What each update of State does to each field: its own field, and that every other field stays; and what the
reads of State give after an update. -/

namespace Sys2Proof.Machine

variable (s : State)

/- setFn -/

@[simp] theorem State.setFn_time (fn : Nat) (v : FnState) : (s.setFn fn v).time = s.time := rfl
@[simp] theorem State.setFn_dev (fn : Nat) (v : FnState) : (s.setFn fn v).dev = s.dev := rfl
@[simp] theorem State.setFn_sec (fn : Nat) (v : FnState) : (s.setFn fn v).sec = s.sec := rfl
@[simp] theorem State.setFn_spdm (fn : Nat) (v : FnState) : (s.setFn fn v).spdm = s.spdm := rfl
@[simp] theorem State.setFn_fns (fn : Nat) (v : FnState) : (s.setFn fn v).fns = tabSet s.fns fn v := rfl
@[simp] theorem State.setFn_bays (fn : Nat) (v : FnState) : (s.setFn fn v).bays = s.bays := rfl
@[simp] theorem State.setFn_cores (fn : Nat) (v : FnState) : (s.setFn fn v).cores = s.cores := rfl
@[simp] theorem State.setFn_tiles (fn : Nat) (v : FnState) : (s.setFn fn v).tiles = s.tiles := rfl
@[simp] theorem State.setFn_columns (fn : Nat) (v : FnState) : (s.setFn fn v).columns = s.columns := rfl
@[simp] theorem State.setFn_stackTab (fn : Nat) (v : FnState) : (s.setFn fn v).stackTab = s.stackTab := rfl
@[simp] theorem State.setFn_ports (fn : Nat) (v : FnState) : (s.setFn fn v).ports = s.ports := rfl
@[simp] theorem State.setFn_fabric (fn : Nat) (v : FnState) : (s.setFn fn v).fabric = s.fabric := rfl
@[simp] theorem State.setFn_power (fn : Nat) (v : FnState) : (s.setFn fn v).power = s.power := rfl
@[simp] theorem State.setFn_dbg (fn : Nat) (v : FnState) : (s.setFn fn v).dbg = s.dbg := rfl
@[simp] theorem State.setFn_life (fn : Nat) (v : FnState) : (s.setFn fn v).life = s.life := rfl
@[simp] theorem State.setFn_ictl (fn : Nat) (v : FnState) : (s.setFn fn v).ictl = s.ictl := rfl
@[simp] theorem State.setFn_host (fn : Nat) (v : FnState) : (s.setFn fn v).host = s.host := rfl
@[simp] theorem State.setFn_stackMem (fn : Nat) (v : FnState) : (s.setFn fn v).stackMem = s.stackMem := rfl
@[simp] theorem State.setFn_spadMem (fn : Nat) (v : FnState) : (s.setFn fn v).spadMem = s.spadMem := rfl
@[simp] theorem State.setFn_spadPoison (fn : Nat) (v : FnState) : (s.setFn fn v).spadPoison = s.spadPoison := rfl
@[simp] theorem State.setFn_spadFlaws (fn : Nat) (v : FnState) : (s.setFn fn v).spadFlaws = s.spadFlaws := rfl
@[simp] theorem State.setFn_reports (fn : Nat) (v : FnState) : (s.setFn fn v).reports = s.reports := rfl
@[simp] theorem State.setFn_notices (fn : Nat) (v : FnState) : (s.setFn fn v).notices = s.notices := rfl
@[simp] theorem State.setFn_valley (fn : Nat) (v : FnState) : (s.setFn fn v).valley = s.valley := rfl
@[simp] theorem State.setFn_repairs (fn : Nat) (v : FnState) : (s.setFn fn v).repairs = s.repairs := rfl
@[simp] theorem State.setFn_draws (fn : Nat) (v : FnState) : (s.setFn fn v).draws = s.draws := rfl
@[simp] theorem State.setFn_slotWork (fn : Nat) (v : FnState) : (s.setFn fn v).slotWork = s.slotWork := rfl
@[simp] theorem State.setFn_pending (fn : Nat) (v : FnState) : (s.setFn fn v).pending = s.pending := rfl
@[simp] theorem State.setFn_itemStale (fn : Nat) (v : FnState) : (s.setFn fn v).itemStale = s.itemStale := rfl

/- setQueue -/

@[simp] theorem State.setQueue_time (fn q : Nat) (v : Queue) : (s.setQueue fn q v).time = s.time := rfl
@[simp] theorem State.setQueue_dev (fn q : Nat) (v : Queue) : (s.setQueue fn q v).dev = s.dev := rfl
@[simp] theorem State.setQueue_sec (fn q : Nat) (v : Queue) : (s.setQueue fn q v).sec = s.sec := rfl
@[simp] theorem State.setQueue_spdm (fn q : Nat) (v : Queue) : (s.setQueue fn q v).spdm = s.spdm := rfl
@[simp] theorem State.setQueue_fns (fn q : Nat) (v : Queue) : (s.setQueue fn q v).fns = tabSet s.fns fn { s.fnAt fn with queues := tabSet (s.fnAt fn).queues q v } := rfl
@[simp] theorem State.setQueue_bays (fn q : Nat) (v : Queue) : (s.setQueue fn q v).bays = s.bays := rfl
@[simp] theorem State.setQueue_cores (fn q : Nat) (v : Queue) : (s.setQueue fn q v).cores = s.cores := rfl
@[simp] theorem State.setQueue_tiles (fn q : Nat) (v : Queue) : (s.setQueue fn q v).tiles = s.tiles := rfl
@[simp] theorem State.setQueue_columns (fn q : Nat) (v : Queue) : (s.setQueue fn q v).columns = s.columns := rfl
@[simp] theorem State.setQueue_stackTab (fn q : Nat) (v : Queue) : (s.setQueue fn q v).stackTab = s.stackTab := rfl
@[simp] theorem State.setQueue_ports (fn q : Nat) (v : Queue) : (s.setQueue fn q v).ports = s.ports := rfl
@[simp] theorem State.setQueue_fabric (fn q : Nat) (v : Queue) : (s.setQueue fn q v).fabric = s.fabric := rfl
@[simp] theorem State.setQueue_power (fn q : Nat) (v : Queue) : (s.setQueue fn q v).power = s.power := rfl
@[simp] theorem State.setQueue_dbg (fn q : Nat) (v : Queue) : (s.setQueue fn q v).dbg = s.dbg := rfl
@[simp] theorem State.setQueue_life (fn q : Nat) (v : Queue) : (s.setQueue fn q v).life = s.life := rfl
@[simp] theorem State.setQueue_ictl (fn q : Nat) (v : Queue) : (s.setQueue fn q v).ictl = s.ictl := rfl
@[simp] theorem State.setQueue_host (fn q : Nat) (v : Queue) : (s.setQueue fn q v).host = s.host := rfl
@[simp] theorem State.setQueue_stackMem (fn q : Nat) (v : Queue) : (s.setQueue fn q v).stackMem = s.stackMem := rfl
@[simp] theorem State.setQueue_spadMem (fn q : Nat) (v : Queue) : (s.setQueue fn q v).spadMem = s.spadMem := rfl
@[simp] theorem State.setQueue_spadPoison (fn q : Nat) (v : Queue) : (s.setQueue fn q v).spadPoison = s.spadPoison := rfl
@[simp] theorem State.setQueue_spadFlaws (fn q : Nat) (v : Queue) : (s.setQueue fn q v).spadFlaws = s.spadFlaws := rfl
@[simp] theorem State.setQueue_reports (fn q : Nat) (v : Queue) : (s.setQueue fn q v).reports = s.reports := rfl
@[simp] theorem State.setQueue_notices (fn q : Nat) (v : Queue) : (s.setQueue fn q v).notices = s.notices := rfl
@[simp] theorem State.setQueue_valley (fn q : Nat) (v : Queue) : (s.setQueue fn q v).valley = s.valley := rfl
@[simp] theorem State.setQueue_repairs (fn q : Nat) (v : Queue) : (s.setQueue fn q v).repairs = s.repairs := rfl
@[simp] theorem State.setQueue_draws (fn q : Nat) (v : Queue) : (s.setQueue fn q v).draws = s.draws := rfl
@[simp] theorem State.setQueue_slotWork (fn q : Nat) (v : Queue) : (s.setQueue fn q v).slotWork = s.slotWork := rfl
@[simp] theorem State.setQueue_pending (fn q : Nat) (v : Queue) : (s.setQueue fn q v).pending = s.pending := rfl
@[simp] theorem State.setQueue_itemStale (fn q : Nat) (v : Queue) : (s.setQueue fn q v).itemStale = s.itemStale := rfl

/- setBay -/

@[simp] theorem State.setBay_time (b : Nat) (v : BayState) : (s.setBay b v).time = s.time := rfl
@[simp] theorem State.setBay_dev (b : Nat) (v : BayState) : (s.setBay b v).dev = s.dev := rfl
@[simp] theorem State.setBay_sec (b : Nat) (v : BayState) : (s.setBay b v).sec = s.sec := rfl
@[simp] theorem State.setBay_spdm (b : Nat) (v : BayState) : (s.setBay b v).spdm = s.spdm := rfl
@[simp] theorem State.setBay_fns (b : Nat) (v : BayState) : (s.setBay b v).fns = s.fns := rfl
@[simp] theorem State.setBay_bays (b : Nat) (v : BayState) : (s.setBay b v).bays = tabSet s.bays b v := rfl
@[simp] theorem State.setBay_cores (b : Nat) (v : BayState) : (s.setBay b v).cores = s.cores := rfl
@[simp] theorem State.setBay_tiles (b : Nat) (v : BayState) : (s.setBay b v).tiles = s.tiles := rfl
@[simp] theorem State.setBay_columns (b : Nat) (v : BayState) : (s.setBay b v).columns = s.columns := rfl
@[simp] theorem State.setBay_stackTab (b : Nat) (v : BayState) : (s.setBay b v).stackTab = s.stackTab := rfl
@[simp] theorem State.setBay_ports (b : Nat) (v : BayState) : (s.setBay b v).ports = s.ports := rfl
@[simp] theorem State.setBay_fabric (b : Nat) (v : BayState) : (s.setBay b v).fabric = s.fabric := rfl
@[simp] theorem State.setBay_power (b : Nat) (v : BayState) : (s.setBay b v).power = s.power := rfl
@[simp] theorem State.setBay_dbg (b : Nat) (v : BayState) : (s.setBay b v).dbg = s.dbg := rfl
@[simp] theorem State.setBay_life (b : Nat) (v : BayState) : (s.setBay b v).life = s.life := rfl
@[simp] theorem State.setBay_ictl (b : Nat) (v : BayState) : (s.setBay b v).ictl = s.ictl := rfl
@[simp] theorem State.setBay_host (b : Nat) (v : BayState) : (s.setBay b v).host = s.host := rfl
@[simp] theorem State.setBay_stackMem (b : Nat) (v : BayState) : (s.setBay b v).stackMem = s.stackMem := rfl
@[simp] theorem State.setBay_spadMem (b : Nat) (v : BayState) : (s.setBay b v).spadMem = s.spadMem := rfl
@[simp] theorem State.setBay_spadPoison (b : Nat) (v : BayState) : (s.setBay b v).spadPoison = s.spadPoison := rfl
@[simp] theorem State.setBay_spadFlaws (b : Nat) (v : BayState) : (s.setBay b v).spadFlaws = s.spadFlaws := rfl
@[simp] theorem State.setBay_reports (b : Nat) (v : BayState) : (s.setBay b v).reports = s.reports := rfl
@[simp] theorem State.setBay_notices (b : Nat) (v : BayState) : (s.setBay b v).notices = s.notices := rfl
@[simp] theorem State.setBay_valley (b : Nat) (v : BayState) : (s.setBay b v).valley = s.valley := rfl
@[simp] theorem State.setBay_repairs (b : Nat) (v : BayState) : (s.setBay b v).repairs = s.repairs := rfl
@[simp] theorem State.setBay_draws (b : Nat) (v : BayState) : (s.setBay b v).draws = s.draws := rfl
@[simp] theorem State.setBay_slotWork (b : Nat) (v : BayState) : (s.setBay b v).slotWork = s.slotWork := rfl
@[simp] theorem State.setBay_pending (b : Nat) (v : BayState) : (s.setBay b v).pending = s.pending := rfl
@[simp] theorem State.setBay_itemStale (b : Nat) (v : BayState) : (s.setBay b v).itemStale = s.itemStale := rfl

/- setCore -/

@[simp] theorem State.setCore_time (c : Nat) (v : Core) : (s.setCore c v).time = s.time := rfl
@[simp] theorem State.setCore_dev (c : Nat) (v : Core) : (s.setCore c v).dev = s.dev := rfl
@[simp] theorem State.setCore_sec (c : Nat) (v : Core) : (s.setCore c v).sec = s.sec := rfl
@[simp] theorem State.setCore_spdm (c : Nat) (v : Core) : (s.setCore c v).spdm = s.spdm := rfl
@[simp] theorem State.setCore_fns (c : Nat) (v : Core) : (s.setCore c v).fns = s.fns := rfl
@[simp] theorem State.setCore_bays (c : Nat) (v : Core) : (s.setCore c v).bays = s.bays := rfl
@[simp] theorem State.setCore_cores (c : Nat) (v : Core) : (s.setCore c v).cores = tabSet s.cores c v := rfl
@[simp] theorem State.setCore_tiles (c : Nat) (v : Core) : (s.setCore c v).tiles = s.tiles := rfl
@[simp] theorem State.setCore_columns (c : Nat) (v : Core) : (s.setCore c v).columns = s.columns := rfl
@[simp] theorem State.setCore_stackTab (c : Nat) (v : Core) : (s.setCore c v).stackTab = s.stackTab := rfl
@[simp] theorem State.setCore_ports (c : Nat) (v : Core) : (s.setCore c v).ports = s.ports := rfl
@[simp] theorem State.setCore_fabric (c : Nat) (v : Core) : (s.setCore c v).fabric = s.fabric := rfl
@[simp] theorem State.setCore_power (c : Nat) (v : Core) : (s.setCore c v).power = s.power := rfl
@[simp] theorem State.setCore_dbg (c : Nat) (v : Core) : (s.setCore c v).dbg = s.dbg := rfl
@[simp] theorem State.setCore_life (c : Nat) (v : Core) : (s.setCore c v).life = s.life := rfl
@[simp] theorem State.setCore_ictl (c : Nat) (v : Core) : (s.setCore c v).ictl = s.ictl := rfl
@[simp] theorem State.setCore_host (c : Nat) (v : Core) : (s.setCore c v).host = s.host := rfl
@[simp] theorem State.setCore_stackMem (c : Nat) (v : Core) : (s.setCore c v).stackMem = s.stackMem := rfl
@[simp] theorem State.setCore_spadMem (c : Nat) (v : Core) : (s.setCore c v).spadMem = s.spadMem := rfl
@[simp] theorem State.setCore_spadPoison (c : Nat) (v : Core) : (s.setCore c v).spadPoison = s.spadPoison := rfl
@[simp] theorem State.setCore_spadFlaws (c : Nat) (v : Core) : (s.setCore c v).spadFlaws = s.spadFlaws := rfl
@[simp] theorem State.setCore_reports (c : Nat) (v : Core) : (s.setCore c v).reports = s.reports := rfl
@[simp] theorem State.setCore_notices (c : Nat) (v : Core) : (s.setCore c v).notices = s.notices := rfl
@[simp] theorem State.setCore_valley (c : Nat) (v : Core) : (s.setCore c v).valley = s.valley := rfl
@[simp] theorem State.setCore_repairs (c : Nat) (v : Core) : (s.setCore c v).repairs = s.repairs := rfl
@[simp] theorem State.setCore_draws (c : Nat) (v : Core) : (s.setCore c v).draws = s.draws := rfl
@[simp] theorem State.setCore_slotWork (c : Nat) (v : Core) : (s.setCore c v).slotWork = s.slotWork := rfl
@[simp] theorem State.setCore_pending (c : Nat) (v : Core) : (s.setCore c v).pending = s.pending := rfl
@[simp] theorem State.setCore_itemStale (c : Nat) (v : Core) : (s.setCore c v).itemStale = s.itemStale := rfl

/- setTile -/

@[simp] theorem State.setTile_time (col row : Nat) (v : Tile) : (s.setTile col row v).time = s.time := rfl
@[simp] theorem State.setTile_dev (col row : Nat) (v : Tile) : (s.setTile col row v).dev = s.dev := rfl
@[simp] theorem State.setTile_sec (col row : Nat) (v : Tile) : (s.setTile col row v).sec = s.sec := rfl
@[simp] theorem State.setTile_spdm (col row : Nat) (v : Tile) : (s.setTile col row v).spdm = s.spdm := rfl
@[simp] theorem State.setTile_fns (col row : Nat) (v : Tile) : (s.setTile col row v).fns = s.fns := rfl
@[simp] theorem State.setTile_bays (col row : Nat) (v : Tile) : (s.setTile col row v).bays = s.bays := rfl
@[simp] theorem State.setTile_cores (col row : Nat) (v : Tile) : (s.setTile col row v).cores = s.cores := rfl
@[simp] theorem State.setTile_tiles (col row : Nat) (v : Tile) : (s.setTile col row v).tiles = tabSet s.tiles (col * 60 + row) v := rfl
@[simp] theorem State.setTile_columns (col row : Nat) (v : Tile) : (s.setTile col row v).columns = s.columns := rfl
@[simp] theorem State.setTile_stackTab (col row : Nat) (v : Tile) : (s.setTile col row v).stackTab = s.stackTab := rfl
@[simp] theorem State.setTile_ports (col row : Nat) (v : Tile) : (s.setTile col row v).ports = s.ports := rfl
@[simp] theorem State.setTile_fabric (col row : Nat) (v : Tile) : (s.setTile col row v).fabric = s.fabric := rfl
@[simp] theorem State.setTile_power (col row : Nat) (v : Tile) : (s.setTile col row v).power = s.power := rfl
@[simp] theorem State.setTile_dbg (col row : Nat) (v : Tile) : (s.setTile col row v).dbg = s.dbg := rfl
@[simp] theorem State.setTile_life (col row : Nat) (v : Tile) : (s.setTile col row v).life = s.life := rfl
@[simp] theorem State.setTile_ictl (col row : Nat) (v : Tile) : (s.setTile col row v).ictl = s.ictl := rfl
@[simp] theorem State.setTile_host (col row : Nat) (v : Tile) : (s.setTile col row v).host = s.host := rfl
@[simp] theorem State.setTile_stackMem (col row : Nat) (v : Tile) : (s.setTile col row v).stackMem = s.stackMem := rfl
@[simp] theorem State.setTile_spadMem (col row : Nat) (v : Tile) : (s.setTile col row v).spadMem = s.spadMem := rfl
@[simp] theorem State.setTile_spadPoison (col row : Nat) (v : Tile) : (s.setTile col row v).spadPoison = s.spadPoison := rfl
@[simp] theorem State.setTile_spadFlaws (col row : Nat) (v : Tile) : (s.setTile col row v).spadFlaws = s.spadFlaws := rfl
@[simp] theorem State.setTile_reports (col row : Nat) (v : Tile) : (s.setTile col row v).reports = s.reports := rfl
@[simp] theorem State.setTile_notices (col row : Nat) (v : Tile) : (s.setTile col row v).notices = s.notices := rfl
@[simp] theorem State.setTile_valley (col row : Nat) (v : Tile) : (s.setTile col row v).valley = s.valley := rfl
@[simp] theorem State.setTile_repairs (col row : Nat) (v : Tile) : (s.setTile col row v).repairs = s.repairs := rfl
@[simp] theorem State.setTile_draws (col row : Nat) (v : Tile) : (s.setTile col row v).draws = s.draws := rfl
@[simp] theorem State.setTile_slotWork (col row : Nat) (v : Tile) : (s.setTile col row v).slotWork = s.slotWork := rfl
@[simp] theorem State.setTile_pending (col row : Nat) (v : Tile) : (s.setTile col row v).pending = s.pending := rfl
@[simp] theorem State.setTile_itemStale (col row : Nat) (v : Tile) : (s.setTile col row v).itemStale = s.itemStale := rfl

/- setColumn -/

@[simp] theorem State.setColumn_time (c : Nat) (v : Column) : (s.setColumn c v).time = s.time := rfl
@[simp] theorem State.setColumn_dev (c : Nat) (v : Column) : (s.setColumn c v).dev = s.dev := rfl
@[simp] theorem State.setColumn_sec (c : Nat) (v : Column) : (s.setColumn c v).sec = s.sec := rfl
@[simp] theorem State.setColumn_spdm (c : Nat) (v : Column) : (s.setColumn c v).spdm = s.spdm := rfl
@[simp] theorem State.setColumn_fns (c : Nat) (v : Column) : (s.setColumn c v).fns = s.fns := rfl
@[simp] theorem State.setColumn_bays (c : Nat) (v : Column) : (s.setColumn c v).bays = s.bays := rfl
@[simp] theorem State.setColumn_cores (c : Nat) (v : Column) : (s.setColumn c v).cores = s.cores := rfl
@[simp] theorem State.setColumn_tiles (c : Nat) (v : Column) : (s.setColumn c v).tiles = s.tiles := rfl
@[simp] theorem State.setColumn_columns (c : Nat) (v : Column) : (s.setColumn c v).columns = tabSet s.columns c v := rfl
@[simp] theorem State.setColumn_stackTab (c : Nat) (v : Column) : (s.setColumn c v).stackTab = s.stackTab := rfl
@[simp] theorem State.setColumn_ports (c : Nat) (v : Column) : (s.setColumn c v).ports = s.ports := rfl
@[simp] theorem State.setColumn_fabric (c : Nat) (v : Column) : (s.setColumn c v).fabric = s.fabric := rfl
@[simp] theorem State.setColumn_power (c : Nat) (v : Column) : (s.setColumn c v).power = s.power := rfl
@[simp] theorem State.setColumn_dbg (c : Nat) (v : Column) : (s.setColumn c v).dbg = s.dbg := rfl
@[simp] theorem State.setColumn_life (c : Nat) (v : Column) : (s.setColumn c v).life = s.life := rfl
@[simp] theorem State.setColumn_ictl (c : Nat) (v : Column) : (s.setColumn c v).ictl = s.ictl := rfl
@[simp] theorem State.setColumn_host (c : Nat) (v : Column) : (s.setColumn c v).host = s.host := rfl
@[simp] theorem State.setColumn_stackMem (c : Nat) (v : Column) : (s.setColumn c v).stackMem = s.stackMem := rfl
@[simp] theorem State.setColumn_spadMem (c : Nat) (v : Column) : (s.setColumn c v).spadMem = s.spadMem := rfl
@[simp] theorem State.setColumn_spadPoison (c : Nat) (v : Column) : (s.setColumn c v).spadPoison = s.spadPoison := rfl
@[simp] theorem State.setColumn_spadFlaws (c : Nat) (v : Column) : (s.setColumn c v).spadFlaws = s.spadFlaws := rfl
@[simp] theorem State.setColumn_reports (c : Nat) (v : Column) : (s.setColumn c v).reports = s.reports := rfl
@[simp] theorem State.setColumn_notices (c : Nat) (v : Column) : (s.setColumn c v).notices = s.notices := rfl
@[simp] theorem State.setColumn_valley (c : Nat) (v : Column) : (s.setColumn c v).valley = s.valley := rfl
@[simp] theorem State.setColumn_repairs (c : Nat) (v : Column) : (s.setColumn c v).repairs = s.repairs := rfl
@[simp] theorem State.setColumn_draws (c : Nat) (v : Column) : (s.setColumn c v).draws = s.draws := rfl
@[simp] theorem State.setColumn_slotWork (c : Nat) (v : Column) : (s.setColumn c v).slotWork = s.slotWork := rfl
@[simp] theorem State.setColumn_pending (c : Nat) (v : Column) : (s.setColumn c v).pending = s.pending := rfl
@[simp] theorem State.setColumn_itemStale (c : Nat) (v : Column) : (s.setColumn c v).itemStale = s.itemStale := rfl

/- setStack -/

@[simp] theorem State.setStack_time (k : Nat) (v : Stack) : (s.setStack k v).time = s.time := rfl
@[simp] theorem State.setStack_dev (k : Nat) (v : Stack) : (s.setStack k v).dev = s.dev := rfl
@[simp] theorem State.setStack_sec (k : Nat) (v : Stack) : (s.setStack k v).sec = s.sec := rfl
@[simp] theorem State.setStack_spdm (k : Nat) (v : Stack) : (s.setStack k v).spdm = s.spdm := rfl
@[simp] theorem State.setStack_fns (k : Nat) (v : Stack) : (s.setStack k v).fns = s.fns := rfl
@[simp] theorem State.setStack_bays (k : Nat) (v : Stack) : (s.setStack k v).bays = s.bays := rfl
@[simp] theorem State.setStack_cores (k : Nat) (v : Stack) : (s.setStack k v).cores = s.cores := rfl
@[simp] theorem State.setStack_tiles (k : Nat) (v : Stack) : (s.setStack k v).tiles = s.tiles := rfl
@[simp] theorem State.setStack_columns (k : Nat) (v : Stack) : (s.setStack k v).columns = s.columns := rfl
@[simp] theorem State.setStack_stackTab (k : Nat) (v : Stack) : (s.setStack k v).stackTab = tabSet s.stackTab k v := rfl
@[simp] theorem State.setStack_ports (k : Nat) (v : Stack) : (s.setStack k v).ports = s.ports := rfl
@[simp] theorem State.setStack_fabric (k : Nat) (v : Stack) : (s.setStack k v).fabric = s.fabric := rfl
@[simp] theorem State.setStack_power (k : Nat) (v : Stack) : (s.setStack k v).power = s.power := rfl
@[simp] theorem State.setStack_dbg (k : Nat) (v : Stack) : (s.setStack k v).dbg = s.dbg := rfl
@[simp] theorem State.setStack_life (k : Nat) (v : Stack) : (s.setStack k v).life = s.life := rfl
@[simp] theorem State.setStack_ictl (k : Nat) (v : Stack) : (s.setStack k v).ictl = s.ictl := rfl
@[simp] theorem State.setStack_host (k : Nat) (v : Stack) : (s.setStack k v).host = s.host := rfl
@[simp] theorem State.setStack_stackMem (k : Nat) (v : Stack) : (s.setStack k v).stackMem = s.stackMem := rfl
@[simp] theorem State.setStack_spadMem (k : Nat) (v : Stack) : (s.setStack k v).spadMem = s.spadMem := rfl
@[simp] theorem State.setStack_spadPoison (k : Nat) (v : Stack) : (s.setStack k v).spadPoison = s.spadPoison := rfl
@[simp] theorem State.setStack_spadFlaws (k : Nat) (v : Stack) : (s.setStack k v).spadFlaws = s.spadFlaws := rfl
@[simp] theorem State.setStack_reports (k : Nat) (v : Stack) : (s.setStack k v).reports = s.reports := rfl
@[simp] theorem State.setStack_notices (k : Nat) (v : Stack) : (s.setStack k v).notices = s.notices := rfl
@[simp] theorem State.setStack_valley (k : Nat) (v : Stack) : (s.setStack k v).valley = s.valley := rfl
@[simp] theorem State.setStack_repairs (k : Nat) (v : Stack) : (s.setStack k v).repairs = s.repairs := rfl
@[simp] theorem State.setStack_draws (k : Nat) (v : Stack) : (s.setStack k v).draws = s.draws := rfl
@[simp] theorem State.setStack_slotWork (k : Nat) (v : Stack) : (s.setStack k v).slotWork = s.slotWork := rfl
@[simp] theorem State.setStack_pending (k : Nat) (v : Stack) : (s.setStack k v).pending = s.pending := rfl
@[simp] theorem State.setStack_itemStale (k : Nat) (v : Stack) : (s.setStack k v).itemStale = s.itemStale := rfl

/- setPort -/

@[simp] theorem State.setPort_time (p : Nat) (v : Port) : (s.setPort p v).time = s.time := rfl
@[simp] theorem State.setPort_dev (p : Nat) (v : Port) : (s.setPort p v).dev = s.dev := rfl
@[simp] theorem State.setPort_sec (p : Nat) (v : Port) : (s.setPort p v).sec = s.sec := rfl
@[simp] theorem State.setPort_spdm (p : Nat) (v : Port) : (s.setPort p v).spdm = s.spdm := rfl
@[simp] theorem State.setPort_fns (p : Nat) (v : Port) : (s.setPort p v).fns = s.fns := rfl
@[simp] theorem State.setPort_bays (p : Nat) (v : Port) : (s.setPort p v).bays = s.bays := rfl
@[simp] theorem State.setPort_cores (p : Nat) (v : Port) : (s.setPort p v).cores = s.cores := rfl
@[simp] theorem State.setPort_tiles (p : Nat) (v : Port) : (s.setPort p v).tiles = s.tiles := rfl
@[simp] theorem State.setPort_columns (p : Nat) (v : Port) : (s.setPort p v).columns = s.columns := rfl
@[simp] theorem State.setPort_stackTab (p : Nat) (v : Port) : (s.setPort p v).stackTab = s.stackTab := rfl
@[simp] theorem State.setPort_ports (p : Nat) (v : Port) : (s.setPort p v).ports = tabSet s.ports p v := rfl
@[simp] theorem State.setPort_fabric (p : Nat) (v : Port) : (s.setPort p v).fabric = s.fabric := rfl
@[simp] theorem State.setPort_power (p : Nat) (v : Port) : (s.setPort p v).power = s.power := rfl
@[simp] theorem State.setPort_dbg (p : Nat) (v : Port) : (s.setPort p v).dbg = s.dbg := rfl
@[simp] theorem State.setPort_life (p : Nat) (v : Port) : (s.setPort p v).life = s.life := rfl
@[simp] theorem State.setPort_ictl (p : Nat) (v : Port) : (s.setPort p v).ictl = s.ictl := rfl
@[simp] theorem State.setPort_host (p : Nat) (v : Port) : (s.setPort p v).host = s.host := rfl
@[simp] theorem State.setPort_stackMem (p : Nat) (v : Port) : (s.setPort p v).stackMem = s.stackMem := rfl
@[simp] theorem State.setPort_spadMem (p : Nat) (v : Port) : (s.setPort p v).spadMem = s.spadMem := rfl
@[simp] theorem State.setPort_spadPoison (p : Nat) (v : Port) : (s.setPort p v).spadPoison = s.spadPoison := rfl
@[simp] theorem State.setPort_spadFlaws (p : Nat) (v : Port) : (s.setPort p v).spadFlaws = s.spadFlaws := rfl
@[simp] theorem State.setPort_reports (p : Nat) (v : Port) : (s.setPort p v).reports = s.reports := rfl
@[simp] theorem State.setPort_notices (p : Nat) (v : Port) : (s.setPort p v).notices = s.notices := rfl
@[simp] theorem State.setPort_valley (p : Nat) (v : Port) : (s.setPort p v).valley = s.valley := rfl
@[simp] theorem State.setPort_repairs (p : Nat) (v : Port) : (s.setPort p v).repairs = s.repairs := rfl
@[simp] theorem State.setPort_draws (p : Nat) (v : Port) : (s.setPort p v).draws = s.draws := rfl
@[simp] theorem State.setPort_slotWork (p : Nat) (v : Port) : (s.setPort p v).slotWork = s.slotWork := rfl
@[simp] theorem State.setPort_pending (p : Nat) (v : Port) : (s.setPort p v).pending = s.pending := rfl
@[simp] theorem State.setPort_itemStale (p : Nat) (v : Port) : (s.setPort p v).itemStale = s.itemStale := rfl

/- setSrc -/

@[simp] theorem State.setSrc_time (n : Nat) (v : IctlSrc) : (s.setSrc n v).time = s.time := rfl
@[simp] theorem State.setSrc_dev (n : Nat) (v : IctlSrc) : (s.setSrc n v).dev = s.dev := rfl
@[simp] theorem State.setSrc_sec (n : Nat) (v : IctlSrc) : (s.setSrc n v).sec = s.sec := rfl
@[simp] theorem State.setSrc_spdm (n : Nat) (v : IctlSrc) : (s.setSrc n v).spdm = s.spdm := rfl
@[simp] theorem State.setSrc_fns (n : Nat) (v : IctlSrc) : (s.setSrc n v).fns = s.fns := rfl
@[simp] theorem State.setSrc_bays (n : Nat) (v : IctlSrc) : (s.setSrc n v).bays = s.bays := rfl
@[simp] theorem State.setSrc_cores (n : Nat) (v : IctlSrc) : (s.setSrc n v).cores = s.cores := rfl
@[simp] theorem State.setSrc_tiles (n : Nat) (v : IctlSrc) : (s.setSrc n v).tiles = s.tiles := rfl
@[simp] theorem State.setSrc_columns (n : Nat) (v : IctlSrc) : (s.setSrc n v).columns = s.columns := rfl
@[simp] theorem State.setSrc_stackTab (n : Nat) (v : IctlSrc) : (s.setSrc n v).stackTab = s.stackTab := rfl
@[simp] theorem State.setSrc_ports (n : Nat) (v : IctlSrc) : (s.setSrc n v).ports = s.ports := rfl
@[simp] theorem State.setSrc_fabric (n : Nat) (v : IctlSrc) : (s.setSrc n v).fabric = s.fabric := rfl
@[simp] theorem State.setSrc_power (n : Nat) (v : IctlSrc) : (s.setSrc n v).power = s.power := rfl
@[simp] theorem State.setSrc_dbg (n : Nat) (v : IctlSrc) : (s.setSrc n v).dbg = s.dbg := rfl
@[simp] theorem State.setSrc_life (n : Nat) (v : IctlSrc) : (s.setSrc n v).life = s.life := rfl
@[simp] theorem State.setSrc_ictl (n : Nat) (v : IctlSrc) : (s.setSrc n v).ictl = { s.ictl with src := tabSet s.ictl.src n v } := rfl
@[simp] theorem State.setSrc_host (n : Nat) (v : IctlSrc) : (s.setSrc n v).host = s.host := rfl
@[simp] theorem State.setSrc_stackMem (n : Nat) (v : IctlSrc) : (s.setSrc n v).stackMem = s.stackMem := rfl
@[simp] theorem State.setSrc_spadMem (n : Nat) (v : IctlSrc) : (s.setSrc n v).spadMem = s.spadMem := rfl
@[simp] theorem State.setSrc_spadPoison (n : Nat) (v : IctlSrc) : (s.setSrc n v).spadPoison = s.spadPoison := rfl
@[simp] theorem State.setSrc_spadFlaws (n : Nat) (v : IctlSrc) : (s.setSrc n v).spadFlaws = s.spadFlaws := rfl
@[simp] theorem State.setSrc_reports (n : Nat) (v : IctlSrc) : (s.setSrc n v).reports = s.reports := rfl
@[simp] theorem State.setSrc_notices (n : Nat) (v : IctlSrc) : (s.setSrc n v).notices = s.notices := rfl
@[simp] theorem State.setSrc_valley (n : Nat) (v : IctlSrc) : (s.setSrc n v).valley = s.valley := rfl
@[simp] theorem State.setSrc_repairs (n : Nat) (v : IctlSrc) : (s.setSrc n v).repairs = s.repairs := rfl
@[simp] theorem State.setSrc_draws (n : Nat) (v : IctlSrc) : (s.setSrc n v).draws = s.draws := rfl
@[simp] theorem State.setSrc_slotWork (n : Nat) (v : IctlSrc) : (s.setSrc n v).slotWork = s.slotWork := rfl
@[simp] theorem State.setSrc_pending (n : Nat) (v : IctlSrc) : (s.setSrc n v).pending = s.pending := rfl
@[simp] theorem State.setSrc_itemStale (n : Nat) (v : IctlSrc) : (s.setSrc n v).itemStale = s.itemStale := rfl

/- setTgt -/

@[simp] theorem State.setTgt_time (t : Nat) (v : IctlTarget) : (s.setTgt t v).time = s.time := rfl
@[simp] theorem State.setTgt_dev (t : Nat) (v : IctlTarget) : (s.setTgt t v).dev = s.dev := rfl
@[simp] theorem State.setTgt_sec (t : Nat) (v : IctlTarget) : (s.setTgt t v).sec = s.sec := rfl
@[simp] theorem State.setTgt_spdm (t : Nat) (v : IctlTarget) : (s.setTgt t v).spdm = s.spdm := rfl
@[simp] theorem State.setTgt_fns (t : Nat) (v : IctlTarget) : (s.setTgt t v).fns = s.fns := rfl
@[simp] theorem State.setTgt_bays (t : Nat) (v : IctlTarget) : (s.setTgt t v).bays = s.bays := rfl
@[simp] theorem State.setTgt_cores (t : Nat) (v : IctlTarget) : (s.setTgt t v).cores = s.cores := rfl
@[simp] theorem State.setTgt_tiles (t : Nat) (v : IctlTarget) : (s.setTgt t v).tiles = s.tiles := rfl
@[simp] theorem State.setTgt_columns (t : Nat) (v : IctlTarget) : (s.setTgt t v).columns = s.columns := rfl
@[simp] theorem State.setTgt_stackTab (t : Nat) (v : IctlTarget) : (s.setTgt t v).stackTab = s.stackTab := rfl
@[simp] theorem State.setTgt_ports (t : Nat) (v : IctlTarget) : (s.setTgt t v).ports = s.ports := rfl
@[simp] theorem State.setTgt_fabric (t : Nat) (v : IctlTarget) : (s.setTgt t v).fabric = s.fabric := rfl
@[simp] theorem State.setTgt_power (t : Nat) (v : IctlTarget) : (s.setTgt t v).power = s.power := rfl
@[simp] theorem State.setTgt_dbg (t : Nat) (v : IctlTarget) : (s.setTgt t v).dbg = s.dbg := rfl
@[simp] theorem State.setTgt_life (t : Nat) (v : IctlTarget) : (s.setTgt t v).life = s.life := rfl
@[simp] theorem State.setTgt_host (t : Nat) (v : IctlTarget) : (s.setTgt t v).host = s.host := rfl
@[simp] theorem State.setTgt_stackMem (t : Nat) (v : IctlTarget) : (s.setTgt t v).stackMem = s.stackMem := rfl
@[simp] theorem State.setTgt_spadMem (t : Nat) (v : IctlTarget) : (s.setTgt t v).spadMem = s.spadMem := rfl
@[simp] theorem State.setTgt_spadPoison (t : Nat) (v : IctlTarget) : (s.setTgt t v).spadPoison = s.spadPoison := rfl
@[simp] theorem State.setTgt_spadFlaws (t : Nat) (v : IctlTarget) : (s.setTgt t v).spadFlaws = s.spadFlaws := rfl
@[simp] theorem State.setTgt_reports (t : Nat) (v : IctlTarget) : (s.setTgt t v).reports = s.reports := rfl
@[simp] theorem State.setTgt_notices (t : Nat) (v : IctlTarget) : (s.setTgt t v).notices = s.notices := rfl
@[simp] theorem State.setTgt_valley (t : Nat) (v : IctlTarget) : (s.setTgt t v).valley = s.valley := rfl
@[simp] theorem State.setTgt_repairs (t : Nat) (v : IctlTarget) : (s.setTgt t v).repairs = s.repairs := rfl
@[simp] theorem State.setTgt_draws (t : Nat) (v : IctlTarget) : (s.setTgt t v).draws = s.draws := rfl
@[simp] theorem State.setTgt_slotWork (t : Nat) (v : IctlTarget) : (s.setTgt t v).slotWork = s.slotWork := rfl
@[simp] theorem State.setTgt_pending (t : Nat) (v : IctlTarget) : (s.setTgt t v).pending = s.pending := rfl
@[simp] theorem State.setTgt_itemStale (t : Nat) (v : IctlTarget) : (s.setTgt t v).itemStale = s.itemStale := rfl

/- setHeld -/

@[simp] theorem State.setHeld_time (b : Nat) (l : List RidgeEvent) : (s.setHeld b l).time = s.time := rfl
@[simp] theorem State.setHeld_dev (b : Nat) (l : List RidgeEvent) : (s.setHeld b l).dev = s.dev := rfl
@[simp] theorem State.setHeld_sec (b : Nat) (l : List RidgeEvent) : (s.setHeld b l).sec = s.sec := rfl
@[simp] theorem State.setHeld_spdm (b : Nat) (l : List RidgeEvent) : (s.setHeld b l).spdm = s.spdm := rfl
@[simp] theorem State.setHeld_fns (b : Nat) (l : List RidgeEvent) : (s.setHeld b l).fns = s.fns := rfl
@[simp] theorem State.setHeld_bays (b : Nat) (l : List RidgeEvent) : (s.setHeld b l).bays = s.bays := rfl
@[simp] theorem State.setHeld_cores (b : Nat) (l : List RidgeEvent) : (s.setHeld b l).cores = s.cores := rfl
@[simp] theorem State.setHeld_tiles (b : Nat) (l : List RidgeEvent) : (s.setHeld b l).tiles = s.tiles := rfl
@[simp] theorem State.setHeld_columns (b : Nat) (l : List RidgeEvent) : (s.setHeld b l).columns = s.columns := rfl
@[simp] theorem State.setHeld_stackTab (b : Nat) (l : List RidgeEvent) : (s.setHeld b l).stackTab = s.stackTab := rfl
@[simp] theorem State.setHeld_ports (b : Nat) (l : List RidgeEvent) : (s.setHeld b l).ports = s.ports := rfl
@[simp] theorem State.setHeld_fabric (b : Nat) (l : List RidgeEvent) : (s.setHeld b l).fabric = s.fabric := rfl
@[simp] theorem State.setHeld_power (b : Nat) (l : List RidgeEvent) : (s.setHeld b l).power = s.power := rfl
@[simp] theorem State.setHeld_dbg (b : Nat) (l : List RidgeEvent) : (s.setHeld b l).dbg = s.dbg := rfl
@[simp] theorem State.setHeld_life (b : Nat) (l : List RidgeEvent) : (s.setHeld b l).life = s.life := rfl
@[simp] theorem State.setHeld_ictl (b : Nat) (l : List RidgeEvent) : (s.setHeld b l).ictl = s.ictl := rfl
@[simp] theorem State.setHeld_host (b : Nat) (l : List RidgeEvent) : (s.setHeld b l).host = s.host := rfl
@[simp] theorem State.setHeld_stackMem (b : Nat) (l : List RidgeEvent) : (s.setHeld b l).stackMem = s.stackMem := rfl
@[simp] theorem State.setHeld_spadMem (b : Nat) (l : List RidgeEvent) : (s.setHeld b l).spadMem = s.spadMem := rfl
@[simp] theorem State.setHeld_spadPoison (b : Nat) (l : List RidgeEvent) : (s.setHeld b l).spadPoison = s.spadPoison := rfl
@[simp] theorem State.setHeld_spadFlaws (b : Nat) (l : List RidgeEvent) : (s.setHeld b l).spadFlaws = s.spadFlaws := rfl
@[simp] theorem State.setHeld_reports (b : Nat) (l : List RidgeEvent) : (s.setHeld b l).reports = s.reports := rfl
@[simp] theorem State.setHeld_notices (b : Nat) (l : List RidgeEvent) : (s.setHeld b l).notices = s.notices := rfl
@[simp] theorem State.setHeld_valley (b : Nat) (l : List RidgeEvent) : (s.setHeld b l).valley = s.valley := rfl
@[simp] theorem State.setHeld_repairs (b : Nat) (l : List RidgeEvent) : (s.setHeld b l).repairs = s.repairs := rfl
@[simp] theorem State.setHeld_draws (b : Nat) (l : List RidgeEvent) : (s.setHeld b l).draws = s.draws := rfl
@[simp] theorem State.setHeld_slotWork (b : Nat) (l : List RidgeEvent) : (s.setHeld b l).slotWork = tabSet s.slotWork b l := rfl
@[simp] theorem State.setHeld_pending (b : Nat) (l : List RidgeEvent) : (s.setHeld b l).pending = s.pending := rfl
@[simp] theorem State.setHeld_itemStale (b : Nat) (l : List RidgeEvent) : (s.setHeld b l).itemStale = s.itemStale := rfl

/- drawn -/

@[simp] theorem State.drawn_time : (s.drawn).time = s.time := rfl
@[simp] theorem State.drawn_dev : (s.drawn).dev = s.dev := rfl
@[simp] theorem State.drawn_sec : (s.drawn).sec = s.sec := rfl
@[simp] theorem State.drawn_spdm : (s.drawn).spdm = s.spdm := rfl
@[simp] theorem State.drawn_fns : (s.drawn).fns = s.fns := rfl
@[simp] theorem State.drawn_bays : (s.drawn).bays = s.bays := rfl
@[simp] theorem State.drawn_cores : (s.drawn).cores = s.cores := rfl
@[simp] theorem State.drawn_tiles : (s.drawn).tiles = s.tiles := rfl
@[simp] theorem State.drawn_columns : (s.drawn).columns = s.columns := rfl
@[simp] theorem State.drawn_stackTab : (s.drawn).stackTab = s.stackTab := rfl
@[simp] theorem State.drawn_ports : (s.drawn).ports = s.ports := rfl
@[simp] theorem State.drawn_fabric : (s.drawn).fabric = s.fabric := rfl
@[simp] theorem State.drawn_power : (s.drawn).power = s.power := rfl
@[simp] theorem State.drawn_dbg : (s.drawn).dbg = s.dbg := rfl
@[simp] theorem State.drawn_life : (s.drawn).life = s.life := rfl
@[simp] theorem State.drawn_ictl : (s.drawn).ictl = s.ictl := rfl
@[simp] theorem State.drawn_host : (s.drawn).host = s.host := rfl
@[simp] theorem State.drawn_stackMem : (s.drawn).stackMem = s.stackMem := rfl
@[simp] theorem State.drawn_spadMem : (s.drawn).spadMem = s.spadMem := rfl
@[simp] theorem State.drawn_spadPoison : (s.drawn).spadPoison = s.spadPoison := rfl
@[simp] theorem State.drawn_spadFlaws : (s.drawn).spadFlaws = s.spadFlaws := rfl
@[simp] theorem State.drawn_reports : (s.drawn).reports = s.reports := rfl
@[simp] theorem State.drawn_notices : (s.drawn).notices = s.notices := rfl
@[simp] theorem State.drawn_valley : (s.drawn).valley = s.valley := rfl
@[simp] theorem State.drawn_repairs : (s.drawn).repairs = s.repairs := rfl
@[simp] theorem State.drawn_draws : (s.drawn).draws = s.draws + 1 := rfl
@[simp] theorem State.drawn_slotWork : (s.drawn).slotWork = s.slotWork := rfl
@[simp] theorem State.drawn_pending : (s.drawn).pending = s.pending := rfl
@[simp] theorem State.drawn_itemStale : (s.drawn).itemStale = s.itemStale := rfl

/- Reads after updates. -/

@[simp] theorem State.fnAt_setFn (fn : Nat) (v : FnState) : (s.setFn fn v).fnAt fn = v := tabGet_set _ _ _ _

theorem State.fnAt_setFn_ne (fn : Nat) (v : FnState) (g : Nat) (h : g ≠ fn) : (s.setFn fn v).fnAt g = s.fnAt g := tabGet_set_ne _ _ _ _ _ h

@[simp] theorem State.bayAt_setBay (b : Nat) (v : BayState) : (s.setBay b v).bayAt b = v := tabGet_set _ _ _ _

theorem State.bayAt_setBay_ne (b : Nat) (v : BayState) (c : Nat) (h : c ≠ b) : (s.setBay b v).bayAt c = s.bayAt c := tabGet_set_ne _ _ _ _ _ h

@[simp] theorem State.coreAt_setCore (c : Nat) (v : Core) : (s.setCore c v).coreAt c = v := tabGet_set _ _ _ _

theorem State.coreAt_setCore_ne (c : Nat) (v : Core) (d : Nat) (h : d ≠ c) : (s.setCore c v).coreAt d = s.coreAt d := tabGet_set_ne _ _ _ _ _ h

@[simp] theorem State.columnAt_setColumn (c : Nat) (v : Column) : (s.setColumn c v).columnAt c = v := tabGet_set _ _ _ _

theorem State.columnAt_setColumn_ne (c : Nat) (v : Column) (d : Nat) (h : d ≠ c) : (s.setColumn c v).columnAt d = s.columnAt d := tabGet_set_ne _ _ _ _ _ h

@[simp] theorem State.stackAt_setStack (k : Nat) (v : Stack) : (s.setStack k v).stackAt k = v := tabGet_set _ _ _ _

theorem State.stackAt_setStack_ne (k : Nat) (v : Stack) (j : Nat) (h : j ≠ k) : (s.setStack k v).stackAt j = s.stackAt j := tabGet_set_ne _ _ _ _ _ h

@[simp] theorem State.portAt_setPort (p : Nat) (v : Port) : (s.setPort p v).portAt p = v := tabGet_set _ _ _ _

theorem State.portAt_setPort_ne (p : Nat) (v : Port) (q : Nat) (h : q ≠ p) : (s.setPort p v).portAt q = s.portAt q := tabGet_set_ne _ _ _ _ _ h

@[simp] theorem State.heldAt_setHeld (b : Nat) (l : List RidgeEvent) : (s.setHeld b l).heldAt b = l := tabGet_set _ _ _ _

theorem State.heldAt_setHeld_ne (b : Nat) (l : List RidgeEvent) (c : Nat) (h : c ≠ b) : (s.setHeld b l).heldAt c = s.heldAt c :=
  tabGet_set_ne _ _ _ _ _ h

@[simp] theorem State.tileAt_setTile (col row : Nat) (v : Tile) : (s.setTile col row v).tileAt col row = v := tabGet_set _ _ _ _

@[simp] theorem State.queueAt_setQueue (fn q : Nat) (v : Queue) : (s.setQueue fn q v).queueAt fn q = v := by
  simp [State.queueAt, State.setQueue]

theorem State.queueAt_setQueue_ne (fn q : Nat) (v : Queue) (g r : Nat) (h : g ≠ fn ∨ r ≠ q) :
    (s.setQueue fn q v).queueAt g r = s.queueAt g r := by
  simp only [State.queueAt, State.setQueue]
  by_cases hg : g = fn
  · subst hg
    simp [tabGet_set_ne _ _ _ _ _ (h.resolve_left (by simp))]
  · rw [State.fnAt_setFn_ne _ _ _ _ hg]

@[simp] theorem State.srcAt_setSrc (n : Nat) (v : IctlSrc) : (s.setSrc n v).srcAt n = v := tabGet_set _ _ _ _

theorem State.srcAt_setSrc_ne (n : Nat) (v : IctlSrc) (m : Nat) (h : m ≠ n) : (s.setSrc n v).srcAt m = s.srcAt m :=
  tabGet_set_ne _ _ _ _ _ h

@[simp] theorem State.tgtAt_setTgt (t : Nat) (v : IctlTarget) : (s.setTgt t v).tgtAt t = v := tabGet_set _ _ _ _

theorem State.tgtAt_setTgt_ne (t : Nat) (v : IctlTarget) (u : Nat) (h : u ≠ t) : (s.setTgt t v).tgtAt u = s.tgtAt u :=
  tabGet_set_ne _ _ _ _ _ h

end Sys2Proof.Machine
end

