-- ==== Sys2Proof/Laws/Memory.lean ====
section
/-! SUPPORT. The canonical form of the memories (Store.lean): every memory operation keeps it, and what a byte reads as
after a write. -/

namespace Sys2Proof.Machine

theorem memWfFrom_iff (m : List Host.Cell) (lo : Nat) :
    memWfFrom lo m = true ↔ m.Pairwise (fun x y => x.1 < y.1) ∧ ∀ c ∈ m, lo ≤ c.1 ∧ c.2 ≠ 0 := by
  induction m generalizing lo with
  | nil => simp [memWfFrom]
  | cons e m ih =>
    obtain ⟨a, b⟩ := e
    simp only [memWfFrom, Bool.and_eq_true, decide_eq_true_eq, bne_iff_ne, ih, List.pairwise_cons, List.mem_cons]
    constructor
    · rintro ⟨⟨h1, h2⟩, h3, h4⟩
      refine ⟨⟨fun c hc => (h4 c hc).1, h3⟩, ?_⟩
      rintro c (rfl | hc)
      · exact ⟨h1, h2⟩
      · exact ⟨by have := (h4 c hc).1; omega, (h4 c hc).2⟩
    · rintro ⟨⟨h1, h2⟩, h3⟩
      exact ⟨h3 _ (.inl rfl), h2, fun c hc => ⟨h1 c hc, (h3 c (.inr hc)).2⟩⟩

/-- The canonical form: addresses strictly rising, no listed 0. -/
theorem memWf_iff (m : List Host.Cell) :
    memWf m = true ↔ m.Pairwise (fun x y => x.1 < y.1) ∧ ∀ c ∈ m, c.2 ≠ 0 := by
  simp [memWf, memWfFrom_iff]

theorem memWf_filter (m : List Host.Cell) (p : Host.Cell → Bool) (h : memWf m = true) : memWf (m.filter p) = true := by
  rw [memWf_iff] at *
  exact ⟨h.1.filter _, fun c hc => h.2 c (List.mem_filter.1 hc).1⟩

theorem cellsOf_mem (a : Nat) (bs : List Byte) (c : Host.Cell) (h : c ∈ cellsOf a bs) :
    a ≤ c.1 ∧ c.1 < a + bs.length ∧ c.2 ≠ 0 := by
  induction bs generalizing a with
  | nil => simp [cellsOf] at h
  | cons b bs ih =>
    simp only [cellsOf] at h
    split at h
    · have := ih _ h
      exact ⟨by omega, by simp only [List.length_cons]; omega, this.2.2⟩
    · next hb =>
      rcases List.mem_cons.1 h with rfl | h
      · exact ⟨Nat.le_refl _, by simp only [List.length_cons]; omega, hb⟩
      · have := ih _ h
        exact ⟨by omega, by simp only [List.length_cons]; omega, this.2.2⟩

theorem cellsOf_wf (a : Nat) (bs : List Byte) : memWf (cellsOf a bs) = true := by
  induction bs generalizing a with
  | nil => rfl
  | cons b bs ih =>
    simp only [cellsOf]
    split
    · exact ih _
    · next hb =>
      have := ih (a + 1)
      rw [memWf_iff] at *
      refine ⟨List.pairwise_cons.2 ⟨fun c hc => (cellsOf_mem _ _ _ hc).1, this.1⟩, ?_⟩
      rintro c hc
      rcases List.mem_cons.1 hc with rfl | hc
      · exact hb
      · exact this.2 c hc

/-- A memory put together from three that follow one another. -/
theorem memWf_append (m n : List Host.Cell) (hm : memWf m = true) (hn : memWf n = true)
    (h : ∀ c ∈ m, ∀ d ∈ n, c.1 < d.1) : memWf (m ++ n) = true := by
  rw [memWf_iff] at *
  exact ⟨List.pairwise_append.2 ⟨hm.1, hn.1, h⟩, fun c hc => (List.mem_append.1 hc).elim (hm.2 c) (hn.2 c)⟩

/-- A write keeps the canonical form. -/
theorem memWf_write (m : List Host.Cell) (a : Nat) (bs : List Byte) (h : memWf m = true) : memWf (memWrite m a bs) = true := by
  refine memWf_append _ _ (memWf_filter _ _ h) (memWf_append _ _ (cellsOf_wf _ _) (memWf_filter _ _ h) ?_) ?_
  · intro c hc d hd
    have := cellsOf_mem _ _ _ hc
    have := (List.mem_filter.1 hd).2
    simp at this; omega
  · intro c hc d hd
    have h1 := (List.mem_filter.1 hc).2
    rcases List.mem_append.1 hd with hd | hd
    · have := cellsOf_mem _ _ _ hd
      simp at h1; omega
    · have := (List.mem_filter.1 hd).2
      simp at h1 this; omega

/-- Zeroing a range keeps the canonical form. -/
theorem memWf_zero (m : List Host.Cell) (a len : Nat) (h : memWf m = true) : memWf (memZero m a len) = true := memWf_filter _ _ h

theorem memGet_append (m n : List Host.Cell) (x : Nat) (h : ∀ c ∈ m, c.1 ≠ x) : memGet (m ++ n) x = memGet n x := by
  induction m with
  | nil => rfl
  | cons c m ih =>
    obtain ⟨a, b⟩ := c
    have : a ≠ x := h (a, b) (.head _)
    simp only [memGet, List.cons_append, tabGet, this, if_false] at ih ⊢
    exact ih (fun c hc => h c (.tail _ hc))

theorem memGet_none (m : List Host.Cell) (x : Nat) (h : ∀ c ∈ m, c.1 ≠ x) : memGet m x = 0 := by
  have := memGet_append m [] x h
  simpa [memGet, tabGet] using this

/-- A listed byte that a filter keeps reads the same; an unlisted one reads from what follows. -/
theorem memGet_filter (m : List Host.Cell) (p : Nat → Bool) (x : Nat) (n : List Host.Cell) (h : p x = true) (l : ∃ c ∈ m, c.1 = x) :
    memGet (m.filter (fun c => p c.1) ++ n) x = memGet m x := by
  induction m with
  | nil => obtain ⟨c, hc, _⟩ := l; cases hc
  | cons c m ih =>
    obtain ⟨a, b⟩ := c
    by_cases e : a = x
    · subst e; simp [h, memGet, tabGet]
    · have l' : ∃ c ∈ m, c.1 = x := by
        obtain ⟨c, hc, hx⟩ := l
        rcases List.mem_cons.1 hc with rfl | hc
        · exact absurd hx e
        · exact ⟨c, hc, hx⟩
      have ih := ih l'
      simp only [memGet] at ih
      by_cases q : p a = true
      · rw [List.filter_cons_of_pos (by simpa using q)]; simpa [e, memGet, tabGet] using ih
      · rw [List.filter_cons_of_neg (by simpa using q)]; simpa [e, memGet, tabGet] using ih

theorem memGet_keeps (m : List Host.Cell) (p : Nat → Bool) (x : Nat) (n : List Host.Cell) (h : p x = true) (hn : memGet n x = 0) :
    memGet (m.filter (fun c => p c.1) ++ n) x = memGet m x := by
  by_cases l : ∃ c ∈ m, c.1 = x
  · exact memGet_filter m p x n h l
  · have l' : ∀ c ∈ m, c.1 ≠ x := fun c hc e => l ⟨c, hc, e⟩
    rw [memGet_append _ _ _ (fun c hc => l' c (List.mem_filter.1 hc).1), hn, memGet_none m x l']

theorem memGet_cells (a : Nat) (bs : List Byte) (x : Nat) (n : List Host.Cell) (h1 : a ≤ x) (h2 : x < a + bs.length)
    (hn : memGet n x = 0) : memGet (cellsOf a bs ++ n) x = bs.getD (x - a) 0 := by
  induction bs generalizing a with
  | nil => simp at h2; omega
  | cons b bs ih =>
    simp only [List.length_cons] at h2
    by_cases e : a = x
    · subst e
      simp only [cellsOf, Nat.sub_self, List.getD_cons_zero]
      split
      · next hb =>
        subst hb
        rw [memGet_append _ _ _ (fun c hc => by have := (cellsOf_mem _ _ _ hc).1; omega), hn]
      · simp [memGet, tabGet]
    · have := ih (a + 1) (by omega) (by omega)
      have hx : x - a = (x - (a + 1)) + 1 := by omega
      rw [hx, List.getD_cons_succ, ← this]
      simp only [cellsOf]
      split
      · rfl
      · simp [memGet, tabGet, e]

/-- What a byte reads as after a write: the byte written, or what it was. -/
theorem memGet_write (m : List Host.Cell) (a : Nat) (bs : List Byte) (x : Nat) :
    memGet (memWrite m a bs) x = if a ≤ x ∧ x < a + bs.length then bs.getD (x - a) 0 else memGet m x := by
  unfold memWrite
  have above : ∀ y : Nat, y < a + bs.length → memGet (m.filter (fun c => decide (a + bs.length ≤ c.1))) y = 0 := fun y hy =>
    memGet_none _ _ (fun c hc e => by have := (List.mem_filter.1 hc).2; simp at this; omega)
  by_cases h1 : x < a
  · rw [if_neg (by omega)]
    refine memGet_keeps m (fun y => decide (y < a)) x _ (by simpa using h1) ?_
    rw [memGet_append _ _ _ (fun c hc => by have := (cellsOf_mem _ _ _ hc).1; omega), above _ (by omega)]
  · rw [memGet_append _ _ _ (fun c hc => by have := (List.mem_filter.1 hc).2; simp at this; omega)]
    by_cases h2 : x < a + bs.length
    · rw [if_pos ⟨by omega, h2⟩, memGet_cells a bs x _ (by omega) h2 (above _ h2)]
    · rw [if_neg (by omega), memGet_append _ _ _ (fun c hc => by have := (cellsOf_mem _ _ _ hc).2.1; omega)]
      have := memGet_keeps m (fun y => decide (a + bs.length ≤ y)) x [] (by simpa using h2) rfl
      rwa [List.append_nil] at this

end Sys2Proof.Machine
end

