-- ==== Sys2Proof/Laws/Keeps.lean ====
section
/-! SUPPORT. What every operation of the device keeps: one relation between the states before and after, with the parts of
the state that may change as a set of bit numbers. One lemma per record update here; the lemmas of the operations follow in
the other Keeps files. -/

namespace Sys2Proof.Machine

/-- A held snapshot stands, or a DEVICE_FATAL capture took the place of one that was none (R473). -/
def HeldKept (a b : Option Snapshot) : Prop :=
  ∀ h, a = some h → ∃ g, b = some g ∧ (g = h ∨ (g.trigger = evDeviceFatal ∧ h.trigger ≠ evDeviceFatal))

theorem HeldKept.refl (a : Option Snapshot) : HeldKept a a := fun h e => ⟨h, e, .inl rfl⟩

theorem HeldKept.trans {a b c : Option Snapshot} (x : HeldKept a b) (y : HeldKept b c) : HeldKept a c := by
  intro h e
  obtain ⟨g, eg, hg⟩ := x h e
  obtain ⟨f, ef, hf⟩ := y g eg
  refine ⟨f, ef, ?_⟩
  obtain rfl | ⟨p, q⟩ := hg
  · exact hf
  · obtain rfl | ⟨r, v⟩ := hf
    · exact .inr ⟨p, q⟩
    · exact absurd p v

/-- What no operation of a command undoes. The queue of commands stands, both memories keep their canonical form, a burned
fuse of the operator bank and the floor bank stays burned, the interrupt controller's sources keep their form, a held snapshot stands unless `W` has number 29, and a field of the state
whose number is not in `W` stands (fields are numbered in the order of `State`). -/
structure Keeps (W : Nat) (s t : State) : Prop where
  pending : t.pending = s.pending
  canonStack : memWf s.stackMem = true → memWf t.stackMem = true
  canonSpad : memWf s.spadMem = true → memWf t.spadMem = true
  operatorBank : s.sec.operatorBank &&& t.sec.operatorBank = s.sec.operatorBank
  floorBank : s.sec.floorBank &&& t.sec.floorBank = s.sec.floorBank
  sound : s.ictl.Sound → t.ictl.Sound
  held : W.testBit 29 = false → HeldKept s.dbg.held t.dbg.held
  time : W.testBit 0 = false → t.time = s.time
  dev : W.testBit 1 = false → t.dev = s.dev
  sec : W.testBit 2 = false → t.sec = s.sec
  spdm : W.testBit 3 = false → t.spdm = s.spdm
  fns : W.testBit 4 = false → t.fns = s.fns
  bays : W.testBit 5 = false → t.bays = s.bays
  cores : W.testBit 6 = false → t.cores = s.cores
  tiles : W.testBit 7 = false → t.tiles = s.tiles
  columns : W.testBit 8 = false → t.columns = s.columns
  stackTab : W.testBit 9 = false → t.stackTab = s.stackTab
  ports : W.testBit 10 = false → t.ports = s.ports
  fabric : W.testBit 11 = false → t.fabric = s.fabric
  power : W.testBit 12 = false → t.power = s.power
  dbg : W.testBit 13 = false → t.dbg = s.dbg
  life : W.testBit 14 = false → t.life = s.life
  ictl : W.testBit 15 = false → t.ictl = s.ictl
  host : W.testBit 16 = false → t.host = s.host
  stackMem : W.testBit 17 = false → t.stackMem = s.stackMem
  spadMem : W.testBit 18 = false → t.spadMem = s.spadMem
  spadPoison : W.testBit 19 = false → t.spadPoison = s.spadPoison
  spadFlaws : W.testBit 20 = false → t.spadFlaws = s.spadFlaws
  reports : W.testBit 21 = false → t.reports = s.reports
  notices : W.testBit 22 = false → t.notices = s.notices
  valley : W.testBit 23 = false → t.valley = s.valley
  repairs : W.testBit 24 = false → t.repairs = s.repairs
  draws : W.testBit 25 = false → t.draws = s.draws
  slotWork : W.testBit 26 = false → t.slotWork = s.slotWork
  itemStale : W.testBit 28 = false → t.itemStale = s.itemStale

theorem Keeps.refl (W : Nat) (s : State) : Keeps W s s :=
  ⟨rfl, id, id, BitVec.and_self, BitVec.and_self, id, fun _ => .refl _, fun _ => rfl, fun _ => rfl, fun _ => rfl, fun _ => rfl, fun _ => rfl, fun _ => rfl, fun _ => rfl, fun _ => rfl, fun _ => rfl, fun _ => rfl, fun _ => rfl, fun _ => rfl, fun _ => rfl, fun _ => rfl, fun _ => rfl, fun _ => rfl, fun _ => rfl, fun _ => rfl, fun _ => rfl, fun _ => rfl, fun _ => rfl, fun _ => rfl, fun _ => rfl, fun _ => rfl, fun _ => rfl, fun _ => rfl, fun _ => rfl, fun _ => rfl⟩

/-- The same of an operation that may refuse: of its state where it answers one. -/
structure KeepsO (W : Nat) (s : State) (o : Option State) : Prop where
  of : ∀ t, o = some t → Keeps W s t
structure KeepsE {E : Type} (W : Nat) (s : State) (o : Except E State) : Prop where
  of : ∀ t, o = .ok t → Keeps W s t
structure KeepsX {F R : Type} (W : Nat) (s : State) (o : Host.Outcome State F R) : Prop where
  of : ∀ t, o = .next t → Keeps W s t

/-- A set of fields inside another. -/
theorem sub_trans {a b W : Nat} (h : b &&& W = b) (e : a &&& b = a) : a &&& W = a := by
  rw [← e, Nat.and_assoc, h]

theorem may_write {M W i : Nat} {p : Prop} (w : M &&& W = M) (m : M.testBit i = true) (n : W.testBit i = false) : p := by
  rw [← w, Nat.testBit_and, n, Bool.and_false] at m
  exact absurd m (by decide)

theorem and_or_burned {w : Nat} (a b v : BitVec w) (h : a &&& b = a) : a &&& (b ||| v) = a := by
  have e : a &&& (b ||| v) = (a &&& b) ||| (a &&& v) := by ext i hi; simp [Bool.and_or_distrib_left]
  rw [e, h]; ext i hi; simp; cases a[i] <;> simp

section
variable {W : Nat} {s t u : State} {E F R A B : Type}

theorem KeepsO.some (h : Keeps W s t) : KeepsO W s (some t) := ⟨fun _ e => Option.some.inj e ▸ h⟩
theorem KeepsO.none : KeepsO W s none := ⟨fun _ e => nomatch e⟩
theorem KeepsE.ok (h : Keeps W s t) : KeepsE W s (.ok t : Except E State) := ⟨fun _ e => Except.ok.inj e ▸ h⟩
theorem KeepsE.error (e : E) : KeepsE W s (.error e) := ⟨fun _ e => nomatch e⟩
theorem KeepsX.next (h : Keeps W s t) : KeepsX W s (.next t : Host.Outcome State F R) := ⟨fun _ e => Host.Outcome.next.inj e ▸ h⟩
theorem KeepsO.get {o : Option State} (e : o = .some t) (h : KeepsO W s o) : Keeps W s t := h.of _ e
theorem KeepsE.get {o : Except E State} (e : o = .ok t) (h : KeepsE W s o) : Keeps W s t := h.of _ e
theorem KeepsX.get {o : Host.Outcome State F R} (e : o = .next t) (h : KeepsX W s o) : Keeps W s t := h.of _ e
theorem KeepsO.map {o : Option A} {f : A → State} (h : ∀ a, Keeps W s (f a)) : KeepsO W s (o.map f) := by
  cases o
  · exact KeepsO.none
  · exact KeepsO.some (h _)
theorem Keeps.pair {p : State × A} {a : A} (e : p = (t, a)) (h : Keeps W s p.1) : Keeps W s t := by rw [e] at h; exact h

theorem Keeps.foldl {f : State → A → State} {l : List A} (h : Keeps W s u)
    (hf : ∀ t x, Keeps W s t → Keeps W s (f t x)) : Keeps W s (l.foldl f u) := by
  induction l generalizing u with
  | nil => exact h
  | cons a l ih => exact ih (hf _ _ h)

theorem Keeps.foldlMem {f : State → A → State} {l : List A} (h : Keeps W s u)
    (hf : ∀ t x, x ∈ l → Keeps W s t → Keeps W s (f t x)) : Keeps W s (l.foldl f u) := by
  induction l generalizing u with
  | nil => exact h
  | cons a l ih => exact ih (hf _ _ (.head _) h) (fun t x m => hf t x (.tail _ m))

theorem Keeps.foldl1 {f : State × B → A → State × B} {l : List A} {u : State × B} (h : Keeps W s u.1)
    (hf : ∀ t x, Keeps W s t.1 → Keeps W s (f t x).1) : Keeps W s (l.foldl f u).1 := by
  induction l generalizing u with
  | nil => exact h
  | cons a l ih => exact ih (hf _ _ h)

theorem KeepsO.findSome {f : A → Option State} {l : List A} (hf : ∀ x, KeepsO W s (f x)) : KeepsO W s (l.findSome? f) := by
  induction l with
  | nil => exact KeepsO.none
  | cons a l ih =>
    simp only [List.findSome?_cons]
    split
    · next b hb => exact KeepsO.some ((hf _).of _ hb)
    · exact ih

theorem keysRising_mono {V : Type} {m : List (Nat × V)} {a b : Nat} (hab : b ≤ a) (h : keysRising a m = true) : keysRising b m = true := by
  cases m with
  | nil => rfl
  | cons e m =>
    simp only [keysRising, Bool.and_eq_true, decide_eq_true_eq] at h ⊢
    exact ⟨by omega, h.2⟩

theorem keysRising_set {V : Type} (m : List (Nat × V)) (k : Nat) (v : V) (a : Nat) (hk : a ≤ k) (h : keysRising a m = true) :
    keysRising a (tabSet m k v) = true := by
  induction m generalizing a with
  | nil => simp [tabSet, keysRising, hk]
  | cons e m ih =>
    obtain ⟨j, w⟩ := e
    simp only [keysRising, Bool.and_eq_true, decide_eq_true_eq] at h
    unfold tabSet
    split
    · next e => subst e; simp [keysRising, h.1, h.2]
    · split
      · next e => simp [keysRising, h.2, hk]; omega
      · next e1 e2 =>
        simp only [keysRising, Bool.and_eq_true, decide_eq_true_eq]
        exact ⟨h.1, ih _ (by omega) h.2⟩

theorem keysRising_map {V : Type} (m : List (Nat × V)) (f : Nat × V → Nat × V) (hf : ∀ e, (f e).1 = e.1) (a : Nat)
    (h : keysRising a m = true) : keysRising a (m.map f) = true := by
  induction m generalizing a with
  | nil => rfl
  | cons e m ih =>
    simp only [keysRising, Bool.and_eq_true, decide_eq_true_eq, List.map_cons] at h ⊢
    rw [hf]
    exact ⟨h.1, ih _ h.2⟩

theorem soundReset : ictlReset.Sound := ⟨rfl, fun i hi => by simp [ictlReset, tabGet, srcReset, hi]⟩

/-- A write of a source that keeps the target and the enable bit of sources 0 to 5. -/
theorem Ictl.Sound.set {x : Ictl} {n : Nat} {v : IctlSrc} (h : x.Sound)
    (hv : n ≤ 5 → v.target = (tabGet x.src n (srcReset n)).target ∧ v.enable = (tabGet x.src n (srcReset n)).enable) :
    ({ x with src := tabSet x.src n v } : Ictl).Sound := by
  refine ⟨keysRising_set _ _ _ _ (Nat.zero_le _) h.1, fun i hi => ?_⟩
  have h2 := h.2 i hi
  rw [tabGet_set_eq]
  split
  · next e => subst e; rw [(hv hi).1, (hv hi).2]; exact h2
  · exact h2

/- The record updates of the model, by the fields that they write. -/

theorem Keeps.on_timeDev {time dev} (w : 3 &&& W = 3) (h : Keeps W s u) : Keeps W s
    ⟨time, dev, u.sec, u.spdm, u.fns, u.bays, u.cores, u.tiles, u.columns, u.stackTab, u.ports, u.fabric, u.power, u.dbg, u.life, u.ictl, u.host, u.stackMem, u.spadMem, u.spadPoison, u.spadFlaws, u.reports, u.notices, u.valley, u.repairs, u.draws, u.slotWork, u.pending, u.itemStale⟩ :=
  ⟨h.pending, h.canonStack, h.canonSpad, h.operatorBank, h.floorBank, h.sound, h.held, may_write w rfl, may_write w rfl, h.sec, h.spdm, h.fns, h.bays, h.cores, h.tiles, h.columns, h.stackTab, h.ports, h.fabric, h.power, h.dbg, h.life, h.ictl, h.host, h.stackMem, h.spadMem, h.spadPoison, h.spadFlaws, h.reports, h.notices, h.valley, h.repairs, h.draws, h.slotWork, h.itemStale⟩
theorem Keeps.on_dev {dev} (w : 2 &&& W = 2) (h : Keeps W s u) : Keeps W s
    ⟨u.time, dev, u.sec, u.spdm, u.fns, u.bays, u.cores, u.tiles, u.columns, u.stackTab, u.ports, u.fabric, u.power, u.dbg, u.life, u.ictl, u.host, u.stackMem, u.spadMem, u.spadPoison, u.spadFlaws, u.reports, u.notices, u.valley, u.repairs, u.draws, u.slotWork, u.pending, u.itemStale⟩ :=
  ⟨h.pending, h.canonStack, h.canonSpad, h.operatorBank, h.floorBank, h.sound, h.held, h.time, may_write w rfl, h.sec, h.spdm, h.fns, h.bays, h.cores, h.tiles, h.columns, h.stackTab, h.ports, h.fabric, h.power, h.dbg, h.life, h.ictl, h.host, h.stackMem, h.spadMem, h.spadPoison, h.spadFlaws, h.reports, h.notices, h.valley, h.repairs, h.draws, h.slotWork, h.itemStale⟩
theorem Keeps.on_devSec {dev sec} (w : 6 &&& W = 6) (h : Keeps W s u) (h1 : sec.operatorBank = u.sec.operatorBank) (h2 : sec.floorBank = u.sec.floorBank) : Keeps W s
    ⟨u.time, dev, sec, u.spdm, u.fns, u.bays, u.cores, u.tiles, u.columns, u.stackTab, u.ports, u.fabric, u.power, u.dbg, u.life, u.ictl, u.host, u.stackMem, u.spadMem, u.spadPoison, u.spadFlaws, u.reports, u.notices, u.valley, u.repairs, u.draws, u.slotWork, u.pending, u.itemStale⟩ :=
  ⟨h.pending, h.canonStack, h.canonSpad, by rw [h1]; exact h.operatorBank, by rw [h2]; exact h.floorBank, h.sound, h.held, h.time, may_write w rfl, may_write w rfl, h.spdm, h.fns, h.bays, h.cores, h.tiles, h.columns, h.stackTab, h.ports, h.fabric, h.power, h.dbg, h.life, h.ictl, h.host, h.stackMem, h.spadMem, h.spadPoison, h.spadFlaws, h.reports, h.notices, h.valley, h.repairs, h.draws, h.slotWork, h.itemStale⟩
theorem Keeps.on_devSecSpdmTilesColumnsStackTabFabricPowerLifeDraws {dev sec spdm tiles columns stackTab fabric power life draws} (w : 33577870 &&& W = 33577870) (h : Keeps W s u) (h1 : sec.operatorBank = u.sec.operatorBank) (h2 : sec.floorBank = u.sec.floorBank) : Keeps W s
    ⟨u.time, dev, sec, spdm, u.fns, u.bays, u.cores, tiles, columns, stackTab, u.ports, fabric, power, u.dbg, life, u.ictl, u.host, u.stackMem, u.spadMem, u.spadPoison, u.spadFlaws, u.reports, u.notices, u.valley, u.repairs, draws, u.slotWork, u.pending, u.itemStale⟩ :=
  ⟨h.pending, h.canonStack, h.canonSpad, by rw [h1]; exact h.operatorBank, by rw [h2]; exact h.floorBank, h.sound, h.held, h.time, may_write w rfl, may_write w rfl, may_write w rfl, h.fns, h.bays, h.cores, may_write w rfl, may_write w rfl, may_write w rfl, h.ports, may_write w rfl, may_write w rfl, h.dbg, may_write w rfl, h.ictl, h.host, h.stackMem, h.spadMem, h.spadPoison, h.spadFlaws, h.reports, h.notices, h.valley, h.repairs, may_write w rfl, h.slotWork, h.itemStale⟩
theorem Keeps.on_devSecRepairs {dev sec repairs} (w : 16777222 &&& W = 16777222) (h : Keeps W s u) (h1 : sec.operatorBank = u.sec.operatorBank) (h2 : sec.floorBank = u.sec.floorBank) : Keeps W s
    ⟨u.time, dev, sec, u.spdm, u.fns, u.bays, u.cores, u.tiles, u.columns, u.stackTab, u.ports, u.fabric, u.power, u.dbg, u.life, u.ictl, u.host, u.stackMem, u.spadMem, u.spadPoison, u.spadFlaws, u.reports, u.notices, u.valley, repairs, u.draws, u.slotWork, u.pending, u.itemStale⟩ :=
  ⟨h.pending, h.canonStack, h.canonSpad, by rw [h1]; exact h.operatorBank, by rw [h2]; exact h.floorBank, h.sound, h.held, h.time, may_write w rfl, may_write w rfl, h.spdm, h.fns, h.bays, h.cores, h.tiles, h.columns, h.stackTab, h.ports, h.fabric, h.power, h.dbg, h.life, h.ictl, h.host, h.stackMem, h.spadMem, h.spadPoison, h.spadFlaws, h.reports, h.notices, h.valley, may_write w rfl, h.draws, h.slotWork, h.itemStale⟩
theorem Keeps.on_devPortsPower {dev ports power} (w : 5122 &&& W = 5122) (h : Keeps W s u) : Keeps W s
    ⟨u.time, dev, u.sec, u.spdm, u.fns, u.bays, u.cores, u.tiles, u.columns, u.stackTab, ports, u.fabric, power, u.dbg, u.life, u.ictl, u.host, u.stackMem, u.spadMem, u.spadPoison, u.spadFlaws, u.reports, u.notices, u.valley, u.repairs, u.draws, u.slotWork, u.pending, u.itemStale⟩ :=
  ⟨h.pending, h.canonStack, h.canonSpad, h.operatorBank, h.floorBank, h.sound, h.held, h.time, may_write w rfl, h.sec, h.spdm, h.fns, h.bays, h.cores, h.tiles, h.columns, h.stackTab, may_write w rfl, h.fabric, may_write w rfl, h.dbg, h.life, h.ictl, h.host, h.stackMem, h.spadMem, h.spadPoison, h.spadFlaws, h.reports, h.notices, h.valley, h.repairs, h.draws, h.slotWork, h.itemStale⟩
theorem Keeps.on_devPower {dev power} (w : 4098 &&& W = 4098) (h : Keeps W s u) : Keeps W s
    ⟨u.time, dev, u.sec, u.spdm, u.fns, u.bays, u.cores, u.tiles, u.columns, u.stackTab, u.ports, u.fabric, power, u.dbg, u.life, u.ictl, u.host, u.stackMem, u.spadMem, u.spadPoison, u.spadFlaws, u.reports, u.notices, u.valley, u.repairs, u.draws, u.slotWork, u.pending, u.itemStale⟩ :=
  ⟨h.pending, h.canonStack, h.canonSpad, h.operatorBank, h.floorBank, h.sound, h.held, h.time, may_write w rfl, h.sec, h.spdm, h.fns, h.bays, h.cores, h.tiles, h.columns, h.stackTab, h.ports, h.fabric, may_write w rfl, h.dbg, h.life, h.ictl, h.host, h.stackMem, h.spadMem, h.spadPoison, h.spadFlaws, h.reports, h.notices, h.valley, h.repairs, h.draws, h.slotWork, h.itemStale⟩
theorem Keeps.on_devPowerLife {dev power life} (w : 20482 &&& W = 20482) (h : Keeps W s u) : Keeps W s
    ⟨u.time, dev, u.sec, u.spdm, u.fns, u.bays, u.cores, u.tiles, u.columns, u.stackTab, u.ports, u.fabric, power, u.dbg, life, u.ictl, u.host, u.stackMem, u.spadMem, u.spadPoison, u.spadFlaws, u.reports, u.notices, u.valley, u.repairs, u.draws, u.slotWork, u.pending, u.itemStale⟩ :=
  ⟨h.pending, h.canonStack, h.canonSpad, h.operatorBank, h.floorBank, h.sound, h.held, h.time, may_write w rfl, h.sec, h.spdm, h.fns, h.bays, h.cores, h.tiles, h.columns, h.stackTab, h.ports, h.fabric, may_write w rfl, h.dbg, may_write w rfl, h.ictl, h.host, h.stackMem, h.spadMem, h.spadPoison, h.spadFlaws, h.reports, h.notices, h.valley, h.repairs, h.draws, h.slotWork, h.itemStale⟩
theorem Keeps.on_devPowerIctl {dev power ictl} (w : 36866 &&& W = 36866) (h : Keeps W s u) (hi : u.ictl.Sound → ictl.Sound) : Keeps W s
    ⟨u.time, dev, u.sec, u.spdm, u.fns, u.bays, u.cores, u.tiles, u.columns, u.stackTab, u.ports, u.fabric, power, u.dbg, u.life, ictl, u.host, u.stackMem, u.spadMem, u.spadPoison, u.spadFlaws, u.reports, u.notices, u.valley, u.repairs, u.draws, u.slotWork, u.pending, u.itemStale⟩ :=
  ⟨h.pending, h.canonStack, h.canonSpad, h.operatorBank, h.floorBank, fun x => hi (h.sound x), h.held, h.time, may_write w rfl, h.sec, h.spdm, h.fns, h.bays, h.cores, h.tiles, h.columns, h.stackTab, h.ports, h.fabric, may_write w rfl, h.dbg, h.life, may_write w rfl, h.host, h.stackMem, h.spadMem, h.spadPoison, h.spadFlaws, h.reports, h.notices, h.valley, h.repairs, h.draws, h.slotWork, h.itemStale⟩
theorem Keeps.on_devRepairs {dev repairs} (w : 16777218 &&& W = 16777218) (h : Keeps W s u) : Keeps W s
    ⟨u.time, dev, u.sec, u.spdm, u.fns, u.bays, u.cores, u.tiles, u.columns, u.stackTab, u.ports, u.fabric, u.power, u.dbg, u.life, u.ictl, u.host, u.stackMem, u.spadMem, u.spadPoison, u.spadFlaws, u.reports, u.notices, u.valley, repairs, u.draws, u.slotWork, u.pending, u.itemStale⟩ :=
  ⟨h.pending, h.canonStack, h.canonSpad, h.operatorBank, h.floorBank, h.sound, h.held, h.time, may_write w rfl, h.sec, h.spdm, h.fns, h.bays, h.cores, h.tiles, h.columns, h.stackTab, h.ports, h.fabric, h.power, h.dbg, h.life, h.ictl, h.host, h.stackMem, h.spadMem, h.spadPoison, h.spadFlaws, h.reports, h.notices, h.valley, may_write w rfl, h.draws, h.slotWork, h.itemStale⟩
theorem Keeps.on_sec {sec} (w : 4 &&& W = 4) (h : Keeps W s u) (h1 : sec.operatorBank = u.sec.operatorBank) (h2 : sec.floorBank = u.sec.floorBank) : Keeps W s
    ⟨u.time, u.dev, sec, u.spdm, u.fns, u.bays, u.cores, u.tiles, u.columns, u.stackTab, u.ports, u.fabric, u.power, u.dbg, u.life, u.ictl, u.host, u.stackMem, u.spadMem, u.spadPoison, u.spadFlaws, u.reports, u.notices, u.valley, u.repairs, u.draws, u.slotWork, u.pending, u.itemStale⟩ :=
  ⟨h.pending, h.canonStack, h.canonSpad, by rw [h1]; exact h.operatorBank, by rw [h2]; exact h.floorBank, h.sound, h.held, h.time, h.dev, may_write w rfl, h.spdm, h.fns, h.bays, h.cores, h.tiles, h.columns, h.stackTab, h.ports, h.fabric, h.power, h.dbg, h.life, h.ictl, h.host, h.stackMem, h.spadMem, h.spadPoison, h.spadFlaws, h.reports, h.notices, h.valley, h.repairs, h.draws, h.slotWork, h.itemStale⟩
theorem Keeps.on_secSpdm {sec spdm} (w : 12 &&& W = 12) (h : Keeps W s u) (h1 : sec.operatorBank = u.sec.operatorBank) (h2 : sec.floorBank = u.sec.floorBank) : Keeps W s
    ⟨u.time, u.dev, sec, spdm, u.fns, u.bays, u.cores, u.tiles, u.columns, u.stackTab, u.ports, u.fabric, u.power, u.dbg, u.life, u.ictl, u.host, u.stackMem, u.spadMem, u.spadPoison, u.spadFlaws, u.reports, u.notices, u.valley, u.repairs, u.draws, u.slotWork, u.pending, u.itemStale⟩ :=
  ⟨h.pending, h.canonStack, h.canonSpad, by rw [h1]; exact h.operatorBank, by rw [h2]; exact h.floorBank, h.sound, h.held, h.time, h.dev, may_write w rfl, may_write w rfl, h.fns, h.bays, h.cores, h.tiles, h.columns, h.stackTab, h.ports, h.fabric, h.power, h.dbg, h.life, h.ictl, h.host, h.stackMem, h.spadMem, h.spadPoison, h.spadFlaws, h.reports, h.notices, h.valley, h.repairs, h.draws, h.slotWork, h.itemStale⟩
theorem Keeps.on_secLife {sec life} (w : 16388 &&& W = 16388) (h : Keeps W s u) (h1 : sec.operatorBank = u.sec.operatorBank) (h2 : sec.floorBank = u.sec.floorBank) : Keeps W s
    ⟨u.time, u.dev, sec, u.spdm, u.fns, u.bays, u.cores, u.tiles, u.columns, u.stackTab, u.ports, u.fabric, u.power, u.dbg, life, u.ictl, u.host, u.stackMem, u.spadMem, u.spadPoison, u.spadFlaws, u.reports, u.notices, u.valley, u.repairs, u.draws, u.slotWork, u.pending, u.itemStale⟩ :=
  ⟨h.pending, h.canonStack, h.canonSpad, by rw [h1]; exact h.operatorBank, by rw [h2]; exact h.floorBank, h.sound, h.held, h.time, h.dev, may_write w rfl, h.spdm, h.fns, h.bays, h.cores, h.tiles, h.columns, h.stackTab, h.ports, h.fabric, h.power, h.dbg, may_write w rfl, h.ictl, h.host, h.stackMem, h.spadMem, h.spadPoison, h.spadFlaws, h.reports, h.notices, h.valley, h.repairs, h.draws, h.slotWork, h.itemStale⟩
theorem Keeps.on_secRepairs {sec repairs} (w : 16777220 &&& W = 16777220) (h : Keeps W s u) (h1 : sec.operatorBank = u.sec.operatorBank) (h2 : sec.floorBank = u.sec.floorBank) : Keeps W s
    ⟨u.time, u.dev, sec, u.spdm, u.fns, u.bays, u.cores, u.tiles, u.columns, u.stackTab, u.ports, u.fabric, u.power, u.dbg, u.life, u.ictl, u.host, u.stackMem, u.spadMem, u.spadPoison, u.spadFlaws, u.reports, u.notices, u.valley, repairs, u.draws, u.slotWork, u.pending, u.itemStale⟩ :=
  ⟨h.pending, h.canonStack, h.canonSpad, by rw [h1]; exact h.operatorBank, by rw [h2]; exact h.floorBank, h.sound, h.held, h.time, h.dev, may_write w rfl, h.spdm, h.fns, h.bays, h.cores, h.tiles, h.columns, h.stackTab, h.ports, h.fabric, h.power, h.dbg, h.life, h.ictl, h.host, h.stackMem, h.spadMem, h.spadPoison, h.spadFlaws, h.reports, h.notices, h.valley, may_write w rfl, h.draws, h.slotWork, h.itemStale⟩
theorem Keeps.on_spdm {spdm} (w : 8 &&& W = 8) (h : Keeps W s u) : Keeps W s
    ⟨u.time, u.dev, u.sec, spdm, u.fns, u.bays, u.cores, u.tiles, u.columns, u.stackTab, u.ports, u.fabric, u.power, u.dbg, u.life, u.ictl, u.host, u.stackMem, u.spadMem, u.spadPoison, u.spadFlaws, u.reports, u.notices, u.valley, u.repairs, u.draws, u.slotWork, u.pending, u.itemStale⟩ :=
  ⟨h.pending, h.canonStack, h.canonSpad, h.operatorBank, h.floorBank, h.sound, h.held, h.time, h.dev, h.sec, may_write w rfl, h.fns, h.bays, h.cores, h.tiles, h.columns, h.stackTab, h.ports, h.fabric, h.power, h.dbg, h.life, h.ictl, h.host, h.stackMem, h.spadMem, h.spadPoison, h.spadFlaws, h.reports, h.notices, h.valley, h.repairs, h.draws, h.slotWork, h.itemStale⟩
theorem Keeps.on_fns {fns} (w : 16 &&& W = 16) (h : Keeps W s u) : Keeps W s
    ⟨u.time, u.dev, u.sec, u.spdm, fns, u.bays, u.cores, u.tiles, u.columns, u.stackTab, u.ports, u.fabric, u.power, u.dbg, u.life, u.ictl, u.host, u.stackMem, u.spadMem, u.spadPoison, u.spadFlaws, u.reports, u.notices, u.valley, u.repairs, u.draws, u.slotWork, u.pending, u.itemStale⟩ :=
  ⟨h.pending, h.canonStack, h.canonSpad, h.operatorBank, h.floorBank, h.sound, h.held, h.time, h.dev, h.sec, h.spdm, may_write w rfl, h.bays, h.cores, h.tiles, h.columns, h.stackTab, h.ports, h.fabric, h.power, h.dbg, h.life, h.ictl, h.host, h.stackMem, h.spadMem, h.spadPoison, h.spadFlaws, h.reports, h.notices, h.valley, h.repairs, h.draws, h.slotWork, h.itemStale⟩
theorem Keeps.on_bays {bays} (w : 32 &&& W = 32) (h : Keeps W s u) : Keeps W s
    ⟨u.time, u.dev, u.sec, u.spdm, u.fns, bays, u.cores, u.tiles, u.columns, u.stackTab, u.ports, u.fabric, u.power, u.dbg, u.life, u.ictl, u.host, u.stackMem, u.spadMem, u.spadPoison, u.spadFlaws, u.reports, u.notices, u.valley, u.repairs, u.draws, u.slotWork, u.pending, u.itemStale⟩ :=
  ⟨h.pending, h.canonStack, h.canonSpad, h.operatorBank, h.floorBank, h.sound, h.held, h.time, h.dev, h.sec, h.spdm, h.fns, may_write w rfl, h.cores, h.tiles, h.columns, h.stackTab, h.ports, h.fabric, h.power, h.dbg, h.life, h.ictl, h.host, h.stackMem, h.spadMem, h.spadPoison, h.spadFlaws, h.reports, h.notices, h.valley, h.repairs, h.draws, h.slotWork, h.itemStale⟩
theorem Keeps.on_cores {cores} (w : 64 &&& W = 64) (h : Keeps W s u) : Keeps W s
    ⟨u.time, u.dev, u.sec, u.spdm, u.fns, u.bays, cores, u.tiles, u.columns, u.stackTab, u.ports, u.fabric, u.power, u.dbg, u.life, u.ictl, u.host, u.stackMem, u.spadMem, u.spadPoison, u.spadFlaws, u.reports, u.notices, u.valley, u.repairs, u.draws, u.slotWork, u.pending, u.itemStale⟩ :=
  ⟨h.pending, h.canonStack, h.canonSpad, h.operatorBank, h.floorBank, h.sound, h.held, h.time, h.dev, h.sec, h.spdm, h.fns, h.bays, may_write w rfl, h.tiles, h.columns, h.stackTab, h.ports, h.fabric, h.power, h.dbg, h.life, h.ictl, h.host, h.stackMem, h.spadMem, h.spadPoison, h.spadFlaws, h.reports, h.notices, h.valley, h.repairs, h.draws, h.slotWork, h.itemStale⟩
theorem Keeps.on_coresStackTabReportsNoticesValley {cores stackTab reports notices valley} (w : 14680640 &&& W = 14680640) (h : Keeps W s u) : Keeps W s
    ⟨u.time, u.dev, u.sec, u.spdm, u.fns, u.bays, cores, u.tiles, u.columns, stackTab, u.ports, u.fabric, u.power, u.dbg, u.life, u.ictl, u.host, u.stackMem, u.spadMem, u.spadPoison, u.spadFlaws, reports, notices, valley, u.repairs, u.draws, u.slotWork, u.pending, u.itemStale⟩ :=
  ⟨h.pending, h.canonStack, h.canonSpad, h.operatorBank, h.floorBank, h.sound, h.held, h.time, h.dev, h.sec, h.spdm, h.fns, h.bays, may_write w rfl, h.tiles, h.columns, may_write w rfl, h.ports, h.fabric, h.power, h.dbg, h.life, h.ictl, h.host, h.stackMem, h.spadMem, h.spadPoison, h.spadFlaws, may_write w rfl, may_write w rfl, may_write w rfl, h.repairs, h.draws, h.slotWork, h.itemStale⟩
theorem Keeps.on_tiles {tiles} (w : 128 &&& W = 128) (h : Keeps W s u) : Keeps W s
    ⟨u.time, u.dev, u.sec, u.spdm, u.fns, u.bays, u.cores, tiles, u.columns, u.stackTab, u.ports, u.fabric, u.power, u.dbg, u.life, u.ictl, u.host, u.stackMem, u.spadMem, u.spadPoison, u.spadFlaws, u.reports, u.notices, u.valley, u.repairs, u.draws, u.slotWork, u.pending, u.itemStale⟩ :=
  ⟨h.pending, h.canonStack, h.canonSpad, h.operatorBank, h.floorBank, h.sound, h.held, h.time, h.dev, h.sec, h.spdm, h.fns, h.bays, h.cores, may_write w rfl, h.columns, h.stackTab, h.ports, h.fabric, h.power, h.dbg, h.life, h.ictl, h.host, h.stackMem, h.spadMem, h.spadPoison, h.spadFlaws, h.reports, h.notices, h.valley, h.repairs, h.draws, h.slotWork, h.itemStale⟩
theorem Keeps.on_columns {columns} (w : 256 &&& W = 256) (h : Keeps W s u) : Keeps W s
    ⟨u.time, u.dev, u.sec, u.spdm, u.fns, u.bays, u.cores, u.tiles, columns, u.stackTab, u.ports, u.fabric, u.power, u.dbg, u.life, u.ictl, u.host, u.stackMem, u.spadMem, u.spadPoison, u.spadFlaws, u.reports, u.notices, u.valley, u.repairs, u.draws, u.slotWork, u.pending, u.itemStale⟩ :=
  ⟨h.pending, h.canonStack, h.canonSpad, h.operatorBank, h.floorBank, h.sound, h.held, h.time, h.dev, h.sec, h.spdm, h.fns, h.bays, h.cores, h.tiles, may_write w rfl, h.stackTab, h.ports, h.fabric, h.power, h.dbg, h.life, h.ictl, h.host, h.stackMem, h.spadMem, h.spadPoison, h.spadFlaws, h.reports, h.notices, h.valley, h.repairs, h.draws, h.slotWork, h.itemStale⟩
theorem Keeps.on_stackTab {stackTab} (w : 512 &&& W = 512) (h : Keeps W s u) : Keeps W s
    ⟨u.time, u.dev, u.sec, u.spdm, u.fns, u.bays, u.cores, u.tiles, u.columns, stackTab, u.ports, u.fabric, u.power, u.dbg, u.life, u.ictl, u.host, u.stackMem, u.spadMem, u.spadPoison, u.spadFlaws, u.reports, u.notices, u.valley, u.repairs, u.draws, u.slotWork, u.pending, u.itemStale⟩ :=
  ⟨h.pending, h.canonStack, h.canonSpad, h.operatorBank, h.floorBank, h.sound, h.held, h.time, h.dev, h.sec, h.spdm, h.fns, h.bays, h.cores, h.tiles, h.columns, may_write w rfl, h.ports, h.fabric, h.power, h.dbg, h.life, h.ictl, h.host, h.stackMem, h.spadMem, h.spadPoison, h.spadFlaws, h.reports, h.notices, h.valley, h.repairs, h.draws, h.slotWork, h.itemStale⟩
theorem Keeps.on_ports {ports} (w : 1024 &&& W = 1024) (h : Keeps W s u) : Keeps W s
    ⟨u.time, u.dev, u.sec, u.spdm, u.fns, u.bays, u.cores, u.tiles, u.columns, u.stackTab, ports, u.fabric, u.power, u.dbg, u.life, u.ictl, u.host, u.stackMem, u.spadMem, u.spadPoison, u.spadFlaws, u.reports, u.notices, u.valley, u.repairs, u.draws, u.slotWork, u.pending, u.itemStale⟩ :=
  ⟨h.pending, h.canonStack, h.canonSpad, h.operatorBank, h.floorBank, h.sound, h.held, h.time, h.dev, h.sec, h.spdm, h.fns, h.bays, h.cores, h.tiles, h.columns, h.stackTab, may_write w rfl, h.fabric, h.power, h.dbg, h.life, h.ictl, h.host, h.stackMem, h.spadMem, h.spadPoison, h.spadFlaws, h.reports, h.notices, h.valley, h.repairs, h.draws, h.slotWork, h.itemStale⟩
theorem Keeps.on_fabric {fabric} (w : 2048 &&& W = 2048) (h : Keeps W s u) : Keeps W s
    ⟨u.time, u.dev, u.sec, u.spdm, u.fns, u.bays, u.cores, u.tiles, u.columns, u.stackTab, u.ports, fabric, u.power, u.dbg, u.life, u.ictl, u.host, u.stackMem, u.spadMem, u.spadPoison, u.spadFlaws, u.reports, u.notices, u.valley, u.repairs, u.draws, u.slotWork, u.pending, u.itemStale⟩ :=
  ⟨h.pending, h.canonStack, h.canonSpad, h.operatorBank, h.floorBank, h.sound, h.held, h.time, h.dev, h.sec, h.spdm, h.fns, h.bays, h.cores, h.tiles, h.columns, h.stackTab, h.ports, may_write w rfl, h.power, h.dbg, h.life, h.ictl, h.host, h.stackMem, h.spadMem, h.spadPoison, h.spadFlaws, h.reports, h.notices, h.valley, h.repairs, h.draws, h.slotWork, h.itemStale⟩
theorem Keeps.on_power {power} (w : 4096 &&& W = 4096) (h : Keeps W s u) : Keeps W s
    ⟨u.time, u.dev, u.sec, u.spdm, u.fns, u.bays, u.cores, u.tiles, u.columns, u.stackTab, u.ports, u.fabric, power, u.dbg, u.life, u.ictl, u.host, u.stackMem, u.spadMem, u.spadPoison, u.spadFlaws, u.reports, u.notices, u.valley, u.repairs, u.draws, u.slotWork, u.pending, u.itemStale⟩ :=
  ⟨h.pending, h.canonStack, h.canonSpad, h.operatorBank, h.floorBank, h.sound, h.held, h.time, h.dev, h.sec, h.spdm, h.fns, h.bays, h.cores, h.tiles, h.columns, h.stackTab, h.ports, h.fabric, may_write w rfl, h.dbg, h.life, h.ictl, h.host, h.stackMem, h.spadMem, h.spadPoison, h.spadFlaws, h.reports, h.notices, h.valley, h.repairs, h.draws, h.slotWork, h.itemStale⟩
theorem Keeps.on_powerLife {power life} (w : 20480 &&& W = 20480) (h : Keeps W s u) : Keeps W s
    ⟨u.time, u.dev, u.sec, u.spdm, u.fns, u.bays, u.cores, u.tiles, u.columns, u.stackTab, u.ports, u.fabric, power, u.dbg, life, u.ictl, u.host, u.stackMem, u.spadMem, u.spadPoison, u.spadFlaws, u.reports, u.notices, u.valley, u.repairs, u.draws, u.slotWork, u.pending, u.itemStale⟩ :=
  ⟨h.pending, h.canonStack, h.canonSpad, h.operatorBank, h.floorBank, h.sound, h.held, h.time, h.dev, h.sec, h.spdm, h.fns, h.bays, h.cores, h.tiles, h.columns, h.stackTab, h.ports, h.fabric, may_write w rfl, h.dbg, may_write w rfl, h.ictl, h.host, h.stackMem, h.spadMem, h.spadPoison, h.spadFlaws, h.reports, h.notices, h.valley, h.repairs, h.draws, h.slotWork, h.itemStale⟩
theorem Keeps.on_debug {dbg} (w : 8192 &&& W = 8192) (h : Keeps W s u) (hd : HeldKept u.dbg.held dbg.held) : Keeps W s
    ⟨u.time, u.dev, u.sec, u.spdm, u.fns, u.bays, u.cores, u.tiles, u.columns, u.stackTab, u.ports, u.fabric, u.power, dbg, u.life, u.ictl, u.host, u.stackMem, u.spadMem, u.spadPoison, u.spadFlaws, u.reports, u.notices, u.valley, u.repairs, u.draws, u.slotWork, u.pending, u.itemStale⟩ :=
  ⟨h.pending, h.canonStack, h.canonSpad, h.operatorBank, h.floorBank, h.sound, fun n => (h.held n).trans hd, h.time, h.dev, h.sec, h.spdm, h.fns, h.bays, h.cores, h.tiles, h.columns, h.stackTab, h.ports, h.fabric, h.power, may_write w rfl, h.life, h.ictl, h.host, h.stackMem, h.spadMem, h.spadPoison, h.spadFlaws, h.reports, h.notices, h.valley, h.repairs, h.draws, h.slotWork, h.itemStale⟩
theorem Keeps.on_debugDraws {dbg draws} (w : 33562624 &&& W = 33562624) (h : Keeps W s u) (hd : HeldKept u.dbg.held dbg.held) : Keeps W s
    ⟨u.time, u.dev, u.sec, u.spdm, u.fns, u.bays, u.cores, u.tiles, u.columns, u.stackTab, u.ports, u.fabric, u.power, dbg, u.life, u.ictl, u.host, u.stackMem, u.spadMem, u.spadPoison, u.spadFlaws, u.reports, u.notices, u.valley, u.repairs, draws, u.slotWork, u.pending, u.itemStale⟩ :=
  ⟨h.pending, h.canonStack, h.canonSpad, h.operatorBank, h.floorBank, h.sound, fun n => (h.held n).trans hd, h.time, h.dev, h.sec, h.spdm, h.fns, h.bays, h.cores, h.tiles, h.columns, h.stackTab, h.ports, h.fabric, h.power, may_write w rfl, h.life, h.ictl, h.host, h.stackMem, h.spadMem, h.spadPoison, h.spadFlaws, h.reports, h.notices, h.valley, h.repairs, may_write w rfl, h.slotWork, h.itemStale⟩
theorem Keeps.on_debugFree {dbg} (w : 536879104 &&& W = 536879104) (h : Keeps W s u) : Keeps W s
    ⟨u.time, u.dev, u.sec, u.spdm, u.fns, u.bays, u.cores, u.tiles, u.columns, u.stackTab, u.ports, u.fabric, u.power, dbg, u.life, u.ictl, u.host, u.stackMem, u.spadMem, u.spadPoison, u.spadFlaws, u.reports, u.notices, u.valley, u.repairs, u.draws, u.slotWork, u.pending, u.itemStale⟩ :=
  ⟨h.pending, h.canonStack, h.canonSpad, h.operatorBank, h.floorBank, h.sound, may_write w rfl, h.time, h.dev, h.sec, h.spdm, h.fns, h.bays, h.cores, h.tiles, h.columns, h.stackTab, h.ports, h.fabric, h.power, may_write w rfl, h.life, h.ictl, h.host, h.stackMem, h.spadMem, h.spadPoison, h.spadFlaws, h.reports, h.notices, h.valley, h.repairs, h.draws, h.slotWork, h.itemStale⟩
theorem Keeps.on_life {life} (w : 16384 &&& W = 16384) (h : Keeps W s u) : Keeps W s
    ⟨u.time, u.dev, u.sec, u.spdm, u.fns, u.bays, u.cores, u.tiles, u.columns, u.stackTab, u.ports, u.fabric, u.power, u.dbg, life, u.ictl, u.host, u.stackMem, u.spadMem, u.spadPoison, u.spadFlaws, u.reports, u.notices, u.valley, u.repairs, u.draws, u.slotWork, u.pending, u.itemStale⟩ :=
  ⟨h.pending, h.canonStack, h.canonSpad, h.operatorBank, h.floorBank, h.sound, h.held, h.time, h.dev, h.sec, h.spdm, h.fns, h.bays, h.cores, h.tiles, h.columns, h.stackTab, h.ports, h.fabric, h.power, h.dbg, may_write w rfl, h.ictl, h.host, h.stackMem, h.spadMem, h.spadPoison, h.spadFlaws, h.reports, h.notices, h.valley, h.repairs, h.draws, h.slotWork, h.itemStale⟩
theorem Keeps.on_ictl {ictl} (w : 32768 &&& W = 32768) (h : Keeps W s u) (hi : u.ictl.Sound → ictl.Sound) : Keeps W s
    ⟨u.time, u.dev, u.sec, u.spdm, u.fns, u.bays, u.cores, u.tiles, u.columns, u.stackTab, u.ports, u.fabric, u.power, u.dbg, u.life, ictl, u.host, u.stackMem, u.spadMem, u.spadPoison, u.spadFlaws, u.reports, u.notices, u.valley, u.repairs, u.draws, u.slotWork, u.pending, u.itemStale⟩ :=
  ⟨h.pending, h.canonStack, h.canonSpad, h.operatorBank, h.floorBank, fun x => hi (h.sound x), h.held, h.time, h.dev, h.sec, h.spdm, h.fns, h.bays, h.cores, h.tiles, h.columns, h.stackTab, h.ports, h.fabric, h.power, h.dbg, h.life, may_write w rfl, h.host, h.stackMem, h.spadMem, h.spadPoison, h.spadFlaws, h.reports, h.notices, h.valley, h.repairs, h.draws, h.slotWork, h.itemStale⟩
theorem Keeps.on_host {host} (w : 65536 &&& W = 65536) (h : Keeps W s u) : Keeps W s
    ⟨u.time, u.dev, u.sec, u.spdm, u.fns, u.bays, u.cores, u.tiles, u.columns, u.stackTab, u.ports, u.fabric, u.power, u.dbg, u.life, u.ictl, host, u.stackMem, u.spadMem, u.spadPoison, u.spadFlaws, u.reports, u.notices, u.valley, u.repairs, u.draws, u.slotWork, u.pending, u.itemStale⟩ :=
  ⟨h.pending, h.canonStack, h.canonSpad, h.operatorBank, h.floorBank, h.sound, h.held, h.time, h.dev, h.sec, h.spdm, h.fns, h.bays, h.cores, h.tiles, h.columns, h.stackTab, h.ports, h.fabric, h.power, h.dbg, h.life, h.ictl, may_write w rfl, h.stackMem, h.spadMem, h.spadPoison, h.spadFlaws, h.reports, h.notices, h.valley, h.repairs, h.draws, h.slotWork, h.itemStale⟩
theorem Keeps.on_spadPoison {spadPoison} (w : 524288 &&& W = 524288) (h : Keeps W s u) : Keeps W s
    ⟨u.time, u.dev, u.sec, u.spdm, u.fns, u.bays, u.cores, u.tiles, u.columns, u.stackTab, u.ports, u.fabric, u.power, u.dbg, u.life, u.ictl, u.host, u.stackMem, u.spadMem, spadPoison, u.spadFlaws, u.reports, u.notices, u.valley, u.repairs, u.draws, u.slotWork, u.pending, u.itemStale⟩ :=
  ⟨h.pending, h.canonStack, h.canonSpad, h.operatorBank, h.floorBank, h.sound, h.held, h.time, h.dev, h.sec, h.spdm, h.fns, h.bays, h.cores, h.tiles, h.columns, h.stackTab, h.ports, h.fabric, h.power, h.dbg, h.life, h.ictl, h.host, h.stackMem, h.spadMem, may_write w rfl, h.spadFlaws, h.reports, h.notices, h.valley, h.repairs, h.draws, h.slotWork, h.itemStale⟩
theorem Keeps.on_spadPoisonSpadFlaws {spadPoison spadFlaws} (w : 1572864 &&& W = 1572864) (h : Keeps W s u) : Keeps W s
    ⟨u.time, u.dev, u.sec, u.spdm, u.fns, u.bays, u.cores, u.tiles, u.columns, u.stackTab, u.ports, u.fabric, u.power, u.dbg, u.life, u.ictl, u.host, u.stackMem, u.spadMem, spadPoison, spadFlaws, u.reports, u.notices, u.valley, u.repairs, u.draws, u.slotWork, u.pending, u.itemStale⟩ :=
  ⟨h.pending, h.canonStack, h.canonSpad, h.operatorBank, h.floorBank, h.sound, h.held, h.time, h.dev, h.sec, h.spdm, h.fns, h.bays, h.cores, h.tiles, h.columns, h.stackTab, h.ports, h.fabric, h.power, h.dbg, h.life, h.ictl, h.host, h.stackMem, h.spadMem, may_write w rfl, may_write w rfl, h.reports, h.notices, h.valley, h.repairs, h.draws, h.slotWork, h.itemStale⟩
theorem Keeps.on_spadFlaws {spadFlaws} (w : 1048576 &&& W = 1048576) (h : Keeps W s u) : Keeps W s
    ⟨u.time, u.dev, u.sec, u.spdm, u.fns, u.bays, u.cores, u.tiles, u.columns, u.stackTab, u.ports, u.fabric, u.power, u.dbg, u.life, u.ictl, u.host, u.stackMem, u.spadMem, u.spadPoison, spadFlaws, u.reports, u.notices, u.valley, u.repairs, u.draws, u.slotWork, u.pending, u.itemStale⟩ :=
  ⟨h.pending, h.canonStack, h.canonSpad, h.operatorBank, h.floorBank, h.sound, h.held, h.time, h.dev, h.sec, h.spdm, h.fns, h.bays, h.cores, h.tiles, h.columns, h.stackTab, h.ports, h.fabric, h.power, h.dbg, h.life, h.ictl, h.host, h.stackMem, h.spadMem, h.spadPoison, may_write w rfl, h.reports, h.notices, h.valley, h.repairs, h.draws, h.slotWork, h.itemStale⟩
theorem Keeps.on_reports {reports} (w : 2097152 &&& W = 2097152) (h : Keeps W s u) : Keeps W s
    ⟨u.time, u.dev, u.sec, u.spdm, u.fns, u.bays, u.cores, u.tiles, u.columns, u.stackTab, u.ports, u.fabric, u.power, u.dbg, u.life, u.ictl, u.host, u.stackMem, u.spadMem, u.spadPoison, u.spadFlaws, reports, u.notices, u.valley, u.repairs, u.draws, u.slotWork, u.pending, u.itemStale⟩ :=
  ⟨h.pending, h.canonStack, h.canonSpad, h.operatorBank, h.floorBank, h.sound, h.held, h.time, h.dev, h.sec, h.spdm, h.fns, h.bays, h.cores, h.tiles, h.columns, h.stackTab, h.ports, h.fabric, h.power, h.dbg, h.life, h.ictl, h.host, h.stackMem, h.spadMem, h.spadPoison, h.spadFlaws, may_write w rfl, h.notices, h.valley, h.repairs, h.draws, h.slotWork, h.itemStale⟩
theorem Keeps.on_notices {notices} (w : 4194304 &&& W = 4194304) (h : Keeps W s u) : Keeps W s
    ⟨u.time, u.dev, u.sec, u.spdm, u.fns, u.bays, u.cores, u.tiles, u.columns, u.stackTab, u.ports, u.fabric, u.power, u.dbg, u.life, u.ictl, u.host, u.stackMem, u.spadMem, u.spadPoison, u.spadFlaws, u.reports, notices, u.valley, u.repairs, u.draws, u.slotWork, u.pending, u.itemStale⟩ :=
  ⟨h.pending, h.canonStack, h.canonSpad, h.operatorBank, h.floorBank, h.sound, h.held, h.time, h.dev, h.sec, h.spdm, h.fns, h.bays, h.cores, h.tiles, h.columns, h.stackTab, h.ports, h.fabric, h.power, h.dbg, h.life, h.ictl, h.host, h.stackMem, h.spadMem, h.spadPoison, h.spadFlaws, h.reports, may_write w rfl, h.valley, h.repairs, h.draws, h.slotWork, h.itemStale⟩
theorem Keeps.on_valley {valley} (w : 8388608 &&& W = 8388608) (h : Keeps W s u) : Keeps W s
    ⟨u.time, u.dev, u.sec, u.spdm, u.fns, u.bays, u.cores, u.tiles, u.columns, u.stackTab, u.ports, u.fabric, u.power, u.dbg, u.life, u.ictl, u.host, u.stackMem, u.spadMem, u.spadPoison, u.spadFlaws, u.reports, u.notices, valley, u.repairs, u.draws, u.slotWork, u.pending, u.itemStale⟩ :=
  ⟨h.pending, h.canonStack, h.canonSpad, h.operatorBank, h.floorBank, h.sound, h.held, h.time, h.dev, h.sec, h.spdm, h.fns, h.bays, h.cores, h.tiles, h.columns, h.stackTab, h.ports, h.fabric, h.power, h.dbg, h.life, h.ictl, h.host, h.stackMem, h.spadMem, h.spadPoison, h.spadFlaws, h.reports, h.notices, may_write w rfl, h.repairs, h.draws, h.slotWork, h.itemStale⟩
theorem Keeps.on_repairs {repairs} (w : 16777216 &&& W = 16777216) (h : Keeps W s u) : Keeps W s
    ⟨u.time, u.dev, u.sec, u.spdm, u.fns, u.bays, u.cores, u.tiles, u.columns, u.stackTab, u.ports, u.fabric, u.power, u.dbg, u.life, u.ictl, u.host, u.stackMem, u.spadMem, u.spadPoison, u.spadFlaws, u.reports, u.notices, u.valley, repairs, u.draws, u.slotWork, u.pending, u.itemStale⟩ :=
  ⟨h.pending, h.canonStack, h.canonSpad, h.operatorBank, h.floorBank, h.sound, h.held, h.time, h.dev, h.sec, h.spdm, h.fns, h.bays, h.cores, h.tiles, h.columns, h.stackTab, h.ports, h.fabric, h.power, h.dbg, h.life, h.ictl, h.host, h.stackMem, h.spadMem, h.spadPoison, h.spadFlaws, h.reports, h.notices, h.valley, may_write w rfl, h.draws, h.slotWork, h.itemStale⟩
theorem Keeps.on_draws {draws} (w : 33554432 &&& W = 33554432) (h : Keeps W s u) : Keeps W s
    ⟨u.time, u.dev, u.sec, u.spdm, u.fns, u.bays, u.cores, u.tiles, u.columns, u.stackTab, u.ports, u.fabric, u.power, u.dbg, u.life, u.ictl, u.host, u.stackMem, u.spadMem, u.spadPoison, u.spadFlaws, u.reports, u.notices, u.valley, u.repairs, draws, u.slotWork, u.pending, u.itemStale⟩ :=
  ⟨h.pending, h.canonStack, h.canonSpad, h.operatorBank, h.floorBank, h.sound, h.held, h.time, h.dev, h.sec, h.spdm, h.fns, h.bays, h.cores, h.tiles, h.columns, h.stackTab, h.ports, h.fabric, h.power, h.dbg, h.life, h.ictl, h.host, h.stackMem, h.spadMem, h.spadPoison, h.spadFlaws, h.reports, h.notices, h.valley, h.repairs, may_write w rfl, h.slotWork, h.itemStale⟩
theorem Keeps.on_slotWork {slotWork} (w : 67108864 &&& W = 67108864) (h : Keeps W s u) : Keeps W s
    ⟨u.time, u.dev, u.sec, u.spdm, u.fns, u.bays, u.cores, u.tiles, u.columns, u.stackTab, u.ports, u.fabric, u.power, u.dbg, u.life, u.ictl, u.host, u.stackMem, u.spadMem, u.spadPoison, u.spadFlaws, u.reports, u.notices, u.valley, u.repairs, u.draws, slotWork, u.pending, u.itemStale⟩ :=
  ⟨h.pending, h.canonStack, h.canonSpad, h.operatorBank, h.floorBank, h.sound, h.held, h.time, h.dev, h.sec, h.spdm, h.fns, h.bays, h.cores, h.tiles, h.columns, h.stackTab, h.ports, h.fabric, h.power, h.dbg, h.life, h.ictl, h.host, h.stackMem, h.spadMem, h.spadPoison, h.spadFlaws, h.reports, h.notices, h.valley, h.repairs, h.draws, may_write w rfl, h.itemStale⟩
theorem Keeps.on_itemStale {itemStale} (w : 268435456 &&& W = 268435456) (h : Keeps W s u) : Keeps W s
    ⟨u.time, u.dev, u.sec, u.spdm, u.fns, u.bays, u.cores, u.tiles, u.columns, u.stackTab, u.ports, u.fabric, u.power, u.dbg, u.life, u.ictl, u.host, u.stackMem, u.spadMem, u.spadPoison, u.spadFlaws, u.reports, u.notices, u.valley, u.repairs, u.draws, u.slotWork, u.pending, itemStale⟩ :=
  ⟨h.pending, h.canonStack, h.canonSpad, h.operatorBank, h.floorBank, h.sound, h.held, h.time, h.dev, h.sec, h.spdm, h.fns, h.bays, h.cores, h.tiles, h.columns, h.stackTab, h.ports, h.fabric, h.power, h.dbg, h.life, h.ictl, h.host, h.stackMem, h.spadMem, h.spadPoison, h.spadFlaws, h.reports, h.notices, h.valley, h.repairs, h.draws, h.slotWork, may_write w rfl⟩

/- The updates that write memory or burn fuses. -/

theorem Keeps.stackW (w : 131072 &&& W = 131072) (h : Keeps W s u) (a : Nat) (bs : List Byte) :
    Keeps W s { u with stackMem := memWrite u.stackMem a bs } :=
  ⟨h.pending, fun hs => memWf_write _ _ _ (h.canonStack hs), h.canonSpad, h.operatorBank, h.floorBank, h.sound, h.held, h.time, h.dev, h.sec, h.spdm, h.fns, h.bays, h.cores, h.tiles, h.columns, h.stackTab, h.ports, h.fabric, h.power, h.dbg, h.life, h.ictl, h.host, may_write w rfl, h.spadMem, h.spadPoison, h.spadFlaws, h.reports, h.notices, h.valley, h.repairs, h.draws, h.slotWork, h.itemStale⟩
theorem Keeps.spadW (w : 1835008 &&& W = 1835008) (h : Keeps W s u) (a : Nat) (bs : List Byte) (d : List Nat) (e : List (Nat × Nat)) :
    Keeps W s { u with spadMem := memWrite u.spadMem a bs, spadPoison := d, spadFlaws := e } :=
  ⟨h.pending, h.canonStack, fun hs => memWf_write _ _ _ (h.canonSpad hs), h.operatorBank, h.floorBank, h.sound, h.held, h.time, h.dev, h.sec, h.spdm, h.fns, h.bays, h.cores, h.tiles, h.columns, h.stackTab, h.ports, h.fabric, h.power, h.dbg, h.life, h.ictl, h.host, h.stackMem, may_write w rfl, may_write w rfl, may_write w rfl, h.reports, h.notices, h.valley, h.repairs, h.draws, h.slotWork, h.itemStale⟩
theorem memWf_lay (land : Nat → Bool) (m cells : List Host.Cell) (h : memWf m = true) : memWf (layCells land m cells) = true := by
  unfold layCells
  induction cells generalizing m with
  | nil => exact h
  | cons c l ih =>
    simp only [List.foldl_cons]
    apply ih
    split
    · exact memWf_write _ _ _ h
    · exact h
theorem Keeps.spadM (w : 262144 &&& W = 262144) (h : Keeps W s u) (a : Nat) (bs : List Byte) :
    Keeps W s { u with spadMem := memWrite u.spadMem a bs } :=
  ⟨h.pending, h.canonStack, fun hs => memWf_write _ _ _ (h.canonSpad hs), h.operatorBank, h.floorBank, h.sound, h.held, h.time, h.dev, h.sec, h.spdm, h.fns, h.bays, h.cores, h.tiles, h.columns, h.stackTab, h.ports, h.fabric, h.power, h.dbg, h.life, h.ictl, h.host, h.stackMem, may_write w rfl, h.spadPoison, h.spadFlaws, h.reports, h.notices, h.valley, h.repairs, h.draws, h.slotWork, h.itemStale⟩
theorem Keeps.merged (w : 917504 &&& W = 917504) (h : Keeps W s u) (f g : Nat → Bool) (x y : List Host.Cell) (p : List Nat) :
    Keeps W s { u with stackMem := layCells f u.stackMem x, spadMem := layCells g u.spadMem y, spadPoison := p } :=
  ⟨h.pending, fun hs => memWf_lay _ _ _ (h.canonStack hs), fun hs => memWf_lay _ _ _ (h.canonSpad hs), h.operatorBank, h.floorBank, h.sound, h.held, h.time, h.dev, h.sec, h.spdm, h.fns, h.bays, h.cores, h.tiles, h.columns, h.stackTab, h.ports, h.fabric, h.power, h.dbg, h.life, h.ictl, h.host, may_write w rfl, may_write w rfl, may_write w rfl, h.spadFlaws, h.reports, h.notices, h.valley, h.repairs, h.draws, h.slotWork, h.itemStale⟩
theorem not_in_or {W M i : Nat} (m : M.testBit i = false) (n : W.testBit i = false) : (W ||| M).testBit i = false := by
  rw [Nat.testBit_or, n, m]; rfl
theorem sub_or {a W : Nat} (M : Nat) (h : a &&& W = a) : a &&& (W ||| M) = a := by
  rw [Nat.and_or_distrib_left, h]
  exact Nat.eq_of_testBit_eq (fun i => by simp only [Nat.testBit_or, Nat.testBit_and]; cases a.testBit i <;> simp)
theorem or_sub (W M : Nat) : M &&& (W ||| M) = M :=
  Nat.eq_of_testBit_eq (fun i => by simp only [Nat.testBit_or, Nat.testBit_and]; cases M.testBit i <;> simp)
/-- Work on another view of memory, which is then as it was. -/
theorem Keeps.memBack (h : Keeps W s u) (hx : Keeps (W ||| 393216) s t) : Keeps W s { t with spadMem := u.spadMem, stackMem := u.stackMem } :=
  ⟨hx.pending, h.canonStack, h.canonSpad, hx.operatorBank, hx.floorBank, hx.sound, fun n => hx.held (not_in_or rfl n), fun n => hx.time (not_in_or rfl n), fun n => hx.dev (not_in_or rfl n), fun n => hx.sec (not_in_or rfl n), fun n => hx.spdm (not_in_or rfl n), fun n => hx.fns (not_in_or rfl n), fun n => hx.bays (not_in_or rfl n), fun n => hx.cores (not_in_or rfl n), fun n => hx.tiles (not_in_or rfl n), fun n => hx.columns (not_in_or rfl n), fun n => hx.stackTab (not_in_or rfl n), fun n => hx.ports (not_in_or rfl n), fun n => hx.fabric (not_in_or rfl n), fun n => hx.power (not_in_or rfl n), fun n => hx.dbg (not_in_or rfl n), fun n => hx.life (not_in_or rfl n), fun n => hx.ictl (not_in_or rfl n), fun n => hx.host (not_in_or rfl n), h.stackMem, h.spadMem, fun n => hx.spadPoison (not_in_or rfl n), fun n => hx.spadFlaws (not_in_or rfl n), fun n => hx.reports (not_in_or rfl n), fun n => hx.notices (not_in_or rfl n), fun n => hx.valley (not_in_or rfl n), fun n => hx.repairs (not_in_or rfl n), fun n => hx.draws (not_in_or rfl n), fun n => hx.slotWork (not_in_or rfl n), fun n => hx.itemStale (not_in_or rfl n)⟩
theorem Keeps.widen (M : Nat) (h : Keeps W s u) : Keeps (W ||| M) s u :=
  ⟨h.pending, h.canonStack, h.canonSpad, h.operatorBank, h.floorBank, h.sound, fun n => h.held (Bool.or_eq_false_iff.1 ((Nat.testBit_or ..).symm.trans n)).1, fun n => h.time (Bool.or_eq_false_iff.1 ((Nat.testBit_or ..).symm.trans n)).1, fun n => h.dev (Bool.or_eq_false_iff.1 ((Nat.testBit_or ..).symm.trans n)).1, fun n => h.sec (Bool.or_eq_false_iff.1 ((Nat.testBit_or ..).symm.trans n)).1, fun n => h.spdm (Bool.or_eq_false_iff.1 ((Nat.testBit_or ..).symm.trans n)).1, fun n => h.fns (Bool.or_eq_false_iff.1 ((Nat.testBit_or ..).symm.trans n)).1, fun n => h.bays (Bool.or_eq_false_iff.1 ((Nat.testBit_or ..).symm.trans n)).1, fun n => h.cores (Bool.or_eq_false_iff.1 ((Nat.testBit_or ..).symm.trans n)).1, fun n => h.tiles (Bool.or_eq_false_iff.1 ((Nat.testBit_or ..).symm.trans n)).1, fun n => h.columns (Bool.or_eq_false_iff.1 ((Nat.testBit_or ..).symm.trans n)).1, fun n => h.stackTab (Bool.or_eq_false_iff.1 ((Nat.testBit_or ..).symm.trans n)).1, fun n => h.ports (Bool.or_eq_false_iff.1 ((Nat.testBit_or ..).symm.trans n)).1, fun n => h.fabric (Bool.or_eq_false_iff.1 ((Nat.testBit_or ..).symm.trans n)).1, fun n => h.power (Bool.or_eq_false_iff.1 ((Nat.testBit_or ..).symm.trans n)).1, fun n => h.dbg (Bool.or_eq_false_iff.1 ((Nat.testBit_or ..).symm.trans n)).1, fun n => h.life (Bool.or_eq_false_iff.1 ((Nat.testBit_or ..).symm.trans n)).1, fun n => h.ictl (Bool.or_eq_false_iff.1 ((Nat.testBit_or ..).symm.trans n)).1, fun n => h.host (Bool.or_eq_false_iff.1 ((Nat.testBit_or ..).symm.trans n)).1, fun n => h.stackMem (Bool.or_eq_false_iff.1 ((Nat.testBit_or ..).symm.trans n)).1, fun n => h.spadMem (Bool.or_eq_false_iff.1 ((Nat.testBit_or ..).symm.trans n)).1, fun n => h.spadPoison (Bool.or_eq_false_iff.1 ((Nat.testBit_or ..).symm.trans n)).1, fun n => h.spadFlaws (Bool.or_eq_false_iff.1 ((Nat.testBit_or ..).symm.trans n)).1, fun n => h.reports (Bool.or_eq_false_iff.1 ((Nat.testBit_or ..).symm.trans n)).1, fun n => h.notices (Bool.or_eq_false_iff.1 ((Nat.testBit_or ..).symm.trans n)).1, fun n => h.valley (Bool.or_eq_false_iff.1 ((Nat.testBit_or ..).symm.trans n)).1, fun n => h.repairs (Bool.or_eq_false_iff.1 ((Nat.testBit_or ..).symm.trans n)).1, fun n => h.draws (Bool.or_eq_false_iff.1 ((Nat.testBit_or ..).symm.trans n)).1, fun n => h.slotWork (Bool.or_eq_false_iff.1 ((Nat.testBit_or ..).symm.trans n)).1, fun n => h.itemStale (Bool.or_eq_false_iff.1 ((Nat.testBit_or ..).symm.trans n)).1⟩
theorem Keeps.scrubbed (w : 1966144 &&& W = 1966144) (h : Keeps W s u) (a b l m n : Nat) (p q) (c) :
    Keeps W s { u with stackMem := memZero (memZero u.stackMem a l) b l, spadMem := memZero u.spadMem m n, spadPoison := p, spadFlaws := q, cores := c } :=
  ⟨h.pending, fun hs => memWf_zero _ _ _ (memWf_zero _ _ _ (h.canonStack hs)), fun hs => memWf_zero _ _ _ (h.canonSpad hs), h.operatorBank, h.floorBank, h.sound, h.held, h.time, h.dev, h.sec, h.spdm, h.fns, h.bays, may_write w rfl, h.tiles, h.columns, h.stackTab, h.ports, h.fabric, h.power, h.dbg, h.life, h.ictl, h.host, may_write w rfl, may_write w rfl, may_write w rfl, may_write w rfl, h.reports, h.notices, h.valley, h.repairs, h.draws, h.slotWork, h.itemStale⟩
/-- A state that starts again with the same queue of commands. -/
theorem Keeps.anew (w : 939524095 &&& W = 939524095) (hp : t.pending = s.pending) (h1 : memWf t.stackMem = true) (h2 : memWf t.spadMem = true)
    (h3 : s.sec.operatorBank &&& t.sec.operatorBank = s.sec.operatorBank) (h4 : s.sec.floorBank &&& t.sec.floorBank = s.sec.floorBank)
    (h5 : s.ictl.Sound → t.ictl.Sound) : Keeps W s t :=
  ⟨hp, fun _ => h1, fun _ => h2, h3, h4, h5, may_write w rfl, may_write w rfl, may_write w rfl, may_write w rfl, may_write w rfl, may_write w rfl, may_write w rfl, may_write w rfl, may_write w rfl, may_write w rfl, may_write w rfl, may_write w rfl, may_write w rfl, may_write w rfl, may_write w rfl, may_write w rfl, may_write w rfl, may_write w rfl, may_write w rfl, may_write w rfl, may_write w rfl, may_write w rfl, may_write w rfl, may_write w rfl, may_write w rfl, may_write w rfl, may_write w rfl, may_write w rfl, may_write w rfl⟩
theorem Keeps.burnOp (w : 4 &&& W = 4) (h : Keeps W s u) (v : BitVec 256) :
    Keeps W s { u with sec := { u.sec with operatorBank := u.sec.operatorBank ||| v } } :=
  ⟨h.pending, h.canonStack, h.canonSpad, and_or_burned _ _ _ h.operatorBank, h.floorBank, h.sound, h.held, h.time, h.dev, may_write w rfl, h.spdm, h.fns, h.bays, h.cores, h.tiles, h.columns, h.stackTab, h.ports, h.fabric, h.power, h.dbg, h.life, h.ictl, h.host, h.stackMem, h.spadMem, h.spadPoison, h.spadFlaws, h.reports, h.notices, h.valley, h.repairs, h.draws, h.slotWork, h.itemStale⟩
theorem Keeps.burnFloor (w : 4 &&& W = 4) (h : Keeps W s u) (v : BitVec 256) :
    Keeps W s { u with sec := { u.sec with floorBank := u.sec.floorBank ||| v } } :=
  ⟨h.pending, h.canonStack, h.canonSpad, h.operatorBank, and_or_burned _ _ _ h.floorBank, h.sound, h.held, h.time, h.dev, may_write w rfl, h.spdm, h.fns, h.bays, h.cores, h.tiles, h.columns, h.stackTab, h.ports, h.fabric, h.power, h.dbg, h.life, h.ictl, h.host, h.stackMem, h.spadMem, h.spadPoison, h.spadFlaws, h.reports, h.notices, h.valley, h.repairs, h.draws, h.slotWork, h.itemStale⟩
end
end Sys2Proof.Machine
end

