-- ==== Sys2Proof/Laws/KeepsOps.lean ====
section
/-! SUPPORT. What Keeps.lean says of every operation, for the shared operations of Ops.lean, Store.lean, Memory.lean and Access.lean. -/

set_option maxRecDepth 4000

namespace Sys2Proof.Machine

theorem State.setFn_keeps {W} (hW : 16 &&& W = 16) {s0 s : State} {fn v} (hk : Keeps W s0 s) : Keeps W s0 (State.setFn s fn v) := Keeps.on_fns (sub_trans hW rfl) hk

theorem State.setQueue_keeps {W} (hW : 16 &&& W = 16) {s0 s : State} {fn q v} (hk : Keeps W s0 s) : Keeps W s0 (State.setQueue s fn q v) := by
  unfold State.setQueue
  repeat' first | with_reducible assumption | with_reducible refine State.setFn_keeps (sub_trans hW rfl) ?_ | ((with_reducible conv => arg 3; whnf); split)

theorem State.setBay_keeps {W} (hW : 32 &&& W = 32) {s0 s : State} {b v} (hk : Keeps W s0 s) : Keeps W s0 (State.setBay s b v) := Keeps.on_bays (sub_trans hW rfl) hk

theorem State.setHeld_keeps {W} (hW : 67108864 &&& W = 67108864) {s0 s : State} {b l} (hk : Keeps W s0 s) : Keeps W s0 (State.setHeld s b l) := Keeps.on_slotWork (sub_trans hW rfl) hk

theorem State.setCore_keeps {W} (hW : 64 &&& W = 64) {s0 s : State} {c v} (hk : Keeps W s0 s) : Keeps W s0 (State.setCore s c v) := Keeps.on_cores (sub_trans hW rfl) hk

theorem State.setTile_keeps {W} (hW : 128 &&& W = 128) {s0 s : State} {col row v} (hk : Keeps W s0 s) : Keeps W s0 (State.setTile s col row v) := Keeps.on_tiles (sub_trans hW rfl) hk

theorem State.setColumn_keeps {W} (hW : 256 &&& W = 256) {s0 s : State} {c v} (hk : Keeps W s0 s) : Keeps W s0 (State.setColumn s c v) := Keeps.on_columns (sub_trans hW rfl) hk

theorem State.setStack_keeps {W} (hW : 512 &&& W = 512) {s0 s : State} {k v} (hk : Keeps W s0 s) : Keeps W s0 (State.setStack s k v) := Keeps.on_stackTab (sub_trans hW rfl) hk

theorem State.setPort_keeps {W} (hW : 1024 &&& W = 1024) {s0 s : State} {p v} (hk : Keeps W s0 s) : Keeps W s0 (State.setPort s p v) := Keeps.on_ports (sub_trans hW rfl) hk

theorem State.drawn_keeps {W} (hW : 33554432 &&& W = 33554432) {s0 s : State} (hk : Keeps W s0 s) : Keeps W s0 (State.drawn s) := Keeps.on_draws (sub_trans hW rfl) hk

theorem State.lifeLog_keeps {W} (hW : 16384 &&& W = 16384) {s0 s : State} {type body} (hk : Keeps W s0 s) : Keeps W s0 (State.lifeLog s type body) := Keeps.on_life (sub_trans hW rfl) hk

theorem State.calm_keeps {W} (hW : 16777216 &&& W = 16777216) {s0 s : State} (hk : Keeps W s0 s) : Keeps W s0 (State.calm s) := Keeps.on_repairs (sub_trans hW rfl) hk

theorem State.hostWrite_keeps {W} (hW : 65536 &&& W = 65536) {s0 s : State} {fn pasid iova bytes} (hk : Keeps W s0 s) : Keeps W s0 (State.hostWrite s fn pasid iova bytes).1 := by
  unfold State.hostWrite
  repeat' first | with_reducible assumption | ((with_reducible conv => arg 3; whnf); first | split | refine Keeps.on_host (sub_trans hW rfl) ?_)

theorem State.hold_keeps {W} (hW : 67108864 &&& W = 67108864) {s0 s : State} {b e} (hk : Keeps W s0 s) : Keeps W s0 (State.hold s b e) := by
  unfold State.hold
  repeat' first | with_reducible assumption | with_reducible refine State.setHeld_keeps (sub_trans hW rfl) ?_ | ((with_reducible conv => arg 3; whnf); split)

theorem State.msixNow_keeps {W} (hW : 65552 &&& W = 65552) {s0 s : State} {fn entry} (hk : Keeps W s0 s) : Keeps W s0 (State.msixNow s fn entry) := by
  unfold State.msixNow
  repeat' first | with_reducible assumption | intro _ | with_reducible refine State.setFn_keeps (sub_trans hW rfl) ?_ | ((with_reducible conv => arg 3; whnf); first | with_reducible assumption | split | refine Keeps.pair ‹_› ?_ | refine KeepsO.get ‹_› ?_ | refine KeepsE.get ‹_› ?_ | refine KeepsX.get ‹_› ?_) | dsimp only | refine Keeps.on_host (sub_trans hW rfl) ?_

theorem State.msix_keeps {W} (hW : 67174416 &&& W = 67174416) {s0 s : State} {fn entry} (hk : Keeps W s0 s) : Keeps W s0 (State.msix s fn entry) := by
  unfold State.msix
  repeat' first | with_reducible assumption | with_reducible (first | refine State.msixNow_keeps (sub_trans hW rfl) ?_ | refine State.hold_keeps (sub_trans hW rfl) ?_) | ((with_reducible conv => arg 3; whnf); first | split)

theorem State.msixFlush_keeps {W} (hW : 67174416 &&& W = 67174416) {s0 s : State} {fn} (hk : Keeps W s0 s) : Keeps W s0 (State.msixFlush s fn) := by
  unfold State.msixFlush
  repeat' first | with_reducible assumption | intro _ | with_reducible (first | refine State.msix_keeps (sub_trans hW rfl) ?_ | refine State.setFn_keeps (sub_trans hW rfl) ?_ | refine Keeps.foldl ?_ ?_ | refine Keeps.foldl1 ?_ ?_) | ((with_reducible conv => arg 3; whnf); first | with_reducible assumption | split | refine Keeps.pair ‹_› ?_ | refine KeepsO.get ‹_› ?_ | refine KeepsE.get ‹_› ?_ | refine KeepsX.get ‹_› ?_) | dsimp only

theorem State.strobe_keeps {W} (hW : 33562624 &&& W = 33562624) {s0 s : State} {source forwards snapId origin trigger} (h : Keeps W s0 s) :
    Keeps W s0 (s.strobe source forwards snapId origin trigger) := by
  unfold State.strobe
  dsimp only
  split
  · next ht =>
    refine Keeps.on_debugDraws (sub_trans hW rfl) h (fun g e => ⟨_, rfl, .inr ?_⟩)
    simpa [State.strobeTakes, e] using ht
  · exact Keeps.on_debug (sub_trans hW rfl) h (HeldKept.refl _)

theorem State.traceRidge_keeps {W} (hW : 33562624 &&& W = 33562624) {s0 s : State} {ev bay q st slot node} (hk : Keeps W s0 s) : Keeps W s0 (State.traceRidge s ev bay q st slot node) := by
  unfold State.traceRidge
  repeat' first | with_reducible assumption | ((with_reducible conv => arg 3; whnf); first | split | refine Keeps.on_debugDraws (sub_trans hW rfl) ?_ (HeldKept.refl _))

theorem State.traceCore_keeps {W} (hW : 33562624 &&& W = 33562624) {s0 s : State} {strip ev cls bay st core node} (hk : Keeps W s0 s) : Keeps W s0 (State.traceCore s strip ev cls bay st core node) := by
  unfold State.traceCore
  repeat' first | with_reducible assumption | ((with_reducible conv => arg 3; whnf); first | split | refine Keeps.on_debugDraws (sub_trans hW rfl) ?_ (HeldKept.refl _))

theorem State.setSrc_keeps {W} (hW : 32768 &&& W = 32768) {s0 s : State} {n v} (h : Keeps W s0 s)
    (hv : n ≤ 5 → v.target = (s.srcAt n).target ∧ v.enable = (s.srcAt n).enable) : Keeps W s0 (s.setSrc n v) :=
  Keeps.on_ictl (sub_trans hW rfl) h (fun x => x.set hv)

theorem State.pend_keeps {W} (hW : 32768 &&& W = 32768) {s0 s : State} {n} (h : Keeps W s0 s) : Keeps W s0 (s.pend n) :=
  State.setSrc_keeps hW h (fun _ => ⟨rfl, rfl⟩)

theorem State.lineLog_keeps {W} (hW : 49152 &&& W = 49152) {s0 s : State} {k e} (hk : Keeps W s0 s) : Keeps W s0 (State.lineLog s k e) := by
  unfold State.lineLog
  repeat' first | with_reducible assumption | with_reducible (first | refine State.pend_keeps (sub_trans hW rfl) ?_ | refine State.lifeLog_keeps (sub_trans hW rfl) ?_) | ((with_reducible conv => arg 3; whnf); split)

theorem State.merged_keeps {W} (hW : 131584 &&& W = 131584) {s0 s : State} {k line} (h : Keeps W s0 s) : Keeps W s0 (s.merged k line).1 := by
  unfold State.merged
  dsimp only
  split
  · dsimp only
    split
    · exact State.setStack_keeps (sub_trans hW rfl) h
    · exact Keeps.stackW (sub_trans hW rfl) (State.setStack_keeps (sub_trans hW rfl) h) _ _
  · exact h

theorem State.layStack_keeps {W} (hW : 180736 &&& W = 180736) {s0 s : State} {l bs} (h : Keeps W s0 s) : Keeps W s0 (State.layStack s l bs) := by
  induction l generalizing s bs with
  | nil => exact h
  | cons e l ih =>
    exact ih (Keeps.stackW (sub_trans hW rfl) (Keeps.foldl (State.merged_keeps (sub_trans hW rfl) h)
      (fun _ _ ht => State.lineLog_keeps (sub_trans hW rfl) ht)) _ _)

theorem State.ringPart_keeps {W} (hW : 246272 &&& W = 246272) {s0 s : State} {fn r p} (hk : Keeps W s0 s) : Keeps W s0 (State.ringPart s fn r p).1 := by
  unfold State.ringPart
  repeat' first | with_reducible assumption | with_reducible (first | refine State.hostWrite_keeps (sub_trans hW rfl) ?_ | refine State.layStack_keeps (sub_trans hW rfl) ?_) | ((with_reducible conv => arg 3; whnf); split)

theorem State.ringWrite_keeps {W} (hW : 246272 &&& W = 246272) {s0 s : State} {fn rcd seq} (hk : Keeps W s0 s) : Keeps W s0 (State.ringWrite s fn rcd seq).1 := by
  unfold State.ringWrite
  repeat' first | with_reducible assumption | intro _ | with_reducible (first | refine State.ringPart_keeps (sub_trans hW rfl) ?_ | refine Keeps.foldl ?_ ?_ | refine Keeps.foldl1 ?_ ?_) | ((with_reducible conv => arg 3; whnf); first | with_reducible assumption | split | refine Keeps.pair ‹_› ?_ | refine KeepsO.get ‹_› ?_ | refine KeepsE.get ‹_› ?_ | refine KeepsX.get ‹_› ?_) | dsimp only

theorem State.raiseLog_keeps {W} (hW : 33800720 &&& W = 33800720) {s0 s : State} {fn e} (hk : Keeps W s0 s) : Keeps W s0 (State.raiseLog s fn e) := by
  unfold State.raiseLog
  repeat' first | with_reducible assumption | with_reducible (first | refine State.drawn_keeps (sub_trans hW rfl) ?_ | refine State.setFn_keeps (sub_trans hW rfl) ?_ | refine State.ringWrite_keeps (sub_trans hW rfl) ?_) | ((with_reducible conv => arg 3; whnf); split)

theorem State.raiseNow_keeps {W} (hW : 100909584 &&& W = 100909584) {s0 s : State} {fn e} (hk : Keeps W s0 s) : Keeps W s0 (State.raiseNow s fn e) := by
  unfold State.raiseNow
  repeat' first | with_reducible assumption | with_reducible (first | refine State.raiseLog_keeps (sub_trans hW rfl) ?_ | refine State.msix_keeps (sub_trans hW rfl) ?_) | ((with_reducible conv => arg 3; whnf); split)

theorem State.trigger_keeps {W} (hW : 33562624 &&& W = 33562624) {s0 s : State} {code} (hk : Keeps W s0 s) : Keeps W s0 (State.trigger s code) := by
  unfold State.trigger
  repeat' first | with_reducible assumption | with_reducible refine State.strobe_keeps (sub_trans hW rfl) ?_ | ((with_reducible conv => arg 3; whnf); split)

theorem State.raiseWith_keeps {W} (hW : 100917776 &&& W = 100917776) {s0 s : State} {fn e trig} (hk : Keeps W s0 s) : Keeps W s0 (State.raiseWith s fn e trig) := by
  unfold State.raiseWith
  repeat' first | with_reducible assumption | with_reducible (first | refine State.raiseNow_keeps (sub_trans hW rfl) ?_ | refine State.trigger_keeps (sub_trans hW rfl) ?_ | refine State.hold_keeps (sub_trans hW rfl) ?_) | ((with_reducible conv => arg 3; whnf); split)

theorem State.raiseIn_keeps {W} (hW : 100917776 &&& W = 100917776) {s0 s : State} {fn e} (hk : Keeps W s0 s) : Keeps W s0 (State.raiseIn s fn e) := by
  unfold State.raiseIn
  repeat' first | with_reducible assumption | with_reducible refine State.raiseWith_keeps (sub_trans hW rfl) ?_ | ((with_reducible conv => arg 3; whnf); split)

theorem State.raiseRec_keeps {W} (hW : 100917776 &&& W = 100917776) {s0 s : State} {fn e} (hk : Keeps W s0 s) : Keeps W s0 (State.raiseRec s fn e) := by
  unfold State.raiseRec
  repeat' first | with_reducible assumption | with_reducible refine State.raiseWith_keeps (sub_trans hW rfl) ?_ | ((with_reducible conv => arg 3; whnf); split)

theorem State.flushRaises_keeps {W} (hW : 33808912 &&& W = 33808912) {s0 s : State} {b} (hk : Keeps W s0 s) : Keeps W s0 (State.flushRaises s b) := by
  unfold State.flushRaises
  repeat' first | with_reducible assumption | intro _ | with_reducible (first | refine State.raiseLog_keeps (sub_trans hW rfl) ?_ | refine State.msixNow_keeps (sub_trans hW rfl) ?_ | refine State.trigger_keeps (sub_trans hW rfl) ?_ | refine Keeps.foldl ?_ ?_ | refine Keeps.foldl1 ?_ ?_) | ((with_reducible conv => arg 3; whnf); first | with_reducible assumption | split | refine Keeps.pair ‹_› ?_ | refine KeepsO.get ‹_› ?_ | refine KeepsE.get ‹_› ?_ | refine KeepsX.get ‹_› ?_) | dsimp only

theorem State.raiseBay_keeps {W} (hW : 100917776 &&& W = 100917776) {s0 s : State} {b e pf} (hk : Keeps W s0 s) : Keeps W s0 (State.raiseBay s b e pf) := by
  unfold State.raiseBay
  repeat' first | with_reducible assumption | with_reducible refine State.raiseIn_keeps (sub_trans hW rfl) ?_ | ((with_reducible conv => arg 3; whnf); split)

theorem State.raiseStrip_keeps {W} (hW : 100917776 &&& W = 100917776) {s0 s : State} {strip e pf} (hk : Keeps W s0 s) : Keeps W s0 (State.raiseStrip s strip e pf) := by
  unfold State.raiseStrip
  repeat' first | with_reducible assumption | with_reducible refine State.raiseIn_keeps (sub_trans hW rfl) ?_ | ((with_reducible conv => arg 3; whnf); split)

theorem State.raiseSet_keeps {W} (hW : 100917776 &&& W = 100917776) {s0 s : State} {bays e items} (hk : Keeps W s0 s) : Keeps W s0 (State.raiseSet s bays e items) := by
  unfold State.raiseSet
  repeat' first | with_reducible assumption | intro _ | with_reducible (first | refine State.raiseRec_keeps (sub_trans hW rfl) ?_ | refine State.trigger_keeps (sub_trans hW rfl) ?_ | refine Keeps.foldl ?_ ?_) | ((with_reducible conv => arg 3; whnf); first | split)

theorem State.raiseAll_keeps {W} (hW : 100917776 &&& W = 100917776) {s0 s : State} {e items} (hk : Keeps W s0 s) : Keeps W s0 (State.raiseAll s e items) := by
  unfold State.raiseAll
  repeat' first | with_reducible assumption | intro _ | with_reducible (first | refine State.raiseRec_keeps (sub_trans hW rfl) ?_ | refine State.trigger_keeps (sub_trans hW rfl) ?_ | refine Keeps.foldl ?_ ?_) | ((with_reducible conv => arg 3; whnf); first | split)

theorem State.raiseStack_keeps {W} (hW : 100917776 &&& W = 100917776) {s0 s : State} {k code loc1} (hk : Keeps W s0 s) : Keeps W s0 (State.raiseStack s k code loc1) := by
  unfold State.raiseStack
  repeat' first | with_reducible assumption | with_reducible (first | refine State.pend_keeps (sub_trans hW rfl) ?_ | refine State.raiseStrip_keeps (sub_trans hW rfl) ?_) | ((with_reducible conv => arg 3; whnf); split)

theorem State.lineEvents_keeps {W} (hW : 100917776 &&& W = 100917776) {s0 s : State} {k es} (hk : Keeps W s0 s) : Keeps W s0 (State.lineEvents s k es) := by
  unfold State.lineEvents
  repeat' first | with_reducible assumption | intro _ | with_reducible (first | refine State.raiseStack_keeps (sub_trans hW rfl) ?_ | refine State.lineLog_keeps (sub_trans hW rfl) ?_ | refine Keeps.foldl ?_ ?_ | refine Keeps.foldl1 ?_ ?_) | ((with_reducible conv => arg 3; whnf); first | with_reducible assumption | split | refine Keeps.pair ‹_› ?_ | refine KeepsO.get ‹_› ?_ | refine KeepsE.get ‹_› ?_ | refine KeepsX.get ‹_› ?_) | dsimp only

theorem State.stackFailing_keeps {W} (hW : 100917776 &&& W = 100917776) {s0 s : State} {k} (hk : Keeps W s0 s) : Keeps W s0 (State.stackFailing s k) := by
  unfold State.stackFailing
  repeat' first | with_reducible assumption | with_reducible (first | refine State.setStack_keeps (sub_trans hW rfl) ?_ | refine State.lineEvents_keeps (sub_trans hW rfl) ?_) | ((with_reducible conv => arg 3; whnf); split)

theorem State.poisonLine_keeps {W} (hW : 100917776 &&& W = 100917776) {s0 s : State} {k line} (hk : Keeps W s0 s) : Keeps W s0 (State.poisonLine s k line) := by
  unfold State.poisonLine
  repeat' first | with_reducible assumption | with_reducible (first | refine State.setStack_keeps (sub_trans hW rfl) ?_ | refine State.lineEvents_keeps (sub_trans hW rfl) ?_) | ((with_reducible conv => arg 3; whnf); split)

theorem State.lineRead_keeps {W} (hW : 100917776 &&& W = 100917776) {s0 s : State} {k f} (hk : Keeps W s0 s) : Keeps W s0 (State.lineRead s k f) := by
  unfold State.lineRead
  repeat' first | with_reducible assumption | with_reducible (first | refine State.setStack_keeps (sub_trans hW rfl) ?_ | refine State.lineEvents_keeps (sub_trans hW rfl) ?_) | ((with_reducible conv => arg 3; whnf); first | split)

theorem State.touchStack_keeps {W} (hW : 100917776 &&& W = 100917776) {s0 s : State} {k off len} (hk : Keeps W s0 s) : Keeps W s0 (State.touchStack s k off len) := by
  unfold State.touchStack
  repeat' first | with_reducible assumption | intro _ | with_reducible (first | refine State.lineRead_keeps (sub_trans hW rfl) ?_ | refine Keeps.foldl ?_ ?_) | ((with_reducible conv => arg 3; whnf); first | split)

theorem State.poisonSpad_keeps {W} (hW : 101442064 &&& W = 101442064) {s0 s : State} {core line} (hk : Keeps W s0 s) : Keeps W s0 (State.poisonSpad s core line) := by
  unfold State.poisonSpad
  repeat' first | with_reducible assumption | with_reducible refine State.raiseStrip_keeps (sub_trans hW rfl) ?_ | ((with_reducible conv => arg 3; whnf); first | split | refine Keeps.on_spadPoison (sub_trans hW rfl) ?_)

theorem State.countFailure_keeps {W} (hW : 16768 &&& W = 16768) {s0 s : State} {col row kind} (hk : Keeps W s0 s) : Keeps W s0 (State.countFailure s col row kind) := by
  unfold State.countFailure
  repeat' first | with_reducible assumption | with_reducible (first | refine State.setTile_keeps (sub_trans hW rfl) ?_ | refine State.setColumn_keeps (sub_trans hW rfl) ?_ | refine State.lifeLog_keeps (sub_trans hW rfl) ?_) | ((with_reducible conv => arg 3; whnf); split)

theorem State.spareDies_keeps {W} (hW : 100918160 &&& W = 100918160) {s0 s : State} {col row planned} (hk : Keeps W s0 s) : Keeps W s0 (State.spareDies s col row planned) := by
  unfold State.spareDies
  repeat' first | with_reducible assumption | with_reducible (first | refine State.countFailure_keeps (sub_trans hW rfl) ?_ | refine State.setColumn_keeps (sub_trans hW rfl) ?_ | refine State.raiseStrip_keeps (sub_trans hW rfl) ?_) | ((with_reducible conv => arg 3; whnf); split)

theorem State.tileFails_keeps {W} (hW : 117695376 &&& W = 117695376) {s0 s : State} {col row planned} (hk : Keeps W s0 s) : Keeps W s0 (State.tileFails s col row planned) := by
  unfold State.tileFails
  repeat' first | with_reducible assumption | with_reducible (first | refine State.spareDies_keeps (sub_trans hW rfl) ?_ | refine State.countFailure_keeps (sub_trans hW rfl) ?_ | refine State.setColumn_keeps (sub_trans hW rfl) ?_) | ((with_reducible conv => arg 3; whnf); first | split | refine Keeps.on_repairs (sub_trans hW rfl) ?_)

theorem State.correctLimit_keeps {W} (hW : 117695376 &&& W = 117695376) {s0 s : State} {core col row} (hk : Keeps W s0 s) : Keeps W s0 (State.correctLimit s core col row) := by
  unfold State.correctLimit
  repeat' first | with_reducible assumption | with_reducible (first | refine State.setTile_keeps (sub_trans hW rfl) ?_ | refine State.pend_keeps (sub_trans hW rfl) ?_ | refine State.raiseStrip_keeps (sub_trans hW rfl) ?_ | refine State.tileFails_keeps (sub_trans hW rfl) ?_) | ((with_reducible conv => arg 3; whnf); split)

theorem State.correctSpad_keeps {W} (hW : 118743952 &&& W = 118743952) {s0 s : State} {core word} (hk : Keeps W s0 s) : Keeps W s0 (State.correctSpad s core word) := by
  unfold State.correctSpad
  repeat' first | with_reducible assumption | with_reducible (first | refine State.setTile_keeps (sub_trans hW rfl) ?_ | refine State.correctLimit_keeps (sub_trans hW rfl) ?_) | ((with_reducible conv => arg 3; whnf); first | split | refine Keeps.on_spadFlaws (sub_trans hW rfl) ?_)

theorem State.readFlaw_keeps {W} (hW : 119268240 &&& W = 119268240) {s0 s : State} {core word bits} (hk : Keeps W s0 s) : Keeps W s0 (State.readFlaw s core word bits) := by
  unfold State.readFlaw
  repeat' first | with_reducible assumption | with_reducible (first | refine State.correctSpad_keeps (sub_trans hW rfl) ?_ | refine State.poisonSpad_keeps (sub_trans hW rfl) ?_) | ((with_reducible conv => arg 3; whnf); first | split | refine Keeps.on_spadFlaws (sub_trans hW rfl) ?_)

theorem State.touchSpad_keeps {W} (hW : 119268240 &&& W = 119268240) {s0 s : State} {core off len} (hk : Keeps W s0 s) : Keeps W s0 (State.touchSpad s core off len) := by
  unfold State.touchSpad
  repeat' first | with_reducible assumption | intro _ | with_reducible (first | refine State.readFlaw_keeps (sub_trans hW rfl) ?_ | refine Keeps.foldl ?_ ?_) | ((with_reducible conv => arg 3; whnf); first | split)

theorem State.correctPair_keeps {W} (hW : 117695440 &&& W = 117695440) {s0 s : State} {core p} (hk : Keeps W s0 s) : Keeps W s0 (State.correctPair s core p) := by
  unfold State.correctPair
  repeat' first | with_reducible assumption | with_reducible (first | refine State.setCore_keeps (sub_trans hW rfl) ?_ | refine State.setTile_keeps (sub_trans hW rfl) ?_ | refine State.correctLimit_keeps (sub_trans hW rfl) ?_) | ((with_reducible conv => arg 3; whnf); split)

theorem State.touchPairs_keeps {W} (hW : 117695440 &&& W = 117695440) {s0 s : State} {core first last} (hk : Keeps W s0 s) : Keeps W s0 (State.touchPairs s core first last) := by
  unfold State.touchPairs
  repeat' first | with_reducible assumption | intro _ | with_reducible (first | refine State.correctPair_keeps (sub_trans hW rfl) ?_ | refine Keeps.foldl ?_ ?_ | refine Keeps.foldl1 ?_ ?_) | ((with_reducible conv => arg 3; whnf); first | with_reducible assumption | split | refine Keeps.pair ‹_› ?_ | refine KeepsO.get ‹_› ?_ | refine KeepsE.get ‹_› ?_ | refine KeepsX.get ‹_› ?_) | dsimp only

theorem State.touch_keeps {W} (hW : 119268304 &&& W = 119268304) {s0 s : State} {b r len} (hk : Keeps W s0 s) : Keeps W s0 (State.touch s b r len) := by
  unfold State.touch
  repeat' first | with_reducible assumption | intro _ | with_reducible (first | refine State.touchSpad_keeps (sub_trans hW rfl) ?_ | refine State.touchStack_keeps (sub_trans hW rfl) ?_ | refine State.touchPairs_keeps (sub_trans hW rfl) ?_ | refine Keeps.foldl ?_ ?_) | ((with_reducible conv => arg 3; whnf); first | split)

theorem State.touchAt_keeps {W} (hW : 119268304 &&& W = 119268304) {s0 s : State} {b addr n} (hk : Keeps W s0 s) : Keeps W s0 (State.touchAt s b addr n) := by
  unfold State.touchAt
  repeat' first | with_reducible assumption | with_reducible refine State.touch_keeps (sub_trans hW rfl) ?_ | ((with_reducible conv => arg 3; whnf); split)

theorem State.mergeLine_keeps {W} (hW : 100917776 &&& W = 100917776) {s0 s : State} {k line} (hk : Keeps W s0 s) : Keeps W s0 (s.mergeLine k line) :=
  State.lineEvents_keeps (sub_trans hW rfl) (State.merged_keeps (sub_trans hW rfl) hk)

theorem State.writeStack_keeps {W} (hW : 100917776 &&& W = 100917776) {s0 s : State} {k off bytes} (h : Keeps W s0 s) : Keeps W s0 (s.writeStack k off bytes) := by
  have h1 : Keeps W s0 (if off % 64 = 0 ∧ 64 ≤ bytes.length then s else s.mergeLine k (off / 64)) := by
    split
    · exact h
    · exact State.mergeLine_keeps (sub_trans hW rfl) h
  unfold State.writeStack
  dsimp only
  split
  · exact h
  · refine Keeps.stackW (sub_trans hW rfl) (State.setStack_keeps (sub_trans hW rfl) ?_) _ _
    split
    · exact h1
    · exact State.mergeLine_keeps (sub_trans hW rfl) h1

theorem State.mergeWords_keeps {W} (hW : 119268240 &&& W = 119268240) {s0 s : State} {core off len} (hk : Keeps W s0 s) : Keeps W s0 (State.mergeWords s core off len) := by
  unfold State.mergeWords
  repeat' first | with_reducible assumption | intro _ | with_reducible (first | refine State.readFlaw_keeps (sub_trans hW rfl) ?_ | refine Keeps.foldl ?_ ?_) | ((with_reducible conv => arg 3; whnf); first | split)

theorem State.writeSpad_keeps {W} (hW : 119530384 &&& W = 119530384) {s0 s : State} {core off bytes} (h : Keeps W s0 s) : Keeps W s0 (s.writeSpad core off bytes) := by
  unfold State.writeSpad
  dsimp only
  split
  · exact h
  · exact Keeps.spadW (sub_trans hW rfl) (State.mergeWords_keeps (sub_trans hW rfl) h) _ _ _ _

theorem State.writePieces_keeps {W} (hW : 100917776 &&& W = 100917776) {s0 s : State} {a__internal_hyg0 a__internal_hyg02} (hk : Keeps W s0 s) : Keeps W s0 (State.writePieces s a__internal_hyg0 a__internal_hyg02) := by
  fun_induction State.writePieces s a__internal_hyg0 a__internal_hyg02 <;> (repeat' first | with_reducible assumption | intro _ | with_reducible refine State.writeStack_keeps (sub_trans hW rfl) ?_ | with_reducible apply_assumption | ((with_reducible conv => arg 3; whnf); first | with_reducible assumption | split | refine Keeps.pair ‹_› ?_ | refine KeepsO.get ‹_› ?_ | refine KeepsE.get ‹_› ?_ | refine KeepsX.get ‹_› ?_) | dsimp only)

theorem State.writeRegion_keeps {W} (hW : 119530384 &&& W = 119530384) {s0 s : State} {a r bytes} (hk : Keeps W s0 s) : Keeps W s0 (State.writeRegion s a r bytes).1 := by
  unfold State.writeRegion
  repeat' first | with_reducible assumption | with_reducible (first | refine State.writePieces_keeps (sub_trans hW rfl) ?_ | refine State.writeSpad_keeps (sub_trans hW rfl) ?_ | refine State.hostWrite_keeps (sub_trans hW rfl) ?_) | ((with_reducible conv => arg 3; whnf); split)

theorem State.writeAt_keeps {W} (hW : 119530384 &&& W = 119530384) {s0 s : State} {a addr bytes} (hk : Keeps W s0 s) : Keeps W s0 (State.writeAt s a addr bytes).1 := by
  unfold State.writeAt
  repeat' first | with_reducible assumption | with_reducible refine State.writeRegion_keeps (sub_trans hW rfl) ?_ | ((with_reducible conv => arg 3; whnf); split)

theorem State.writeAll_keeps {W} (hW : 119530384 &&& W = 119530384) {s0 s : State} {a a__internal_hyg0} (hk : Keeps W s0 s) : Keeps W s0 (State.writeAll s a a__internal_hyg0).1 := by
  fun_induction State.writeAll s a a__internal_hyg0 <;> (repeat' first | with_reducible assumption | intro _ | with_reducible refine State.writeAt_keeps (sub_trans hW rfl) ?_ | with_reducible apply_assumption | ((with_reducible conv => arg 3; whnf); first | with_reducible assumption | split | refine Keeps.pair ‹_› ?_ | refine KeepsO.get ‹_› ?_ | refine KeepsE.get ‹_› ?_ | refine KeepsX.get ‹_› ?_) | dsimp only)

theorem State.landBytes_keeps {W} (hW : 119530384 &&& W = 119530384) {s0 s : State} {a addr bs} (hk : Keeps W s0 s) : Keeps W s0 (State.landBytes s a addr bs) := by
  unfold State.landBytes
  repeat' first | with_reducible assumption | intro _ | with_reducible (first | refine State.writeAt_keeps (sub_trans hW rfl) ?_ | refine Keeps.foldl ?_ ?_ | refine Keeps.foldl1 ?_ ?_) | ((with_reducible conv => arg 3; whnf); first | with_reducible assumption | split | refine Keeps.pair ‹_› ?_ | refine KeepsO.get ‹_› ?_ | refine KeepsE.get ‹_› ?_ | refine KeepsX.get ‹_› ?_) | dsimp only

theorem State.landAll_keeps {W} (hW : 119530384 &&& W = 119530384) {s0 s : State} {a a__internal_hyg0} (hk : Keeps W s0 s) : Keeps W s0 (State.landAll s a a__internal_hyg0) := by
  fun_induction State.landAll s a a__internal_hyg0 <;> (repeat' first | with_reducible assumption | intro _ | with_reducible refine State.landBytes_keeps (sub_trans hW rfl) ?_ | with_reducible apply_assumption | ((with_reducible conv => arg 3; whnf); first | with_reducible assumption | split | refine Keeps.pair ‹_› ?_ | refine KeepsO.get ‹_› ?_ | refine KeepsE.get ‹_› ?_ | refine KeepsX.get ‹_› ?_) | dsimp only)

theorem State.putRow_keeps {W} (hW : 119530384 &&& W = 119530384) {s0 s : State} {core off b codes} (hk : Keeps W s0 s) : Keeps W s0 (State.putRow s core off b codes) := by
  unfold State.putRow
  repeat' first | with_reducible assumption | with_reducible refine State.writeSpad_keeps (sub_trans hW rfl) ?_ | ((with_reducible conv => arg 3; whnf); split)

theorem State.landRow_keeps {W} (hW : 119530384 &&& W = 119530384) {s0 s : State} {core off b codes} (hk : Keeps W s0 s) : Keeps W s0 (State.landRow s core off b codes) := by
  unfold State.landRow
  repeat' first | with_reducible assumption | intro _ | with_reducible (first | refine State.writeSpad_keeps (sub_trans hW rfl) ?_ | refine Keeps.foldl ?_ ?_) | ((with_reducible conv => arg 3; whnf); first | split)

theorem State.touchAll_keeps {W} (hW : 119268240 &&& W = 119268240) {s0 s : State} {core rs} (hk : Keeps W s0 s) : Keeps W s0 (State.touchAll s core rs) := by
  unfold State.touchAll
  repeat' first | with_reducible assumption | intro _ | with_reducible (first | refine State.touchSpad_keeps (sub_trans hW rfl) ?_ | refine Keeps.foldl ?_ ?_ | refine Keeps.foldl1 ?_ ?_) | ((with_reducible conv => arg 3; whnf); first | with_reducible assumption | split | refine Keeps.pair ‹_› ?_ | refine KeepsO.get ‹_› ?_ | refine KeepsE.get ‹_› ?_ | refine KeepsX.get ‹_› ?_) | dsimp only

theorem State.putRan_keeps {W} (hW : 64 &&& W = 64) {s0 s : State} {core w r} (hk : Keeps W s0 s) : Keeps W s0 (State.putRan s core w r) := by
  unfold State.putRan
  repeat' first | with_reducible assumption | with_reducible refine State.setCore_keeps (sub_trans hW rfl) ?_ | ((with_reducible conv => arg 3; whnf); split)

theorem State.layByte_keeps {W} (hW : 393216 &&& W = 393216) {s0 s : State} {spad a b} (h : Keeps W s0 s) : Keeps W s0 (s.layByte spad a b) := by
  unfold State.layByte
  split
  · exact Keeps.spadM (sub_trans hW rfl) h _ _
  · exact Keeps.stackW (sub_trans hW rfl) h _ _

theorem State.raced_keeps {W} (hW : 268436032 &&& W = 268436032) {s0 s t : State} (hk : Keeps W s0 s) (hk1 : Keeps W s0 t) : Keeps W s0 (State.raced s t) := by
  unfold State.raced
  repeat' first | with_reducible assumption | intro _ | with_reducible (first | refine State.setCore_keeps (sub_trans hW rfl) ?_ | refine State.setStack_keeps (sub_trans hW rfl) ?_ | refine Keeps.foldl ?_ ?_ | refine Keeps.foldl1 ?_ ?_) | ((with_reducible conv => arg 3; whnf); first | with_reducible assumption | split | refine Keeps.pair ‹_› ?_ | refine KeepsO.get ‹_› ?_ | refine KeepsE.get ‹_› ?_ | refine KeepsX.get ‹_› ?_) | dsimp only | refine Keeps.on_itemStale (sub_trans hW rfl) ?_

theorem State.raceView_keeps {W} (hW : 393216 &&& W = 393216) {s0 s : State} {stale} (hk : Keeps W s0 s) : Keeps W s0 (State.raceView s stale) := by
  unfold State.raceView
  repeat' first | with_reducible assumption | intro _ | with_reducible (first | refine State.layByte_keeps (sub_trans hW rfl) ?_ | refine Keeps.foldl ?_ ?_ | refine Keeps.foldl1 ?_ ?_) | ((with_reducible conv => arg 3; whnf); first | with_reducible assumption | split | refine Keeps.pair ‹_› ?_ | refine KeepsO.get ‹_› ?_ | refine KeepsE.get ‹_› ?_ | refine KeepsX.get ‹_› ?_) | dsimp only

theorem State.raceEnd_keeps {W} (hW : 393216 &&& W = 393216) {s0 s v r : State} {stale} (hk : Keeps W s0 s) (hk1 : Keeps W s0 v) (hk2 : Keeps W s0 r) : Keeps W s0 (State.raceEnd s v r stale) := by
  unfold State.raceEnd
  repeat' first | with_reducible assumption | intro _ | with_reducible (first | refine State.layByte_keeps (sub_trans hW rfl) ?_ | refine Keeps.foldl ?_ ?_ | refine Keeps.foldl1 ?_ ?_) | ((with_reducible conv => arg 3; whnf); first | with_reducible assumption | split | refine Keeps.pair ‹_› ?_ | refine KeepsO.get ‹_› ?_ | refine KeepsE.get ‹_› ?_ | refine KeepsX.get ‹_› ?_) | dsimp only

theorem State.raceRun_keeps {W} (hW : 268829248 &&& W = 268829248) {s0 s : State} {w} {run : State → State} (h : Keeps W s0 s)
    (hf : ∀ t, Keeps W s0 t → Keeps W s0 (run t)) : Keeps W s0 (s.raceRun w run) :=
  have hv := State.raceView_keeps (stale := w.stale) (sub_trans hW rfl) h
  State.raced_keeps (sub_trans hW rfl) h (State.raceEnd_keeps (sub_trans hW rfl) h hv (hf _ hv))

theorem State.itemView_keeps {W} (hW : 393216 &&& W = 393216) {s0 s : State} {it} (hk : Keeps W s0 s) : Keeps W s0 (State.itemView s it) := by
  unfold State.itemView
  repeat' first | with_reducible assumption | with_reducible refine State.raceView_keeps (sub_trans hW rfl) ?_ | ((with_reducible conv => arg 3; whnf); split)

theorem State.itemRace_keeps {W} (hW : 393216 &&& W = 393216) {s0 s : State} {it} {run : State → State × Nat × Option Status} (h : Keeps W s0 s)
    (hf : ∀ t, Keeps W s0 t → Keeps W s0 (run t).1) : Keeps W s0 (s.itemRace it run).1 :=
  have hv := State.raceView_keeps (stale := tabGet s.itemStale it.order []) (sub_trans hW rfl) h
  State.raceEnd_keeps (sub_trans hW rfl) h hv (hf _ hv)

theorem State.ranBy_keeps {W} (hW : 33554496 &&& W = 33554496) {s0 s : State} {c w} {f : State → WorkOrder → Ran} (h : Keeps W s0 s)
    (hf : ∀ t w, Keeps W s0 t → Keeps W s0 (f t w).s) : Keeps W s0 (s.ranBy c w f) :=
  Keeps.on_draws (sub_trans hW rfl) (State.putRan_keeps (sub_trans hW rfl) (hf _ _ h))

theorem State.runWork_keeps {W} (hW : 302383680 &&& W = 302383680) {s0 s : State} {c p} {f : State → WorkOrder → Ran} (h : Keeps W s0 s)
    (hf : ∀ t w, Keeps W s0 t → Keeps W s0 (f t w).s) : Keeps W s0 (s.runWork c p f) := by
  unfold State.runWork
  split
  · exact h
  · split
    · exact h
    · exact State.raceRun_keeps (sub_trans hW rfl) h (fun t ht => State.ranBy_keeps (sub_trans hW rfl) ht hf)

end Sys2Proof.Machine
end

