-- ==== Sys2Proof/Laws/KeepsEngines.lean ====
section
/-! SUPPORT. What Keeps.lean says of every operation, for the engines of a core and of a stack: matrix, vector, DMA, eave and valley work orders. -/

set_option maxRecDepth 4000

namespace Sys2Proof.Machine

theorem State.mxPutRow_keeps {W} (hW : 119530384 &&& W = 119530384) {s0 s : State} {m sp row vals} (hk : Keeps W s0 s) : Keeps W s0 (State.mxPutRow s m sp row vals) := by
  unfold State.mxPutRow
  repeat' first | with_reducible assumption | with_reducible (first | refine State.putRow_keeps (sub_trans hW rfl) ?_ | refine State.writeSpad_keeps (sub_trans hW rfl) ?_) | ((with_reducible conv => arg 3; whnf); split)

theorem State.mxLandSplit_keeps {W} (hW : 119530384 &&& W = 119530384) {s0 s00 s : State} {m h sp} (hk : Keeps W s0 s00) (hk1 : Keeps W s0 s) : Keeps W s0 (State.mxLandSplit s00 s m h sp) := by
  unfold State.mxLandSplit
  repeat' first | with_reducible assumption | intro _ | with_reducible (first | refine State.landRow_keeps (sub_trans hW rfl) ?_ | refine Keeps.foldl ?_ ?_) | ((with_reducible conv => arg 3; whnf); first | split)

theorem State.mxSetPairs_keeps {W} (hW : 64 &&& W = 64) {s0 s : State} {m sp vals} (hk : Keeps W s0 s) : Keeps W s0 (State.mxSetPairs s m sp vals) := by
  unfold State.mxSetPairs
  repeat' first | with_reducible assumption | with_reducible refine State.setCore_keeps (sub_trans hW rfl) ?_ | ((with_reducible conv => arg 3; whnf); split)

theorem State.mxRunSplit_keeps {W} (hW : 119530448 &&& W = 119530448) {s0 s00 s : State} {m h sp} (hk : Keeps W s0 s00) (hk1 : Keeps W s0 s) : Keeps W s0 (State.mxRunSplit s00 s m h sp) := by
  unfold State.mxRunSplit
  repeat' first | with_reducible assumption | intro _ | with_reducible (first | refine State.mxSetPairs_keeps (sub_trans hW rfl) ?_ | refine State.mxPutRow_keeps (sub_trans hW rfl) ?_ | refine Keeps.foldl ?_ ?_) | ((with_reducible conv => arg 3; whnf); first | split)

theorem State.mxOpenPairs_keeps {W} (hW : 64 &&& W = 64) {s0 s00 s : State} {m h cls stop sp} (hk : Keeps W s0 s00) (hk1 : Keeps W s0 s) : Keeps W s0 (State.mxOpenPairs s00 s m h cls stop sp) := by
  unfold State.mxOpenPairs
  repeat' first | with_reducible assumption | with_reducible refine State.mxSetPairs_keeps (sub_trans hW rfl) ?_ | ((with_reducible conv => arg 3; whnf); split)

theorem State.touchReads_keeps {W} (hW : 119268240 &&& W = 119268240) {s0 s : State} {core stop rs} (hk : Keeps W s0 s) : Keeps W s0 (State.touchReads s core stop rs) := by
  unfold State.touchReads
  repeat' first | with_reducible assumption | with_reducible refine State.touchAll_keeps (sub_trans hW rfl) ?_ | ((with_reducible conv => arg 3; whnf); split)

theorem State.mxHit_keeps {W} (hW : 117695440 &&& W = 117695440) {s0 s : State} {m sps hit} (hk : Keeps W s0 s) : Keeps W s0 (State.mxHit s m sps hit) := by
  unfold State.mxHit
  repeat' first | with_reducible assumption | with_reducible (first | refine State.correctPair_keeps (sub_trans hW rfl) ?_ | refine State.setCore_keeps (sub_trans hW rfl) ?_) | ((with_reducible conv => arg 3; whnf); split)

theorem State.mxRun_keeps {W} (hW : 119530448 &&& W = 119530448) {s0 s : State} {m h cls hits sps bad} (hk : Keeps W s0 s) : Keeps W s0 (s.mxRun m h cls hits sps bad).s := by
  unfold State.mxRun
  extract_lets stops stopAt faults ends act allFail whole stop s1 live s2 ran e
  have h1 : Keeps W s0 s1 := Keeps.foldl (State.touchReads_keeps (sub_trans hW rfl) hk) (fun _ _ ht => State.touchReads_keeps (sub_trans hW rfl) ht)
  have h2 : Keeps W s0 s2 := by
    refine Keeps.foldl h1 (fun t f ht => ?_)
    split
    · exact State.mxRunSplit_keeps (sub_trans hW rfl) hk ht
    · exact State.mxLandSplit_keeps (sub_trans hW rfl) hk ht
  clear_value s1 s2
  split
  · exact Keeps.foldl (Keeps.foldl (Keeps.foldl h1 (fun _ _ ht => State.mxLandSplit_keeps (sub_trans hW rfl) hk ht))
      (fun _ _ ht => State.mxOpenPairs_keeps (sub_trans hW rfl) hk ht)) (fun _ _ ht => State.mxHit_keeps (sub_trans hW rfl) ht)
  · exact Keeps.foldl h2 (fun _ _ ht => State.mxHit_keeps (sub_trans hW rfl) ht)

theorem State.mxStep3_keeps {W} (hW : 119268240 &&& W = 119268240) {s0 s : State} {m h cls l i} (hk : Keeps W s0 s) : Keeps W s0 (State.mxStep3 m h cls l i s).1 := by
  induction l generalizing s i with
  | nil => exact hk
  | cons r l ih => exact ih (State.touchAll_keeps (sub_trans hW rfl) hk)

theorem State.mxSplits_keeps {W} (hW : 119530448 &&& W = 119530448) {s0 s : State} {m h hits} (hk : Keeps W s0 s) : Keeps W s0 (s.mxSplits m h hits).s := by
  unfold State.mxSplits
  extract_lets recs z cls step3 s1 checked sps bad e
  have hz : Keeps W s0 z := State.touchAll_keeps (sub_trans hW rfl) hk
  have h1 : Keeps W s0 s1 := State.mxStep3_keeps (sub_trans hW rfl) hz
  clear_value s1 z
  split
  · exact hz
  · split
    · exact h1
    · split
      · exact h1
      · exact State.mxRun_keeps (sub_trans hW rfl) h1

theorem State.mxWork_keeps {W} (hW : 119530448 &&& W = 119530448) {s0 s : State} {m hits} (hk : Keeps W s0 s) : Keeps W s0 (s.mxWork m hits).s := by
  have h1 : Keeps W s0 (s.touchSpad m.core m.mdesc 64) := State.touchSpad_keeps (sub_trans hW rfl) hk
  unfold State.mxWork
  dsimp only
  split
  · exact h1
  · exact State.mxSplits_keeps (sub_trans hW rfl) h1

theorem execMatrixWorkOrder_keeps {W} (hW : 387965904 &&& W = 387965904) {s0 s : State} {run} (hk : Keeps W s0 s) : KeepsX W s0 (execMatrixWorkOrder run s) := by
  unfold execMatrixWorkOrder
  repeat' first | with_reducible assumption | intro _ | with_reducible (first | refine KeepsX.next ?_ | refine State.runWork_keeps (sub_trans hW rfl) ?_ ?_ | refine State.mxWork_keeps (sub_trans hW rfl) ?_) | ((with_reducible conv => arg 3; whnf); first | with_reducible assumption | split | refine Keeps.pair ‹_› ?_)

theorem State.streamOut_keeps {W} (hW : 119530384 &&& W = 119530384) {s0 s : State} {core seed member o r st vals} (hk : Keeps W s0 s) : Keeps W s0 (State.streamOut s core seed member o r st vals) := by
  unfold State.streamOut
  repeat' first | with_reducible assumption | with_reducible (first | refine State.putRow_keeps (sub_trans hW rfl) ?_ | refine State.writeSpad_keeps (sub_trans hW rfl) ?_) | ((with_reducible conv => arg 3; whnf); split)

theorem State.streamFill_keeps {W} (hW : 119530384 &&& W = 119530384) {s0 s : State} {core r n st} (hk : Keeps W s0 s) : Keeps W s0 (State.streamFill s core r n st) := by
  unfold State.streamFill
  repeat' first | with_reducible assumption | with_reducible refine State.streamOut_keeps (sub_trans hW rfl) ?_ | ((with_reducible conv => arg 3; whnf); split)

theorem State.streamLand_keeps {W} (hW : 119530384 &&& W = 119530384) {s0 s : State} {core seed member o r st vals} (hk : Keeps W s0 s) : Keeps W s0 (State.streamLand s core seed member o r st vals) := by
  unfold State.streamLand
  repeat' first | with_reducible assumption | with_reducible refine State.landRow_keeps (sub_trans hW rfl) ?_ | ((with_reducible conv => arg 3; whnf); split)

theorem State.putRowOut_keeps {W} (hW : 119530384 &&& W = 119530384) {s0 s : State} {v r p} (hk : Keeps W s0 s) : Keeps W s0 (State.putRowOut s v r p) := by
  unfold State.putRowOut
  repeat' first | with_reducible assumption | intro _ | with_reducible (first | refine State.streamOut_keeps (sub_trans hW rfl) ?_ | refine State.writeSpad_keeps (sub_trans hW rfl) ?_ | refine Keeps.foldl ?_ ?_) | ((with_reducible conv => arg 3; whnf); first | split)

theorem State.fillRowOut_keeps {W} (hW : 119530384 &&& W = 119530384) {s0 s : State} {v r} (hk : Keeps W s0 s) : Keeps W s0 (State.fillRowOut s v r) := by
  unfold State.fillRowOut
  repeat' first | with_reducible assumption | intro _ | with_reducible (first | refine State.streamFill_keeps (sub_trans hW rfl) ?_ | refine State.writeSpad_keeps (sub_trans hW rfl) ?_ | refine Keeps.foldl ?_ ?_) | ((with_reducible conv => arg 3; whnf); first | split)

theorem State.landRowOut_keeps {W} (hW : 119530384 &&& W = 119530384) {s0 s00 s : State} {v r} (hk : Keeps W s0 s00) (hk1 : Keeps W s0 s) : Keeps W s0 (State.landRowOut s00 s v r) := by
  unfold State.landRowOut
  repeat' first | with_reducible assumption | intro _ | with_reducible (first | refine State.streamLand_keeps (sub_trans hW rfl) ?_ | refine State.landRow_keeps (sub_trans hW rfl) ?_ | refine Keeps.foldl ?_ ?_) | ((with_reducible conv => arg 3; whnf); first | split)

theorem State.runRows_keeps {W} (hW : 119530384 &&& W = 119530384) {s0 s00 s : State} {v l} (h : Keeps W s0 s00) (h1 : Keeps W s0 s) : Keeps W s0 (State.runRows s00 v l s).1 := by
  induction l generalizing s with
  | nil => exact h1
  | cons r l ih =>
    unfold State.runRows
    split
    · have h2 := State.touchAll_keeps (core := v.core) (rs := s00.rowReadsOf v r) (sub_trans hW rfl) h1
      split
      · exact ih (State.putRowOut_keeps (sub_trans hW rfl) h2)
      · exact Keeps.foldl h2 (fun t q ht => State.landRowOut_keeps (sub_trans hW rfl) h ht)
    · split
      · exact ih (State.fillRowOut_keeps (sub_trans hW rfl) h1)
      · exact ih h1

theorem State.putTable_keeps {W} (hW : 64 &&& W = 64) {s0 s : State} {core es} (hk : Keeps W s0 s) : Keeps W s0 (State.putTable s core es) := by
  unfold State.putTable
  repeat' first | with_reducible assumption | with_reducible refine State.setCore_keeps (sub_trans hW rfl) ?_ | ((with_reducible conv => arg 3; whnf); split)

theorem State.landTable_keeps {W} (hW : 64 &&& W = 64) {s0 s : State} {v} (hk : Keeps W s0 s) : Keeps W s0 (State.landTable s v) := by
  unfold State.landTable
  repeat' first | with_reducible assumption | intro _ | with_reducible (first | refine State.setCore_keeps (sub_trans hW rfl) ?_ | refine Keeps.foldl ?_ ?_) | ((with_reducible conv => arg 3; whnf); first | split)

theorem State.vecRun_keeps {W} (hW : 119530448 &&& W = 119530448) {s0 s : State} {v} (hk : Keeps W s0 s) : Keeps W s0 (State.vecRun s v).s := by
  unfold State.vecRun
  repeat' first | with_reducible assumption | intro _ | with_reducible (first | refine State.touchAll_keeps (sub_trans hW rfl) ?_ | refine State.landRowOut_keeps (sub_trans hW rfl) ?_ ?_ | refine State.landTable_keeps (sub_trans hW rfl) ?_ | refine State.runRows_keeps (sub_trans hW rfl) ?_ ?_ | refine State.putTable_keeps (sub_trans hW rfl) ?_ | refine Keeps.foldl ?_ ?_ | refine Keeps.foldl1 ?_ ?_) | ((with_reducible conv => arg 3; whnf); first | with_reducible assumption | split | refine Keeps.pair ‹_› ?_ | refine KeepsO.get ‹_› ?_ | refine KeepsE.get ‹_› ?_ | refine KeepsX.get ‹_› ?_) | dsimp only

theorem State.touchDesc_keeps {W} (hW : 119268240 &&& W = 119268240) {s0 s : State} {core w} (hk : Keeps W s0 s) : Keeps W s0 (State.touchDesc s core w) := by
  unfold State.touchDesc
  repeat' first | with_reducible assumption | with_reducible refine State.touchSpad_keeps (sub_trans hW rfl) ?_ | ((with_reducible conv => arg 3; whnf); split)

theorem State.vecWork_keeps {W} (hW : 119530448 &&& W = 119530448) {s0 s : State} {core w} (hk : Keeps W s0 s) : Keeps W s0 (State.vecWork s core w).s := by
  unfold State.vecWork
  repeat' first | with_reducible assumption | with_reducible (first | refine State.touchDesc_keeps (sub_trans hW rfl) ?_ | refine State.vecRun_keeps (sub_trans hW rfl) ?_) | ((with_reducible conv => arg 3; whnf); first | split)

theorem execFusedChain_keeps {W} (hW : 387965904 &&& W = 387965904) {s0 s : State} {core} (hk : Keeps W s0 s) : KeepsX W s0 (execFusedChain core s) := by
  unfold execFusedChain
  repeat' first | with_reducible assumption | intro _ | with_reducible (first | refine KeepsX.next ?_ | refine State.runWork_keeps (sub_trans hW rfl) ?_ ?_ | refine State.vecWork_keeps (sub_trans hW rfl) ?_) | ((with_reducible conv => arg 3; whnf); first | with_reducible assumption | split | refine Keeps.pair ‹_› ?_)

theorem execSparProgram_keeps {W} (hW : 387965904 &&& W = 387965904) {s0 s : State} {core} (hk : Keeps W s0 s) : KeepsX W s0 (execSparProgram core s) := by
  unfold execSparProgram
  repeat' first | with_reducible assumption | intro _ | with_reducible (first | refine KeepsX.next ?_ | refine State.runWork_keeps (sub_trans hW rfl) ?_ ?_ | refine State.vecWork_keeps (sub_trans hW rfl) ?_) | ((with_reducible conv => arg 3; whnf); first | with_reducible assumption | split | refine Keeps.pair ‹_› ?_)

theorem State.rnPut_keeps {W} (hW : 119530384 &&& W = 119530384) {s0 s : State} {v r p} (hk : Keeps W s0 s) : Keeps W s0 (State.rnPut s v r p) := by
  unfold State.rnPut
  repeat' first | with_reducible assumption | intro _ | with_reducible (first | refine State.streamOut_keeps (sub_trans hW rfl) ?_ | refine State.writeSpad_keeps (sub_trans hW rfl) ?_ | refine Keeps.foldl ?_ ?_) | ((with_reducible conv => arg 3; whnf); first | split)

theorem State.rnFill_keeps {W} (hW : 119530384 &&& W = 119530384) {s0 s : State} {v r} (hk : Keeps W s0 s) : Keeps W s0 (State.rnFill s v r) := by
  unfold State.rnFill
  repeat' first | with_reducible assumption | intro _ | with_reducible (first | refine State.streamFill_keeps (sub_trans hW rfl) ?_ | refine State.writeSpad_keeps (sub_trans hW rfl) ?_ | refine Keeps.foldl ?_ ?_) | ((with_reducible conv => arg 3; whnf); first | split)

theorem State.rowLand_keeps {W} (hW : 119530384 &&& W = 119530384) {s0 s : State} {v r c} (hk : Keeps W s0 s) : Keeps W s0 (State.rowLand s v r c) := by
  unfold State.rowLand
  repeat' first | with_reducible assumption | intro _ | with_reducible (first | refine State.streamLand_keeps (sub_trans hW rfl) ?_ | refine State.landRow_keeps (sub_trans hW rfl) ?_ | refine Keeps.foldl ?_ ?_) | ((with_reducible conv => arg 3; whnf); first | split)

theorem rowsRun_keeps {W} (hW : 119530384 &&& W = 119530384) {s0 s : State} {v reads row l} {g : State → Nat → State} (hg : ∀ t r, Keeps W s0 t → Keeps W s0 (g t r)) (h : Keeps W s0 s) :
    Keeps W s0 (rowsRun v reads row g l s).s := by
  induction l generalizing s with
  | nil => exact h
  | cons r l ih =>
    unfold rowsRun
    repeat' first | with_reducible assumption | intro _ | with_reducible refine State.touchAll_keeps (sub_trans hW rfl) ?_ | with_reducible refine State.rnPut_keeps (sub_trans hW rfl) ?_ | with_reducible refine State.rowLand_keeps (sub_trans hW rfl) ?_ | with_reducible apply ih | with_reducible apply hg | with_reducible refine Keeps.foldl ?_ ?_ | ((with_reducible conv => arg 3; whnf); split)

theorem State.rnWork_keeps {W} (hW : 119530384 &&& W = 119530384) {s0 s : State} {core w} (hk : Keeps W s0 s) : Keeps W s0 (State.rnWork s core w).s := by
  unfold State.rnWork
  repeat' first | with_reducible assumption | intro _ | with_reducible (first | refine State.touchDesc_keeps (sub_trans hW rfl) ?_ | refine rowsRun_keeps (sub_trans hW rfl) ?_ ?_ | refine State.rnFill_keeps (sub_trans hW rfl) ?_) | ((with_reducible conv => arg 3; whnf); first | with_reducible assumption | split | refine Keeps.pair ‹_› ?_ | refine KeepsO.get ‹_› ?_ | refine KeepsE.get ‹_› ?_ | refine KeepsX.get ‹_› ?_) | dsimp only

theorem State.rnRun_keeps {W} (hW : 387965904 &&& W = 387965904) {s0 s : State} {core op} (hk : Keeps W s0 s) : Keeps W s0 (State.rnRun s core op) := by
  unfold State.rnRun
  repeat' first | with_reducible assumption | intro _ | with_reducible (first | refine State.runWork_keeps (sub_trans hW rfl) ?_ ?_ | refine State.rnWork_keeps (sub_trans hW rfl) ?_) | ((with_reducible conv => arg 3; whnf); first | with_reducible assumption | split | refine Keeps.pair ‹_› ?_)

theorem execSoftmax_keeps {W} (hW : 387965904 &&& W = 387965904) {s0 s : State} {core} (hk : Keeps W s0 s) : KeepsX W s0 (execSoftmax core s) := KeepsX.next (State.rnRun_keeps (sub_trans hW rfl) hk)

theorem execPartialState_keeps {W} (hW : 387965904 &&& W = 387965904) {s0 s : State} {core} (hk : Keeps W s0 s) : KeepsX W s0 (execPartialState core s) := KeepsX.next (State.rnRun_keeps (sub_trans hW rfl) hk)

theorem execMergeStates_keeps {W} (hW : 387965904 &&& W = 387965904) {s0 s : State} {core} (hk : Keeps W s0 s) : KeepsX W s0 (execMergeStates core s) := KeepsX.next (State.rnRun_keeps (sub_trans hW rfl) hk)

theorem execApplyState_keeps {W} (hW : 387965904 &&& W = 387965904) {s0 s : State} {core} (hk : Keeps W s0 s) : KeepsX W s0 (execApplyState core s) := KeepsX.next (State.rnRun_keeps (sub_trans hW rfl) hk)

theorem execLayerNorm_keeps {W} (hW : 387965904 &&& W = 387965904) {s0 s : State} {core} (hk : Keeps W s0 s) : KeepsX W s0 (execLayerNorm core s) := KeepsX.next (State.rnRun_keeps (sub_trans hW rfl) hk)

theorem execRmsNorm_keeps {W} (hW : 387965904 &&& W = 387965904) {s0 s : State} {core} (hk : Keeps W s0 s) : KeepsX W s0 (execRmsNorm core s) := KeepsX.next (State.rnRun_keeps (sub_trans hW rfl) hk)

theorem State.rtSelectFill_keeps {W} (hW : 119530384 &&& W = 119530384) {s0 s : State} {v r} (hk : Keeps W s0 s) : Keeps W s0 (State.rtSelectFill s v r) := by
  unfold State.rtSelectFill
  repeat' first | with_reducible assumption | with_reducible refine State.writeSpad_keeps (sub_trans hW rfl) ?_ | ((with_reducible conv => arg 3; whnf); split)

theorem State.rtAdmit_keeps {W} (hW : 119530384 &&& W = 119530384) {s0 s : State} {v} (hk : Keeps W s0 s) : Keeps W s0 (State.rtAdmit s v).s := by
  unfold State.rtAdmit
  repeat' first | with_reducible assumption | intro _ | with_reducible (first | refine State.touchAll_keeps (sub_trans hW rfl) ?_ | refine State.touchSpad_keeps (sub_trans hW rfl) ?_ | refine State.landRow_keeps (sub_trans hW rfl) ?_ | refine State.writeSpad_keeps (sub_trans hW rfl) ?_ | refine Keeps.foldl ?_ ?_ | refine Keeps.foldl1 ?_ ?_) | ((with_reducible conv => arg 3; whnf); first | with_reducible assumption | split | refine Keeps.pair ‹_› ?_ | refine KeepsO.get ‹_› ?_ | refine KeepsE.get ‹_› ?_ | refine KeepsX.get ‹_› ?_) | dsimp only

theorem State.rtWork_keeps {W} (hW : 119530384 &&& W = 119530384) {s0 s : State} {core w} (hk : Keeps W s0 s) : Keeps W s0 (State.rtWork s core w).s := by
  unfold State.rtWork
  repeat' first | with_reducible assumption | intro _ | with_reducible (first | refine State.touchDesc_keeps (sub_trans hW rfl) ?_ | refine rowsRun_keeps (sub_trans hW rfl) ?_ ?_ | refine State.rtSelectFill_keeps (sub_trans hW rfl) ?_ | refine State.rtAdmit_keeps (sub_trans hW rfl) ?_ | refine State.streamFill_keeps (sub_trans hW rfl) ?_) | ((with_reducible conv => arg 3; whnf); first | with_reducible assumption | split | refine Keeps.pair ‹_› ?_ | refine KeepsO.get ‹_› ?_ | refine KeepsE.get ‹_› ?_ | refine KeepsX.get ‹_› ?_) | dsimp only

theorem State.rtRun_keeps {W} (hW : 387965904 &&& W = 387965904) {s0 s : State} {core op} (hk : Keeps W s0 s) : Keeps W s0 (State.rtRun s core op) := by
  unfold State.rtRun
  repeat' first | with_reducible assumption | intro _ | with_reducible (first | refine State.runWork_keeps (sub_trans hW rfl) ?_ ?_ | refine State.rtWork_keeps (sub_trans hW rfl) ?_) | ((with_reducible conv => arg 3; whnf); first | with_reducible assumption | split | refine Keeps.pair ‹_› ?_)

theorem execRouterSelect_keeps {W} (hW : 387965904 &&& W = 387965904) {s0 s : State} {core} (hk : Keeps W s0 s) : KeepsX W s0 (execRouterSelect core s) := KeepsX.next (State.rtRun_keeps (sub_trans hW rfl) hk)

theorem execRouterAdmit_keeps {W} (hW : 387965904 &&& W = 387965904) {s0 s : State} {core} (hk : Keeps W s0 s) : KeepsX W s0 (execRouterAdmit core s) := KeepsX.next (State.rtRun_keeps (sub_trans hW rfl) hk)

theorem execRouterCombine_keeps {W} (hW : 387965904 &&& W = 387965904) {s0 s : State} {core} (hk : Keeps W s0 s) : KeepsX W s0 (execRouterCombine core s) := KeepsX.next (State.rtRun_keeps (sub_trans hW rfl) hk)

theorem State.exitWork_keeps {W} (hW : 119530384 &&& W = 119530384) {s0 s : State} {core w} (hk : Keeps W s0 s) : Keeps W s0 (State.exitWork s core w).s := by
  unfold State.exitWork
  repeat' first | with_reducible assumption | intro _ | with_reducible (first | refine State.touchSpad_keeps (sub_trans hW rfl) ?_ | refine rowsRun_keeps (sub_trans hW rfl) ?_ ?_) | ((with_reducible conv => arg 3; whnf); first | with_reducible assumption | split | refine Keeps.pair ‹_› ?_ | refine KeepsO.get ‹_› ?_ | refine KeepsE.get ‹_› ?_ | refine KeepsX.get ‹_› ?_) | dsimp only

theorem execExitTest_keeps {W} (hW : 387965904 &&& W = 387965904) {s0 s : State} {core} (hk : Keeps W s0 s) : KeepsX W s0 (execExitTest core s) := by
  unfold execExitTest
  repeat' first | with_reducible assumption | intro _ | with_reducible (first | refine KeepsX.next ?_ | refine State.runWork_keeps (sub_trans hW rfl) ?_ ?_ | refine State.exitWork_keeps (sub_trans hW rfl) ?_) | ((with_reducible conv => arg 3; whnf); first | with_reducible assumption | split | refine Keeps.pair ‹_› ?_)

theorem State.pumpPort_keeps {W} (hW : 1024 &&& W = 1024) {s0 s : State} {p} (hk : Keeps W s0 s) : Keeps W s0 (State.pumpPort s p) := by
  unfold State.pumpPort
  repeat' first | with_reducible assumption | with_reducible refine State.setPort_keeps (sub_trans hW rfl) ?_ | ((with_reducible conv => arg 3; whnf); split)

theorem State.farPush_keeps {W} (hW : 1024 &&& W = 1024) {s0 s : State} {p own msg} (hk : Keeps W s0 s) : Keeps W s0 (State.farPush s p own msg) := by
  unfold State.farPush
  repeat' first | with_reducible assumption | with_reducible (first | refine State.setPort_keeps (sub_trans hW rfl) ?_ | refine State.pumpPort_keeps (sub_trans hW rfl) ?_) | ((with_reducible conv => arg 3; whnf); split)

theorem State.farLeave_keeps {W} (hW : 1024 &&& W = 1024) {s0 s : State} {p r} (hk : Keeps W s0 s) : Keeps W s0 (State.farLeave s p r) := by
  unfold State.farLeave
  repeat' first | with_reducible assumption | with_reducible (first | refine State.setPort_keeps (sub_trans hW rfl) ?_ | refine State.farPush_keeps (sub_trans hW rfl) ?_) | ((with_reducible conv => arg 3; whnf); split)

theorem State.farIssue_keeps {W} (hW : 1024 &&& W = 1024) {s0 s : State} {p r} (hk : Keeps W s0 s) : Keeps W s0 (State.farIssue s p r) := by
  unfold State.farIssue
  repeat' first | with_reducible assumption | with_reducible (first | refine State.farLeave_keeps (sub_trans hW rfl) ?_ | refine State.setPort_keeps (sub_trans hW rfl) ?_) | ((with_reducible conv => arg 3; whnf); split)

theorem State.farDrain_keeps {W} (hW : 1024 &&& W = 1024) {s0 a__internal_hyg01 : State} {a__internal_hyg0 a__internal_hyg02} (hk : Keeps W s0 a__internal_hyg01) : Keeps W s0 (State.farDrain a__internal_hyg0 a__internal_hyg01 a__internal_hyg02) := by
  fun_induction State.farDrain a__internal_hyg0 a__internal_hyg01 a__internal_hyg02 <;> (repeat' first | with_reducible assumption | intro _ | with_reducible (first | refine State.setPort_keeps (sub_trans hW rfl) ?_ | refine State.farLeave_keeps (sub_trans hW rfl) ?_) | with_reducible apply_assumption | ((with_reducible conv => arg 3; whnf); first | with_reducible assumption | split | refine Keeps.pair ‹_› ?_ | refine KeepsO.get ‹_› ?_ | refine KeepsE.get ‹_› ?_ | refine KeepsX.get ‹_› ?_) | dsimp only)

theorem State.farNext_keeps {W} (hW : 1024 &&& W = 1024) {s0 s : State} {p} (hk : Keeps W s0 s) : Keeps W s0 (State.farNext s p) := by
  unfold State.farNext
  repeat' first | with_reducible assumption | with_reducible refine State.farDrain_keeps (sub_trans hW rfl) ?_ | ((with_reducible conv => arg 3; whnf); split)

theorem State.dropSpans_keeps {W} (hW : 1024 &&& W = 1024) {s0 s : State} {own} (hk : Keeps W s0 s) : Keeps W s0 (State.dropSpans s own) := Keeps.on_ports (sub_trans hW rfl) hk

theorem State.dropOwner_keeps {W} (hW : 1024 &&& W = 1024) {s0 s : State} {own} (hk : Keeps W s0 s) : Keeps W s0 (State.dropOwner s own) := by
  unfold State.dropOwner
  repeat' first | with_reducible assumption | intro _ | with_reducible (first | refine State.farNext_keeps (sub_trans hW rfl) ?_ | refine Keeps.foldl ?_ ?_ | refine Keeps.foldl1 ?_ ?_) | ((with_reducible conv => arg 3; whnf); first | with_reducible assumption | split | refine Keeps.pair ‹_› ?_ | refine KeepsO.get ‹_› ?_ | refine KeepsE.get ‹_› ?_ | refine KeepsX.get ‹_› ?_) | dsimp only | refine Keeps.on_ports (sub_trans hW rfl) ?_

theorem State.cutReads_keeps {W} (hW : 1024 &&& W = 1024) {s0 s : State} {own lo len} (hk : Keeps W s0 s) : Keeps W s0 (State.cutReads s own lo len) := Keeps.on_ports (sub_trans hW rfl) hk

theorem State.farAnswer_keeps {W} (hW : 1024 &&& W = 1024) {s0 s : State} {own p src tag kind status data} (hk : Keeps W s0 s) : Keeps W s0 (State.farAnswer s own p src tag kind status data) := by
  unfold State.farAnswer
  repeat' first | with_reducible assumption | with_reducible refine State.farPush_keeps (sub_trans hW rfl) ?_ | ((with_reducible conv => arg 3; whnf); split)

theorem State.windowIdle_keeps {W} (hW : 32 &&& W = 32) {s0 s : State} {b w} (hk : Keeps W s0 s) : Keeps W s0 (State.windowIdle s b w) := by
  unfold State.windowIdle
  repeat' first | with_reducible assumption | with_reducible refine State.setBay_keeps (sub_trans hW rfl) ?_ | ((with_reducible conv => arg 3; whnf); split)

theorem State.farWriteOut_keeps {W} (hW : 1024 &&& W = 1024) {s0 s : State} {b w off bytes owner} (hk : Keeps W s0 s) : Keeps W s0 (State.farWriteOut s b w off bytes owner).1 := by
  unfold State.farWriteOut
  repeat' first | with_reducible assumption | intro _ | with_reducible (first | refine State.farIssue_keeps (sub_trans hW rfl) ?_ | refine Keeps.foldl ?_ ?_ | refine Keeps.foldl1 ?_ ?_) | ((with_reducible conv => arg 3; whnf); first | with_reducible assumption | split | refine Keeps.pair ‹_› ?_ | refine KeepsO.get ‹_› ?_ | refine KeepsE.get ‹_› ?_ | refine KeepsX.get ‹_› ?_) | dsimp only

theorem State.farReadOut_keeps {W} (hW : 1024 &&& W = 1024) {s0 s : State} {b w off len owner dsts} (hk : Keeps W s0 s) : Keeps W s0 (State.farReadOut s b w off len owner dsts).1 := by
  unfold State.farReadOut
  repeat' first | with_reducible assumption | intro _ | with_reducible (first | refine State.farIssue_keeps (sub_trans hW rfl) ?_ | refine Keeps.foldl ?_ ?_ | refine Keeps.foldl1 ?_ ?_) | ((with_reducible conv => arg 3; whnf); first | with_reducible assumption | split | refine Keeps.pair ‹_› ?_ | refine KeepsO.get ‹_› ?_ | refine KeepsE.get ‹_› ?_ | refine KeepsX.get ‹_› ?_) | dsimp only

theorem State.putAt_keeps {W} (hW : 119531408 &&& W = 119531408) {s0 s : State} {a owner addr bytes} (hk : Keeps W s0 s) : Keeps W s0 (State.putAt s a owner addr bytes).1 := by
  unfold State.putAt
  repeat' first | with_reducible assumption | with_reducible (first | refine State.farWriteOut_keeps (sub_trans hW rfl) ?_ | refine State.writeRegion_keeps (sub_trans hW rfl) ?_) | ((with_reducible conv => arg 3; whnf); split)

theorem State.putEach_keeps {W} (hW : 119531408 &&& W = 119531408) {s0 s : State} {a owner bytes a__internal_hyg0} (hk : Keeps W s0 s) : Keeps W s0 (State.putEach s a owner bytes a__internal_hyg0).1 := by
  fun_induction State.putEach s a owner bytes a__internal_hyg0 <;> (repeat' first | with_reducible assumption | intro _ | with_reducible refine State.putAt_keeps (sub_trans hW rfl) ?_ | with_reducible apply_assumption | ((with_reducible conv => arg 3; whnf); first | with_reducible assumption | split | refine Keeps.pair ‹_› ?_ | refine KeepsO.get ‹_› ?_ | refine KeepsE.get ‹_› ?_ | refine KeepsX.get ‹_› ?_) | dsimp only)

theorem State.moveRun_keeps {W} (hW : 119531408 &&& W = 119531408) {s0 s : State} {a owner src n dsts} (hk : Keeps W s0 s) : Keeps W s0 (State.moveRun s a owner src n dsts).1 := by
  unfold State.moveRun
  repeat' first | with_reducible assumption | with_reducible (first | refine State.farReadOut_keeps (sub_trans hW rfl) ?_ | refine State.putEach_keeps (sub_trans hW rfl) ?_) | ((with_reducible conv => arg 3; whnf); split)

theorem State.dmaRun_keeps {W} (hW : 119531472 &&& W = 119531472) {s0 s00 s : State} {m r} (hk : Keeps W s0 s00) (hk1 : Keeps W s0 s) : Keeps W s0 (State.dmaRun s00 s m r).1 := by
  unfold State.dmaRun
  repeat' first | with_reducible assumption | intro _ | with_reducible (first | refine State.touchAt_keeps (sub_trans hW rfl) ?_ | refine State.cutReads_keeps (sub_trans hW rfl) ?_ | refine State.putEach_keeps (sub_trans hW rfl) ?_ | refine State.moveRun_keeps (sub_trans hW rfl) ?_ | refine Keeps.foldl ?_ ?_ | refine Keeps.foldl1 ?_ ?_) | ((with_reducible conv => arg 3; whnf); first | with_reducible assumption | split | refine Keeps.pair ‹_› ?_ | refine KeepsO.get ‹_› ?_ | refine KeepsE.get ‹_› ?_ | refine KeepsX.get ‹_› ?_) | dsimp only

theorem State.dmaRuns_keeps {W} (hW : 119531472 &&& W = 119531472) {s0 s00 a__internal_hyg04 : State} {m a__internal_hyg0 a__internal_hyg03} (hk : Keeps W s0 s00) (hk1 : Keeps W s0 a__internal_hyg04) : Keeps W s0 (State.dmaRuns s00 m a__internal_hyg0 a__internal_hyg03 a__internal_hyg04).1 := by
  fun_induction State.dmaRuns s00 m a__internal_hyg0 a__internal_hyg03 a__internal_hyg04 <;> (repeat' first | with_reducible assumption | intro _ | with_reducible refine State.dmaRun_keeps (sub_trans hW rfl) ?_ ?_ | with_reducible apply_assumption | ((with_reducible conv => arg 3; whnf); first | with_reducible assumption | split | refine Keeps.pair ‹_› ?_ | refine KeepsO.get ‹_› ?_ | refine KeepsE.get ‹_› ?_ | refine KeepsX.get ‹_› ?_) | dsimp only)

theorem State.touchRun_keeps {W} (hW : 119268304 &&& W = 119268304) {s0 s : State} {m r} (hk : Keeps W s0 s) : Keeps W s0 (State.touchRun s m r) := by
  unfold State.touchRun
  repeat' first | with_reducible assumption | with_reducible refine State.touchAt_keeps (sub_trans hW rfl) ?_ | ((with_reducible conv => arg 3; whnf); split)

theorem State.dmaLand_keeps {W} (hW : 119530384 &&& W = 119530384) {s0 s00 s : State} {m rs} (hk : Keeps W s0 s00) (hk1 : Keeps W s0 s) : Keeps W s0 (State.dmaLand s00 s m rs) := by
  unfold State.dmaLand
  repeat' first | with_reducible assumption | with_reducible refine State.landAll_keeps (sub_trans hW rfl) ?_ | ((with_reducible conv => arg 3; whnf); split)

theorem State.putWork_keeps {W} (hW : 64 &&& W = 64) {s0 s : State} {core w} (hk : Keeps W s0 s) : Keeps W s0 (State.putWork s core w) := by
  unfold State.putWork
  repeat' first | with_reducible assumption | with_reducible refine State.setCore_keeps (sub_trans hW rfl) ?_ | ((with_reducible conv => arg 3; whnf); split)

theorem State.dmaFail_keeps {W} (hW : 1088 &&& W = 1088) {s0 s : State} {core w st} (hk : Keeps W s0 s) : Keeps W s0 (State.dmaFail s core w st) := by
  unfold State.dmaFail
  repeat' first | with_reducible assumption | with_reducible (first | refine State.dropSpans_keeps (sub_trans hW rfl) ?_ | refine State.putWork_keeps (sub_trans hW rfl) ?_) | ((with_reducible conv => arg 3; whnf); split)

theorem State.dmaStop_keeps {W} (hW : 119531472 &&& W = 119531472) {s0 s00 : State} {core w m k n} (hk : Keeps W s0 s00) : Keeps W s0 (State.dmaStop s00 core w m k n) := by
  unfold State.dmaStop
  repeat' first | with_reducible assumption | intro _ | with_reducible (first | refine State.dmaRuns_keeps (sub_trans hW rfl) ?_ ?_ | refine State.touchRun_keeps (sub_trans hW rfl) ?_ | refine State.dmaLand_keeps (sub_trans hW rfl) ?_ ?_ | refine Keeps.foldl ?_ ?_) | ((with_reducible conv => arg 3; whnf); first | split)

theorem State.dmaDone_keeps {W} (hW : 64 &&& W = 64) {s0 s : State} {core w} (hk : Keeps W s0 s) : Keeps W s0 (State.dmaDone s core w) := by
  unfold State.dmaDone
  repeat' first | with_reducible assumption | with_reducible refine State.putWork_keeps (sub_trans hW rfl) ?_ | ((with_reducible conv => arg 3; whnf); split)

theorem State.dmaRead_keeps {W} (hW : 119268240 &&& W = 119268240) {s0 s : State} {core w} (hk : Keeps W s0 s) : Keeps W s0 (State.dmaRead s core w) := by
  unfold State.dmaRead
  repeat' first | with_reducible assumption | intro _ | with_reducible refine State.touchAll_keeps (sub_trans hW rfl) ?_ | ((with_reducible conv => arg 3; whnf); first | with_reducible assumption | split | refine Keeps.pair ‹_› ?_ | refine KeepsO.get ‹_› ?_ | refine KeepsE.get ‹_› ?_ | refine KeepsX.get ‹_› ?_) | dsimp only | refine Keeps.on_draws (sub_trans hW rfl) ?_

theorem State.dmaGo_keeps {W} (hW : 119531472 &&& W = 119531472) {s0 s : State} {core w k} (hk : Keeps W s0 s) : Keeps W s0 (State.dmaGo s core w k) := by
  unfold State.dmaGo
  repeat' first | with_reducible assumption | intro _ | with_reducible (first | refine State.dmaRead_keeps (sub_trans hW rfl) ?_ | refine State.dmaFail_keeps (sub_trans hW rfl) ?_ | refine State.dmaRuns_keeps (sub_trans hW rfl) ?_ ?_ | refine State.dmaDone_keeps (sub_trans hW rfl) ?_ | refine State.dmaStop_keeps (sub_trans hW rfl) ?_) | ((with_reducible conv => arg 3; whnf); first | with_reducible assumption | split | refine Keeps.pair ‹_› ?_ | refine KeepsO.get ‹_› ?_ | refine KeepsE.get ‹_› ?_ | refine KeepsX.get ‹_› ?_) | dsimp only

theorem State.dmaStream_keeps {W} (hW : 387966928 &&& W = 387966928) {s0 s : State} {core lid node k op} (hk : Keeps W s0 s) : Keeps W s0 (State.dmaStream s core lid node k op) := by
  unfold State.dmaStream
  repeat' first | with_reducible assumption | intro _ | with_reducible (first | refine State.raceRun_keeps (sub_trans hW rfl) ?_ ?_ | refine State.dmaGo_keeps (sub_trans hW rfl) ?_) | ((with_reducible conv => arg 3; whnf); first | with_reducible assumption | split | refine Keeps.pair ‹_› ?_)

theorem State.dmaPart_keeps {W} (hW : 119531472 &&& W = 119531472) {s0 s : State} {core w k} (hk : Keeps W s0 s) : Keeps W s0 (State.dmaPart s core w k) := by
  unfold State.dmaPart
  repeat' first | with_reducible assumption | intro _ | with_reducible (first | refine State.dmaRead_keeps (sub_trans hW rfl) ?_ | refine State.dmaRuns_keeps (sub_trans hW rfl) ?_ ?_ | refine State.putWork_keeps (sub_trans hW rfl) ?_) | ((with_reducible conv => arg 3; whnf); first | with_reducible assumption | split | refine Keeps.pair ‹_› ?_ | refine KeepsO.get ‹_› ?_ | refine KeepsE.get ‹_› ?_ | refine KeepsX.get ‹_› ?_) | dsimp only

theorem State.streamsSoFar_keeps {W} (hW : 387966928 &&& W = 387966928) {s0 s : State} {b} (hk : Keeps W s0 s) : Keeps W s0 (State.streamsSoFar s b) := by
  unfold State.streamsSoFar
  repeat' first | with_reducible assumption | intro _ | with_reducible (first | refine State.raceRun_keeps (sub_trans hW rfl) ?_ ?_ | refine State.dmaPart_keeps (sub_trans hW rfl) ?_ | refine Keeps.foldl ?_ ?_ | refine Keeps.foldl1 ?_ ?_) | ((with_reducible conv => arg 3; whnf); first | with_reducible assumption | split | refine Keeps.pair ‹_› ?_ | refine KeepsO.get ‹_› ?_ | refine KeepsE.get ‹_› ?_ | refine KeepsX.get ‹_› ?_) | dsimp only

theorem execDmaCopy_keeps {W} (hW : 387966928 &&& W = 387966928) {s0 s : State} {core lid node stream} (hk : Keeps W s0 s) : KeepsX W s0 (execDmaCopy core lid node stream s) := by
  unfold execDmaCopy
  repeat' first | with_reducible assumption | with_reducible (first | refine KeepsX.next ?_ | refine State.dmaStream_keeps (sub_trans hW rfl) ?_) | ((with_reducible conv => arg 3; whnf); first | split)

theorem execDmaGather_keeps {W} (hW : 387966928 &&& W = 387966928) {s0 s : State} {core lid node stream} (hk : Keeps W s0 s) : KeepsX W s0 (execDmaGather core lid node stream s) := by
  unfold execDmaGather
  repeat' first | with_reducible assumption | with_reducible (first | refine KeepsX.next ?_ | refine State.dmaStream_keeps (sub_trans hW rfl) ?_) | ((with_reducible conv => arg 3; whnf); first | split)

theorem execDmaScatter_keeps {W} (hW : 387966928 &&& W = 387966928) {s0 s : State} {core lid node stream} (hk : Keeps W s0 s) : KeepsX W s0 (execDmaScatter core lid node stream s) := KeepsX.next (State.dmaStream_keeps (sub_trans hW rfl) hk)

theorem execDmaFill_keeps {W} (hW : 387966928 &&& W = 387966928) {s0 s : State} {core lid node stream} (hk : Keeps W s0 s) : KeepsX W s0 (execDmaFill core lid node stream s) := KeepsX.next (State.dmaStream_keeps (sub_trans hW rfl) hk)

theorem State.addCounter_keeps {W} (hW : 64 &&& W = 64) {s0 s : State} {core ctr incr} (hk : Keeps W s0 s) : Keeps W s0 (State.addCounter s core ctr incr) := by
  unfold State.addCounter
  repeat' first | with_reducible assumption | with_reducible refine State.setCore_keeps (sub_trans hW rfl) ?_ | ((with_reducible conv => arg 3; whnf); split)

theorem State.arriveSignal_keeps {W} (hW : 64 &&& W = 64) {s0 s : State} {core lid node stream} (hk : Keeps W s0 s) : Keeps W s0 (State.arriveSignal s core lid node stream) := by
  unfold State.arriveSignal
  repeat' first | with_reducible assumption | intro _ | with_reducible (first | refine State.putWork_keeps (sub_trans hW rfl) ?_ | refine State.addCounter_keeps (sub_trans hW rfl) ?_ | refine Keeps.foldl ?_ ?_) | ((with_reducible conv => arg 3; whnf); first | split)

theorem execArrivalSignal_keeps {W} (hW : 64 &&& W = 64) {s0 s : State} {core lid node stream} (hk : Keeps W s0 s) : KeepsX W s0 (execArrivalSignal core lid node stream s) := by
  unfold execArrivalSignal
  repeat' first | with_reducible assumption | with_reducible (first | refine KeepsX.next ?_ | refine State.arriveSignal_keeps (sub_trans hW rfl) ?_) | ((with_reducible conv => arg 3; whnf); split)

theorem State.remoteAccess_keeps {W} (hW : 387965904 &&& W = 387965904) {s0 s : State} {core off ecc write data} (hk : Keeps W s0 s) : Keeps W s0 (State.remoteAccess s core off ecc write data) := by
  unfold State.remoteAccess
  repeat' first | with_reducible assumption | with_reducible (first | refine State.raced_keeps (sub_trans hW rfl) ?_ ?_ | refine State.writeSpad_keeps (sub_trans hW rfl) ?_ | refine State.touchSpad_keeps (sub_trans hW rfl) ?_) | ((with_reducible conv => arg 3; whnf); first | split | refine Keeps.on_spadFlaws (sub_trans hW rfl) ?_)

theorem execRemoteScratchpadAccess_keeps {W} (hW : 387965904 &&& W = 387965904) {s0 s : State} {core off ecc write data} (hk : Keeps W s0 s) : KeepsX W s0 (execRemoteScratchpadAccess core off ecc write data s) := KeepsX.next (State.remoteAccess_keeps (sub_trans hW rfl) hk)

theorem State.evPages_keeps {W} (hW : 100917776 &&& W = 100917776) {s0 a__internal_hyg03 : State} {v list a__internal_hyg0 a__internal_hyg04} (hk : Keeps W s0 a__internal_hyg03) : Keeps W s0 (State.evPages v list a__internal_hyg0 a__internal_hyg03 a__internal_hyg04).1 := by
  fun_induction State.evPages v list a__internal_hyg0 a__internal_hyg03 a__internal_hyg04 <;> (repeat' first | with_reducible assumption | intro _ | with_reducible refine State.touchStack_keeps (sub_trans hW rfl) ?_ | with_reducible apply_assumption | ((with_reducible conv => arg 3; whnf); first | with_reducible assumption | split | refine Keeps.pair ‹_› ?_ | refine KeepsO.get ‹_› ?_ | refine KeepsE.get ‹_› ?_ | refine KeepsX.get ‹_› ?_) | dsimp only)

theorem State.evReq_keeps {W} (hW : 100917776 &&& W = 100917776) {s0 s : State} {v q} (hk : Keeps W s0 s) : Keeps W s0 (State.evReq s v q).1 := by
  unfold State.evReq
  repeat' first | with_reducible assumption | intro _ | with_reducible (first | refine State.touchStack_keeps (sub_trans hW rfl) ?_ | refine State.evPages_keeps (sub_trans hW rfl) ?_) | ((with_reducible conv => arg 3; whnf); first | with_reducible assumption | split | refine Keeps.pair ‹_› ?_ | refine KeepsO.get ‹_› ?_ | refine KeepsE.get ‹_› ?_ | refine KeepsX.get ‹_› ?_) | dsimp only

theorem State.evRowOut_keeps {W} (hW : 119530384 &&& W = 119530384) {s0 s : State} {q v acc rho} (h : Keeps W s0 acc.1) : Keeps W s0 (State.evRowOut s q v acc rho).1 := by
  unfold State.evRowOut
  split
  · exact h
  · exact State.writeAt_keeps (sub_trans hW rfl) h

theorem State.evRequest_keeps {W} (hW : 119530448 &&& W = 119530448) {s0 s : State} {v q} (hk : Keeps W s0 s) : Keeps W s0 (State.evRequest s v q).1 := by
  unfold State.evRequest
  repeat' first | with_reducible assumption | intro _ | with_reducible (first | refine State.evReq_keeps (sub_trans hW rfl) ?_ | refine State.touchStack_keeps (sub_trans hW rfl) ?_ | refine State.touchAt_keeps (sub_trans hW rfl) ?_ | refine State.evRowOut_keeps (sub_trans hW rfl) ?_ | refine State.setStack_keeps (sub_trans hW rfl) ?_ | refine Keeps.foldl ?_ ?_ | refine Keeps.foldl1 ?_ ?_) | ((with_reducible conv => arg 3; whnf); first | with_reducible assumption | split | refine Keeps.pair ‹_› ?_ | refine KeepsO.get ‹_› ?_ | refine KeepsE.get ‹_› ?_ | refine KeepsX.get ‹_› ?_) | dsimp only

theorem State.evRequests_keeps {W} (hW : 119530448 &&& W = 119530448) {s0 a__internal_hyg02 : State} {v a__internal_hyg0 a__internal_hyg03} (hk : Keeps W s0 a__internal_hyg02) : Keeps W s0 (State.evRequests v a__internal_hyg0 a__internal_hyg02 a__internal_hyg03).1 := by
  fun_induction State.evRequests v a__internal_hyg0 a__internal_hyg02 a__internal_hyg03 <;> (repeat' first | with_reducible assumption | intro _ | with_reducible refine State.evRequest_keeps (sub_trans hW rfl) ?_ | with_reducible apply_assumption | ((with_reducible conv => arg 3; whnf); first | with_reducible assumption | split | refine Keeps.pair ‹_› ?_ | refine KeepsO.get ‹_› ?_ | refine KeepsE.get ‹_› ?_ | refine KeepsX.get ‹_› ?_) | dsimp only)

theorem State.copyLines_keeps {W} (hW : 100917776 &&& W = 100917776) {s0 a__internal_hyg04 : State} {k src dst a__internal_hyg0} (hk : Keeps W s0 a__internal_hyg04) : Keeps W s0 (State.copyLines k src dst a__internal_hyg0 a__internal_hyg04).1 := by
  fun_induction State.copyLines k src dst a__internal_hyg0 a__internal_hyg04 <;> (repeat' first | with_reducible assumption | intro _ | with_reducible (first | refine State.touchStack_keeps (sub_trans hW rfl) ?_ | refine State.writeStack_keeps (sub_trans hW rfl) ?_) | with_reducible apply_assumption | ((with_reducible conv => arg 3; whnf); first | with_reducible assumption | split | refine Keeps.pair ‹_› ?_ | refine KeepsO.get ‹_› ?_ | refine KeepsE.get ‹_› ?_ | refine KeepsX.get ‹_› ?_) | dsimp only)

theorem State.copyEntries_keeps {W} (hW : 100917776 &&& W = 100917776) {s0 a__internal_hyg02 : State} {v a__internal_hyg0} (hk : Keeps W s0 a__internal_hyg02) : Keeps W s0 (State.copyEntries v a__internal_hyg0 a__internal_hyg02).1 := by
  fun_induction State.copyEntries v a__internal_hyg0 a__internal_hyg02 <;> (repeat' first | with_reducible assumption | intro _ | with_reducible (first | refine State.touchStack_keeps (sub_trans hW rfl) ?_ | refine State.copyLines_keeps (sub_trans hW rfl) ?_) | with_reducible apply_assumption | ((with_reducible conv => arg 3; whnf); first | with_reducible assumption | split | refine Keeps.pair ‹_› ?_ | refine KeepsO.get ‹_› ?_ | refine KeepsE.get ‹_› ?_ | refine KeepsX.get ‹_› ?_) | dsimp only)

theorem State.evWork_keeps {W} (hW : 119530448 &&& W = 119530448) {s0 s : State} {k w} (hk : Keeps W s0 s) : Keeps W s0 (State.evWork s k w).1 := by
  unfold State.evWork
  repeat' first | with_reducible assumption | intro _ | with_reducible (first | refine State.touchStack_keeps (sub_trans hW rfl) ?_ | refine State.evRequests_keeps (sub_trans hW rfl) ?_ | refine State.copyEntries_keeps (sub_trans hW rfl) ?_) | ((with_reducible conv => arg 3; whnf); first | with_reducible assumption | split | refine Keeps.pair ‹_› ?_ | refine KeepsO.get ‹_› ?_ | refine KeepsE.get ‹_› ?_ | refine KeepsX.get ‹_› ?_) | dsimp only

theorem State.evGo_keeps {W} (hW : 119530448 &&& W = 119530448) {s0 s : State} {k w} (hk : Keeps W s0 s) : Keeps W s0 (State.evGo s k w) := by
  unfold State.evGo
  repeat' first | with_reducible assumption | intro _ | with_reducible (first | refine State.evWork_keeps (sub_trans hW rfl) ?_ | refine State.setStack_keeps (sub_trans hW rfl) ?_) | ((with_reducible conv => arg 3; whnf); first | with_reducible assumption | split | refine Keeps.pair ‹_› ?_ | refine KeepsO.get ‹_› ?_ | refine KeepsE.get ‹_› ?_ | refine KeepsX.get ‹_› ?_) | dsimp only | refine Keeps.on_draws (sub_trans hW rfl) ?_

theorem State.evRun_keeps {W} (hW : 387965904 &&& W = 387965904) {s0 s : State} {k op} (hk : Keeps W s0 s) : Keeps W s0 (State.evRun s k op) := by
  unfold State.evRun
  repeat' first | with_reducible assumption | intro _ | with_reducible (first | refine State.touchStack_keeps (sub_trans hW rfl) ?_ | refine State.raceRun_keeps (sub_trans hW rfl) ?_ ?_ | refine State.evGo_keeps (sub_trans hW rfl) ?_) | ((with_reducible conv => arg 3; whnf); first | with_reducible assumption | split | refine Keeps.pair ‹_› ?_ | refine KeepsO.get ‹_› ?_ | refine KeepsE.get ‹_› ?_ | refine KeepsX.get ‹_› ?_) | dsimp only

theorem execAttend_keeps {W} (hW : 387965904 &&& W = 387965904) {s0 s : State} {stack} (hk : Keeps W s0 s) : KeepsX W s0 (execAttend stack s) := KeepsX.next (State.evRun_keeps (sub_trans hW rfl) hk)

theorem execPageCopy_keeps {W} (hW : 387965904 &&& W = 387965904) {s0 s : State} {stack} (hk : Keeps W s0 s) : KeepsX W s0 (execPageCopy stack s) := KeepsX.next (State.evRun_keeps (sub_trans hW rfl) hk)

theorem State.eaveReturn_keeps {W} (hW : 576 &&& W = 576) {s0 s : State} {k} (hk : Keeps W s0 s) : Keeps W s0 (State.eaveReturn s k) := by
  unfold State.eaveReturn
  repeat' first | with_reducible assumption | intro _ | with_reducible (first | refine State.addCounter_keeps (sub_trans hW rfl) ?_ | refine State.setStack_keeps (sub_trans hW rfl) ?_ | refine Keeps.foldl ?_ ?_) | ((with_reducible conv => arg 3; whnf); first | split)

theorem execEavePartialReturn_keeps {W} (hW : 576 &&& W = 576) {s0 s : State} {stack} (hk : Keeps W s0 s) : KeepsX W s0 (execEavePartialReturn stack s) := KeepsX.next (State.eaveReturn_keeps (sub_trans hW rfl) hk)

theorem State.valleySend_keeps {W} (hW : 8389632 &&& W = 8389632) {s0 s : State} {v h hdr off payload} (hk : Keeps W s0 s) : Keeps W s0 (State.valleySend s v h hdr off payload).1 := by
  unfold State.valleySend
  repeat' first | with_reducible assumption | intro _ | with_reducible refine State.farIssue_keeps (sub_trans hW rfl) ?_ | ((with_reducible conv => arg 3; whnf); first | with_reducible assumption | split | refine Keeps.pair ‹_› ?_ | refine KeepsO.get ‹_› ?_ | refine KeepsE.get ‹_› ?_ | refine KeepsX.get ‹_› ?_) | dsimp only | refine Keeps.on_valley (sub_trans hW rfl) ?_

theorem State.homeRead_keeps {W} (hW : 119268240 &&& W = 119268240) {s0 s : State} {v i} (hk : Keeps W s0 s) : Keeps W s0 (State.homeRead s v i).1 := by
  unfold State.homeRead
  repeat' first | with_reducible assumption | with_reducible refine State.touchSpad_keeps (sub_trans hW rfl) ?_ | ((with_reducible conv => arg 3; whnf); split)

theorem State.valleyItem_keeps {W} (hW : 119268240 &&& W = 119268240) {s0 s : State} {v r j} (hk : Keeps W s0 s) : Keeps W s0 (State.valleyItem s v r j).1 := by
  unfold State.valleyItem
  repeat' first | with_reducible assumption | intro _ | with_reducible (first | refine State.touchSpad_keeps (sub_trans hW rfl) ?_ | refine State.homeRead_keeps (sub_trans hW rfl) ?_) | ((with_reducible conv => arg 3; whnf); first | with_reducible assumption | split | refine Keeps.pair ‹_› ?_ | refine KeepsO.get ‹_› ?_ | refine KeepsE.get ‹_› ?_ | refine KeepsX.get ‹_› ?_) | dsimp only

theorem State.valleyItems_keeps {W} (hW : 127657872 &&& W = 127657872) {s0 a__internal_hyg02 : State} {v a__internal_hyg0 a__internal_hyg03} (hk : Keeps W s0 a__internal_hyg02) : Keeps W s0 (State.valleyItems v a__internal_hyg0 a__internal_hyg02 a__internal_hyg03).1 := by
  fun_induction State.valleyItems v a__internal_hyg0 a__internal_hyg02 a__internal_hyg03 <;> (repeat' first | with_reducible assumption | intro _ | with_reducible (first | refine State.valleyItem_keeps (sub_trans hW rfl) ?_ | refine State.touchSpad_keeps (sub_trans hW rfl) ?_ | refine State.valleySend_keeps (sub_trans hW rfl) ?_) | with_reducible apply_assumption | ((with_reducible conv => arg 3; whnf); first | with_reducible assumption | split | refine Keeps.pair ‹_› ?_ | refine KeepsO.get ‹_› ?_ | refine KeepsE.get ‹_› ?_ | refine KeepsX.get ‹_› ?_) | dsimp only)

theorem State.touchHomes_keeps {W} (hW : 119268240 &&& W = 119268240) {s0 a__internal_hyg02 : State} {v a__internal_hyg0} (hk : Keeps W s0 a__internal_hyg02) : Keeps W s0 (State.touchHomes v a__internal_hyg0 a__internal_hyg02) := by
  fun_induction State.touchHomes v a__internal_hyg0 a__internal_hyg02 <;> (repeat' first | with_reducible assumption | intro _ | with_reducible refine State.homeRead_keeps (sub_trans hW rfl) ?_ | with_reducible apply_assumption | ((with_reducible conv => arg 3; whnf); first | with_reducible assumption | split | refine Keeps.pair ‹_› ?_ | refine KeepsO.get ‹_› ?_ | refine KeepsE.get ‹_› ?_ | refine KeepsX.get ‹_› ?_) | dsimp only)

theorem State.valleyDones_keeps {W} (hW : 8389632 &&& W = 8389632) {s0 a__internal_hyg03 : State} {v sent a__internal_hyg0} (hk : Keeps W s0 a__internal_hyg03) : Keeps W s0 (State.valleyDones v sent a__internal_hyg0 a__internal_hyg03).1 := by
  fun_induction State.valleyDones v sent a__internal_hyg0 a__internal_hyg03 <;> (repeat' first | with_reducible assumption | intro _ | with_reducible refine State.valleySend_keeps (sub_trans hW rfl) ?_ | with_reducible apply_assumption | ((with_reducible conv => arg 3; whnf); first | with_reducible assumption | split | refine Keeps.pair ‹_› ?_ | refine KeepsO.get ‹_› ?_ | refine KeepsE.get ‹_› ?_ | refine KeepsX.get ‹_› ?_) | dsimp only)

theorem State.valleySends_keeps {W} (hW : 127657872 &&& W = 127657872) {s0 s : State} {v} (hk : Keeps W s0 s) : Keeps W s0 (State.valleySends s v).1 := by
  unfold State.valleySends
  repeat' first | with_reducible assumption | intro _ | with_reducible (first | refine State.valleyItems_keeps (sub_trans hW rfl) ?_ | refine State.touchHomes_keeps (sub_trans hW rfl) ?_ | refine State.valleyDones_keeps (sub_trans hW rfl) ?_) | ((with_reducible conv => arg 3; whnf); first | with_reducible assumption | split | refine Keeps.pair ‹_› ?_ | refine KeepsO.get ‹_› ?_ | refine KeepsE.get ‹_› ?_ | refine KeepsX.get ‹_› ?_) | dsimp only

theorem State.valleyWork_keeps {W} (hW : 127657936 &&& W = 127657936) {s0 s : State} {core w} (hk : Keeps W s0 s) : Keeps W s0 (State.valleyWork s core w) := by
  unfold State.valleyWork
  repeat' first | with_reducible assumption | with_reducible (first | refine State.touchSpad_keeps (sub_trans hW rfl) ?_ | refine State.setCore_keeps (sub_trans hW rfl) ?_ | refine State.valleySends_keeps (sub_trans hW rfl) ?_) | ((with_reducible conv => arg 3; whnf); first | split)

theorem State.valleyGo_keeps {W} (hW : 127657936 &&& W = 127657936) {s0 s : State} {core w} (h : Keeps W s0 s) : Keeps W s0 (s.valleyGo core w) :=
  Keeps.memBack h (State.valleyWork_keeps (sub_or _ hW) (State.raceView_keeps (or_sub _ _) (h.widen _)))

theorem State.valleyRun_keeps {W} (hW : 127657936 &&& W = 127657936) {s0 s : State} {core lid node ret} (hk : Keeps W s0 s) : Keeps W s0 (State.valleyRun s core lid node ret) := by
  unfold State.valleyRun
  repeat' first | with_reducible assumption | with_reducible refine State.valleyGo_keeps (sub_trans hW rfl) ?_ | ((with_reducible conv => arg 3; whnf); split)

theorem execValleyDispatch_keeps {W} (hW : 127657936 &&& W = 127657936) {s0 s : State} {core lid node} (hk : Keeps W s0 s) : KeepsX W s0 (execValleyDispatch core lid node s) := KeepsX.next (State.valleyRun_keeps (sub_trans hW rfl) hk)

theorem execValleyReturn_keeps {W} (hW : 127657936 &&& W = 127657936) {s0 s : State} {core lid node} (hk : Keeps W s0 s) : KeepsX W s0 (execValleyReturn core lid node s) := KeepsX.next (State.valleyRun_keeps (sub_trans hW rfl) hk)

theorem State.valleyAck_keeps {W} (hW : 1056 &&& W = 1056) {s0 s : State} {m} (hk : Keeps W s0 s) : Keeps W s0 (State.valleyAck s m) := by
  unfold State.valleyAck
  repeat' first | with_reducible assumption | with_reducible (first | refine State.farAnswer_keeps (sub_trans hW rfl) ?_ | refine State.windowIdle_keeps (sub_trans hW rfl) ?_) | ((with_reducible conv => arg 3; whnf); split)

theorem State.segmentArrives_keeps {W} (hW : 119531504 &&& W = 119531504) {s0 s : State} {m} (hk : Keeps W s0 s) : Keeps W s0 (State.segmentArrives s m) := by
  unfold State.segmentArrives
  repeat' first | with_reducible assumption | with_reducible (first | refine State.writeSpad_keeps (sub_trans hW rfl) ?_ | refine State.setCore_keeps (sub_trans hW rfl) ?_ | refine State.valleyAck_keeps (sub_trans hW rfl) ?_) | ((with_reducible conv => arg 3; whnf); split)

theorem State.doneArrives_keeps {W} (hW : 1120 &&& W = 1120) {s0 s : State} {m} (hk : Keeps W s0 s) : Keeps W s0 (State.doneArrives s m) := by
  unfold State.doneArrives
  repeat' first | with_reducible assumption | with_reducible (first | refine State.setCore_keeps (sub_trans hW rfl) ?_ | refine State.valleyAck_keeps (sub_trans hW rfl) ?_) | ((with_reducible conv => arg 3; whnf); split)

theorem State.valleyArrive_keeps {W} (hW : 396355568 &&& W = 396355568) {s0 s : State} {i done} (hk : Keeps W s0 s) : Keeps W s0 (State.valleyArrive s i done) := by
  unfold State.valleyArrive
  repeat' first | with_reducible assumption | with_reducible (first | refine State.doneArrives_keeps (sub_trans hW rfl) ?_ | refine State.raced_keeps (sub_trans hW rfl) ?_ ?_ | refine State.segmentArrives_keeps (sub_trans hW rfl) ?_) | ((with_reducible conv => arg 3; whnf); first | split | refine Keeps.on_valley (sub_trans hW rfl) ?_)

theorem execValleySegment_keeps {W} (hW : 396355568 &&& W = 396355568) {s0 s : State} {i} (hk : Keeps W s0 s) : KeepsX W s0 (execValleySegment i s) := KeepsX.next (State.valleyArrive_keeps (sub_trans hW rfl) hk)

theorem execValleyDone_keeps {W} (hW : 396355568 &&& W = 396355568) {s0 s : State} {i} (hk : Keeps W s0 s) : KeepsX W s0 (execValleyDone i s) := KeepsX.next (State.valleyArrive_keeps (sub_trans hW rfl) hk)

theorem State.writeReport_keeps {W} (hW : 119530384 &&& W = 119530384) {s0 s : State} {core w at_} (hk : Keeps W s0 s) : Keeps W s0 (State.writeReport s core w at_) := by
  unfold State.writeReport
  repeat' first | with_reducible assumption | with_reducible refine State.writeSpad_keeps (sub_trans hW rfl) ?_ | ((with_reducible conv => arg 3; whnf); split)

end Sys2Proof.Machine
end

