-- ==== Sys2Proof/Laws/KeepsQueues.lean ====
section
/-! SUPPORT. What Keeps.lean says of every operation, for the ridge, its queues and the core queues. -/

set_option maxRecDepth 4000

namespace Sys2Proof.Machine

theorem State.fenceMax_keeps {W} (hW : 32 &&& W = 32) {s0 s : State} {b f v} (hk : Keeps W s0 s) : Keeps W s0 (State.fenceMax s b f v) := by
  unfold State.fenceMax
  repeat' first | with_reducible assumption | with_reducible refine State.setBay_keeps (sub_trans hW rfl) ?_ | ((with_reducible conv => arg 3; whnf); split)

theorem State.signalFence_keeps {W} (hW : 33562656 &&& W = 33562656) {s0 s : State} {b f v q slot node} (hk : Keeps W s0 s) : Keeps W s0 (State.signalFence s b f v q slot node) := by
  unfold State.signalFence
  repeat' first | with_reducible assumption | with_reducible (first | refine State.fenceMax_keeps (sub_trans hW rfl) ?_ | refine State.traceRidge_keeps (sub_trans hW rfl) ?_) | ((with_reducible conv => arg 3; whnf); split)

theorem State.updItem_keeps {W} (hW : 16 &&& W = 16) {s0 s : State} {fn q slot f} (hk : Keeps W s0 s) : Keeps W s0 (State.updItem s fn q slot f) := by
  unfold State.updItem
  repeat' first | with_reducible assumption | with_reducible refine State.setQueue_keeps (sub_trans hW rfl) ?_ | ((with_reducible conv => arg 3; whnf); split)

theorem State.endItem_keeps {W} (hW : 33563696 &&& W = 33563696) {s0 s : State} {fn q slot st result node split} (hk : Keeps W s0 s) : Keeps W s0 (State.endItem s fn q slot st result node split) := by
  unfold State.endItem
  repeat' first | with_reducible assumption | with_reducible (first | refine State.dropOwner_keeps (sub_trans hW rfl) ?_ | refine State.updItem_keeps (sub_trans hW rfl) ?_ | refine State.signalFence_keeps (sub_trans hW rfl) ?_ | refine State.setQueue_keeps (sub_trans hW rfl) ?_) | ((with_reducible conv => arg 3; whnf); split)

theorem State.launchTouch_keeps {W} (hW : 119268304 &&& W = 119268304) {s0 s : State} {a it} (hk : Keeps W s0 s) : Keeps W s0 (State.launchTouch s a it) := by
  unfold State.launchTouch
  repeat' first | with_reducible assumption | with_reducible (first | refine State.touchAt_keeps (sub_trans hW rfl) ?_ | refine State.itemView_keeps (sub_trans hW rfl) ?_) | ((with_reducible conv => arg 3; whnf); split)

theorem State.endLaunch_keeps {W} (hW : 4194320 &&& W = 4194320) {s0 s : State} {fn q slot how} (hk : Keeps W s0 s) : Keeps W s0 (State.endLaunch s fn q slot how) := by
  unfold State.endLaunch
  repeat' first | with_reducible assumption | with_reducible refine State.updItem_keeps (sub_trans hW rfl) ?_ | ((with_reducible conv => arg 3; whnf); first | split | refine Keeps.on_notices (sub_trans hW rfl) ?_)

theorem State.updNode_keeps {W} (hW : 16 &&& W = 16) {s0 s : State} {fn q slot node f} (hk : Keeps W s0 s) : Keeps W s0 (State.updNode s fn q slot node f) := by
  unfold State.updNode
  repeat' first | with_reducible assumption | with_reducible refine State.updItem_keeps (sub_trans hW rfl) ?_ | ((with_reducible conv => arg 3; whnf); split)

theorem State.failNode_keeps {W} (hW : 4194320 &&& W = 4194320) {s0 s : State} {fn q slot node member st} (hk : Keeps W s0 s) : Keeps W s0 (State.failNode s fn q slot node member st) := by
  unfold State.failNode
  repeat' first | with_reducible assumption | with_reducible (first | refine State.updNode_keeps (sub_trans hW rfl) ?_ | refine State.endLaunch_keeps (sub_trans hW rfl) ?_) | ((with_reducible conv => arg 3; whnf); split)

theorem State.nodeDone_keeps {W} (hW : 33562640 &&& W = 33562640) {s0 s : State} {fn q slot node} (hk : Keeps W s0 s) : Keeps W s0 (State.nodeDone s fn q slot node) := by
  unfold State.nodeDone
  repeat' first | with_reducible assumption | with_reducible (first | refine State.updNode_keeps (sub_trans hW rfl) ?_ | refine State.traceRidge_keeps (sub_trans hW rfl) ?_) | ((with_reducible conv => arg 3; whnf); split)

theorem State.nodeEnds_keeps {W} (hW : 33562624 &&& W = 33562624) {s0 s : State} {fn q slot node st} (hk : Keeps W s0 s) : Keeps W s0 (State.nodeEnds s fn q slot node st) := by
  unfold State.nodeEnds
  repeat' first | with_reducible assumption | with_reducible refine State.traceRidge_keeps (sub_trans hW rfl) ?_ | ((with_reducible conv => arg 3; whnf); split)

theorem State.takeReport_keeps {W} (hW : 37756944 &&& W = 37756944) {s0 s : State} {b lid node member st mask exit} (hk : Keeps W s0 s) : Keeps W s0 (State.takeReport s b lid node member st mask exit) := by
  unfold State.takeReport
  repeat' first | with_reducible assumption | with_reducible (first | refine State.updNode_keeps (sub_trans hW rfl) ?_ | refine State.failNode_keeps (sub_trans hW rfl) ?_ | refine State.nodeEnds_keeps (sub_trans hW rfl) ?_ | refine State.nodeDone_keeps (sub_trans hW rfl) ?_) | ((with_reducible conv => arg 3; whnf); split)

theorem State.takeSync_keeps {W} (hW : 16 &&& W = 16) {s0 s : State} {b lid node} (hk : Keeps W s0 s) : Keeps W s0 (State.takeSync s b lid node) := by
  unfold State.takeSync
  repeat' first | with_reducible assumption | with_reducible refine State.updNode_keeps (sub_trans hW rfl) ?_ | ((with_reducible conv => arg 3; whnf); split)

theorem State.cycleEnd_keeps {W} (hW : 37758000 &&& W = 37758000) {s0 s : State} {b w} (hk : Keeps W s0 s) : Keeps W s0 (State.cycleEnd s b w) := by
  unfold State.cycleEnd
  repeat' first | with_reducible assumption | with_reducible (first | refine State.endItem_keeps (sub_trans hW rfl) ?_ | refine State.failNode_keeps (sub_trans hW rfl) ?_ | refine State.nodeEnds_keeps (sub_trans hW rfl) ?_) | ((with_reducible conv => arg 3; whnf); split)

theorem State.evaluate_keeps {W} (hW : 37758000 &&& W = 37758000) {s0 s : State} {b} (hk : Keeps W s0 s) : Keeps W s0 (State.evaluate s b) := by
  unfold State.evaluate
  repeat' first | with_reducible assumption | intro _ | with_reducible (first | refine State.setQueue_keeps (sub_trans hW rfl) ?_ | refine State.traceRidge_keeps (sub_trans hW rfl) ?_ | refine State.cycleEnd_keeps (sub_trans hW rfl) ?_ | refine Keeps.foldl ?_ ?_) | ((with_reducible conv => arg 3; whnf); first | split)

theorem State.gainWaiter_keeps {W} (hW : 37758000 &&& W = 37758000) {s0 s : State} {b f v} (hk : Keeps W s0 s) : Keeps W s0 (State.gainWaiter s b f v) := by
  unfold State.gainWaiter
  repeat' first | with_reducible assumption | with_reducible refine State.evaluate_keeps (sub_trans hW rfl) ?_ | ((with_reducible conv => arg 3; whnf); split)

theorem State.writeRecord_keeps {W} (hW : 119530388 &&& W = 119530388) {s0 s : State} {fn q it} (hk : Keeps W s0 s) : Keeps W s0 (State.writeRecord s fn q it) := by
  unfold State.writeRecord
  repeat' first | with_reducible assumption | with_reducible (first | refine State.drawn_keeps (sub_trans hW rfl) ?_ | refine State.setQueue_keeps (sub_trans hW rfl) ?_ | refine State.traceRidge_keeps (sub_trans hW rfl) ?_ | refine State.writeAt_keeps (sub_trans hW rfl) ?_ | refine State.msix_keeps (sub_trans hW rfl) ?_ | refine State.raiseIn_keeps (sub_trans hW rfl) ?_) | ((with_reducible conv => arg 3; whnf); first | split | refine Keeps.on_sec (sub_trans hW rfl) ?_ rfl rfl)

theorem State.served_keeps {W} (hW : 2 &&& W = 2) {s0 s : State} {fn q} (hk : Keeps W s0 s) : Keeps W s0 (State.served s fn q) := Keeps.on_dev (sub_trans hW rfl) hk

theorem State.itemAction_keeps {W} (hW : 33563696 &&& W = 33563696) {s0 s : State} {fn q v it} (h : Keeps W s0 s) : KeepsO W s0 (s.itemAction fn q v it) := by
  unfold State.itemAction
  repeat' first | with_reducible assumption | with_reducible refine KeepsO.some ?_ | exact KeepsO.none | with_reducible (first | refine State.endItem_keeps (sub_trans hW rfl) ?_ | refine State.signalFence_keeps (sub_trans hW rfl) ?_ | refine State.setQueue_keeps (sub_trans hW rfl) ?_ | refine State.nodeDone_keeps (sub_trans hW rfl) ?_) | exact KeepsO.map (fun _ => State.endItem_keeps (sub_trans hW rfl) h) | ((with_reducible conv => arg 3; whnf); split)

theorem State.queueAction_keeps {W} (hW : 119531444 &&& W = 119531444) {s0 s : State} {fn q} (h : Keeps W s0 s) : KeepsO W s0 (s.queueAction fn q) := by
  unfold State.queueAction
  dsimp only
  split
  · next t ht => exact KeepsO.some (KeepsO.get ht (KeepsO.findSome (fun _ => State.itemAction_keeps (sub_trans hW rfl) h)))
  · split
    · exact KeepsO.some (State.raiseIn_keeps (sub_trans hW rfl) (State.setQueue_keeps (sub_trans hW rfl) h))
    · split
      · split
        · exact KeepsO.none
        · exact KeepsO.some (State.writeRecord_keeps (sub_trans hW rfl) h)
      · exact KeepsO.none

theorem State.settleStep_keeps {W} (hW : 119531444 &&& W = 119531444) {s0 s : State} (h : Keeps W s0 s) : KeepsO W s0 s.settleStep := by
  refine KeepsO.findSome (fun fn => ?_)
  split
  · exact KeepsO.findSome (fun p => State.queueAction_keeps (sub_trans hW rfl) h)
  · exact KeepsO.none

theorem State.settleFor_keeps {W} (hW : 119531444 &&& W = 119531444) {s0 s : State} {n} (h : Keeps W s0 s) : Keeps W s0 (State.settleFor n s) := by
  induction n generalizing s with
  | zero => exact h
  | succ n ih =>
    unfold State.settleFor
    split
    · exact h
    · exact ih (KeepsO.get ‹_› (State.settleStep_keeps (sub_trans hW rfl) h))

theorem State.settle_keeps {W} (hW : 119531444 &&& W = 119531444) {s0 s : State} (hk : Keeps W s0 s) : Keeps W s0 (State.settle s) := by
  unfold State.settle
  repeat' first | with_reducible assumption | with_reducible refine State.settleFor_keeps (sub_trans hW rfl) ?_ | ((with_reducible conv => arg 3; whnf); split)

theorem State.doorbellBad_keeps {W} (hW : 100917776 &&& W = 100917776) {s0 s : State} {fn q value} (hk : Keeps W s0 s) : Keeps W s0 (State.doorbellBad s fn q value) := by
  unfold State.doorbellBad
  repeat' first | with_reducible assumption | with_reducible refine State.raiseIn_keeps (sub_trans hW rfl) ?_ | ((with_reducible conv => arg 3; whnf); split)

theorem State.doorbell_keeps {W} (hW : 100917776 &&& W = 100917776) {s0 s : State} {fn q off width value} (hk : Keeps W s0 s) : Keeps W s0 (State.doorbell s fn q off width value) := by
  unfold State.doorbell
  repeat' first | with_reducible assumption | with_reducible (first | refine State.doorbellBad_keeps (sub_trans hW rfl) ?_ | refine State.setQueue_keeps (sub_trans hW rfl) ?_) | ((with_reducible conv => arg 3; whnf); split)

theorem State.countAer_keeps {W} (hW : 16 &&& W = 16) {s0 s : State} {fn} (hk : Keeps W s0 s) : Keeps W s0 (State.countAer s fn) := by
  unfold State.countAer
  repeat' first | with_reducible assumption | with_reducible refine State.setFn_keeps (sub_trans hW rfl) ?_ | ((with_reducible conv => arg 3; whnf); split)

theorem State.fenceWrite_keeps {W} (hW : 100917808 &&& W = 100917808) {s0 s : State} {b off width value} (hk : Keeps W s0 s) : Keeps W s0 (State.fenceWrite s b off width value) := by
  unfold State.fenceWrite
  repeat' first | with_reducible assumption | with_reducible (first | refine State.countAer_keeps (sub_trans hW rfl) ?_ | refine State.fenceMax_keeps (sub_trans hW rfl) ?_ | refine State.raiseIn_keeps (sub_trans hW rfl) ?_) | ((with_reducible conv => arg 3; whnf); split)

theorem State.fenceRemote_keeps {W} (hW : 100918832 &&& W = 100918832) {s0 s : State} {b kind f v p src tag} (hk : Keeps W s0 s) : Keeps W s0 (State.fenceRemote s b kind f v p src tag) := by
  unfold State.fenceRemote
  repeat' first | with_reducible assumption | with_reducible (first | refine State.farAnswer_keeps (sub_trans hW rfl) ?_ | refine State.fenceMax_keeps (sub_trans hW rfl) ?_ | refine State.setBay_keeps (sub_trans hW rfl) ?_ | refine State.raiseIn_keeps (sub_trans hW rfl) ?_) | ((with_reducible conv => arg 3; whnf); split)

theorem State.applyEvent_keeps {W} (hW : 105113136 &&& W = 105113136) {s0 s : State} {fn e} (hk : Keeps W s0 s) : Keeps W s0 (State.applyEvent s fn e) := by
  unfold State.applyEvent
  repeat' first | with_reducible assumption | with_reducible (first | refine State.doorbell_keeps (sub_trans hW rfl) ?_ | refine State.fenceWrite_keeps (sub_trans hW rfl) ?_ | refine State.takeReport_keeps (sub_trans hW rfl) ?_ | refine State.takeSync_keeps (sub_trans hW rfl) ?_ | refine State.fenceRemote_keeps (sub_trans hW rfl) ?_ | refine State.windowIdle_keeps (sub_trans hW rfl) ?_ | refine State.raiseWith_keeps (sub_trans hW rfl) ?_ | refine State.msix_keeps (sub_trans hW rfl) ?_) | ((with_reducible conv => arg 3; whnf); split)

theorem State.ridgeGets_keeps {W} (hW : 123725748 &&& W = 123725748) {s0 s : State} {fn e} (hk : Keeps W s0 s) : Keeps W s0 (State.ridgeGets s fn e) := by
  unfold State.ridgeGets
  repeat' first | with_reducible assumption | with_reducible (first | refine State.applyEvent_keeps (sub_trans hW rfl) ?_ | refine State.settle_keeps (sub_trans hW rfl) ?_ | refine State.hold_keeps (sub_trans hW rfl) ?_) | ((with_reducible conv => arg 3; whnf); split)

theorem State.farBatten_keeps {W} (hW : 1040 &&& W = 1040) {s0 s : State} {fn q it} (hk : Keeps W s0 s) : Keeps W s0 (State.farBatten s fn q it) := by
  unfold State.farBatten
  repeat' first | with_reducible assumption | with_reducible (first | refine State.farReadOut_keeps (sub_trans hW rfl) ?_ | refine State.updItem_keeps (sub_trans hW rfl) ?_) | ((with_reducible conv => arg 3; whnf); split)

theorem State.launchStart_keeps {W} (hW : 119531446 &&& W = 119531446) {s0 s : State} {fn q} (hk : Keeps W s0 s) : Keeps W s0 (State.launchStart s fn q) := by
  unfold State.launchStart
  repeat' first | with_reducible assumption | with_reducible (first | refine State.served_keeps (sub_trans hW rfl) ?_ | refine State.endItem_keeps (sub_trans hW rfl) ?_ | refine State.settle_keeps (sub_trans hW rfl) ?_ | refine State.updItem_keeps (sub_trans hW rfl) ?_ | refine State.farBatten_keeps (sub_trans hW rfl) ?_) | ((with_reducible conv => arg 3; whnf); first | split | refine Keeps.on_dev (sub_trans hW rfl) ?_)

theorem execLaunch_keeps {W} (hW : 119531446 &&& W = 119531446) {s0 s : State} {fn q} (hk : Keeps W s0 s) : KeepsX W s0 (execLaunch fn q s) := KeepsX.next (State.launchStart_keeps (sub_trans hW rfl) hk)

theorem State.launchChecks_keeps {W} (hW : 119531508 &&& W = 119531508) {s0 s : State} {fn q slot} (hk : Keeps W s0 s) : Keeps W s0 (State.launchChecks s fn q slot) := by
  unfold State.launchChecks
  repeat' first | with_reducible assumption | with_reducible (first | refine State.launchTouch_keeps (sub_trans hW rfl) ?_ | refine State.itemView_keeps (sub_trans hW rfl) ?_ | refine State.endItem_keeps (sub_trans hW rfl) ?_ | refine State.settle_keeps (sub_trans hW rfl) ?_ | refine State.updItem_keeps (sub_trans hW rfl) ?_ | refine State.traceRidge_keeps (sub_trans hW rfl) ?_) | ((with_reducible conv => arg 3; whnf); split)

theorem execLaunchReadsComplete_keeps {W} (hW : 119531508 &&& W = 119531508) {s0 s : State} {fn q slot} (hk : Keeps W s0 s) : KeepsX W s0 (execLaunchReadsComplete fn q slot s) := KeepsX.next (State.launchChecks_keeps (sub_trans hW rfl) hk)

theorem State.nodeTouch_keeps {W} (hW : 119268304 &&& W = 119268304) {s0 s : State} {a it l} (hk : Keeps W s0 s) : Keeps W s0 (State.nodeTouch s a it l) := by
  unfold State.nodeTouch
  repeat' first | with_reducible assumption | with_reducible (first | refine State.touchAt_keeps (sub_trans hW rfl) ?_ | refine State.itemView_keeps (sub_trans hW rfl) ?_) | ((with_reducible conv => arg 3; whnf); split)

theorem State.nodeRead_keeps {W} (hW : 123725812 &&& W = 123725812) {s0 s : State} {fn q slot} (hk : Keeps W s0 s) : Keeps W s0 (State.nodeRead s fn q slot) := by
  unfold State.nodeRead
  repeat' first | with_reducible assumption | with_reducible (first | refine State.nodeTouch_keeps (sub_trans hW rfl) ?_ | refine State.itemView_keeps (sub_trans hW rfl) ?_ | refine State.updItem_keeps (sub_trans hW rfl) ?_ | refine State.endLaunch_keeps (sub_trans hW rfl) ?_ | refine State.settle_keeps (sub_trans hW rfl) ?_) | ((with_reducible conv => arg 3; whnf); split)

theorem execCourseNodeRead_keeps {W} (hW : 123725812 &&& W = 123725812) {s0 s : State} {fn q slot} (hk : Keeps W s0 s) : KeepsX W s0 (execCourseNodeRead fn q slot s) := KeepsX.next (State.nodeRead_keeps (sub_trans hW rfl) hk)

theorem State.treeCore_keeps {W} (hW : 64 &&& W = 64) {s0 s : State} {c e} (hk : Keeps W s0 s) : Keeps W s0 (State.treeCore s c e) := by
  unfold State.treeCore
  repeat' first | with_reducible assumption | with_reducible refine State.setCore_keeps (sub_trans hW rfl) ?_ | ((with_reducible conv => arg 3; whnf); split)

theorem State.treeEave_keeps {W} (hW : 512 &&& W = 512) {s0 s : State} {k w} (hk : Keeps W s0 s) : Keeps W s0 (State.treeEave s k w) := by
  unfold State.treeEave
  repeat' first | with_reducible assumption | with_reducible refine State.setStack_keeps (sub_trans hW rfl) ?_ | ((with_reducible conv => arg 3; whnf); split)

theorem State.collTake_keeps {W} (hW : 32 &&& W = 32) {s0 s : State} {b q slot node lid r} (hk : Keeps W s0 s) : Keeps W s0 (State.collTake s b q slot node lid r) := by
  unfold State.collTake
  repeat' first | with_reducible assumption | with_reducible refine State.setBay_keeps (sub_trans hW rfl) ?_ | ((with_reducible conv => arg 3; whnf); split)

theorem State.sendNode_keeps {W} (hW : 608 &&& W = 608) {s0 s : State} {b q slot node lid r} (hk : Keeps W s0 s) : Keeps W s0 (State.sendNode s b q slot node lid r) := by
  unfold State.sendNode
  repeat' first | with_reducible assumption | intro _ | with_reducible (first | refine State.collTake_keeps (sub_trans hW rfl) ?_ | refine State.treeCore_keeps (sub_trans hW rfl) ?_ | refine State.treeEave_keeps (sub_trans hW rfl) ?_ | refine Keeps.foldl ?_ ?_) | ((with_reducible conv => arg 3; whnf); first | split)

theorem State.fenceNode_keeps {W} (hW : 37758000 &&& W = 37758000) {s0 s : State} {b q slot node r} (hk : Keeps W s0 s) : Keeps W s0 (State.fenceNode s b q slot node r) := by
  unfold State.fenceNode
  repeat' first | with_reducible assumption | with_reducible (first | refine State.updNode_keeps (sub_trans hW rfl) ?_ | refine State.gainWaiter_keeps (sub_trans hW rfl) ?_ | refine State.signalFence_keeps (sub_trans hW rfl) ?_ | refine State.nodeDone_keeps (sub_trans hW rfl) ?_) | ((with_reducible conv => arg 3; whnf); split)

theorem State.nodeSend_keeps {W} (hW : 123725812 &&& W = 123725812) {s0 s : State} {fn q slot node} (hk : Keeps W s0 s) : Keeps W s0 (State.nodeSend s fn q slot node) := by
  unfold State.nodeSend
  repeat' first | with_reducible assumption | with_reducible (first | refine State.updItem_keeps (sub_trans hW rfl) ?_ | refine State.traceRidge_keeps (sub_trans hW rfl) ?_ | refine State.fenceNode_keeps (sub_trans hW rfl) ?_ | refine State.settle_keeps (sub_trans hW rfl) ?_ | refine State.nodeDone_keeps (sub_trans hW rfl) ?_ | refine State.sendNode_keeps (sub_trans hW rfl) ?_) | ((with_reducible conv => arg 3; whnf); split)

theorem execNodeDispatch_keeps {W} (hW : 123725812 &&& W = 123725812) {s0 s : State} {fn q slot node} (hk : Keeps W s0 s) : KeepsX W s0 (execNodeDispatch fn q slot node s) := KeepsX.next (State.nodeSend_keeps (sub_trans hW rfl) hk)

theorem State.barWrite_keeps {W} (hW : 123725748 &&& W = 123725748) {s0 s : State} {fn src ep e} (hk : Keeps W s0 s) : Keeps W s0 (State.barWrite s fn src ep e) := by
  unfold State.barWrite
  repeat' first | with_reducible assumption | with_reducible (first | refine State.countAer_keeps (sub_trans hW rfl) ?_ | refine State.pend_keeps (sub_trans hW rfl) ?_ | refine State.ridgeGets_keeps (sub_trans hW rfl) ?_) | ((with_reducible conv => arg 3; whnf); split)

theorem execSqTailDoorbell_keeps {W} (hW : 123725748 &&& W = 123725748) {s0 s : State} {fn q width data} (hk : Keeps W s0 s) : KeepsX W s0 (execSqTailDoorbell fn q width data s) := by
  unfold execSqTailDoorbell
  repeat' first | with_reducible assumption | with_reducible (first | refine KeepsX.next ?_ | refine State.barWrite_keeps (sub_trans hW rfl) ?_ | refine State.doorbell_keeps (sub_trans hW rfl) ?_) | ((with_reducible conv => arg 3; whnf); split)

theorem execCqHeadDoorbell_keeps {W} (hW : 123725748 &&& W = 123725748) {s0 s : State} {fn q width data} (hk : Keeps W s0 s) : KeepsX W s0 (execCqHeadDoorbell fn q width data s) := by
  unfold execCqHeadDoorbell
  repeat' first | with_reducible assumption | with_reducible (first | refine KeepsX.next ?_ | refine State.barWrite_keeps (sub_trans hW rfl) ?_ | refine State.doorbell_keeps (sub_trans hW rfl) ?_) | ((with_reducible conv => arg 3; whnf); split)

theorem execFenceWindowWrite_keeps {W} (hW : 123725748 &&& W = 123725748) {s0 s : State} {bay off width data} (hk : Keeps W s0 s) : KeepsX W s0 (execFenceWindowWrite bay off width data s) := by
  unfold execFenceWindowWrite
  repeat' first | with_reducible assumption | with_reducible (first | refine KeepsX.next ?_ | refine State.barWrite_keeps (sub_trans hW rfl) ?_ | refine State.fenceWrite_keeps (sub_trans hW rfl) ?_) | ((with_reducible conv => arg 3; whnf); split)

theorem State.fetchEntry_keeps {W} (hW : 119531510 &&& W = 119531510) {s0 s : State} {fn q} (hk : Keeps W s0 s) : Keeps W s0 (State.fetchEntry s fn q) := by
  unfold State.fetchEntry
  repeat' first | with_reducible assumption | with_reducible (first | refine State.served_keeps (sub_trans hW rfl) ?_ | refine State.touchAt_keeps (sub_trans hW rfl) ?_ | refine State.setQueue_keeps (sub_trans hW rfl) ?_ | refine State.raiseIn_keeps (sub_trans hW rfl) ?_ | refine State.settle_keeps (sub_trans hW rfl) ?_ | refine State.traceRidge_keeps (sub_trans hW rfl) ?_) | ((with_reducible conv => arg 3; whnf); first | split | refine Keeps.on_devSec (sub_trans hW rfl) ?_ rfl rfl)

theorem execEntryFetch_keeps {W} (hW : 119531510 &&& W = 119531510) {s0 s : State} {fn q} (hk : Keeps W s0 s) : KeepsX W s0 (execEntryFetch fn q s) := KeepsX.next (State.fetchEntry_keeps (sub_trans hW rfl) hk)

theorem State.copyStart_keeps {W} (hW : 119531446 &&& W = 119531446) {s0 s : State} {fn q} (hk : Keeps W s0 s) : Keeps W s0 (State.copyStart s fn q) := by
  unfold State.copyStart
  repeat' first | with_reducible assumption | with_reducible (first | refine State.calm_keeps (sub_trans hW rfl) ?_ | refine State.served_keeps (sub_trans hW rfl) ?_ | refine State.endItem_keeps (sub_trans hW rfl) ?_ | refine State.settle_keeps (sub_trans hW rfl) ?_ | refine State.updItem_keeps (sub_trans hW rfl) ?_) | ((with_reducible conv => arg 3; whnf); split)

theorem execCopyStart_keeps {W} (hW : 119531446 &&& W = 119531446) {s0 s : State} {fn q} (hk : Keeps W s0 s) : KeepsX W s0 (execCopyStart fn q s) := KeepsX.next (State.copyStart_keeps (sub_trans hW rfl) hk)

theorem State.copyPiece_keeps {W} (hW : 119531472 &&& W = 119531472) {s0 s00 s : State} {a own e c} (hk : Keeps W s0 s00) (hk1 : Keeps W s0 s) : Keeps W s0 (State.copyPiece s00 s a own e c).1 := by
  unfold State.copyPiece
  repeat' first | with_reducible assumption | intro _ | with_reducible (first | refine State.touchAt_keeps (sub_trans hW rfl) ?_ | refine State.farReadOut_keeps (sub_trans hW rfl) ?_ | refine State.putAt_keeps (sub_trans hW rfl) ?_) | ((with_reducible conv => arg 3; whnf); first | with_reducible assumption | split | refine Keeps.pair ‹_› ?_ | refine KeepsO.get ‹_› ?_ | refine KeepsE.get ‹_› ?_ | refine KeepsX.get ‹_› ?_) | dsimp only

theorem State.copyPieces_keeps {W} (hW : 119531472 &&& W = 119531472) {s0 s00 a__internal_hyg05 : State} {a own e a__internal_hyg0 a__internal_hyg06} (hk : Keeps W s0 s00) (hk1 : Keeps W s0 a__internal_hyg05) : Keeps W s0 (State.copyPieces s00 a own e a__internal_hyg0 a__internal_hyg05 a__internal_hyg06).1 := by
  fun_induction State.copyPieces s00 a own e a__internal_hyg0 a__internal_hyg05 a__internal_hyg06 <;> (repeat' first | with_reducible assumption | intro _ | with_reducible refine State.copyPiece_keeps (sub_trans hW rfl) ?_ ?_ | with_reducible apply_assumption | ((with_reducible conv => arg 3; whnf); first | with_reducible assumption | split | refine Keeps.pair ‹_› ?_ | refine KeepsO.get ‹_› ?_ | refine KeepsE.get ‹_› ?_ | refine KeepsX.get ‹_› ?_) | dsimp only)

theorem State.copyLand_keeps {W} (hW : 119530384 &&& W = 119530384) {s0 s00 s : State} {a e first n} (hk : Keeps W s0 s00) (hk1 : Keeps W s0 s) : Keeps W s0 (State.copyLand s00 s a e first n) := by
  unfold State.copyLand
  repeat' first | with_reducible assumption | intro _ | with_reducible (first | refine State.writeAt_keeps (sub_trans hW rfl) ?_ | refine Keeps.foldl ?_ ?_ | refine Keeps.foldl1 ?_ ?_) | ((with_reducible conv => arg 3; whnf); first | with_reducible assumption | split | refine Keeps.pair ‹_› ?_ | refine KeepsO.get ‹_› ?_ | refine KeepsE.get ‹_› ?_ | refine KeepsX.get ‹_› ?_) | dsimp only

theorem State.copyTo_keeps {W} (hW : 119531472 &&& W = 119531472) {s0 s : State} {fn q it limit} (hk : Keeps W s0 s) : Keeps W s0 (State.copyTo s fn q it limit).1 := by
  unfold State.copyTo
  repeat' first | with_reducible assumption | intro _ | with_reducible (first | refine State.copyPieces_keeps (sub_trans hW rfl) ?_ ?_ | refine State.copyLand_keeps (sub_trans hW rfl) ?_ ?_) | ((with_reducible conv => arg 3; whnf); first | with_reducible assumption | split | refine Keeps.pair ‹_› ?_ | refine KeepsO.get ‹_› ?_ | refine KeepsE.get ‹_› ?_ | refine KeepsX.get ‹_› ?_) | dsimp only | refine Keeps.on_draws (sub_trans hW rfl) ?_

theorem State.copyMove_keeps {W} (hW : 119531472 &&& W = 119531472) {s0 s : State} {fn q it} (hk : Keeps W s0 s) : Keeps W s0 (State.copyMove s fn q it).1 := by
  unfold State.copyMove
  repeat' first | with_reducible assumption | with_reducible refine State.copyTo_keeps (sub_trans hW rfl) ?_ | ((with_reducible conv => arg 3; whnf); first | split)

theorem State.copyPart_keeps {W} (hW : 387966928 &&& W = 387966928) {s0 s : State} {fn q it} (hk : Keeps W s0 s) : Keeps W s0 (State.copyPart s fn q it) := by
  unfold State.copyPart
  repeat' first | with_reducible assumption | intro _ | with_reducible (first | refine State.itemRace_keeps (sub_trans hW rfl) ?_ ?_ | refine State.copyTo_keeps (sub_trans hW rfl) ?_ | refine State.raced_keeps (sub_trans hW rfl) ?_ ?_ | refine State.updItem_keeps (sub_trans hW rfl) ?_) | ((with_reducible conv => arg 3; whnf); first | with_reducible assumption | split | refine Keeps.pair ‹_› ?_ | refine KeepsO.get ‹_› ?_ | refine KeepsE.get ‹_› ?_ | refine KeepsX.get ‹_› ?_) | dsimp only

theorem State.copyEnd_keeps {W} (hW : 119531444 &&& W = 119531444) {s0 s : State} {fn q slot} (hk : Keeps W s0 s) : Keeps W s0 (State.copyEnd s fn q slot) := by
  unfold State.copyEnd
  repeat' first | with_reducible assumption | with_reducible (first | refine State.updItem_keeps (sub_trans hW rfl) ?_ | refine State.endItem_keeps (sub_trans hW rfl) ?_ | refine State.settle_keeps (sub_trans hW rfl) ?_) | ((with_reducible conv => arg 3; whnf); first | split | refine Keeps.on_draws (sub_trans hW rfl) ?_)

theorem State.copyFinish_keeps {W} (hW : 387966964 &&& W = 387966964) {s0 s : State} {fn q slot} (hk : Keeps W s0 s) : Keeps W s0 (State.copyFinish s fn q slot) := by
  unfold State.copyFinish
  repeat' first | with_reducible assumption | intro _ | with_reducible (first | refine State.copyEnd_keeps (sub_trans hW rfl) ?_ | refine State.itemRace_keeps (sub_trans hW rfl) ?_ ?_ | refine State.copyMove_keeps (sub_trans hW rfl) ?_ | refine State.raced_keeps (sub_trans hW rfl) ?_ ?_ | refine State.updItem_keeps (sub_trans hW rfl) ?_) | ((with_reducible conv => arg 3; whnf); first | with_reducible assumption | split | refine Keeps.pair ‹_› ?_ | refine KeepsO.get ‹_› ?_ | refine KeepsE.get ‹_› ?_ | refine KeepsX.get ‹_› ?_) | dsimp only

theorem execCopyComplete_keeps {W} (hW : 387966964 &&& W = 387966964) {s0 s : State} {fn q slot} (hk : Keeps W s0 s) : KeepsX W s0 (execCopyComplete fn q slot s) := KeepsX.next (State.copyFinish_keeps (sub_trans hW rfl) hk)

theorem State.startWait_keeps {W} (hW : 16 &&& W = 16) {s0 s : State} {fn q slot} (hk : Keeps W s0 s) : Keeps W s0 (State.startWait s fn q slot) := by
  unfold State.startWait
  repeat' first | with_reducible assumption | with_reducible refine State.updItem_keeps (sub_trans hW rfl) ?_ | ((with_reducible conv => arg 3; whnf); split)

theorem State.fenceWait_keeps {W} (hW : 123725750 &&& W = 123725750) {s0 s : State} {fn q} (hk : Keeps W s0 s) : Keeps W s0 (State.fenceWait s fn q) := by
  unfold State.fenceWait
  repeat' first | with_reducible assumption | with_reducible (first | refine State.served_keeps (sub_trans hW rfl) ?_ | refine State.startWait_keeps (sub_trans hW rfl) ?_ | refine State.gainWaiter_keeps (sub_trans hW rfl) ?_ | refine State.settle_keeps (sub_trans hW rfl) ?_) | ((with_reducible conv => arg 3; whnf); split)

theorem execFenceWait_keeps {W} (hW : 123725750 &&& W = 123725750) {s0 s : State} {fn q} (hk : Keeps W s0 s) : KeepsX W s0 (execFenceWait fn q s) := KeepsX.next (State.fenceWait_keeps (sub_trans hW rfl) hk)

theorem State.fenceSignal_keeps {W} (hW : 119531446 &&& W = 119531446) {s0 s : State} {fn q} (hk : Keeps W s0 s) : Keeps W s0 (State.fenceSignal s fn q) := by
  unfold State.fenceSignal
  repeat' first | with_reducible assumption | with_reducible (first | refine State.served_keeps (sub_trans hW rfl) ?_ | refine State.startWait_keeps (sub_trans hW rfl) ?_ | refine State.settle_keeps (sub_trans hW rfl) ?_) | ((with_reducible conv => arg 3; whnf); split)

theorem execFenceSignal_keeps {W} (hW : 119531446 &&& W = 119531446) {s0 s : State} {fn q} (hk : Keeps W s0 s) : KeepsX W s0 (execFenceSignal fn q s) := KeepsX.next (State.fenceSignal_keeps (sub_trans hW rfl) hk)

theorem State.barrierStart_keeps {W} (hW : 119531446 &&& W = 119531446) {s0 s : State} {fn q} (hk : Keeps W s0 s) : Keeps W s0 (State.barrierStart s fn q) := by
  unfold State.barrierStart
  repeat' first | with_reducible assumption | with_reducible (first | refine State.served_keeps (sub_trans hW rfl) ?_ | refine State.startWait_keeps (sub_trans hW rfl) ?_ | refine State.settle_keeps (sub_trans hW rfl) ?_) | ((with_reducible conv => arg 3; whnf); split)

theorem execBarrierStart_keeps {W} (hW : 119531446 &&& W = 119531446) {s0 s : State} {fn q} (hk : Keeps W s0 s) : KeepsX W s0 (execBarrierStart fn q s) := KeepsX.next (State.barrierStart_keeps (sub_trans hW rfl) hk)

theorem State.cancelItem_keeps {W} (hW : 37758000 &&& W = 37758000) {s0 s : State} {fn q slot} (hk : Keeps W s0 s) : Keeps W s0 (State.cancelItem s fn q slot).1 := by
  unfold State.cancelItem
  repeat' first | with_reducible assumption | with_reducible (first | refine State.endItem_keeps (sub_trans hW rfl) ?_ | refine State.endLaunch_keeps (sub_trans hW rfl) ?_ | refine State.updItem_keeps (sub_trans hW rfl) ?_) | ((with_reducible conv => arg 3; whnf); split)

theorem State.cancelEach_keeps {W} (hW : 37758000 &&& W = 37758000) {s0 a__internal_hyg03 : State} {fn q a__internal_hyg0} (hk : Keeps W s0 a__internal_hyg03) : Keeps W s0 (State.cancelEach fn q a__internal_hyg0 a__internal_hyg03).1 := by
  fun_induction State.cancelEach fn q a__internal_hyg0 a__internal_hyg03 <;> (repeat' first | with_reducible assumption | intro _ | with_reducible refine State.cancelItem_keeps (sub_trans hW rfl) ?_ | with_reducible apply_assumption | ((with_reducible conv => arg 3; whnf); first | with_reducible assumption | split | refine Keeps.pair ‹_› ?_ | refine KeepsO.get ‹_› ?_ | refine KeepsE.get ‹_› ?_ | refine KeepsX.get ‹_› ?_) | dsimp only)

theorem State.cancelStart_keeps {W} (hW : 123725750 &&& W = 123725750) {s0 s : State} {fn q} (hk : Keeps W s0 s) : Keeps W s0 (State.cancelStart s fn q) := by
  unfold State.cancelStart
  repeat' first | with_reducible assumption | with_reducible (first | refine State.served_keeps (sub_trans hW rfl) ?_ | refine State.endItem_keeps (sub_trans hW rfl) ?_ | refine State.settle_keeps (sub_trans hW rfl) ?_ | refine State.startWait_keeps (sub_trans hW rfl) ?_ | refine State.cancelEach_keeps (sub_trans hW rfl) ?_ | refine State.updItem_keeps (sub_trans hW rfl) ?_ | refine State.evaluate_keeps (sub_trans hW rfl) ?_) | ((with_reducible conv => arg 3; whnf); split)

theorem execCancelStart_keeps {W} (hW : 123725750 &&& W = 123725750) {s0 s : State} {fn q} (hk : Keeps W s0 s) : KeepsX W s0 (execCancelStart fn q s) := KeepsX.next (State.cancelStart_keeps (sub_trans hW rfl) hk)

theorem State.waitExpires_keeps {W} (hW : 123725748 &&& W = 123725748) {s0 s : State} {fn q slot node} (hk : Keeps W s0 s) : Keeps W s0 (State.waitExpires s fn q slot node) := by
  unfold State.waitExpires
  repeat' first | with_reducible assumption | with_reducible (first | refine State.pend_keeps (sub_trans hW rfl) ?_ | refine State.endItem_keeps (sub_trans hW rfl) ?_ | refine State.settle_keeps (sub_trans hW rfl) ?_ | refine State.failNode_keeps (sub_trans hW rfl) ?_ | refine State.nodeEnds_keeps (sub_trans hW rfl) ?_) | ((with_reducible conv => arg 3; whnf); split)

theorem execWaitTimeout_keeps {W} (hW : 123725748 &&& W = 123725748) {s0 s : State} {fn q slot node} (hk : Keeps W s0 s) : KeepsX W s0 (execWaitTimeout fn q slot node s) := KeepsX.next (State.waitExpires_keeps (sub_trans hW rfl) hk)

theorem State.pathLoss_keeps {W} (hW : 119531444 &&& W = 119531444) {s0 s : State} {fn q} (hk : Keeps W s0 s) : Keeps W s0 (State.pathLoss s fn q) := by
  unfold State.pathLoss
  repeat' first | with_reducible assumption | with_reducible refine State.settle_keeps (sub_trans hW rfl) ?_ | ((with_reducible conv => arg 3; whnf); first | split | refine Keeps.on_host (sub_trans hW rfl) ?_)

theorem execCompletionPathLost_keeps {W} (hW : 119531444 &&& W = 119531444) {s0 s : State} {fn q} (hk : Keeps W s0 s) : KeepsX W s0 (execCompletionPathLost fn q s) := KeepsX.next (State.pathLoss_keeps (sub_trans hW rfl) hk)

theorem State.adminEnd_keeps {W} (hW : 119531444 &&& W = 119531444) {s0 s : State} {q slot st result} (hk : Keeps W s0 s) : Keeps W s0 (State.adminEnd s q slot st result) := by
  unfold State.adminEnd
  repeat' first | with_reducible assumption | with_reducible (first | refine State.endItem_keeps (sub_trans hW rfl) ?_ | refine State.settle_keeps (sub_trans hW rfl) ?_) | ((with_reducible conv => arg 3; whnf); split)

theorem State.adminRun_keeps {W} (hW : 119531446 &&& W = 119531446) {s0 s : State} {q op c} {f : State → Item → State} (h : Keeps W s0 s)
    (hf : ∀ t w, Keeps W s0 t → Keeps W s0 (f t w)) : Keeps W s0 (s.adminRun q op c f) := by
  unfold State.adminRun
  repeat' first | with_reducible assumption | with_reducible refine State.adminEnd_keeps (sub_trans hW rfl) ?_ | with_reducible refine State.served_keeps (sub_trans hW rfl) ?_ | with_reducible refine State.settle_keeps (sub_trans hW rfl) ?_ | with_reducible apply hf | ((with_reducible conv => arg 3; whnf); split)

theorem State.needBay_keeps {W} (hW : 119531444 &&& W = 119531444) {s0 s : State} {q it} {f : State → State} (h : Keeps W s0 s) (hf : ∀ t, Keeps W s0 t → Keeps W s0 (f t)) :
    Keeps W s0 (s.needBay q it f) := by
  unfold State.needBay
  split
  · exact hf _ h
  · exact State.adminEnd_keeps (sub_trans hW rfl) h

theorem State.readRetained_keeps {W} (hW : 119531446 &&& W = 119531446) {s0 s : State} {q} (hk : Keeps W s0 s) : Keeps W s0 (State.readRetained s q) := by
  unfold State.readRetained
  repeat' first | with_reducible assumption | intro _ | with_reducible (first | refine State.adminRun_keeps (sub_trans hW rfl) ?_ ?_ | refine State.needBay_keeps (sub_trans hW rfl) ?_ ?_ | refine State.adminEnd_keeps (sub_trans hW rfl) ?_ | refine State.writeAt_keeps (sub_trans hW rfl) ?_ | refine State.setQueue_keeps (sub_trans hW rfl) ?_) | ((with_reducible conv => arg 3; whnf); first | with_reducible assumption | split | refine Keeps.pair ‹_› ?_)

theorem execReadRetained_keeps {W} (hW : 119531446 &&& W = 119531446) {s0 s : State} {q} (hk : Keeps W s0 s) : KeepsX W s0 (execReadRetained q s) := KeepsX.next (State.readRetained_keeps (sub_trans hW rfl) hk)

theorem State.resetQueue_keeps {W} (hW : 123725750 &&& W = 123725750) {s0 s : State} {q} (hk : Keeps W s0 s) : Keeps W s0 (State.resetQueue s q) := by
  unfold State.resetQueue
  repeat' first | with_reducible assumption | intro _ | with_reducible (first | refine State.adminRun_keeps (sub_trans hW rfl) ?_ ?_ | refine State.needBay_keeps (sub_trans hW rfl) ?_ ?_ | refine State.adminEnd_keeps (sub_trans hW rfl) ?_ | refine State.updItem_keeps (sub_trans hW rfl) ?_ | refine State.cancelEach_keeps (sub_trans hW rfl) ?_ | refine State.evaluate_keeps (sub_trans hW rfl) ?_ | refine State.settle_keeps (sub_trans hW rfl) ?_) | ((with_reducible conv => arg 3; whnf); first | with_reducible assumption | split | refine Keeps.pair ‹_› ?_)

theorem execResetQueue_keeps {W} (hW : 123725750 &&& W = 123725750) {s0 s : State} {q} (hk : Keeps W s0 s) : KeepsX W s0 (execResetQueue q s) := KeepsX.next (State.resetQueue_keeps (sub_trans hW rfl) hk)

theorem State.queueState_keeps {W} (hW : 119531446 &&& W = 119531446) {s0 s : State} {q} (hk : Keeps W s0 s) : Keeps W s0 (State.queueState s q) := by
  unfold State.queueState
  repeat' first | with_reducible assumption | intro _ | with_reducible (first | refine State.adminRun_keeps (sub_trans hW rfl) ?_ ?_ | refine State.needBay_keeps (sub_trans hW rfl) ?_ ?_ | refine State.adminEnd_keeps (sub_trans hW rfl) ?_) | ((with_reducible conv => arg 3; whnf); first | with_reducible assumption | split | refine Keeps.pair ‹_› ?_)

theorem execQueueState_keeps {W} (hW : 119531446 &&& W = 119531446) {s0 s : State} {q} (hk : Keeps W s0 s) : KeepsX W s0 (execQueueState q s) := KeepsX.next (State.queueState_keeps (sub_trans hW rfl) hk)

theorem State.report_keeps {W} (hW : 2097152 &&& W = 2097152) {s0 s : State} {w st mask exit} (hk : Keeps W s0 s) : Keeps W s0 (State.report s w st mask exit) := Keeps.on_reports (sub_trans hW rfl) hk

theorem State.coreReport_keeps {W} (hW : 35659776 &&& W = 35659776) {s0 s : State} {c w st mask exit} (hk : Keeps W s0 s) : Keeps W s0 (State.coreReport s c w st mask exit) := by
  unfold State.coreReport
  repeat' first | with_reducible assumption | with_reducible (first | refine State.traceCore_keeps (sub_trans hW rfl) ?_ | refine State.report_keeps (sub_trans hW rfl) ?_) | ((with_reducible conv => arg 3; whnf); split)

theorem State.coreSettleFor_keeps {W} (hW : 35659840 &&& W = 35659840) {s0 a__internal_hyg02 : State} {a__internal_hyg0 a__internal_hyg01} (hk : Keeps W s0 a__internal_hyg02) : Keeps W s0 (State.coreSettleFor a__internal_hyg0 a__internal_hyg01 a__internal_hyg02) := by
  fun_induction State.coreSettleFor a__internal_hyg0 a__internal_hyg01 a__internal_hyg02 <;> (repeat' first | with_reducible assumption | intro _ | with_reducible (first | refine State.setCore_keeps (sub_trans hW rfl) ?_ | refine State.coreReport_keeps (sub_trans hW rfl) ?_) | with_reducible apply_assumption | ((with_reducible conv => arg 3; whnf); first | with_reducible assumption | split | refine Keeps.pair ‹_› ?_ | refine KeepsO.get ‹_› ?_ | refine KeepsE.get ‹_› ?_ | refine KeepsX.get ‹_› ?_) | dsimp only)

theorem State.coreSettle_keeps {W} (hW : 35659840 &&& W = 35659840) {s0 s : State} {c} (hk : Keeps W s0 s) : Keeps W s0 (State.coreSettle s c) := by
  unfold State.coreSettle
  repeat' first | with_reducible assumption | with_reducible refine State.coreSettleFor_keeps (sub_trans hW rfl) ?_ | ((with_reducible conv => arg 3; whnf); split)

theorem State.woArriveCore_keeps {W} (hW : 35659840 &&& W = 35659840) {s0 s : State} {c} (hk : Keeps W s0 s) : Keeps W s0 (State.woArriveCore s c) := by
  unfold State.woArriveCore
  repeat' first | with_reducible assumption | with_reducible (first | refine State.setCore_keeps (sub_trans hW rfl) ?_ | refine State.coreSettle_keeps (sub_trans hW rfl) ?_) | ((with_reducible conv => arg 3; whnf); split)

theorem State.woArriveEave_keeps {W} (hW : 2097664 &&& W = 2097664) {s0 s : State} {k} (hk : Keeps W s0 s) : Keeps W s0 (State.woArriveEave s k) := by
  unfold State.woArriveEave
  repeat' first | with_reducible assumption | with_reducible (first | refine State.setStack_keeps (sub_trans hW rfl) ?_ | refine State.report_keeps (sub_trans hW rfl) ?_) | ((with_reducible conv => arg 3; whnf); split)

theorem execWorkOrderArrive_keeps {W} (hW : 35660352 &&& W = 35660352) {s0 s : State} {eave unit} (hk : Keeps W s0 s) : KeepsX W s0 (execWorkOrderArrive eave unit s) := by
  unfold execWorkOrderArrive
  repeat' first | with_reducible assumption | with_reducible (first | refine KeepsX.next ?_ | refine State.woArriveEave_keeps (sub_trans hW rfl) ?_ | refine State.woArriveCore_keeps (sub_trans hW rfl) ?_) | ((with_reducible conv => arg 3; whnf); split)

theorem State.woStart_keeps {W} (hW : 35659840 &&& W = 35659840) {s0 s : State} {c} (hk : Keeps W s0 s) : Keeps W s0 (State.woStart s c) := by
  unfold State.woStart
  repeat' first | with_reducible assumption | with_reducible (first | refine State.setCore_keeps (sub_trans hW rfl) ?_ | refine State.traceCore_keeps (sub_trans hW rfl) ?_ | refine State.coreSettle_keeps (sub_trans hW rfl) ?_) | ((with_reducible conv => arg 3; whnf); split)

theorem execWorkOrderStart_keeps {W} (hW : 35659840 &&& W = 35659840) {s0 s : State} {core} (hk : Keeps W s0 s) : KeepsX W s0 (execWorkOrderStart core s) := KeepsX.next (State.woStart_keeps (sub_trans hW rfl) hk)

theorem State.woSignal_keeps {W} (hW : 64 &&& W = 64) {s0 s : State} {c r st} (hk : Keeps W s0 s) : Keeps W s0 (State.woSignal s c r st) := by
  unfold State.woSignal
  repeat' first | with_reducible assumption | with_reducible refine State.addCounter_keeps (sub_trans hW rfl) ?_ | ((with_reducible conv => arg 3; whnf); split)

theorem State.woDone_keeps {W} (hW : 121627600 &&& W = 121627600) {s0 s : State} {c w st mask exit} (hk : Keeps W s0 s) : Keeps W s0 (State.woDone s c w st mask exit) := by
  unfold State.woDone
  repeat' first | with_reducible assumption | with_reducible (first | refine State.writeReport_keeps (sub_trans hW rfl) ?_ | refine State.report_keeps (sub_trans hW rfl) ?_ | refine State.woSignal_keeps (sub_trans hW rfl) ?_ | refine State.setCore_keeps (sub_trans hW rfl) ?_ | refine State.coreReport_keeps (sub_trans hW rfl) ?_ | refine State.coreSettle_keeps (sub_trans hW rfl) ?_) | ((with_reducible conv => arg 3; whnf); split)

theorem State.woCompleteCore_keeps {W} (hW : 121627600 &&& W = 121627600) {s0 s : State} {c lid node} (hk : Keeps W s0 s) : Keeps W s0 (State.woCompleteCore s c lid node) := by
  unfold State.woCompleteCore
  repeat' first | with_reducible assumption | with_reducible refine State.woDone_keeps (sub_trans hW rfl) ?_ | ((with_reducible conv => arg 3; whnf); split)

theorem State.woCompleteEave_keeps {W} (hW : 2097664 &&& W = 2097664) {s0 s : State} {k lid node} (hk : Keeps W s0 s) : Keeps W s0 (State.woCompleteEave s k lid node) := by
  unfold State.woCompleteEave
  repeat' first | with_reducible assumption | with_reducible (first | refine State.setStack_keeps (sub_trans hW rfl) ?_ | refine State.report_keeps (sub_trans hW rfl) ?_) | ((with_reducible conv => arg 3; whnf); split)

theorem execWorkOrderComplete_keeps {W} (hW : 121627600 &&& W = 121627600) {s0 s : State} {eave unit lid node} (hk : Keeps W s0 s) : KeepsX W s0 (execWorkOrderComplete eave unit lid node s) := by
  unfold execWorkOrderComplete
  repeat' first | with_reducible assumption | with_reducible (first | refine KeepsX.next ?_ | refine State.woCompleteEave_keeps (sub_trans hW rfl) ?_ | refine State.woCompleteCore_keeps (sub_trans hW rfl) ?_) | ((with_reducible conv => arg 3; whnf); split)

theorem State.woReport_keeps {W} (hW : 125822900 &&& W = 125822900) {s0 s : State} {i} (hk : Keeps W s0 s) : Keeps W s0 (State.woReport s i) := by
  unfold State.woReport
  repeat' first | with_reducible assumption | with_reducible refine State.ridgeGets_keeps (sub_trans hW rfl) ?_ | ((with_reducible conv => arg 3; whnf); first | split | refine Keeps.on_reports (sub_trans hW rfl) ?_)

theorem execWorkOrderReport_keeps {W} (hW : 125822900 &&& W = 125822900) {s0 s : State} {i} (hk : Keeps W s0 s) : KeepsX W s0 (execWorkOrderReport i s) := KeepsX.next (State.woReport_keeps (sub_trans hW rfl) hk)

theorem State.counterExpires_keeps {W} (hW : 121627600 &&& W = 121627600) {s0 s : State} {c} (hk : Keeps W s0 s) : Keeps W s0 (State.counterExpires s c) := by
  unfold State.counterExpires
  repeat' first | with_reducible assumption | with_reducible (first | refine State.pend_keeps (sub_trans hW rfl) ?_ | refine State.touchSpad_keeps (sub_trans hW rfl) ?_ | refine State.writeReport_keeps (sub_trans hW rfl) ?_ | refine State.woSignal_keeps (sub_trans hW rfl) ?_ | refine State.setCore_keeps (sub_trans hW rfl) ?_ | refine State.coreReport_keeps (sub_trans hW rfl) ?_ | refine State.coreSettle_keeps (sub_trans hW rfl) ?_) | ((with_reducible conv => arg 3; whnf); split)

theorem execCounterWaitTimeout_keeps {W} (hW : 121627600 &&& W = 121627600) {s0 s : State} {core} (hk : Keeps W s0 s) : KeepsX W s0 (execCounterWaitTimeout core s) := KeepsX.next (State.counterExpires_keeps (sub_trans hW rfl) hk)

theorem State.syncArrive_keeps {W} (hW : 64 &&& W = 64) {s0 s : State} {c} (hk : Keeps W s0 s) : Keeps W s0 (State.syncArrive s c) := by
  unfold State.syncArrive
  repeat' first | with_reducible assumption | with_reducible refine State.setCore_keeps (sub_trans hW rfl) ?_ | ((with_reducible conv => arg 3; whnf); split)

theorem execSyncArrive_keeps {W} (hW : 64 &&& W = 64) {s0 s : State} {core} (hk : Keeps W s0 s) : KeepsX W s0 (execSyncArrive core s) := KeepsX.next (State.syncArrive_keeps (sub_trans hW rfl) hk)

theorem State.syncReport_keeps {W} (hW : 123725812 &&& W = 123725812) {s0 s : State} {c} (hk : Keeps W s0 s) : Keeps W s0 (State.syncReport s c) := by
  unfold State.syncReport
  repeat' first | with_reducible assumption | with_reducible (first | refine State.setCore_keeps (sub_trans hW rfl) ?_ | refine State.ridgeGets_keeps (sub_trans hW rfl) ?_) | ((with_reducible conv => arg 3; whnf); split)

theorem execSyncReport_keeps {W} (hW : 123725812 &&& W = 123725812) {s0 s : State} {core} (hk : Keeps W s0 s) : KeepsX W s0 (execSyncReport core s) := KeepsX.next (State.syncReport_keeps (sub_trans hW rfl) hk)

theorem State.barrierFalls_keeps {W} (hW : 35659840 &&& W = 35659840) {s0 s : State} {b lid node c} (hk : Keeps W s0 s) : Keeps W s0 (State.barrierFalls s b lid node c) := by
  unfold State.barrierFalls
  repeat' first | with_reducible assumption | with_reducible (first | refine State.setCore_keeps (sub_trans hW rfl) ?_ | refine State.coreSettle_keeps (sub_trans hW rfl) ?_) | ((with_reducible conv => arg 3; whnf); split)

theorem State.syncRelease_keeps {W} (hW : 121628660 &&& W = 121628660) {s0 s : State} {fn q slot node} (hk : Keeps W s0 s) : Keeps W s0 (State.syncRelease s fn q slot node) := by
  unfold State.syncRelease
  repeat' first | with_reducible assumption | intro _ | with_reducible (first | refine State.barrierFalls_keeps (sub_trans hW rfl) ?_ | refine State.nodeDone_keeps (sub_trans hW rfl) ?_ | refine State.settle_keeps (sub_trans hW rfl) ?_ | refine Keeps.foldl ?_ ?_) | ((with_reducible conv => arg 3; whnf); first | split)

theorem execSyncRelease_keeps {W} (hW : 121628660 &&& W = 121628660) {s0 s : State} {fn q slot node} (hk : Keeps W s0 s) : KeepsX W s0 (execSyncRelease fn q slot node s) := by
  unfold execSyncRelease
  repeat' first | with_reducible assumption | with_reducible (first | refine KeepsX.next ?_ | refine State.syncRelease_keeps (sub_trans hW rfl) ?_) | ((with_reducible conv => arg 3; whnf); split)

end Sys2Proof.Machine
end

