-- ==== Sys2Proof/Laws/KeepsFabric.lean ====
section
/-! SUPPORT. What Keeps.lean says of every operation, for collectives, the fabric, the far ports and the health records. -/

set_option maxRecDepth 4000

namespace Sys2Proof.Machine

theorem State.collSend_keeps {W} (hW : 1024 &&& W = 1024) {s0 s : State} {b c j hdr data} (hk : Keeps W s0 s) : Keeps W s0 (State.collSend s b c j hdr data).1 := by
  unfold State.collSend
  repeat' first | with_reducible assumption | intro _ | with_reducible refine State.farPush_keeps (sub_trans hW rfl) ?_ | ((with_reducible conv => arg 3; whnf); first | with_reducible assumption | split | refine Keeps.pair ‹_› ?_ | refine KeepsO.get ‹_› ?_ | refine KeepsE.get ‹_› ?_ | refine KeepsX.get ‹_› ?_) | dsimp only

theorem State.setColls_keeps {W} (hW : 32 &&& W = 32) {s0 s : State} {b cs} (hk : Keeps W s0 s) : Keeps W s0 (State.setColls s b cs) := by
  unfold State.setColls
  repeat' first | with_reducible assumption | with_reducible refine State.setBay_keeps (sub_trans hW rfl) ?_ | ((with_reducible conv => arg 3; whnf); split)

theorem State.putColl_keeps {W} (hW : 32 &&& W = 32) {s0 s : State} {b c} (hk : Keeps W s0 s) : Keeps W s0 (State.putColl s b c) := by
  unfold State.putColl
  repeat' first | with_reducible assumption | with_reducible refine State.setColls_keeps (sub_trans hW rfl) ?_ | ((with_reducible conv => arg 3; whnf); split)

theorem State.collReport_keeps {W} (hW : 2097152 &&& W = 2097152) {s0 s : State} {b c st} (hk : Keeps W s0 s) : Keeps W s0 (State.collReport s b c st) := by
  unfold State.collReport
  repeat' first | with_reducible assumption | intro _ | with_reducible refine State.report_keeps (sub_trans hW rfl) ?_ | ((with_reducible conv => arg 3; whnf); first | with_reducible assumption | split | refine Keeps.pair ‹_› ?_ | refine KeepsO.get ‹_› ?_ | refine KeepsE.get ‹_› ?_ | refine KeepsX.get ‹_› ?_) | dsimp only | refine Keeps.on_reports (sub_trans hW rfl) ?_

theorem State.collTell_keeps {W} (hW : 121627568 &&& W = 121627568) {s0 s : State} {b c st telem} (hk : Keeps W s0 s) : Keeps W s0 (State.collTell s b c st telem) := by
  unfold State.collTell
  repeat' first | with_reducible assumption | with_reducible (first | refine State.setBay_keeps (sub_trans hW rfl) ?_ | refine State.writeAt_keeps (sub_trans hW rfl) ?_ | refine State.collReport_keeps (sub_trans hW rfl) ?_) | ((with_reducible conv => arg 3; whnf); split)

theorem State.collRetell_keeps {W} (hW : 121627568 &&& W = 121627568) {s0 s : State} {b} (hk : Keeps W s0 s) : Keeps W s0 (State.collRetell s b) := by
  unfold State.collRetell
  repeat' first | with_reducible assumption | intro _ | with_reducible (first | refine State.collTell_keeps (sub_trans hW rfl) ?_ | refine State.setBay_keeps (sub_trans hW rfl) ?_ | refine Keeps.foldl ?_ ?_ | refine Keeps.foldl1 ?_ ?_) | ((with_reducible conv => arg 3; whnf); first | with_reducible assumption | split | refine Keeps.pair ‹_› ?_ | refine KeepsO.get ‹_› ?_ | refine KeepsE.get ‹_› ?_ | refine KeepsX.get ‹_› ?_) | dsimp only

theorem State.collEnd_keeps {W} (hW : 121628592 &&& W = 121628592) {s0 s : State} {b c st} (hk : Keeps W s0 s) : Keeps W s0 (State.collEnd s b c st) := by
  unfold State.collEnd
  repeat' first | with_reducible assumption | with_reducible (first | refine State.setColls_keeps (sub_trans hW rfl) ?_ | refine State.dropOwner_keeps (sub_trans hW rfl) ?_ | refine State.drawn_keeps (sub_trans hW rfl) ?_ | refine State.collTell_keeps (sub_trans hW rfl) ?_ | refine State.collReport_keeps (sub_trans hW rfl) ?_) | ((with_reducible conv => arg 3; whnf); first | split)

theorem State.collFail_keeps {W} (hW : 121628592 &&& W = 121628592) {s0 s : State} {b c st} (hk : Keeps W s0 s) : Keeps W s0 (State.collFail s b c st) := by
  unfold State.collFail
  repeat' first | with_reducible assumption | intro _ | with_reducible (first | refine State.collSend_keeps (sub_trans hW rfl) ?_ | refine State.collEnd_keeps (sub_trans hW rfl) ?_ | refine Keeps.foldl ?_ ?_) | ((with_reducible conv => arg 3; whnf); first | split)

theorem State.pieceSend_keeps {W} (hW : 119269328 &&& W = 119269328) {s0 s : State} {b c phase j i} (hk : Keeps W s0 s) : Keeps W s0 (State.pieceSend s b c phase j i).1 := by
  unfold State.pieceSend
  repeat' first | with_reducible assumption | intro _ | with_reducible (first | refine State.touchAt_keeps (sub_trans hW rfl) ?_ | refine State.collSend_keeps (sub_trans hW rfl) ?_) | ((with_reducible conv => arg 3; whnf); first | with_reducible assumption | split | refine Keeps.pair ‹_› ?_ | refine KeepsO.get ‹_› ?_ | refine KeepsE.get ‹_› ?_ | refine KeepsX.get ‹_› ?_) | dsimp only

theorem State.collTurn_keeps {W} (hW : 119269328 &&& W = 119269328) {s0 a__internal_hyg02 : State} {b a__internal_hyg0 a__internal_hyg03} (hk : Keeps W s0 a__internal_hyg02) : Keeps W s0 (State.collTurn b a__internal_hyg0 a__internal_hyg02 a__internal_hyg03).1 := by
  fun_induction State.collTurn b a__internal_hyg0 a__internal_hyg02 a__internal_hyg03 <;> (repeat' first | with_reducible assumption | intro _ | with_reducible refine State.pieceSend_keeps (sub_trans hW rfl) ?_ | with_reducible apply_assumption | ((with_reducible conv => arg 3; whnf); first | with_reducible assumption | split | refine Keeps.pair ‹_› ?_ | refine KeepsO.get ‹_› ?_ | refine KeepsE.get ‹_› ?_ | refine KeepsX.get ‹_› ?_) | dsimp only)

theorem State.collTurns_keeps {W} (hW : 119269328 &&& W = 119269328) {s0 a__internal_hyg02 : State} {b a__internal_hyg0 a__internal_hyg03} (hk : Keeps W s0 a__internal_hyg02) : Keeps W s0 (State.collTurns b a__internal_hyg0 a__internal_hyg02 a__internal_hyg03).1 := by
  fun_induction State.collTurns b a__internal_hyg0 a__internal_hyg02 a__internal_hyg03 <;> (repeat' first | with_reducible assumption | intro _ | with_reducible refine State.collTurn_keeps (sub_trans hW rfl) ?_ | with_reducible apply_assumption | ((with_reducible conv => arg 3; whnf); first | with_reducible assumption | split | refine Keeps.pair ‹_› ?_ | refine KeepsO.get ‹_› ?_ | refine KeepsE.get ‹_› ?_ | refine KeepsX.get ‹_› ?_) | dsimp only)

theorem State.collGo_keeps {W} (hW : 121628656 &&& W = 121628656) {s0 s : State} {b c} (hk : Keeps W s0 s) : Keeps W s0 (State.collGo s b c) := by
  unfold State.collGo
  repeat' first | with_reducible assumption | intro _ | with_reducible (first | refine State.collTurns_keeps (sub_trans hW rfl) ?_ | refine State.putColl_keeps (sub_trans hW rfl) ?_ | refine State.collFail_keeps (sub_trans hW rfl) ?_ | refine State.collEnd_keeps (sub_trans hW rfl) ?_) | ((with_reducible conv => arg 3; whnf); first | with_reducible assumption | split | refine Keeps.pair ‹_› ?_)

theorem State.collGrantTo_keeps {W} (hW : 1024 &&& W = 1024) {s0 a__internal_hyg05 : State} {b c phase limit a__internal_hyg0} (hk : Keeps W s0 a__internal_hyg05) : Keeps W s0 (State.collGrantTo b c phase limit a__internal_hyg0 a__internal_hyg05).1 := by
  fun_induction State.collGrantTo b c phase limit a__internal_hyg0 a__internal_hyg05 <;> (repeat' first | with_reducible assumption | intro _ | with_reducible refine State.collSend_keeps (sub_trans hW rfl) ?_ | with_reducible apply_assumption | ((with_reducible conv => arg 3; whnf); first | with_reducible assumption | split | refine Keeps.pair ‹_› ?_ | refine KeepsO.get ‹_› ?_ | refine KeepsE.get ‹_› ?_ | refine KeepsX.get ‹_› ?_) | dsimp only)

theorem State.collGrant_keeps {W} (hW : 1024 &&& W = 1024) {s0 s : State} {b c phase limit} (hk : Keeps W s0 s) : Keeps W s0 (State.collGrant s b c phase limit).1 := by
  unfold State.collGrant
  repeat' first | with_reducible assumption | with_reducible refine State.collGrantTo_keeps (sub_trans hW rfl) ?_ | ((with_reducible conv => arg 3; whnf); split)

theorem State.frameReduce_keeps {W} (hW : 121628656 &&& W = 121628656) {s0 s : State} {b c i} (hk : Keeps W s0 s) : Keeps W s0 (State.frameReduce s b c i) := by
  unfold State.frameReduce
  repeat' first | with_reducible assumption | intro _ | with_reducible (first | refine State.touchAt_keeps (sub_trans hW rfl) ?_ | refine State.collFail_keeps (sub_trans hW rfl) ?_ | refine State.writeAt_keeps (sub_trans hW rfl) ?_ | refine State.putColl_keeps (sub_trans hW rfl) ?_ | refine State.collGrant_keeps (sub_trans hW rfl) ?_ | refine State.collGo_keeps (sub_trans hW rfl) ?_) | ((with_reducible conv => arg 3; whnf); first | with_reducible assumption | split | refine Keeps.pair ‹_› ?_)

theorem State.popMsg_keeps {W} (hW : 1024 &&& W = 1024) {s0 s : State} {p v} (hk : Keeps W s0 s) : Keeps W s0 (State.popMsg s p v) := by
  unfold State.popMsg
  repeat' first | with_reducible assumption | with_reducible refine State.setPort_keeps (sub_trans hW rfl) ?_ | ((with_reducible conv => arg 3; whnf); split)

theorem State.setWaiting_keeps {W} (hW : 32 &&& W = 32) {s0 s : State} {b cs} (hk : Keeps W s0 s) : Keeps W s0 (State.setWaiting s b cs) := by
  unfold State.setWaiting
  repeat' first | with_reducible assumption | with_reducible refine State.setBay_keeps (sub_trans hW rfl) ?_ | ((with_reducible conv => arg 3; whnf); split)

theorem State.collOwn_keeps {W} (hW : 119530448 &&& W = 119530448) {s0 a__internal_hyg03 : State} {b c a__internal_hyg0} (hk : Keeps W s0 a__internal_hyg03) : Keeps W s0 (State.collOwn b c a__internal_hyg0 a__internal_hyg03).1 := by
  fun_induction State.collOwn b c a__internal_hyg0 a__internal_hyg03 <;> (repeat' first | with_reducible assumption | intro _ | with_reducible (first | refine State.touchAt_keeps (sub_trans hW rfl) ?_ | refine State.writeAt_keeps (sub_trans hW rfl) ?_) | with_reducible apply_assumption | ((with_reducible conv => arg 3; whnf); first | with_reducible assumption | split | refine Keeps.pair ‹_› ?_ | refine KeepsO.get ‹_› ?_ | refine KeepsE.get ‹_› ?_ | refine KeepsX.get ‹_› ?_) | dsimp only)

theorem State.collFirst_keeps {W} (hW : 1024 &&& W = 1024) {s0 a__internal_hyg03 : State} {b c a__internal_hyg0} (hk : Keeps W s0 a__internal_hyg03) : Keeps W s0 (State.collFirst b c a__internal_hyg0 a__internal_hyg03).1 := by
  fun_induction State.collFirst b c a__internal_hyg0 a__internal_hyg03 <;> (repeat' first | with_reducible assumption | intro _ | with_reducible refine State.collGrant_keeps (sub_trans hW rfl) ?_ | with_reducible apply_assumption | ((with_reducible conv => arg 3; whnf); first | with_reducible assumption | split | refine Keeps.pair ‹_› ?_ | refine KeepsO.get ‹_› ?_ | refine KeepsE.get ‹_› ?_ | refine KeepsX.get ‹_› ?_) | dsimp only)

theorem State.collBegin_keeps {W} (hW : 121628656 &&& W = 121628656) {s0 s : State} {b c} (hk : Keeps W s0 s) : Keeps W s0 (State.collBegin s b c) := by
  unfold State.collBegin
  repeat' first | with_reducible assumption | intro _ | with_reducible (first | refine State.collEnd_keeps (sub_trans hW rfl) ?_ | refine State.setBay_keeps (sub_trans hW rfl) ?_ | refine State.putColl_keeps (sub_trans hW rfl) ?_ | refine State.collFail_keeps (sub_trans hW rfl) ?_ | refine State.collOwn_keeps (sub_trans hW rfl) ?_ | refine State.collFirst_keeps (sub_trans hW rfl) ?_ | refine State.collGo_keeps (sub_trans hW rfl) ?_) | ((with_reducible conv => arg 3; whnf); first | with_reducible assumption | split | refine Keeps.pair ‹_› ?_)

theorem State.remoteAddStart_keeps {W} (hW : 121628592 &&& W = 121628592) {s0 s : State} {b c} (hk : Keeps W s0 s) : Keeps W s0 (State.remoteAddStart s b c) := by
  unfold State.remoteAddStart
  repeat' first | with_reducible assumption | with_reducible (first | refine State.collFail_keeps (sub_trans hW rfl) ?_ | refine State.farIssue_keeps (sub_trans hW rfl) ?_) | ((with_reducible conv => arg 3; whnf); split)

theorem State.collStart_keeps {W} (hW : 390064112 &&& W = 390064112) {s0 s : State} {b i op} (hk : Keeps W s0 s) : Keeps W s0 (State.collStart s b i op) := by
  unfold State.collStart
  repeat' first | with_reducible assumption | with_reducible (first | refine State.setWaiting_keeps (sub_trans hW rfl) ?_ | refine State.setColls_keeps (sub_trans hW rfl) ?_ | refine State.remoteAddStart_keeps (sub_trans hW rfl) ?_ | refine State.touchAt_keeps (sub_trans hW rfl) ?_ | refine State.collEnd_keeps (sub_trans hW rfl) ?_ | refine State.putColl_keeps (sub_trans hW rfl) ?_ | refine State.collFail_keeps (sub_trans hW rfl) ?_ | refine State.setBay_keeps (sub_trans hW rfl) ?_ | refine State.raced_keeps (sub_trans hW rfl) ?_ ?_ | refine State.collBegin_keeps (sub_trans hW rfl) ?_) | ((with_reducible conv => arg 3; whnf); first | split)

theorem execAllReduce_keeps {W} (hW : 390064112 &&& W = 390064112) {s0 s : State} {bay i} (hk : Keeps W s0 s) : KeepsX W s0 (execAllReduce bay i s) := KeepsX.next (State.collStart_keeps (sub_trans hW rfl) hk)

theorem execReduceScatter_keeps {W} (hW : 390064112 &&& W = 390064112) {s0 s : State} {bay i} (hk : Keeps W s0 s) : KeepsX W s0 (execReduceScatter bay i s) := KeepsX.next (State.collStart_keeps (sub_trans hW rfl) hk)

theorem execAllGather_keeps {W} (hW : 390064112 &&& W = 390064112) {s0 s : State} {bay i} (hk : Keeps W s0 s) : KeepsX W s0 (execAllGather bay i s) := KeepsX.next (State.collStart_keeps (sub_trans hW rfl) hk)

theorem execAllToAll_keeps {W} (hW : 390064112 &&& W = 390064112) {s0 s : State} {bay i} (hk : Keeps W s0 s) : KeepsX W s0 (execAllToAll bay i s) := KeepsX.next (State.collStart_keeps (sub_trans hW rfl) hk)

theorem execBroadcast_keeps {W} (hW : 390064112 &&& W = 390064112) {s0 s : State} {bay i} (hk : Keeps W s0 s) : KeepsX W s0 (execBroadcast bay i s) := KeepsX.next (State.collStart_keeps (sub_trans hW rfl) hk)

theorem execRemoteAdd_keeps {W} (hW : 390064112 &&& W = 390064112) {s0 s : State} {bay i} (hk : Keeps W s0 s) : KeepsX W s0 (execRemoteAdd bay i s) := KeepsX.next (State.collStart_keeps (sub_trans hW rfl) hk)

theorem State.collWindow_keeps {W} (hW : 100917776 &&& W = 100917776) {s0 s : State} {m} (hk : Keeps W s0 s) : Keeps W s0 (State.collWindow s m).1 := by
  unfold State.collWindow
  repeat' first | with_reducible assumption | intro _ | with_reducible refine State.raiseIn_keeps (sub_trans hW rfl) ?_ | ((with_reducible conv => arg 3; whnf); first | with_reducible assumption | split | refine Keeps.pair ‹_› ?_ | refine KeepsO.get ‹_› ?_ | refine KeepsE.get ‹_› ?_ | refine KeepsX.get ‹_› ?_) | dsimp only

theorem State.collStale_keeps {W} (hW : 32 &&& W = 32) {s0 s : State} {b} (hk : Keeps W s0 s) : Keeps W s0 (State.collStale s b) := by
  unfold State.collStale
  repeat' first | with_reducible assumption | with_reducible refine State.setBay_keeps (sub_trans hW rfl) ?_ | ((with_reducible conv => arg 3; whnf); split)

theorem State.collPiece_keeps {W} (hW : 121628656 &&& W = 121628656) {s0 s : State} {b c h data} (hk : Keeps W s0 s) : Keeps W s0 (State.collPiece s b c h data) := by
  unfold State.collPiece
  repeat' first | with_reducible assumption | intro _ | with_reducible (first | refine State.collStale_keeps (sub_trans hW rfl) ?_ | refine State.putColl_keeps (sub_trans hW rfl) ?_ | refine State.writeAt_keeps (sub_trans hW rfl) ?_ | refine State.collFail_keeps (sub_trans hW rfl) ?_ | refine State.collGo_keeps (sub_trans hW rfl) ?_) | ((with_reducible conv => arg 3; whnf); first | with_reducible assumption | split | refine Keeps.pair ‹_› ?_)

theorem State.collApply_keeps {W} (hW : 121628656 &&& W = 121628656) {s0 s : State} {b h data} (hk : Keeps W s0 s) : Keeps W s0 (State.collApply s b h data) := by
  unfold State.collApply
  repeat' first | with_reducible assumption | with_reducible (first | refine State.setBay_keeps (sub_trans hW rfl) ?_ | refine State.collStale_keeps (sub_trans hW rfl) ?_ | refine State.putColl_keeps (sub_trans hW rfl) ?_ | refine State.collFail_keeps (sub_trans hW rfl) ?_ | refine State.collPiece_keeps (sub_trans hW rfl) ?_ | refine State.collGo_keeps (sub_trans hW rfl) ?_) | ((with_reducible conv => arg 3; whnf); first | split)

theorem State.collTakeMsg_keeps {W} (hW : 390064112 &&& W = 390064112) {s0 s : State} {p kind} (hk : Keeps W s0 s) : Keeps W s0 (State.collTakeMsg s p kind) := by
  unfold State.collTakeMsg
  repeat' first | with_reducible assumption | with_reducible (first | refine State.popMsg_keeps (sub_trans hW rfl) ?_ | refine State.collWindow_keeps (sub_trans hW rfl) ?_ | refine State.raced_keeps (sub_trans hW rfl) ?_ ?_ | refine State.collApply_keeps (sub_trans hW rfl) ?_) | ((with_reducible conv => arg 3; whnf); split)

theorem execCollGrant_keeps {W} (hW : 390064112 &&& W = 390064112) {s0 s : State} {port} (hk : Keeps W s0 s) : KeepsX W s0 (execCollGrant port s) := KeepsX.next (State.collTakeMsg_keeps (sub_trans hW rfl) hk)

theorem execCollData_keeps {W} (hW : 390064112 &&& W = 390064112) {s0 s : State} {port} (hk : Keeps W s0 s) : KeepsX W s0 (execCollData port s) := KeepsX.next (State.collTakeMsg_keeps (sub_trans hW rfl) hk)

theorem execCollAbort_keeps {W} (hW : 390064112 &&& W = 390064112) {s0 s : State} {port} (hk : Keeps W s0 s) : KeepsX W s0 (execCollAbort port s) := KeepsX.next (State.collTakeMsg_keeps (sub_trans hW rfl) hk)

theorem State.frameDue_keeps {W} (hW : 390064112 &&& W = 390064112) {s0 s : State} {b i piece} (hk : Keeps W s0 s) : Keeps W s0 (State.frameDue s b i piece) := by
  unfold State.frameDue
  repeat' first | with_reducible assumption | with_reducible (first | refine State.raced_keeps (sub_trans hW rfl) ?_ ?_ | refine State.frameReduce_keeps (sub_trans hW rfl) ?_) | ((with_reducible conv => arg 3; whnf); split)

theorem execFrameReduce_keeps {W} (hW : 390064112 &&& W = 390064112) {s0 s : State} {bay i piece} (hk : Keeps W s0 s) : KeepsX W s0 (execFrameReduce bay i piece s) := KeepsX.next (State.frameDue_keeps (sub_trans hW rfl) hk)

theorem State.collExpires_keeps {W} (hW : 121628592 &&& W = 121628592) {s0 s : State} {b i member} (hk : Keeps W s0 s) : Keeps W s0 (State.collExpires s b i member) := by
  unfold State.collExpires
  repeat' first | with_reducible assumption | with_reducible refine State.collFail_keeps (sub_trans hW rfl) ?_ | ((with_reducible conv => arg 3; whnf); split)

theorem execCollectiveTimeout_keeps {W} (hW : 121628592 &&& W = 121628592) {s0 s : State} {bay i member} (hk : Keeps W s0 s) : KeepsX W s0 (execCollectiveTimeout bay i member s) := KeepsX.next (State.collExpires_keeps (sub_trans hW rfl) hk)

theorem State.noticeCore_keeps {W} (hW : 35659840 &&& W = 35659840) {s0 s : State} {n c} (hk : Keeps W s0 s) : Keeps W s0 (State.noticeCore s n c) := by
  unfold State.noticeCore
  repeat' first | with_reducible assumption | with_reducible (first | refine State.setCore_keeps (sub_trans hW rfl) ?_ | refine State.coreSettle_keeps (sub_trans hW rfl) ?_) | ((with_reducible conv => arg 3; whnf); split)

theorem State.noticeEave_keeps {W} (hW : 2097664 &&& W = 2097664) {s0 s : State} {n k} (hk : Keeps W s0 s) : Keeps W s0 (State.noticeEave s n k) := by
  unfold State.noticeEave
  repeat' first | with_reducible assumption | intro _ | with_reducible (first | refine State.report_keeps (sub_trans hW rfl) ?_ | refine State.setStack_keeps (sub_trans hW rfl) ?_ | refine Keeps.foldl ?_ ?_) | ((with_reducible conv => arg 3; whnf); first | split)

theorem State.noticeColl_keeps {W} (hW : 121628592 &&& W = 121628592) {s0 s : State} {n} (hk : Keeps W s0 s) : Keeps W s0 (State.noticeColl s n) := by
  unfold State.noticeColl
  repeat' first | with_reducible assumption | intro _ | with_reducible (first | refine State.report_keeps (sub_trans hW rfl) ?_ | refine State.collEnd_keeps (sub_trans hW rfl) ?_ | refine State.setWaiting_keeps (sub_trans hW rfl) ?_ | refine Keeps.foldl ?_ ?_) | ((with_reducible conv => arg 3; whnf); first | split | refine Keeps.on_reports (sub_trans hW rfl) ?_)

theorem State.noticeArrives_keeps {W} (hW : 125822960 &&& W = 125822960) {s0 s : State} {i} (hk : Keeps W s0 s) : Keeps W s0 (State.noticeArrives s i) := by
  unfold State.noticeArrives
  repeat' first | with_reducible assumption | with_reducible (first | refine State.noticeCore_keeps (sub_trans hW rfl) ?_ | refine State.noticeEave_keeps (sub_trans hW rfl) ?_ | refine State.noticeColl_keeps (sub_trans hW rfl) ?_) | ((with_reducible conv => arg 3; whnf); first | split | refine Keeps.on_notices (sub_trans hW rfl) ?_)

theorem execEndNotice_keeps {W} (hW : 125822960 &&& W = 125822960) {s0 s : State} {i} (hk : Keeps W s0 s) : KeepsX W s0 (execEndNotice i s) := KeepsX.next (State.noticeArrives_keeps (sub_trans hW rfl) hk)

theorem State.failOwner_keeps {W} (hW : 121628656 &&& W = 121628656) {s0 s : State} {o st} (hk : Keeps W s0 s) : Keeps W s0 (State.failOwner s o st) := by
  unfold State.failOwner
  repeat' first | with_reducible assumption | with_reducible (first | refine State.dropSpans_keeps (sub_trans hW rfl) ?_ | refine State.putWork_keeps (sub_trans hW rfl) ?_ | refine State.updItem_keeps (sub_trans hW rfl) ?_ | refine State.dropOwner_keeps (sub_trans hW rfl) ?_ | refine State.collFail_keeps (sub_trans hW rfl) ?_) | ((with_reducible conv => arg 3; whnf); split)

theorem State.failOwners_keeps {W} (hW : 121628656 &&& W = 121628656) {s0 s : State} {os st} (hk : Keeps W s0 s) : Keeps W s0 (State.failOwners s os st) := by
  unfold State.failOwners
  repeat' first | with_reducible assumption | intro _ | with_reducible (first | refine State.failOwner_keeps (sub_trans hW rfl) ?_ | refine Keeps.foldl ?_ ?_ | refine Keeps.foldl1 ?_ ?_) | ((with_reducible conv => arg 3; whnf); first | with_reducible assumption | split | refine Keeps.pair ‹_› ?_ | refine KeepsO.get ‹_› ?_ | refine KeepsE.get ‹_› ?_ | refine KeepsX.get ‹_› ?_) | dsimp only

theorem State.dropReqs_keeps {W} (hW : 121628656 &&& W = 121628656) {s0 s : State} {p bad st} (hk : Keeps W s0 s) : Keeps W s0 (State.dropReqs s p bad st) := by
  unfold State.dropReqs
  repeat' first | with_reducible assumption | with_reducible (first | refine State.setPort_keeps (sub_trans hW rfl) ?_ | refine State.failOwners_keeps (sub_trans hW rfl) ?_ | refine State.farNext_keeps (sub_trans hW rfl) ?_) | ((with_reducible conv => arg 3; whnf); first | split)

theorem State.portEvWith_keeps {W} (hW : 100917776 &&& W = 100917776) {s0 s : State} {p code items} (hk : Keeps W s0 s) : Keeps W s0 (State.portEvWith s p code items) := by
  unfold State.portEvWith
  repeat' first | with_reducible assumption | with_reducible (first | refine State.pend_keeps (sub_trans hW rfl) ?_ | refine State.raiseSet_keeps (sub_trans hW rfl) ?_) | ((with_reducible conv => arg 3; whnf); split)

theorem State.portEv_keeps {W} (hW : 100917776 &&& W = 100917776) {s0 s : State} {p code} (hk : Keeps W s0 s) : Keeps W s0 (State.portEv s p code) := by
  unfold State.portEv
  repeat' first | with_reducible assumption | with_reducible refine State.portEvWith_keeps (sub_trans hW rfl) ?_ | ((with_reducible conv => arg 3; whnf); split)

theorem State.idEvent_keeps {W} (hW : 100917776 &&& W = 100917776) {s0 s : State} (hk : Keeps W s0 s) : Keeps W s0 (State.idEvent s) := by
  unfold State.idEvent
  repeat' first | with_reducible assumption | with_reducible refine State.raiseSet_keeps (sub_trans hW rfl) ?_ | ((with_reducible conv => arg 3; whnf); split)

theorem State.takeId_keeps {W} (hW : 100919824 &&& W = 100919824) {s0 s : State} {id} (hk : Keeps W s0 s) : Keeps W s0 (State.takeId s id) := by
  unfold State.takeId
  repeat' first | with_reducible assumption | with_reducible refine State.idEvent_keeps (sub_trans hW rfl) ?_ | ((with_reducible conv => arg 3; whnf); first | split | refine Keeps.on_fabric (sub_trans hW rfl) ?_)

theorem State.mgmt_keeps {W} (hW : 1024 &&& W = 1024) {s0 s : State} {p kind hops payload} (hk : Keeps W s0 s) : Keeps W s0 (State.mgmt s p kind hops payload) := by
  unfold State.mgmt
  repeat' first | with_reducible assumption | with_reducible refine State.farPush_keeps (sub_trans hW rfl) ?_ | ((with_reducible conv => arg 3; whnf); split)

theorem State.onTree_keeps {W} (hW : 1024 &&& W = 1024) {s0 s : State} {but kind hops payload} (hk : Keeps W s0 s) : Keeps W s0 (State.onTree s but kind hops payload) := by
  unfold State.onTree
  repeat' first | with_reducible assumption | intro _ | with_reducible (first | refine State.mgmt_keeps (sub_trans hW rfl) ?_ | refine Keeps.foldl ?_ ?_) | ((with_reducible conv => arg 3; whnf); first | split)

theorem State.partnerTakes_keeps {W} (hW : 1024 &&& W = 1024) {s0 s : State} {id dev} (hk : Keeps W s0 s) : Keeps W s0 (State.partnerTakes s id dev) := Keeps.on_ports (sub_trans hW rfl) hk

theorem State.collsLost_keeps {W} (hW : 121628592 &&& W = 121628592) {s0 s : State} {l} (hk : Keeps W s0 s) : Keeps W s0 (State.collsLost s l) := by
  unfold State.collsLost
  repeat' first | with_reducible assumption | intro _ | with_reducible (first | refine State.collFail_keeps (sub_trans hW rfl) ?_ | refine Keeps.foldl ?_ ?_) | ((with_reducible conv => arg 3; whnf); first | split)

theorem State.applyTable_keeps {W} (hW : 121630704 &&& W = 121630704) {s0 s : State} {t} (hk : Keeps W s0 s) : Keeps W s0 (State.applyTable s t) := by
  unfold State.applyTable
  repeat' first | with_reducible assumption | intro _ | with_reducible (first | refine State.partnerTakes_keeps (sub_trans hW rfl) ?_ | refine State.dropReqs_keeps (sub_trans hW rfl) ?_ | refine State.collsLost_keeps (sub_trans hW rfl) ?_ | refine Keeps.foldl ?_ ?_) | ((with_reducible conv => arg 3; whnf); first | split | refine Keeps.on_fabric (sub_trans hW rfl) ?_)

theorem State.topology_keeps {W} (hW : 121630704 &&& W = 121630704) {s0 s : State} {t} (hk : Keeps W s0 s) : Keeps W s0 (State.topology s t) := by
  unfold State.topology
  repeat' first | with_reducible assumption | with_reducible (first | refine State.applyTable_keeps (sub_trans hW rfl) ?_ | refine State.onTree_keeps (sub_trans hW rfl) ?_) | ((with_reducible conv => arg 3; whnf); split)

theorem State.walkNext_keeps {W} (hW : 121630704 &&& W = 121630704) {s0 s : State} {n} (h : Keeps W s0 s) : Keeps W s0 (State.walkNext n s) := by
  induction n generalizing s with
  | zero => exact h
  | succ n ih =>
    unfold State.walkNext
    dsimp only
    split
    · split
      · exact State.mgmt_keeps (sub_trans hW rfl) (Keeps.on_fabric (sub_trans hW rfl) h)
      · exact ih (Keeps.on_fabric (sub_trans hW rfl) h)
    · split
      · exact State.topology_keeps (sub_trans hW rfl) h
      · split
        · exact State.mgmt_keeps (sub_trans hW rfl) h
        · exact h

theorem State.startWalk_keeps {W} (hW : 121630704 &&& W = 121630704) {s0 s : State} (hk : Keeps W s0 s) : Keeps W s0 (State.startWalk s) := by
  unfold State.startWalk
  repeat' first | with_reducible assumption | with_reducible (first | refine State.walkNext_keeps (sub_trans hW rfl) ?_ | refine State.takeId_keeps (sub_trans hW rfl) ?_) | ((with_reducible conv => arg 3; whnf); first | split | refine Keeps.on_fabric (sub_trans hW rfl) ?_)

theorem State.walkIfDue_keeps {W} (hW : 121630704 &&& W = 121630704) {s0 s : State} (hk : Keeps W s0 s) : Keeps W s0 (State.walkIfDue s) := by
  unfold State.walkIfDue
  repeat' first | with_reducible assumption | with_reducible refine State.startWalk_keeps (sub_trans hW rfl) ?_ | ((with_reducible conv => arg 3; whnf); split)

theorem State.askWalk_keeps {W} (hW : 121630704 &&& W = 121630704) {s0 s : State} (hk : Keeps W s0 s) : Keeps W s0 (State.askWalk s) := by
  unfold State.askWalk
  repeat' first | with_reducible assumption | with_reducible refine State.walkIfDue_keeps (sub_trans hW rfl) ?_ | ((with_reducible conv => arg 3; whnf); first | split | refine Keeps.on_fabric (sub_trans hW rfl) ?_)

theorem State.newLink_keeps {W} (hW : 121630704 &&& W = 121630704) {s0 s : State} (hk : Keeps W s0 s) : Keeps W s0 (State.newLink s) := by
  unfold State.newLink
  repeat' first | with_reducible assumption | with_reducible (first | refine State.askWalk_keeps (sub_trans hW rfl) ?_ | refine State.mgmt_keeps (sub_trans hW rfl) ?_) | ((with_reducible conv => arg 3; whnf); split)

theorem State.joinWalk_keeps {W} (hW : 100920848 &&& W = 100920848) {s0 s : State} {p tag} (hk : Keeps W s0 s) : Keeps W s0 (State.joinWalk s p tag) := by
  unfold State.joinWalk
  repeat' first | with_reducible assumption | with_reducible (first | refine State.idEvent_keeps (sub_trans hW rfl) ?_ | refine State.mgmt_keeps (sub_trans hW rfl) ?_) | ((with_reducible conv => arg 3; whnf); first | split | refine Keeps.on_fabric (sub_trans hW rfl) ?_)

theorem State.refuseWalk_keeps {W} (hW : 1024 &&& W = 1024) {s0 s : State} {p} (hk : Keeps W s0 s) : Keeps W s0 (State.refuseWalk s p) := by
  unfold State.refuseWalk
  repeat' first | with_reducible assumption | with_reducible refine State.mgmt_keeps (sub_trans hW rfl) ?_ | ((with_reducible conv => arg 3; whnf); split)

theorem State.visit_keeps {W} (hW : 121630704 &&& W = 121630704) {s0 s : State} {p tag} (hk : Keeps W s0 s) : Keeps W s0 (State.visit s p tag) := by
  unfold State.visit
  repeat' first | with_reducible assumption | with_reducible (first | refine State.joinWalk_keeps (sub_trans hW rfl) ?_ | refine State.refuseWalk_keeps (sub_trans hW rfl) ?_ | refine State.idEvent_keeps (sub_trans hW rfl) ?_ | refine State.askWalk_keeps (sub_trans hW rfl) ?_ | refine State.newLink_keeps (sub_trans hW rfl) ?_) | ((with_reducible conv => arg 3; whnf); split)

theorem State.present_keeps {W} (hW : 121630704 &&& W = 121630704) {s0 s : State} {p flag prev dev} (hk : Keeps W s0 s) : Keeps W s0 (State.present s p flag prev dev) := by
  unfold State.present
  repeat' first | with_reducible assumption | with_reducible (first | refine State.idEvent_keeps (sub_trans hW rfl) ?_ | refine State.partnerTakes_keeps (sub_trans hW rfl) ?_ | refine State.mgmt_keeps (sub_trans hW rfl) ?_ | refine State.topology_keeps (sub_trans hW rfl) ?_) | ((with_reducible conv => arg 3; whnf); split)

theorem State.assigned_keeps {W} (hW : 121630704 &&& W = 121630704) {s0 s : State} {id dev} (hk : Keeps W s0 s) : Keeps W s0 (State.assigned s id dev) := by
  unfold State.assigned
  repeat' first | with_reducible assumption | with_reducible (first | refine State.walkNext_keeps (sub_trans hW rfl) ?_ | refine State.takeId_keeps (sub_trans hW rfl) ?_ | refine State.partnerTakes_keeps (sub_trans hW rfl) ?_ | refine State.mgmt_keeps (sub_trans hW rfl) ?_) | ((with_reducible conv => arg 3; whnf); first | split | refine Keeps.on_fabric (sub_trans hW rfl) ?_)

theorem State.reported_keeps {W} (hW : 121630704 &&& W = 121630704) {s0 s : State} {p flag ids} (hk : Keeps W s0 s) : Keeps W s0 (State.reported s p flag ids) := by
  unfold State.reported
  repeat' first | with_reducible assumption | with_reducible (first | refine State.walkNext_keeps (sub_trans hW rfl) ?_ | refine State.walkIfDue_keeps (sub_trans hW rfl) ?_) | ((with_reducible conv => arg 3; whnf); first | split | refine Keeps.on_fabric (sub_trans hW rfl) ?_)

theorem State.detached_keeps {W} (hW : 121630704 &&& W = 121630704) {s0 s : State} {ids} (hk : Keeps W s0 s) : Keeps W s0 (State.detached s ids) := by
  unfold State.detached
  repeat' first | with_reducible assumption | with_reducible (first | refine State.topology_keeps (sub_trans hW rfl) ?_ | refine State.mgmt_keeps (sub_trans hW rfl) ?_) | ((with_reducible conv => arg 3; whnf); first | split | refine Keeps.on_fabric (sub_trans hW rfl) ?_)

theorem State.partLost_keeps {W} (hW : 3072 &&& W = 3072) {s0 s : State} {but} (hk : Keeps W s0 s) : Keeps W s0 (State.partLost s but) := by
  unfold State.partLost
  repeat' first | with_reducible assumption | intro _ | with_reducible (first | refine State.mgmt_keeps (sub_trans hW rfl) ?_ | refine Keeps.foldl ?_ ?_) | ((with_reducible conv => arg 3; whnf); first | split | refine Keeps.on_fabric (sub_trans hW rfl) ?_)

theorem State.enumTake_keeps {W} (hW : 121630704 &&& W = 121630704) {s0 s : State} {p e} (hk : Keeps W s0 s) : Keeps W s0 (State.enumTake s p e) := by
  unfold State.enumTake
  repeat' first | with_reducible assumption | with_reducible (first | refine State.visit_keeps (sub_trans hW rfl) ?_ | refine State.present_keeps (sub_trans hW rfl) ?_ | refine State.assigned_keeps (sub_trans hW rfl) ?_ | refine State.reported_keeps (sub_trans hW rfl) ?_ | refine State.partLost_keeps (sub_trans hW rfl) ?_ | refine State.detached_keeps (sub_trans hW rfl) ?_ | refine State.newLink_keeps (sub_trans hW rfl) ?_) | ((with_reducible conv => arg 3; whnf); split)

theorem State.enumArrives_keeps {W} (hW : 121630704 &&& W = 121630704) {s0 s : State} {p} (hk : Keeps W s0 s) : Keeps W s0 (State.enumArrives s p) := by
  unfold State.enumArrives
  repeat' first | with_reducible assumption | with_reducible (first | refine State.popMsg_keeps (sub_trans hW rfl) ?_ | refine State.pend_keeps (sub_trans hW rfl) ?_ | refine State.enumTake_keeps (sub_trans hW rfl) ?_) | ((with_reducible conv => arg 3; whnf); split)

theorem execEnumMessage_keeps {W} (hW : 121630704 &&& W = 121630704) {s0 s : State} {port} (hk : Keeps W s0 s) : KeepsX W s0 (execEnumMessage port s) := KeepsX.next (State.enumArrives_keeps (sub_trans hW rfl) hk)

theorem State.topologyArrives_keeps {W} (hW : 121630704 &&& W = 121630704) {s0 s : State} {p} (hk : Keeps W s0 s) : Keeps W s0 (State.topologyArrives s p) := by
  unfold State.topologyArrives
  repeat' first | with_reducible assumption | with_reducible (first | refine State.popMsg_keeps (sub_trans hW rfl) ?_ | refine State.pend_keeps (sub_trans hW rfl) ?_ | refine State.applyTable_keeps (sub_trans hW rfl) ?_ | refine State.takeId_keeps (sub_trans hW rfl) ?_ | refine State.onTree_keeps (sub_trans hW rfl) ?_) | ((with_reducible conv => arg 3; whnf); split)

theorem execTopologyMessage_keeps {W} (hW : 121630704 &&& W = 121630704) {s0 s : State} {port} (hk : Keeps W s0 s) : KeepsX W s0 (execTopologyMessage port s) := KeepsX.next (State.topologyArrives_keeps (sub_trans hW rfl) hk)

theorem State.takeOver_keeps {W} (hW : 121630704 &&& W = 121630704) {s0 s : State} (hk : Keeps W s0 s) : Keeps W s0 (State.takeOver s) := by
  unfold State.takeOver
  repeat' first | with_reducible assumption | with_reducible (first | refine State.drawn_keeps (sub_trans hW rfl) ?_ | refine State.startWalk_keeps (sub_trans hW rfl) ?_) | ((with_reducible conv => arg 3; whnf); split)

theorem execRootTakeover_keeps {W} (hW : 121630704 &&& W = 121630704) {s0 s : State} (hk : Keeps W s0 s) : KeepsX W s0 (execRootTakeover s) := KeepsX.next (State.takeOver_keeps (sub_trans hW rfl) hk)

theorem State.snapSend_keeps {W} (hW : 1024 &&& W = 1024) {s0 s : State} {but hops snapId} (hk : Keeps W s0 s) : Keeps W s0 (State.snapSend s but hops snapId) := by
  unfold State.snapSend
  repeat' first | with_reducible assumption | intro _ | with_reducible (first | refine State.mgmt_keeps (sub_trans hW rfl) ?_ | refine Keeps.foldl ?_ ?_) | ((with_reducible conv => arg 3; whnf); first | split)

theorem State.snapshotArrives_keeps {W} (hW : 33596416 &&& W = 33596416) {s0 s : State} {p} (hk : Keeps W s0 s) : Keeps W s0 (State.snapshotArrives s p) := by
  unfold State.snapshotArrives
  repeat' first | with_reducible assumption | intro _ | with_reducible (first | refine State.popMsg_keeps (sub_trans hW rfl) ?_ | refine State.pend_keeps (sub_trans hW rfl) ?_ | refine State.strobe_keeps (sub_trans hW rfl) ?_ | refine State.farPush_keeps (sub_trans hW rfl) ?_ | refine Keeps.foldl ?_ ?_) | ((with_reducible conv => arg 3; whnf); first | split)

theorem execSnapshotMessage_keeps {W} (hW : 33596416 &&& W = 33596416) {s0 s : State} {port} (hk : Keeps W s0 s) : KeepsX W s0 (execSnapshotMessage port s) := by
  unfold execSnapshotMessage
  repeat' first | with_reducible assumption | with_reducible (first | refine KeepsX.next ?_ | refine State.snapshotArrives_keeps (sub_trans hW rfl) ?_) | ((with_reducible conv => arg 3; whnf); split)

theorem State.treeLoses_keeps {W} (hW : 121630704 &&& W = 121630704) {s0 s : State} {p} (hk : Keeps W s0 s) : Keeps W s0 (State.treeLoses s p) := by
  unfold State.treeLoses
  repeat' first | with_reducible assumption | with_reducible (first | refine State.partLost_keeps (sub_trans hW rfl) ?_ | refine State.detached_keeps (sub_trans hW rfl) ?_ | refine State.walkNext_keeps (sub_trans hW rfl) ?_ | refine State.walkIfDue_keeps (sub_trans hW rfl) ?_) | ((with_reducible conv => arg 3; whnf); first | split | refine Keeps.on_fabric (sub_trans hW rfl) ?_)

theorem State.portDown_keeps {W} (hW : 121630704 &&& W = 121630704) {s0 s : State} {p} (hk : Keeps W s0 s) : Keeps W s0 (State.portDown s p) := by
  unfold State.portDown
  repeat' first | with_reducible assumption | with_reducible (first | refine State.portEvWith_keeps (sub_trans hW rfl) ?_ | refine State.setPort_keeps (sub_trans hW rfl) ?_ | refine State.failOwners_keeps (sub_trans hW rfl) ?_ | refine State.collsLost_keeps (sub_trans hW rfl) ?_ | refine State.treeLoses_keeps (sub_trans hW rfl) ?_) | ((with_reducible conv => arg 3; whnf); first | split)

theorem State.portRetrains_keeps {W} (hW : 100918800 &&& W = 100918800) {s0 s : State} {p} (hk : Keeps W s0 s) : Keeps W s0 (State.portRetrains s p) := by
  unfold State.portRetrains
  repeat' first | with_reducible assumption | with_reducible (first | refine State.setPort_keeps (sub_trans hW rfl) ?_ | refine State.portEv_keeps (sub_trans hW rfl) ?_) | ((with_reducible conv => arg 3; whnf); split)

theorem State.linkMeets_keeps {W} (hW : 121630704 &&& W = 121630704) {s0 s : State} {p} (hk : Keeps W s0 s) : Keeps W s0 (State.linkMeets s p) := by
  unfold State.linkMeets
  repeat' first | with_reducible assumption | with_reducible (first | refine State.idEvent_keeps (sub_trans hW rfl) ?_ | refine State.askWalk_keeps (sub_trans hW rfl) ?_ | refine State.newLink_keeps (sub_trans hW rfl) ?_) | ((with_reducible conv => arg 3; whnf); first | split | refine Keeps.on_fabric (sub_trans hW rfl) ?_)

theorem State.portSelf_keeps {W} (hW : 100918800 &&& W = 100918800) {s0 s : State} {p x} (hk : Keeps W s0 s) : Keeps W s0 (State.portSelf s p x) := by
  unfold State.portSelf
  repeat' first | with_reducible assumption | with_reducible (first | refine State.setPort_keeps (sub_trans hW rfl) ?_ | refine State.portEv_keeps (sub_trans hW rfl) ?_) | ((with_reducible conv => arg 3; whnf); split)

theorem State.trained_keeps {W} (hW : 121630704 &&& W = 121630704) {s0 s : State} {p x} (hk : Keeps W s0 s) : Keeps W s0 (State.trained s p x) := by
  unfold State.trained
  repeat' first | with_reducible assumption | with_reducible (first | refine State.setPort_keeps (sub_trans hW rfl) ?_ | refine State.portSelf_keeps (sub_trans hW rfl) ?_ | refine State.pend_keeps (sub_trans hW rfl) ?_ | refine State.portEv_keeps (sub_trans hW rfl) ?_ | refine State.linkMeets_keeps (sub_trans hW rfl) ?_) | ((with_reducible conv => arg 3; whnf); split)

theorem execPortTraining_keeps {W} (hW : 121630704 &&& W = 121630704) {s0 s : State} {port device fabricId _prevId root partnerPort lanes localMask} (hk : Keeps W s0 s) : KeepsX W s0 (execPortTraining port device fabricId _prevId root partnerPort lanes localMask s) := KeepsX.next (State.trained_keeps (sub_trans hW rfl) hk)

theorem State.startTraining_keeps {W} (hW : 33792 &&& W = 33792) {s0 s : State} {p} (hk : Keeps W s0 s) : Keeps W s0 (State.startTraining s p) := by
  unfold State.startTraining
  repeat' first | with_reducible assumption | with_reducible (first | refine State.setPort_keeps (sub_trans hW rfl) ?_ | refine State.pend_keeps (sub_trans hW rfl) ?_) | ((with_reducible conv => arg 3; whnf); split)

theorem execTrainingRetry_keeps {W} (hW : 33792 &&& W = 33792) {s0 s : State} {port} (hk : Keeps W s0 s) : KeepsX W s0 (execTrainingRetry port s) := by
  unfold execTrainingRetry
  repeat' first | with_reducible assumption | with_reducible (first | refine KeepsX.next ?_ | refine State.startTraining_keeps (sub_trans hW rfl) ?_) | ((with_reducible conv => arg 3; whnf); split)

theorem State.spareLane_keeps {W} (hW : 100918800 &&& W = 100918800) {s0 s : State} {p lane} (hk : Keeps W s0 s) : Keeps W s0 (State.spareLane s p lane) := by
  unfold State.spareLane
  repeat' first | with_reducible assumption | with_reducible (first | refine State.setPort_keeps (sub_trans hW rfl) ?_ | refine State.portEv_keeps (sub_trans hW rfl) ?_ | refine State.lifeLog_keeps (sub_trans hW rfl) ?_) | ((with_reducible conv => arg 3; whnf); split)

theorem State.narrowed_keeps {W} (hW : 100917776 &&& W = 100917776) {s0 s : State} {p width} (hk : Keeps W s0 s) : Keeps W s0 (State.narrowed s p width) := by
  unfold State.narrowed
  repeat' first | with_reducible assumption | with_reducible (first | refine State.portEv_keeps (sub_trans hW rfl) ?_ | refine State.lifeLog_keeps (sub_trans hW rfl) ?_) | ((with_reducible conv => arg 3; whnf); split)

theorem State.laneMarginal_keeps {W} (hW : 100918800 &&& W = 100918800) {s0 s : State} {p lane} (hk : Keeps W s0 s) : Keeps W s0 (State.laneMarginal s p lane) := by
  unfold State.laneMarginal
  repeat' first | with_reducible assumption | with_reducible (first | refine State.setPort_keeps (sub_trans hW rfl) ?_ | refine State.spareLane_keeps (sub_trans hW rfl) ?_) | ((with_reducible conv => arg 3; whnf); split)

theorem execLaneMarginal_keeps {W} (hW : 100918800 &&& W = 100918800) {s0 s : State} {port lane} (hk : Keeps W s0 s) : KeepsX W s0 (execLaneMarginal port lane s) := KeepsX.next (State.laneMarginal_keeps (sub_trans hW rfl) hk)

theorem State.laneLost_keeps {W} (hW : 100918800 &&& W = 100918800) {s0 s : State} {p lane} (hk : Keeps W s0 s) : Keeps W s0 (State.laneLost s p lane) := by
  unfold State.laneLost
  repeat' first | with_reducible assumption | with_reducible (first | refine State.setPort_keeps (sub_trans hW rfl) ?_ | refine State.portRetrains_keeps (sub_trans hW rfl) ?_ | refine State.spareLane_keeps (sub_trans hW rfl) ?_) | ((with_reducible conv => arg 3; whnf); split)

theorem execLaneLost_keeps {W} (hW : 100918800 &&& W = 100918800) {s0 s : State} {port lane} (hk : Keeps W s0 s) : KeepsX W s0 (execLaneLost port lane s) := KeepsX.next (State.laneLost_keeps (sub_trans hW rfl) hk)

theorem State.resend_keeps {W} (hW : 100918800 &&& W = 100918800) {s0 s : State} {p seq} (hk : Keeps W s0 s) : Keeps W s0 (State.resend s p seq) := by
  unfold State.resend
  repeat' first | with_reducible assumption | with_reducible (first | refine State.setPort_keeps (sub_trans hW rfl) ?_ | refine State.portRetrains_keeps (sub_trans hW rfl) ?_) | ((with_reducible conv => arg 3; whnf); split)

theorem State.rxBad_keeps {W} (hW : 1024 &&& W = 1024) {s0 s : State} {p} (hk : Keeps W s0 s) : Keeps W s0 (State.rxBad s p) := by
  unfold State.rxBad
  repeat' first | with_reducible assumption | with_reducible refine State.setPort_keeps (sub_trans hW rfl) ?_ | ((with_reducible conv => arg 3; whnf); split)

theorem State.rxPayload_keeps {W} (hW : 100918800 &&& W = 100918800) {s0 s : State} {p v payload} (hk : Keeps W s0 s) : Keeps W s0 (State.rxPayload s p v payload) := by
  unfold State.rxPayload
  repeat' first | with_reducible assumption | intro _ | with_reducible (first | refine State.setPort_keeps (sub_trans hW rfl) ?_ | refine State.portEv_keeps (sub_trans hW rfl) ?_ | refine Keeps.foldl ?_ ?_) | ((with_reducible conv => arg 3; whnf); first | split)

theorem State.pumpAck_keeps {W} (hW : 1024 &&& W = 1024) {s0 s : State} {p} (hk : Keeps W s0 s) : Keeps W s0 (State.pumpAck s p) := by
  unfold State.pumpAck
  repeat' first | with_reducible assumption | with_reducible (first | refine State.pumpPort_keeps (sub_trans hW rfl) ?_ | refine State.setPort_keeps (sub_trans hW rfl) ?_) | ((with_reducible conv => arg 3; whnf); split)

theorem State.rxData_keeps {W} (hW : 100918800 &&& W = 100918800) {s0 s : State} {p f} (hk : Keeps W s0 s) : Keeps W s0 (State.rxData s p f) := by
  unfold State.rxData
  repeat' first | with_reducible assumption | with_reducible (first | refine State.setPort_keeps (sub_trans hW rfl) ?_ | refine State.rxBad_keeps (sub_trans hW rfl) ?_ | refine State.pumpPort_keeps (sub_trans hW rfl) ?_ | refine State.rxPayload_keeps (sub_trans hW rfl) ?_ | refine State.pumpAck_keeps (sub_trans hW rfl) ?_) | ((with_reducible conv => arg 3; whnf); split)

theorem State.rxBare_keeps {W} (hW : 1024 &&& W = 1024) {s0 s : State} {p f} (hk : Keeps W s0 s) : Keeps W s0 (State.rxBare s p f) := by
  unfold State.rxBare
  repeat' first | with_reducible assumption | with_reducible refine State.setPort_keeps (sub_trans hW rfl) ?_ | ((with_reducible conv => arg 3; whnf); split)

theorem State.rxFlit_keeps {W} (hW : 1024 &&& W = 1024) {s0 s : State} {p ftype f damaged} {take : State → State} (h : Keeps W s0 s) (hf : ∀ t, Keeps W s0 t → Keeps W s0 (take t)) :
    Keeps W s0 (s.rxFlit p ftype f damaged take) := by
  unfold State.rxFlit
  repeat' first | with_reducible assumption | with_reducible refine State.rxBad_keeps (sub_trans hW rfl) ?_ | with_reducible refine State.setPort_keeps (sub_trans hW rfl) ?_ | with_reducible apply hf | ((with_reducible conv => arg 3; whnf); split)

theorem execDataFlit_keeps {W} (hW : 100918800 &&& W = 100918800) {s0 s : State} {port bytes errs} (hk : Keeps W s0 s) : KeepsX W s0 (execDataFlit port bytes errs s) := by
  unfold execDataFlit
  repeat' first | with_reducible assumption | intro _ | with_reducible (first | refine KeepsX.next ?_ | refine State.rxFlit_keeps (sub_trans hW rfl) ?_ ?_ | refine State.rxData_keeps (sub_trans hW rfl) ?_) | ((with_reducible conv => arg 3; whnf); first | with_reducible assumption | split | refine Keeps.pair ‹_› ?_)

theorem execIdleFlit_keeps {W} (hW : 1024 &&& W = 1024) {s0 s : State} {port bytes errs} (hk : Keeps W s0 s) : KeepsX W s0 (execIdleFlit port bytes errs s) := by
  unfold execIdleFlit
  repeat' first | with_reducible assumption | intro _ | with_reducible (first | refine KeepsX.next ?_ | refine State.rxFlit_keeps (sub_trans hW rfl) ?_ ?_ | refine State.rxBare_keeps (sub_trans hW rfl) ?_ | refine State.pumpPort_keeps (sub_trans hW rfl) ?_) | ((with_reducible conv => arg 3; whnf); first | with_reducible assumption | split | refine Keeps.pair ‹_› ?_)

theorem execNakFlit_keeps {W} (hW : 100918800 &&& W = 100918800) {s0 s : State} {port bytes errs} (hk : Keeps W s0 s) : KeepsX W s0 (execNakFlit port bytes errs s) := by
  unfold execNakFlit
  repeat' first | with_reducible assumption | intro _ | with_reducible (first | refine KeepsX.next ?_ | refine State.rxFlit_keeps (sub_trans hW rfl) ?_ ?_ | refine State.rxBare_keeps (sub_trans hW rfl) ?_ | refine State.resend_keeps (sub_trans hW rfl) ?_ | refine State.pumpPort_keeps (sub_trans hW rfl) ?_) | ((with_reducible conv => arg 3; whnf); first | with_reducible assumption | split | refine Keeps.pair ‹_› ?_)

theorem State.replayTimeout_keeps {W} (hW : 100918800 &&& W = 100918800) {s0 s : State} {e} (hk : Keeps W s0 s) : Keeps W s0 (State.replayTimeout s e) := by
  unfold State.replayTimeout
  repeat' first | with_reducible assumption | with_reducible (first | refine State.setPort_keeps (sub_trans hW rfl) ?_ | refine State.resend_keeps (sub_trans hW rfl) ?_) | ((with_reducible conv => arg 3; whnf); split)

theorem execReplayTimeout_keeps {W} (hW : 100918800 &&& W = 100918800) {s0 s : State} {port} (hk : Keeps W s0 s) : KeepsX W s0 (execReplayTimeout port s) := by
  unfold execReplayTimeout
  repeat' first | with_reducible assumption | intro _ | with_reducible (first | refine KeepsX.next ?_ | refine State.replayTimeout_keeps (sub_trans hW rfl) ?_) | ((with_reducible conv => arg 3; whnf); first | with_reducible assumption | split | refine Keeps.pair ‹_› ?_ | refine KeepsO.get ‹_› ?_ | refine KeepsE.get ‹_› ?_ | refine KeepsX.get ‹_› ?_) | dsimp only

theorem State.retrained_keeps {W} (hW : 121630704 &&& W = 121630704) {s0 s : State} {p x} (hk : Keeps W s0 s) : Keeps W s0 (State.retrained s p x) := by
  unfold State.retrained
  repeat' first | with_reducible assumption | with_reducible (first | refine State.setPort_keeps (sub_trans hW rfl) ?_ | refine State.portDown_keeps (sub_trans hW rfl) ?_ | refine State.portSelf_keeps (sub_trans hW rfl) ?_ | refine State.pend_keeps (sub_trans hW rfl) ?_ | refine State.spareLane_keeps (sub_trans hW rfl) ?_ | refine State.narrowed_keeps (sub_trans hW rfl) ?_ | refine State.pumpPort_keeps (sub_trans hW rfl) ?_) | ((with_reducible conv => arg 3; whnf); split)

theorem execPortRetrained_keeps {W} (hW : 121630704 &&& W = 121630704) {s0 s : State} {port x} (hk : Keeps W s0 s) : KeepsX W s0 (execPortRetrained port x s) := KeepsX.next (State.retrained_keeps (sub_trans hW rfl) hk)

theorem execPortHoldExpiry_keeps {W} (hW : 121630704 &&& W = 121630704) {s0 s : State} {port} (hk : Keeps W s0 s) : KeepsX W s0 (execPortHoldExpiry port s) := by
  unfold execPortHoldExpiry
  repeat' first | with_reducible assumption | with_reducible (first | refine KeepsX.next ?_ | refine State.portDown_keeps (sub_trans hW rfl) ?_) | ((with_reducible conv => arg 3; whnf); split)

theorem State.portStops_keeps {W} (hW : 121630704 &&& W = 121630704) {s0 s : State} {p} (hk : Keeps W s0 s) : Keeps W s0 (State.portStops s p) := by
  unfold State.portStops
  repeat' first | with_reducible assumption | with_reducible (first | refine State.portDown_keeps (sub_trans hW rfl) ?_ | refine State.setPort_keeps (sub_trans hW rfl) ?_ | refine State.pend_keeps (sub_trans hW rfl) ?_) | ((with_reducible conv => arg 3; whnf); split)

theorem State.frefChange_keeps {W} (hW : 121630706 &&& W = 121630706) {s0 s : State} {present} (hk : Keeps W s0 s) : Keeps W s0 (State.frefChange s present) := by
  unfold State.frefChange
  repeat' first | with_reducible assumption | intro _ | with_reducible (first | refine State.present_keeps (sub_trans hW rfl) ?_ | refine State.startTraining_keeps (sub_trans hW rfl) ?_ | refine State.setPort_keeps (sub_trans hW rfl) ?_ | refine State.pend_keeps (sub_trans hW rfl) ?_ | refine State.portStops_keeps (sub_trans hW rfl) ?_ | refine Keeps.foldl ?_ ?_) | ((with_reducible conv => arg 3; whnf); first | split | refine Keeps.on_dev (sub_trans hW rfl) ?_)

theorem execFrefLost_keeps {W} (hW : 121630706 &&& W = 121630706) {s0 s : State} {present} (hk : Keeps W s0 s) : KeepsX W s0 (execFrefLost present s) := by
  unfold execFrefLost
  repeat' first | with_reducible assumption | with_reducible (first | refine KeepsX.next ?_ | refine State.frefChange_keeps (sub_trans hW rfl) ?_ | refine State.present_keeps (sub_trans hW rfl) ?_) | ((with_reducible conv => arg 3; whnf); split)

theorem State.answer_keeps {W} (hW : 1024 &&& W = 1024) {s0 s : State} {own p m status data} (hk : Keeps W s0 s) : Keeps W s0 (State.answer s own p m status data) := by
  unfold State.answer
  repeat' first | with_reducible assumption | with_reducible refine State.farAnswer_keeps (sub_trans hW rfl) ?_ | ((with_reducible conv => arg 3; whnf); split)

theorem State.reqData_keeps {W} (hW : 119531472 &&& W = 119531472) {s0 s : State} {p b d m} (hk : Keeps W s0 s) : Keeps W s0 (State.reqData s p b d m) := by
  unfold State.reqData
  repeat' first | with_reducible assumption | intro _ | with_reducible (first | refine State.writeAt_keeps (sub_trans hW rfl) ?_ | refine State.answer_keeps (sub_trans hW rfl) ?_ | refine State.touchAt_keeps (sub_trans hW rfl) ?_) | ((with_reducible conv => arg 3; whnf); first | with_reducible assumption | split | refine Keeps.pair ‹_› ?_)

theorem State.reqTake_keeps {W} (hW : 132114420 &&& W = 132114420) {s0 s : State} {p m} (hk : Keeps W s0 s) : Keeps W s0 (State.reqTake s p m) := by
  unfold State.reqTake
  repeat' first | with_reducible assumption | intro _ | with_reducible (first | refine State.answer_keeps (sub_trans hW rfl) ?_ | refine State.reqData_keeps (sub_trans hW rfl) ?_ | refine State.ridgeGets_keeps (sub_trans hW rfl) ?_) | ((with_reducible conv => arg 3; whnf); first | with_reducible assumption | split | refine Keeps.pair ‹_› ?_ | refine Keeps.on_valley (sub_trans hW rfl) ?_)

theorem State.reqArrives_keeps {W} (hW : 400549876 &&& W = 400549876) {s0 s : State} {p kind} (hk : Keeps W s0 s) : Keeps W s0 (State.reqArrives s p kind) := by
  unfold State.reqArrives
  repeat' first | with_reducible assumption | with_reducible (first | refine State.raced_keeps (sub_trans hW rfl) ?_ ?_ | refine State.popMsg_keeps (sub_trans hW rfl) ?_ | refine State.drawn_keeps (sub_trans hW rfl) ?_ | refine State.reqTake_keeps (sub_trans hW rfl) ?_) | ((with_reducible conv => arg 3; whnf); split)

theorem execFarWrite_keeps {W} (hW : 400549876 &&& W = 400549876) {s0 s : State} {port} (hk : Keeps W s0 s) : KeepsX W s0 (execFarWrite port s) := KeepsX.next (State.reqArrives_keeps (sub_trans hW rfl) hk)

theorem execFarRead_keeps {W} (hW : 400549876 &&& W = 400549876) {s0 s : State} {port} (hk : Keeps W s0 s) : KeepsX W s0 (execFarRead port s) := KeepsX.next (State.reqArrives_keeps (sub_trans hW rfl) hk)

theorem execFarAtomicAdd_keeps {W} (hW : 400549876 &&& W = 400549876) {s0 s : State} {port} (hk : Keeps W s0 s) : KeepsX W s0 (execFarAtomicAdd port s) := KeepsX.next (State.reqArrives_keeps (sub_trans hW rfl) hk)

theorem execFarValley_keeps {W} (hW : 400549876 &&& W = 400549876) {s0 s : State} {port} (hk : Keeps W s0 s) : KeepsX W s0 (execFarValley port s) := KeepsX.next (State.reqArrives_keeps (sub_trans hW rfl) hk)

theorem State.readPieces_keeps {W} (hW : 119531408 &&& W = 119531408) {s0 a__internal_hyg04 : State} {a own data a__internal_hyg0} (hk : Keeps W s0 a__internal_hyg04) : Keeps W s0 (State.readPieces a own data a__internal_hyg0 a__internal_hyg04).1 := by
  fun_induction State.readPieces a own data a__internal_hyg0 a__internal_hyg04 <;> (repeat' first | with_reducible assumption | intro _ | with_reducible refine State.putAt_keeps (sub_trans hW rfl) ?_ | with_reducible apply_assumption | ((with_reducible conv => arg 3; whnf); first | with_reducible assumption | split | refine Keeps.pair ‹_› ?_ | refine KeepsO.get ‹_› ?_ | refine KeepsE.get ‹_› ?_ | refine KeepsX.get ‹_› ?_) | dsimp only)

theorem State.battenPieces_keeps {W} (hW : 16 &&& W = 16) {s0 s : State} {fn q slot data ps} (hk : Keeps W s0 s) : Keeps W s0 (State.battenPieces s fn q slot data ps) := by
  unfold State.battenPieces
  repeat' first | with_reducible assumption | with_reducible refine State.updItem_keeps (sub_trans hW rfl) ?_ | ((with_reducible conv => arg 3; whnf); split)

theorem State.addAnswered_keeps {W} (hW : 121628592 &&& W = 121628592) {s0 s : State} {b lid node prior} (hk : Keeps W s0 s) : Keeps W s0 (State.addAnswered s b lid node prior) := by
  unfold State.addAnswered
  repeat' first | with_reducible assumption | intro _ | with_reducible (first | refine State.writeAt_keeps (sub_trans hW rfl) ?_ | refine State.collEnd_keeps (sub_trans hW rfl) ?_ | refine State.collFail_keeps (sub_trans hW rfl) ?_) | ((with_reducible conv => arg 3; whnf); first | with_reducible assumption | split | refine Keeps.pair ‹_› ?_)

theorem State.respOk_keeps {W} (hW : 121628656 &&& W = 121628656) {s0 s : State} {r m} (hk : Keeps W s0 s) : Keeps W s0 (State.respOk s r m) := by
  unfold State.respOk
  repeat' first | with_reducible assumption | intro _ | with_reducible (first | refine State.battenPieces_keeps (sub_trans hW rfl) ?_ | refine State.readPieces_keeps (sub_trans hW rfl) ?_ | refine State.failOwner_keeps (sub_trans hW rfl) ?_ | refine State.addAnswered_keeps (sub_trans hW rfl) ?_) | ((with_reducible conv => arg 3; whnf); first | with_reducible assumption | split | refine Keeps.pair ‹_› ?_)

theorem State.lateResponse_keeps {W} (hW : 1024 &&& W = 1024) {s0 s : State} {p} (hk : Keeps W s0 s) : Keeps W s0 (State.lateResponse s p) := by
  unfold State.lateResponse
  repeat' first | with_reducible assumption | with_reducible refine State.setPort_keeps (sub_trans hW rfl) ?_ | ((with_reducible conv => arg 3; whnf); split)

theorem State.respArrives_keeps {W} (hW : 390064112 &&& W = 390064112) {s0 s : State} {p kind} (hk : Keeps W s0 s) : Keeps W s0 (State.respArrives s p kind) := by
  unfold State.respArrives
  repeat' first | with_reducible assumption | with_reducible (first | refine State.popMsg_keeps (sub_trans hW rfl) ?_ | refine State.lateResponse_keeps (sub_trans hW rfl) ?_ | refine State.setPort_keeps (sub_trans hW rfl) ?_ | refine State.raced_keeps (sub_trans hW rfl) ?_ ?_ | refine State.respOk_keeps (sub_trans hW rfl) ?_ | refine State.failOwner_keeps (sub_trans hW rfl) ?_ | refine State.farNext_keeps (sub_trans hW rfl) ?_) | ((with_reducible conv => arg 3; whnf); first | split)

theorem execFarWriteAck_keeps {W} (hW : 390064112 &&& W = 390064112) {s0 s : State} {port} (hk : Keeps W s0 s) : KeepsX W s0 (execFarWriteAck port s) := KeepsX.next (State.respArrives_keeps (sub_trans hW rfl) hk)

theorem execFarReadData_keeps {W} (hW : 390064112 &&& W = 390064112) {s0 s : State} {port} (hk : Keeps W s0 s) : KeepsX W s0 (execFarReadData port s) := KeepsX.next (State.respArrives_keeps (sub_trans hW rfl) hk)

theorem execFarAtomicAck_keeps {W} (hW : 390064112 &&& W = 390064112) {s0 s : State} {port} (hk : Keeps W s0 s) : KeepsX W s0 (execFarAtomicAck port s) := KeepsX.next (State.respArrives_keeps (sub_trans hW rfl) hk)

theorem execFarValleyAck_keeps {W} (hW : 390064112 &&& W = 390064112) {s0 s : State} {port} (hk : Keeps W s0 s) : KeepsX W s0 (execFarValleyAck port s) := KeepsX.next (State.respArrives_keeps (sub_trans hW rfl) hk)

theorem State.respExpires_keeps {W} (hW : 121628656 &&& W = 121628656) {s0 s : State} {p tag} (hk : Keeps W s0 s) : Keeps W s0 (State.respExpires s p tag) := by
  unfold State.respExpires
  repeat' first | with_reducible assumption | with_reducible (first | refine State.setPort_keeps (sub_trans hW rfl) ?_ | refine State.failOwners_keeps (sub_trans hW rfl) ?_ | refine State.farNext_keeps (sub_trans hW rfl) ?_) | ((with_reducible conv => arg 3; whnf); split)

theorem execResponseTimeout_keeps {W} (hW : 121628656 &&& W = 121628656) {s0 s : State} {port tag} (hk : Keeps W s0 s) : KeepsX W s0 (execResponseTimeout port tag s) := KeepsX.next (State.respExpires_keeps (sub_trans hW rfl) hk)

theorem State.forward_keeps {W} (hW : 100918800 &&& W = 100918800) {s0 s : State} {p v m} (hk : Keeps W s0 s) : Keeps W s0 (State.forward s p v m) := by
  unfold State.forward
  repeat' first | with_reducible assumption | with_reducible (first | refine State.answer_keeps (sub_trans hW rfl) ?_ | refine State.portEv_keeps (sub_trans hW rfl) ?_ | refine State.farPush_keeps (sub_trans hW rfl) ?_) | ((with_reducible conv => arg 3; whnf); split)

theorem State.forwards_keeps {W} (hW : 100918800 &&& W = 100918800) {s0 s : State} {p v} (hk : Keeps W s0 s) : Keeps W s0 (State.forwards s p v) := by
  unfold State.forwards
  repeat' first | with_reducible assumption | with_reducible (first | refine State.popMsg_keeps (sub_trans hW rfl) ?_ | refine State.forward_keeps (sub_trans hW rfl) ?_) | ((with_reducible conv => arg 3; whnf); split)

theorem execFarForward_keeps {W} (hW : 100918800 &&& W = 100918800) {s0 s : State} {port vc} (hk : Keeps W s0 s) : KeepsX W s0 (execFarForward port vc s) := KeepsX.next (State.forwards_keeps (sub_trans hW rfl) hk)

theorem State.healthWrite_keeps {W} (hW : 119530384 &&& W = 119530384) {s0 s : State} {b addr rcd} (hk : Keeps W s0 s) : Keeps W s0 (State.healthWrite s b addr rcd) := by
  unfold State.healthWrite
  repeat' first | with_reducible assumption | with_reducible (first | refine State.drawn_keeps (sub_trans hW rfl) ?_ | refine State.writeAt_keeps (sub_trans hW rfl) ?_) | ((with_reducible conv => arg 3; whnf); split)

theorem State.memHealth_keeps {W} (hW : 119530384 &&& W = 119530384) {s0 s : State} {b} (hk : Keeps W s0 s) : Keeps W s0 (State.memHealth s b) := by
  unfold State.memHealth
  repeat' first | with_reducible assumption | intro _ | with_reducible (first | refine State.healthWrite_keeps (sub_trans hW rfl) ?_ | refine State.pend_keeps (sub_trans hW rfl) ?_ | refine Keeps.foldl ?_ ?_) | ((with_reducible conv => arg 3; whnf); first | split)

theorem execMemoryHealthRecord_keeps {W} (hW : 119530384 &&& W = 119530384) {s0 s : State} {bay} (hk : Keeps W s0 s) : KeepsX W s0 (execMemoryHealthRecord bay s) := by
  unfold execMemoryHealthRecord
  repeat' first | with_reducible assumption | with_reducible (first | refine KeepsX.next ?_ | refine State.memHealth_keeps (sub_trans hW rfl) ?_) | ((with_reducible conv => arg 3; whnf); split)

theorem State.linkHealth_keeps {W} (hW : 119530384 &&& W = 119530384) {s0 s : State} {b} (hk : Keeps W s0 s) : Keeps W s0 (State.linkHealth s b) := by
  unfold State.linkHealth
  repeat' first | with_reducible assumption | intro _ | with_reducible (first | refine State.healthWrite_keeps (sub_trans hW rfl) ?_ | refine State.pend_keeps (sub_trans hW rfl) ?_ | refine Keeps.foldl ?_ ?_) | ((with_reducible conv => arg 3; whnf); first | split)

theorem execLinkHealthRecord_keeps {W} (hW : 119530384 &&& W = 119530384) {s0 s : State} {bay} (hk : Keeps W s0 s) : KeepsX W s0 (execLinkHealthRecord bay s) := by
  unfold execLinkHealthRecord
  repeat' first | with_reducible assumption | with_reducible (first | refine KeepsX.next ?_ | refine State.linkHealth_keeps (sub_trans hW rfl) ?_) | ((with_reducible conv => arg 3; whnf); split)

theorem State.violate_keeps {W} (hW : 100921904 &&& W = 100921904) {s0 s : State} {b reason} (hk : Keeps W s0 s) : Keeps W s0 (State.violate s b reason) := by
  unfold State.violate
  repeat' first | with_reducible assumption | with_reducible (first | refine State.setBay_keeps (sub_trans hW rfl) ?_ | refine State.raiseIn_keeps (sub_trans hW rfl) ?_) | ((with_reducible conv => arg 3; whnf); first | split | refine Keeps.on_power (sub_trans hW rfl) ?_)

theorem State.powerRecord_keeps {W} (hW : 119534512 &&& W = 119534512) {s0 s : State} {fn} (hk : Keeps W s0 s) : Keeps W s0 (State.powerRecord s fn) := by
  unfold State.powerRecord
  repeat' first | with_reducible assumption | with_reducible (first | refine State.pend_keeps (sub_trans hW rfl) ?_ | refine State.drawn_keeps (sub_trans hW rfl) ?_ | refine State.hostWrite_keeps (sub_trans hW rfl) ?_ | refine State.healthWrite_keeps (sub_trans hW rfl) ?_ | refine State.setBay_keeps (sub_trans hW rfl) ?_) | ((with_reducible conv => arg 3; whnf); first | split | refine Keeps.on_power (sub_trans hW rfl) ?_)

theorem execPowerRecord_keeps {W} (hW : 119534512 &&& W = 119534512) {s0 s : State} {fn} (hk : Keeps W s0 s) : KeepsX W s0 (execPowerRecord fn s) := by
  unfold execPowerRecord
  repeat' first | with_reducible assumption | with_reducible (first | refine KeepsX.next ?_ | refine State.powerRecord_keeps (sub_trans hW rfl) ?_) | ((with_reducible conv => arg 3; whnf); split)

theorem State.evidenceWrite_keeps {W} (hW : 65568 &&& W = 65568) {s0 s : State} {b key} (hk : Keeps W s0 s) : Keeps W s0 (State.evidenceWrite s b key) := by
  unfold State.evidenceWrite
  repeat' first | with_reducible assumption | with_reducible (first | refine State.hostWrite_keeps (sub_trans hW rfl) ?_ | refine State.setBay_keeps (sub_trans hW rfl) ?_) | ((with_reducible conv => arg 3; whnf); split)

theorem State.deriveKey_keeps {W} (hW : 65572 &&& W = 65572) {s0 s : State} {b} (hk : Keeps W s0 s) : Keeps W s0 (State.deriveKey s b) := by
  unfold State.deriveKey
  repeat' first | with_reducible assumption | with_reducible (first | refine State.setBay_keeps (sub_trans hW rfl) ?_ | refine State.evidenceWrite_keeps (sub_trans hW rfl) ?_) | ((with_reducible conv => arg 3; whnf); first | split | refine Keeps.on_sec (sub_trans hW rfl) ?_ rfl rfl)

theorem State.dropKey_keeps {W} (hW : 32 &&& W = 32) {s0 s : State} {b} (hk : Keeps W s0 s) : Keeps W s0 (State.dropKey s b) := by
  unfold State.dropKey
  repeat' first | with_reducible assumption | with_reducible refine State.setBay_keeps (sub_trans hW rfl) ?_ | ((with_reducible conv => arg 3; whnf); split)

theorem State.resetKey_keeps {W} (hW : 32 &&& W = 32) {s0 s : State} {b} (hk : Keeps W s0 s) : Keeps W s0 (State.resetKey s b) := by
  unfold State.resetKey
  repeat' first | with_reducible assumption | with_reducible (first | refine State.setBay_keeps (sub_trans hW rfl) ?_ | refine State.dropKey_keeps (sub_trans hW rfl) ?_) | ((with_reducible conv => arg 3; whnf); split)

theorem State.evidenceGo_keeps {W} (hW : 65568 &&& W = 65568) {s0 s : State} {b} (hk : Keeps W s0 s) : Keeps W s0 (State.evidenceGo s b) := by
  unfold State.evidenceGo
  repeat' first | with_reducible assumption | with_reducible (first | refine State.evidenceWrite_keeps (sub_trans hW rfl) ?_ | refine State.setBay_keeps (sub_trans hW rfl) ?_) | ((with_reducible conv => arg 3; whnf); split)

end Sys2Proof.Machine
end

