-- ==== Sys2Proof/Laws/KeepsBays.lean ====
section
/-! SUPPORT. What Keeps.lean says of every operation, for bays, their resets and scrubs, and repair. -/

set_option maxRecDepth 4000

namespace Sys2Proof.Machine

theorem nextOr_keeps {W} (hW : 0 &&& W = 0) {s0 s : State} {o} (h : Keeps W s0 s) (h1 : KeepsX W s0 o) : Keeps W s0 (nextOr s o) := by
  unfold nextOr
  split
  · exact KeepsX.get rfl h1
  · exact h

theorem State.landHost_keeps {W} (hW : 65536 &&& W = 65536) {s0 s : State} {ws} (hk : Keeps W s0 s) : Keeps W s0 (State.landHost s ws) := by
  unfold State.landHost
  repeat' first | with_reducible assumption | intro _ | with_reducible (first | refine State.hostWrite_keeps (sub_trans hW rfl) ?_ | refine Keeps.foldl ?_ ?_) | ((with_reducible conv => arg 3; whnf); first | split)

theorem State.landLines_keeps {W} (hW : 100917776 &&& W = 100917776) {s0 s t : State} {k whole cells} (hk : Keeps W s0 s) (hk1 : Keeps W s0 t) :
    Keeps W s0 (s.landLines t k whole cells) := by
  unfold State.landLines
  refine Keeps.foldl ?_ (fun _ _ ht => State.mergeLine_keeps (sub_trans hW rfl) ht)
  split
  · exact hk
  · exact State.setStack_keeps (sub_trans hW rfl) hk

theorem State.landWords_keeps {W} (hW : 119268240 &&& W = 119268240) {s0 s t : State} {cells} (hk : Keeps W s0 s) (hk1 : Keeps W s0 t) : Keeps W s0 (State.landWords s t cells) := by
  unfold State.landWords
  repeat' first | with_reducible assumption | intro _ | with_reducible (first | refine State.readFlaw_keeps (sub_trans hW rfl) ?_ | refine Keeps.foldl ?_ ?_ | refine Keeps.foldl1 ?_ ?_) | ((with_reducible conv => arg 3; whnf); first | with_reducible assumption | split | refine Keeps.pair ‹_› ?_ | refine KeepsO.get ‹_› ?_ | refine KeepsE.get ‹_› ?_ | refine KeepsX.get ‹_› ?_) | dsimp only | refine Keeps.on_spadFlaws (sub_trans hW rfl) ?_

theorem State.landMerge_keeps {W} (hW : 119530384 &&& W = 119530384) {s0 s t : State} (h : Keeps W s0 s) (h1 : Keeps W s0 t) : Keeps W s0 (s.landMerge t) := by
  unfold State.landMerge
  refine State.drawn_keeps (sub_trans hW rfl) (State.landHost_keeps (sub_trans hW rfl) (Keeps.merged (sub_trans hW rfl) ?_ _ _ _ _ _))
  exact State.landWords_keeps (sub_trans hW rfl) (Keeps.foldl h (fun _ _ hu => State.landLines_keeps (sub_trans hW rfl) hu h1)) h1

theorem State.unstopped_keeps {W} (hW : 16777250 &&& W = 16777250) {s0 s : State} {b} (hk : Keeps W s0 s) : Keeps W s0 (State.unstopped s b) := by
  unfold State.unstopped
  repeat' first | with_reducible assumption | with_reducible refine State.setBay_keeps (sub_trans hW rfl) ?_ | ((with_reducible conv => arg 3; whnf); first | split | refine Keeps.on_devRepairs (sub_trans hW rfl) ?_)

theorem State.wouldWork_keeps {W} (hW : 396355570 &&& W = 396355570) {s0 s : State} {c w} (h : Keeps W s0 s) : Keeps W s0 (s.wouldWork c w) := by
  have hu : Keeps W s0 (s.unstopped w.bay) := State.unstopped_keeps (sub_trans hW rfl) h
  unfold State.wouldWork
  dsimp only
  split
  · exact nextOr_keeps (sub_trans hW rfl) hu (execMatrixWorkOrder_keeps (sub_trans hW rfl) hu)
  · refine Keeps.foldlMem hu (fun t f hf ht => ?_)
    simp only [List.mem_cons, List.not_mem_nil, or_false] at hf
    rcases hf with rfl | rfl | rfl | rfl | rfl | rfl | rfl | rfl | rfl | rfl | rfl
    · exact nextOr_keeps (sub_trans hW rfl) ht (execFusedChain_keeps (sub_trans hW rfl) ht)
    · exact nextOr_keeps (sub_trans hW rfl) ht (execSparProgram_keeps (sub_trans hW rfl) ht)
    · exact nextOr_keeps (sub_trans hW rfl) ht (execSoftmax_keeps (sub_trans hW rfl) ht)
    · exact nextOr_keeps (sub_trans hW rfl) ht (execPartialState_keeps (sub_trans hW rfl) ht)
    · exact nextOr_keeps (sub_trans hW rfl) ht (execMergeStates_keeps (sub_trans hW rfl) ht)
    · exact nextOr_keeps (sub_trans hW rfl) ht (execApplyState_keeps (sub_trans hW rfl) ht)
    · exact nextOr_keeps (sub_trans hW rfl) ht (execLayerNorm_keeps (sub_trans hW rfl) ht)
    · exact nextOr_keeps (sub_trans hW rfl) ht (execRmsNorm_keeps (sub_trans hW rfl) ht)
    · exact nextOr_keeps (sub_trans hW rfl) ht (execRouterSelect_keeps (sub_trans hW rfl) ht)
    · exact nextOr_keeps (sub_trans hW rfl) ht (execRouterAdmit_keeps (sub_trans hW rfl) ht)
    · exact nextOr_keeps (sub_trans hW rfl) ht (execRouterCombine_keeps (sub_trans hW rfl) ht)
  · exact Keeps.foldl hu (fun _ _ ht => Keeps.foldl ht (fun _ _ hv => State.dmaStream_keeps (sub_trans hW rfl) hv))
  · exact State.valleyRun_keeps (sub_trans hW rfl) (State.valleyRun_keeps (sub_trans hW rfl) hu)
  · exact nextOr_keeps (sub_trans hW rfl) hu (execExitTest_keeps (sub_trans hW rfl) hu)
  · exact hu

theorem State.landWork_keeps {W} (hW : 396355570 &&& W = 396355570) {s0 s : State} {c w} (hk : Keeps W s0 s) : Keeps W s0 (State.landWork s c w) := by
  unfold State.landWork
  repeat' first | with_reducible assumption | with_reducible (first | refine State.landMerge_keeps (sub_trans hW rfl) ?_ ?_ | refine State.wouldWork_keeps (sub_trans hW rfl) ?_) | ((with_reducible conv => arg 3; whnf); split)

theorem State.landBay_keeps {W} (hW : 396355570 &&& W = 396355570) {s0 s : State} {b} (hk : Keeps W s0 s) : Keeps W s0 (State.landBay s b) := by
  unfold State.landBay
  repeat' first | with_reducible assumption | intro _ | with_reducible (first | refine State.landWork_keeps (sub_trans hW rfl) ?_ | refine State.landMerge_keeps (sub_trans hW rfl) ?_ ?_ | refine State.unstopped_keeps (sub_trans hW rfl) ?_ | refine State.evRun_keeps (sub_trans hW rfl) ?_ | refine State.segmentArrives_keeps (sub_trans hW rfl) ?_ | refine Keeps.foldl ?_ ?_) | ((with_reducible conv => arg 3; whnf); first | split)

theorem State.landCopy_keeps {W} (hW : 119531472 &&& W = 119531472) {s0 s : State} {fn q it} (hk : Keeps W s0 s) : Keeps W s0 (State.landCopy s fn q it) := by
  unfold State.landCopy
  repeat' first | with_reducible assumption | intro _ | with_reducible (first | refine State.landMerge_keeps (sub_trans hW rfl) ?_ ?_ | refine State.itemRace_keeps (sub_trans hW rfl) ?_ ?_ | refine State.copyMove_keeps (sub_trans hW rfl) ?_) | ((with_reducible conv => arg 3; whnf); first | with_reducible assumption | split | refine Keeps.pair ‹_› ?_ | refine KeepsO.get ‹_› ?_ | refine KeepsE.get ‹_› ?_ | refine KeepsX.get ‹_› ?_) | dsimp only

theorem State.takeSlips_keeps {W} (hW : 37756944 &&& W = 37756944) {s0 s : State} {b} (hk : Keeps W s0 s) : Keeps W s0 (State.takeSlips s b) := by
  unfold State.takeSlips
  repeat' first | with_reducible assumption | intro _ | with_reducible (first | refine State.report_keeps (sub_trans hW rfl) ?_ | refine State.takeReport_keeps (sub_trans hW rfl) ?_ | refine Keeps.foldl ?_ ?_) | ((with_reducible conv => arg 3; whnf); first | split)

theorem State.endLive_keeps {W} (hW : 119531504 &&& W = 119531504) {s0 s : State} {fn st keepSlipped p} (hk : Keeps W s0 s) : Keeps W s0 (State.endLive s fn st keepSlipped p) := by
  unfold State.endLive
  repeat' first | with_reducible assumption | with_reducible (first | refine State.landCopy_keeps (sub_trans hW rfl) ?_ | refine State.endItem_keeps (sub_trans hW rfl) ?_ | refine State.drawn_keeps (sub_trans hW rfl) ?_) | ((with_reducible conv => arg 3; whnf); split)

theorem State.endFn_keeps {W} (hW : 119531504 &&& W = 119531504) {s0 s : State} {fn st keepSlipped} (hk : Keeps W s0 s) : Keeps W s0 (State.endFn s fn st keepSlipped) := by
  unfold State.endFn
  repeat' first | with_reducible assumption | intro _ | with_reducible (first | refine State.endLive_keeps (sub_trans hW rfl) ?_ | refine Keeps.foldl ?_ ?_) | ((with_reducible conv => arg 3; whnf); first | split)

theorem State.dropMsg_keeps {W} (hW : 1056 &&& W = 1056) {s0 s : State} {m} (hk : Keeps W s0 s) : Keeps W s0 (State.dropMsg s m) := by
  unfold State.dropMsg
  repeat' first | with_reducible assumption | with_reducible (first | refine State.farAnswer_keeps (sub_trans hW rfl) ?_ | refine State.windowIdle_keeps (sub_trans hW rfl) ?_) | ((with_reducible conv => arg 3; whnf); split)

theorem State.idleBay_keeps {W} (hW : 134211568 &&& W = 134211568) {s0 s : State} {b st} (hk : Keeps W s0 s) : Keeps W s0 (State.idleBay s b st) := by
  unfold State.idleBay
  repeat' first | with_reducible assumption | intro _ | with_reducible (first | refine State.collFail_keeps (sub_trans hW rfl) ?_ | refine State.setBay_keeps (sub_trans hW rfl) ?_ | refine State.dropMsg_keeps (sub_trans hW rfl) ?_ | refine State.dropOwner_keeps (sub_trans hW rfl) ?_ | refine Keeps.foldl ?_ ?_) | ((with_reducible conv => arg 3; whnf); first | split | refine Keeps.on_coresStackTabReportsNoticesValley (sub_trans hW rfl) ?_)

theorem State.setTdi_keeps {W} (hW : 67174448 &&& W = 67174448) {s0 s : State} {b t} (hk : Keeps W s0 s) : Keeps W s0 (State.setTdi s b t) := by
  unfold State.setTdi
  repeat' first | with_reducible assumption | with_reducible (first | refine State.setBay_keeps (sub_trans hW rfl) ?_ | refine State.msix_keeps (sub_trans hW rfl) ?_) | ((with_reducible conv => arg 3; whnf); split)

theorem State.bayCleared_keeps {W} (hW : 112 &&& W = 112) {s0 s : State} {b} (hk : Keeps W s0 s) : Keeps W s0 (State.bayCleared s b) := by
  unfold State.bayCleared
  repeat' first | with_reducible assumption | with_reducible (first | refine State.setFn_keeps (sub_trans hW rfl) ?_ | refine State.setBay_keeps (sub_trans hW rfl) ?_) | ((with_reducible conv => arg 3; whnf); first | split | refine Keeps.on_cores (sub_trans hW rfl) ?_)

theorem State.respond_keeps {W} (hW : 65536 &&& W = 65536) {s0 s : State} {r} (hk : Keeps W s0 s) : Keeps W s0 (State.respond s r) := Keeps.on_host (sub_trans hW rfl) hk

theorem State.announce_keeps {W} (hW : 16384 &&& W = 16384) {s0 s t : State} {sideband} (hk : Keeps W s0 s) (hk1 : Keeps W s0 t) : Keeps W s0 (State.announce s t sideband) := by
  unfold State.announce
  repeat' first | with_reducible assumption | intro _ | ((with_reducible conv => arg 3; whnf); first | with_reducible assumption | split | refine Keeps.pair ‹_› ?_ | refine KeepsO.get ‹_› ?_ | refine KeepsE.get ‹_› ?_ | refine KeepsX.get ‹_› ?_) | dsimp only | refine Keeps.on_life (sub_trans hW rfl) ?_

theorem State.lockFails_keeps {W} (hW : 65568 &&& W = 65568) {s0 s : State} {b} (hk : Keeps W s0 s) : Keeps W s0 (State.lockFails s b) := by
  unfold State.lockFails
  repeat' first | with_reducible assumption | with_reducible (first | refine State.setBay_keeps (sub_trans hW rfl) ?_ | refine State.respond_keeps (sub_trans hW rfl) ?_) | ((with_reducible conv => arg 3; whnf); split)

theorem State.answerStop_keeps {W} (hW : 67174448 &&& W = 67174448) {s0 s : State} {b act} (h : Keeps W s0 (act s)) : Keeps W s0 (s.answerStop b act) := by
  unfold State.answerStop
  dsimp only
  split
  · exact State.respond_keeps (sub_trans hW rfl) (State.setTdi_keeps (sub_trans hW rfl) (State.setBay_keeps (sub_trans hW rfl) h))
  · exact h

theorem State.bayEnd_keeps {W} (hW : 402647026 &&& W = 402647026) {s0 s : State} {b kind st} (hk : Keeps W s0 s) : Keeps W s0 (State.bayEnd s b kind st) := by
  unfold State.bayEnd
  repeat' first | with_reducible assumption | with_reducible (first | refine State.lockFails_keeps (sub_trans hW rfl) ?_ | refine State.landBay_keeps (sub_trans hW rfl) ?_ | refine State.endFn_keeps (sub_trans hW rfl) ?_ | refine State.idleBay_keeps (sub_trans hW rfl) ?_ | refine State.dropKey_keeps (sub_trans hW rfl) ?_ | refine State.resetKey_keeps (sub_trans hW rfl) ?_ | refine State.setBay_keeps (sub_trans hW rfl) ?_) | ((with_reducible conv => arg 3; whnf); split)

theorem State.resetBy_keeps {W} (hW : 112 &&& W = 112) {s0 s : State} {b n} (hk : Keeps W s0 s) : Keeps W s0 (State.resetBy s b n) := by
  unfold State.resetBy
  repeat' first | with_reducible assumption | with_reducible (first | refine State.bayCleared_keeps (sub_trans hW rfl) ?_ | refine State.setBay_keeps (sub_trans hW rfl) ?_) | ((with_reducible conv => arg 3; whnf); split)

theorem State.bayReset_keeps {W} (hW : 402647030 &&& W = 402647030) {s0 s : State} {b kind} (hk : Keeps W s0 s) : Keeps W s0 (State.bayReset s b kind) := by
  unfold State.bayReset
  repeat' first | with_reducible assumption | with_reducible (first | refine State.lockFails_keeps (sub_trans hW rfl) ?_ | refine State.resetKey_keeps (sub_trans hW rfl) ?_ | refine State.resetBy_keeps (sub_trans hW rfl) ?_ | refine State.setBay_keeps (sub_trans hW rfl) ?_ | refine State.bayEnd_keeps (sub_trans hW rfl) ?_ | refine State.settle_keeps (sub_trans hW rfl) ?_) | ((with_reducible conv => arg 3; whnf); split)

theorem State.securityStop_keeps {W} (hW : 402647030 &&& W = 402647030) {s0 s : State} {b request} (hk : Keeps W s0 s) : Keeps W s0 (State.securityStop s b request) := by
  unfold State.securityStop
  repeat' first | with_reducible assumption | with_reducible (first | refine State.bayEnd_keeps (sub_trans hW rfl) ?_ | refine State.setBay_keeps (sub_trans hW rfl) ?_ | refine State.setTdi_keeps (sub_trans hW rfl) ?_ | refine State.settle_keeps (sub_trans hW rfl) ?_) | ((with_reducible conv => arg 3; whnf); split)

theorem State.gate_keeps {W} (hW : 4096 &&& W = 4096) {s0 s : State} {ds} (hk : Keeps W s0 s) : Keeps W s0 (State.gate s ds) := Keeps.on_power (sub_trans hW rfl) hk

theorem State.ungate_keeps {W} (hW : 4096 &&& W = 4096) {s0 s : State} {ds} (hk : Keeps W s0 s) : Keeps W s0 (State.ungate s ds) := Keeps.on_power (sub_trans hW rfl) hk

theorem State.startScrub_keeps {W} (hW : 4128 &&& W = 4128) {s0 s : State} {b code strips} (hk : Keeps W s0 s) : Keeps W s0 (State.startScrub s b code strips) := by
  unfold State.startScrub
  repeat' first | with_reducible assumption | with_reducible (first | refine State.ungate_keeps (sub_trans hW rfl) ?_ | refine State.setBay_keeps (sub_trans hW rfl) ?_) | ((with_reducible conv => arg 3; whnf); split)

theorem State.bayResume_keeps {W} (hW : 65572 &&& W = 65572) {s0 s : State} {b} (hk : Keeps W s0 s) : Keeps W s0 (State.bayResume s b) := by
  unfold State.bayResume
  repeat' first | with_reducible assumption | with_reducible (first | refine State.setBay_keeps (sub_trans hW rfl) ?_ | refine State.deriveKey_keeps (sub_trans hW rfl) ?_) | ((with_reducible conv => arg 3; whnf); split)

theorem State.rekey_keeps {W} (hW : 16777216 &&& W = 16777216) {s0 s : State} (hk : Keeps W s0 s) : Keeps W s0 (State.rekey s) := Keeps.on_repairs (sub_trans hW rfl) hk

theorem State.setMap_keeps {W} (hW : 16777248 &&& W = 16777248) {s0 s : State} {b first count} (hk : Keeps W s0 s) : Keeps W s0 (State.setMap s b first count) := by
  unfold State.setMap
  repeat' first | with_reducible assumption | with_reducible (first | refine State.setBay_keeps (sub_trans hW rfl) ?_ | refine State.rekey_keeps (sub_trans hW rfl) ?_) | ((with_reducible conv => arg 3; whnf); split)

theorem State.bayGone_keeps {W} (hW : 117699120 &&& W = 117699120) {s0 s : State} {b} (hk : Keeps W s0 s) : Keeps W s0 (State.bayGone s b) := by
  unfold State.bayGone
  repeat' first | with_reducible assumption | with_reducible (first | refine State.setTdi_keeps (sub_trans hW rfl) ?_ | refine State.flushRaises_keeps (sub_trans hW rfl) ?_ | refine State.setBay_keeps (sub_trans hW rfl) ?_ | refine State.setHeld_keeps (sub_trans hW rfl) ?_ | refine State.setMap_keeps (sub_trans hW rfl) ?_ | refine State.gate_keeps (sub_trans hW rfl) ?_) | ((with_reducible conv => arg 3; whnf); split)

theorem State.scrubStrip_keeps {W} (hW : 1966656 &&& W = 1966656) {s0 s : State} {k} (h : Keeps W s0 s) : Keeps W s0 (s.scrubStrip k) :=
  Keeps.scrubbed (sub_trans hW rfl) (State.setStack_keeps (sub_trans hW rfl) (State.setStack_keeps (sub_trans hW rfl) h)) _ _ _ _ _ _ _ _

theorem State.scrubBay_keeps {W} (hW : 48 &&& W = 48) {s0 s : State} {b} (hk : Keeps W s0 s) : Keeps W s0 (State.scrubBay s b) := by
  unfold State.scrubBay
  repeat' first | with_reducible assumption | with_reducible (first | refine State.setFn_keeps (sub_trans hW rfl) ?_ | refine State.setBay_keeps (sub_trans hW rfl) ?_) | ((with_reducible conv => arg 3; whnf); split)

theorem State.scrubRecords_keeps {W} (hW : 119530384 &&& W = 119530384) {s0 s : State} {b} (hk : Keeps W s0 s) : Keeps W s0 (State.scrubRecords s b) := by
  unfold State.scrubRecords
  repeat' first | with_reducible assumption | with_reducible (first | refine State.memHealth_keeps (sub_trans hW rfl) ?_ | refine State.linkHealth_keeps (sub_trans hW rfl) ?_) | ((with_reducible conv => arg 3; whnf); split)

theorem State.flushQueue_keeps {W} (hW : 119530388 &&& W = 119530388) {s0 a__internal_hyg03 : State} {fn q a__internal_hyg0} (hk : Keeps W s0 a__internal_hyg03) : Keeps W s0 (State.flushQueue fn q a__internal_hyg0 a__internal_hyg03) := by
  fun_induction State.flushQueue fn q a__internal_hyg0 a__internal_hyg03 <;> (repeat' first | with_reducible assumption | intro _ | with_reducible refine State.writeRecord_keeps (sub_trans hW rfl) ?_ | with_reducible apply_assumption | ((with_reducible conv => arg 3; whnf); first | with_reducible assumption | split | refine Keeps.pair ‹_› ?_ | refine KeepsO.get ‹_› ?_ | refine KeepsE.get ‹_› ?_ | refine KeepsX.get ‹_› ?_) | dsimp only)

theorem State.flushAll_keeps {W} (hW : 119530388 &&& W = 119530388) {s0 s : State} (hk : Keeps W s0 s) : Keeps W s0 (State.flushAll s) := by
  unfold State.flushAll
  repeat' first | with_reducible assumption | intro _ | with_reducible (first | refine State.flushQueue_keeps (sub_trans hW rfl) ?_ | refine Keeps.foldl ?_ ?_) | ((with_reducible conv => arg 3; whnf); first | split)

theorem State.abandonBay_keeps {W} (hW : 32 &&& W = 32) {s0 s : State} {b} (hk : Keeps W s0 s) : Keeps W s0 (State.abandonBay s b) := by
  unfold State.abandonBay
  repeat' first | with_reducible assumption | with_reducible refine State.setBay_keeps (sub_trans hW rfl) ?_ | ((with_reducible conv => arg 3; whnf); split)

theorem State.dropChange_keeps {W} (hW : 117699124 &&& W = 117699124) {s0 s : State} (hk : Keeps W s0 s) : Keeps W s0 (State.dropChange s) := by
  unfold State.dropChange
  repeat' first | with_reducible assumption | intro _ | with_reducible (first | refine State.setMap_keeps (sub_trans hW rfl) ?_ | refine State.bayGone_keeps (sub_trans hW rfl) ?_ | refine State.abandonBay_keeps (sub_trans hW rfl) ?_ | refine Keeps.foldl ?_ ?_) | ((with_reducible conv => arg 3; whnf); first | split | refine Keeps.on_sec (sub_trans hW rfl) ?_ rfl rfl)

theorem State.fwLog_keeps {W} (hW : 16384 &&& W = 16384) {s0 s : State} {kind outcome old new} (hk : Keeps W s0 s) : Keeps W s0 (State.fwLog s kind outcome old new) := by
  unfold State.fwLog
  repeat' first | with_reducible assumption | with_reducible refine State.lifeLog_keeps (sub_trans hW rfl) ?_ | ((with_reducible conv => arg 3; whnf); split)

theorem State.dropActivation_keeps {W} (hW : 33570822 &&& W = 33570822) {s0 s : State} (hk : Keeps W s0 s) : Keeps W s0 (State.dropActivation s) := by
  unfold State.dropActivation
  repeat' first | with_reducible assumption | intro _ | with_reducible (first | refine State.drawn_keeps (sub_trans hW rfl) ?_ | refine State.fwLog_keeps (sub_trans hW rfl) ?_) | ((with_reducible conv => arg 3; whnf); first | with_reducible assumption | split | refine Keeps.pair ‹_› ?_ | refine KeepsO.get ‹_› ?_ | refine KeepsE.get ‹_› ?_ | refine KeepsX.get ‹_› ?_) | dsimp only | refine Keeps.on_devSec (sub_trans hW rfl) ?_ rfl rfl

theorem State.rebuildStrip_keeps {W} (hW : 256 &&& W = 256) {s0 s : State} {k} (hk : Keeps W s0 s) : Keeps W s0 (State.rebuildStrip s k) := by
  unfold State.rebuildStrip
  repeat' first | with_reducible assumption | intro _ | with_reducible (first | refine State.setColumn_keeps (sub_trans hW rfl) ?_ | refine Keeps.foldl ?_ ?_ | refine Keeps.foldl1 ?_ ?_) | ((with_reducible conv => arg 3; whnf); first | with_reducible assumption | split | refine Keeps.pair ‹_› ?_ | refine KeepsO.get ‹_› ?_ | refine KeepsE.get ‹_› ?_ | refine KeepsX.get ‹_› ?_) | dsimp only

theorem State.releaseHolds_keeps {W} (hW : 32 &&& W = 32) {s0 s : State} (hk : Keeps W s0 s) : Keeps W s0 (State.releaseHolds s) := by
  unfold State.releaseHolds
  repeat' first | with_reducible assumption | intro _ | with_reducible (first | refine State.setBay_keeps (sub_trans hW rfl) ?_ | refine Keeps.foldl ?_ ?_ | refine Keeps.foldl1 ?_ ?_) | ((with_reducible conv => arg 3; whnf); first | with_reducible assumption | split | refine Keeps.pair ‹_› ?_ | refine KeepsO.get ‹_› ?_ | refine KeepsE.get ‹_› ?_ | refine KeepsX.get ‹_› ?_) | dsimp only

theorem State.dropRestore_keeps {W} (hW : 4386 &&& W = 4386) {s0 s : State} (hk : Keeps W s0 s) : Keeps W s0 (State.dropRestore s) := by
  unfold State.dropRestore
  repeat' first | with_reducible assumption | with_reducible (first | refine State.releaseHolds_keeps (sub_trans hW rfl) ?_ | refine State.rebuildStrip_keeps (sub_trans hW rfl) ?_ | refine State.gate_keeps (sub_trans hW rfl) ?_) | ((with_reducible conv => arg 3; whnf); first | split | refine Keeps.on_dev (sub_trans hW rfl) ?_)

theorem State.abandonRepairs_keeps {W} (hW : 16777472 &&& W = 16777472) {s0 s : State} (hk : Keeps W s0 s) : Keeps W s0 (State.abandonRepairs s) := by
  unfold State.abandonRepairs
  repeat' first | with_reducible assumption | intro _ | with_reducible (first | refine State.setColumn_keeps (sub_trans hW rfl) ?_ | refine Keeps.foldl ?_ ?_ | refine Keeps.foldl1 ?_ ?_) | ((with_reducible conv => arg 3; whnf); first | with_reducible assumption | split | refine Keeps.pair ‹_› ?_ | refine KeepsO.get ‹_› ?_ | refine KeepsE.get ‹_› ?_ | refine KeepsX.get ‹_› ?_) | dsimp only | refine Keeps.on_repairs (sub_trans hW rfl) ?_

theorem State.fatalEnds_keeps {W} (hW : 402651126 &&& W = 402651126) {s0 s : State} (hk : Keeps W s0 s) : Keeps W s0 (State.fatalEnds s) := by
  unfold State.fatalEnds
  repeat' first | with_reducible assumption | intro _ | with_reducible (first | refine State.landBay_keeps (sub_trans hW rfl) ?_ | refine State.endFn_keeps (sub_trans hW rfl) ?_ | refine State.idleBay_keeps (sub_trans hW rfl) ?_ | refine State.flushRaises_keeps (sub_trans hW rfl) ?_ | refine State.setHeld_keeps (sub_trans hW rfl) ?_ | refine State.dropActivation_keeps (sub_trans hW rfl) ?_ | refine State.abandonRepairs_keeps (sub_trans hW rfl) ?_ | refine State.dropRestore_keeps (sub_trans hW rfl) ?_ | refine State.dropChange_keeps (sub_trans hW rfl) ?_ | refine Keeps.foldl ?_ ?_) | ((with_reducible conv => arg 3; whnf); first | split | refine Keeps.on_dev (sub_trans hW rfl) ?_)

theorem State.endAll_keeps {W} (hW : 402647030 &&& W = 402647030) {s0 s : State} (h : Keeps W s0 s) : Keeps W s0 s.endAll := by
  unfold State.endAll
  extract_lets bays s1 s2 s3 s4 change
  have h1 : Keeps W s0 s1 := Keeps.foldl h (fun _ _ ht => State.landBay_keeps (sub_trans hW rfl) ht)
  have h2 : Keeps W s0 s2 := Keeps.foldl h1 (fun _ _ ht => State.endFn_keeps (sub_trans hW rfl) ht)
  have h3 : Keeps W s0 s3 := Keeps.foldl h2 (fun _ _ ht => State.resetKey_keeps (sub_trans hW rfl) (State.idleBay_keeps (sub_trans hW rfl) ht))
  have h4 : Keeps W s0 s4 := by
    refine State.dropActivation_keeps (sub_trans hW rfl) (Keeps.foldl h3 (fun t b ht => ?_))
    split
    · exact State.setBay_keeps (sub_trans hW rfl) ht
    · exact ht
  clear_value s4
  exact Keeps.on_secRepairs (sub_trans hW rfl) h4 rfl rfl

theorem State.startCold_keeps {W} (hW : 402647030 &&& W = 402647030) {s0 s : State} (hk : Keeps W s0 s) : Keeps W s0 (State.startCold s) := by
  unfold State.startCold
  repeat' first | with_reducible assumption | intro _ | with_reducible (first | refine State.endAll_keeps (sub_trans hW rfl) ?_ | refine State.settle_keeps (sub_trans hW rfl) ?_) | ((with_reducible conv => arg 3; whnf); first | with_reducible assumption | split | refine Keeps.pair ‹_› ?_ | refine KeepsO.get ‹_› ?_ | refine KeepsE.get ‹_› ?_ | refine KeepsX.get ‹_› ?_) | dsimp only | refine Keeps.on_dev (sub_trans hW rfl) ?_

theorem State.deviceFatal_keeps {W} (hW : 402651126 &&& W = 402651126) {s0 s : State} {cause} (hk : Keeps W s0 s) : Keeps W s0 (State.deviceFatal s cause) := by
  unfold State.deviceFatal
  repeat' first | with_reducible assumption | with_reducible (first | refine State.fatalEnds_keeps (sub_trans hW rfl) ?_ | refine State.flushAll_keeps (sub_trans hW rfl) ?_ | refine State.drawn_keeps (sub_trans hW rfl) ?_ | refine State.raiseAll_keeps (sub_trans hW rfl) ?_) | ((with_reducible conv => arg 3; whnf); first | split | refine Keeps.on_dev (sub_trans hW rfl) ?_)

theorem State.adminWrite_keeps {W} (hW : 119531444 &&& W = 119531444) {s0 s : State} {q it bs} {f : State → State} (h : Keeps W s0 s) (hf : ∀ t, Keeps W s0 t → Keeps W s0 (f t)) :
    Keeps W s0 (s.adminWrite q it bs f) := by
  unfold State.adminWrite
  repeat' first | with_reducible assumption | with_reducible refine State.adminEnd_keeps (sub_trans hW rfl) ?_ | with_reducible refine State.writeAt_keeps (sub_trans hW rfl) ?_ | with_reducible apply hf | ((with_reducible conv => arg 3; whnf); first | with_reducible assumption | split | refine Keeps.pair ‹_› ?_) | (with_reducible refine State.writeAt_keeps (sub_trans hW rfl) ?_)

theorem State.nonceDraw_keeps {W} (hW : 119531446 &&& W = 119531446) {s0 s : State} {q} (hk : Keeps W s0 s) : Keeps W s0 (State.nonceDraw s q) := by
  unfold State.nonceDraw
  repeat' first | with_reducible assumption | intro _ | with_reducible (first | refine State.adminRun_keeps (sub_trans hW rfl) ?_ ?_ | refine State.drawn_keeps (sub_trans hW rfl) ?_ | refine State.adminWrite_keeps (sub_trans hW rfl) ?_ ?_ | refine State.adminEnd_keeps (sub_trans hW rfl) ?_) | ((with_reducible conv => arg 3; whnf); first | with_reducible assumption | split | refine Keeps.pair ‹_› ?_ | refine Keeps.on_sec (sub_trans hW rfl) ?_ rfl rfl)

theorem execApprovalNonce_keeps {W} (hW : 119531446 &&& W = 119531446) {s0 s : State} {q} (hk : Keeps W s0 s) : KeepsX W s0 (execApprovalNonce q s) := KeepsX.next (State.nonceDraw_keeps (sub_trans hW rfl) hk)

theorem execNonceExpiry_keeps {W} (hW : 32772 &&& W = 32772) {s0 s : State} (hk : Keeps W s0 s) : KeepsX W s0 (execNonceExpiry s) := by
  unfold execNonceExpiry
  repeat' first | with_reducible assumption | with_reducible (first | refine KeepsX.next ?_ | refine State.pend_keeps (sub_trans hW rfl) ?_) | ((with_reducible conv => arg 3; whnf); first | split | refine Keeps.on_sec (sub_trans hW rfl) ?_ rfl rfl)

theorem State.bayMapOut_keeps {W} (hW : 119531446 &&& W = 119531446) {s0 s : State} {q} (hk : Keeps W s0 s) : Keeps W s0 (State.bayMapOut s q) := by
  unfold State.bayMapOut
  repeat' first | with_reducible assumption | intro _ | with_reducible (first | refine State.adminRun_keeps (sub_trans hW rfl) ?_ ?_ | refine State.adminWrite_keeps (sub_trans hW rfl) ?_ ?_ | refine State.adminEnd_keeps (sub_trans hW rfl) ?_) | ((with_reducible conv => arg 3; whnf); first | with_reducible assumption | split | refine Keeps.pair ‹_› ?_)

theorem execBayMap_keeps {W} (hW : 119531446 &&& W = 119531446) {s0 s : State} {q} (hk : Keeps W s0 s) : KeepsX W s0 (execBayMap q s) := KeepsX.next (State.bayMapOut_keeps (sub_trans hW rfl) hk)

theorem State.changeEnd_keeps {W} (hW : 119531444 &&& W = 119531444) {s0 s : State} {st result} (hk : Keeps W s0 s) : Keeps W s0 (State.changeEnd s st result) := by
  unfold State.changeEnd
  repeat' first | with_reducible assumption | with_reducible refine State.adminEnd_keeps (sub_trans hW rfl) ?_ | ((with_reducible conv => arg 3; whnf); first | split | refine Keeps.on_sec (sub_trans hW rfl) ?_ rfl rfl)

theorem State.retiredEvent_keeps {W} (hW : 100917776 &&& W = 100917776) {s0 s : State} {b first e} (hk : Keeps W s0 s) : Keeps W s0 (State.retiredEvent s b first e) := by
  unfold State.retiredEvent
  repeat' first | with_reducible assumption | with_reducible refine State.raiseIn_keeps (sub_trans hW rfl) ?_ | ((with_reducible conv => arg 3; whnf); split)

theorem State.setupRefuse_keeps {W} (hW : 16 &&& W = 16) {s0 s : State} {fn reason off} (hk : Keeps W s0 s) : Keeps W s0 (State.setupRefuse s fn reason off) := by
  unfold State.setupRefuse
  repeat' first | with_reducible assumption | with_reducible refine State.setFn_keeps (sub_trans hW rfl) ?_ | ((with_reducible conv => arg 3; whnf); split)

theorem State.destRecheck_keeps {W} (hW : 48 &&& W = 48) {s0 s : State} {b} (hk : Keeps W s0 s) : Keeps W s0 (State.destRecheck s b) := by
  unfold State.destRecheck
  repeat' first | with_reducible assumption | with_reducible (first | refine State.setBay_keeps (sub_trans hW rfl) ?_ | refine State.setupRefuse_keeps (sub_trans hW rfl) ?_ | refine State.setFn_keeps (sub_trans hW rfl) ?_) | ((with_reducible conv => arg 3; whnf); split)

theorem State.takeLost_keeps {W} (hW : 4 &&& W = 4) {s0 s : State} {b} (hk : Keeps W s0 s) : Keeps W s0 (State.takeLost s b) := Keeps.on_sec (sub_trans hW rfl) hk rfl rfl

theorem State.tellLost_keeps {W} (hW : 100917776 &&& W = 100917776) {s0 s : State} {b first lost} (hk : Keeps W s0 s) : Keeps W s0 (State.tellLost s b first lost) := by
  unfold State.tellLost
  repeat' first | with_reducible assumption | intro _ | with_reducible (first | refine State.retiredEvent_keeps (sub_trans hW rfl) ?_ | refine Keeps.foldl ?_ ?_ | refine Keeps.foldl1 ?_ ?_) | ((with_reducible conv => arg 3; whnf); first | with_reducible assumption | split | refine Keeps.pair ‹_› ?_ | refine KeepsO.get ‹_› ?_ | refine KeepsE.get ‹_› ?_ | refine KeepsX.get ‹_› ?_) | dsimp only

theorem State.stripLossMap_keeps {W} (hW : 117699124 &&& W = 117699124) {s0 s : State} {b} (hk : Keeps W s0 s) : Keeps W s0 (State.stripLossMap s b) := by
  unfold State.stripLossMap
  repeat' first | with_reducible assumption | with_reducible (first | refine State.takeLost_keeps (sub_trans hW rfl) ?_ | refine State.tellLost_keeps (sub_trans hW rfl) ?_ | refine State.startScrub_keeps (sub_trans hW rfl) ?_ | refine State.setMap_keeps (sub_trans hW rfl) ?_ | refine State.destRecheck_keeps (sub_trans hW rfl) ?_ | refine State.gate_keeps (sub_trans hW rfl) ?_) | ((with_reducible conv => arg 3; whnf); first | split)

theorem State.configReset_keeps {W} (hW : 16 &&& W = 16) {s0 s : State} {fn} (hk : Keeps W s0 s) : Keeps W s0 (State.configReset s fn) := by
  unfold State.configReset
  repeat' first | with_reducible assumption | with_reducible refine State.setFn_keeps (sub_trans hW rfl) ?_ | ((with_reducible conv => arg 3; whnf); split)

theorem State.takeSize_keeps {W} (hW : 117699124 &&& W = 117699124) {s0 s : State} {b} (hk : Keeps W s0 s) : Keeps W s0 (State.takeSize s b) := by
  unfold State.takeSize
  repeat' first | with_reducible assumption | with_reducible (first | refine State.takeLost_keeps (sub_trans hW rfl) ?_ | refine State.setMap_keeps (sub_trans hW rfl) ?_ | refine State.destRecheck_keeps (sub_trans hW rfl) ?_ | refine State.tellLost_keeps (sub_trans hW rfl) ?_ | refine State.startScrub_keeps (sub_trans hW rfl) ?_) | ((with_reducible conv => arg 3; whnf); split)

theorem State.afterResets_keeps {W} (hW : 119535540 &&& W = 119535540) {s0 s : State} {b kinds} (hk : Keeps W s0 s) : Keeps W s0 (State.afterResets s b kinds) := by
  unfold State.afterResets
  repeat' first | with_reducible assumption | with_reducible (first | refine State.startScrub_keeps (sub_trans hW rfl) ?_ | refine State.takeSize_keeps (sub_trans hW rfl) ?_ | refine State.changeEnd_keeps (sub_trans hW rfl) ?_ | refine State.stripLossMap_keeps (sub_trans hW rfl) ?_ | refine State.setBay_keeps (sub_trans hW rfl) ?_ | refine State.bayResume_keeps (sub_trans hW rfl) ?_) | ((with_reducible conv => arg 3; whnf); split)

theorem State.finishReset_keeps {W} (hW : 119535604 &&& W = 119535604) {s0 s : State} {b} (hk : Keeps W s0 s) : Keeps W s0 (State.finishReset s b) := by
  unfold State.finishReset
  repeat' first | with_reducible assumption | with_reducible (first | refine State.configReset_keeps (sub_trans hW rfl) ?_ | refine State.setBay_keeps (sub_trans hW rfl) ?_ | refine State.resetBy_keeps (sub_trans hW rfl) ?_ | refine State.afterResets_keeps (sub_trans hW rfl) ?_) | ((with_reducible conv => arg 3; whnf); split)

theorem State.finishResets_keeps {W} (hW : 119535604 &&& W = 119535604) {s0 s : State} (hk : Keeps W s0 s) : Keeps W s0 (State.finishResets s) := by
  unfold State.finishResets
  repeat' first | with_reducible assumption | intro _ | with_reducible (first | refine State.finishReset_keeps (sub_trans hW rfl) ?_ | refine Keeps.foldl ?_ ?_) | ((with_reducible conv => arg 3; whnf); first | split)

theorem State.restartStacks_keeps {W} (hW : 512 &&& W = 512) {s0 s : State} {ks} (hk : Keeps W s0 s) : Keeps W s0 (State.restartStacks s ks) := by
  unfold State.restartStacks
  repeat' first | with_reducible assumption | intro _ | with_reducible (first | refine State.setStack_keeps (sub_trans hW rfl) ?_ | refine Keeps.foldl ?_ ?_ | refine Keeps.foldl1 ?_ ?_) | ((with_reducible conv => arg 3; whnf); first | with_reducible assumption | split | refine Keeps.pair ‹_› ?_ | refine KeepsO.get ‹_› ?_ | refine KeepsE.get ‹_› ?_ | refine KeepsX.get ‹_› ?_) | dsimp only

theorem State.linkRestart_keeps {W} (hW : 32 &&& W = 32) {s0 s : State} {b ps} (hk : Keeps W s0 s) : Keeps W s0 (State.linkRestart s b ps) := by
  unfold State.linkRestart
  repeat' first | with_reducible assumption | with_reducible refine State.setBay_keeps (sub_trans hW rfl) ?_ | ((with_reducible conv => arg 3; whnf); split)

theorem State.bayCreated_keeps {W} (hW : 119534516 &&& W = 119534516) {s0 s : State} {b} (hk : Keeps W s0 s) : Keeps W s0 (State.bayCreated s b) := by
  unfold State.bayCreated
  repeat' first | with_reducible assumption | with_reducible (first | refine State.setFn_keeps (sub_trans hW rfl) ?_ | refine State.restartStacks_keeps (sub_trans hW rfl) ?_ | refine State.linkRestart_keeps (sub_trans hW rfl) ?_ | refine State.setBay_keeps (sub_trans hW rfl) ?_ | refine State.setHeld_keeps (sub_trans hW rfl) ?_ | refine State.scrubRecords_keeps (sub_trans hW rfl) ?_ | refine State.powerRecord_keeps (sub_trans hW rfl) ?_ | refine State.bayResume_keeps (sub_trans hW rfl) ?_ | refine State.raiseIn_keeps (sub_trans hW rfl) ?_ | refine State.violate_keeps (sub_trans hW rfl) ?_) | ((with_reducible conv => arg 3; whnf); first | split)

theorem State.lockDone_keeps {W} (hW : 402647030 &&& W = 402647030) {s0 s : State} {b} (hk : Keeps W s0 s) : Keeps W s0 (State.lockDone s b) := by
  unfold State.lockDone
  repeat' first | with_reducible assumption | with_reducible (first | refine State.dropKey_keeps (sub_trans hW rfl) ?_ | refine State.drawn_keeps (sub_trans hW rfl) ?_ | refine State.setBay_keeps (sub_trans hW rfl) ?_ | refine State.bayResume_keeps (sub_trans hW rfl) ?_ | refine State.setTdi_keeps (sub_trans hW rfl) ?_ | refine State.respond_keeps (sub_trans hW rfl) ?_ | refine State.securityStop_keeps (sub_trans hW rfl) ?_) | ((with_reducible conv => arg 3; whnf); split)

theorem State.scrubbedAs_keeps {W} (hW : 402651126 &&& W = 402651126) {s0 s : State} {b code} (hk : Keeps W s0 s) : Keeps W s0 (State.scrubbedAs s b code) := by
  unfold State.scrubbedAs
  repeat' first | with_reducible assumption | with_reducible (first | refine State.bayCreated_keeps (sub_trans hW rfl) ?_ | refine State.changeEnd_keeps (sub_trans hW rfl) ?_ | refine State.gate_keeps (sub_trans hW rfl) ?_ | refine State.restartStacks_keeps (sub_trans hW rfl) ?_ | refine State.scrubRecords_keeps (sub_trans hW rfl) ?_ | refine State.bayResume_keeps (sub_trans hW rfl) ?_ | refine State.bayGone_keeps (sub_trans hW rfl) ?_ | refine State.lockDone_keeps (sub_trans hW rfl) ?_ | refine State.setTdi_keeps (sub_trans hW rfl) ?_) | ((with_reducible conv => arg 3; whnf); split)

theorem State.finishScrub_keeps {W} (hW : 402651126 &&& W = 402651126) {s0 s : State} {b} (hk : Keeps W s0 s) : Keeps W s0 (State.finishScrub s b) := by
  unfold State.finishScrub
  repeat' first | with_reducible assumption | with_reducible (first | refine State.scrubBay_keeps (sub_trans hW rfl) ?_ | refine State.gate_keeps (sub_trans hW rfl) ?_ | refine State.answerStop_keeps (sub_trans hW rfl) ?_ | refine State.scrubbedAs_keeps (sub_trans hW rfl) ?_) | ((with_reducible conv => arg 3; whnf); first | split)

theorem State.changeApply_keeps {W} (hW : 117699126 &&& W = 117699126) {s0 s : State} {op p} (h : Keeps W s0 s) : Keeps W s0 (s.changeApply op p) := by
  unfold State.changeApply
  dsimp only
  split
  all_goals (try split)
  all_goals first
    | exact h
    | exact Keeps.on_dev (sub_trans hW rfl) h
    | exact Keeps.on_sec (sub_trans hW rfl) h rfl rfl
    | exact State.setBay_keeps (sub_trans hW rfl) h
    | exact Keeps.burnOp (sub_trans hW rfl) h _
    | exact Keeps.burnFloor (sub_trans hW rfl) h _
    | exact Keeps.on_sec (sub_trans hW rfl) (Keeps.foldl h (fun _ _ ht => State.bayGone_keeps (sub_trans hW rfl) ht)) rfl rfl

theorem State.changeProgress_keeps {W} (hW : 402651126 &&& W = 402651126) {s0 s : State} (hk : Keeps W s0 s) : Keeps W s0 (State.changeProgress s) := by
  unfold State.changeProgress
  repeat' first | with_reducible assumption | with_reducible (first | refine State.changeEnd_keeps (sub_trans hW rfl) ?_ | refine State.setMap_keeps (sub_trans hW rfl) ?_ | refine State.startScrub_keeps (sub_trans hW rfl) ?_ | refine State.bayReset_keeps (sub_trans hW rfl) ?_ | refine State.changeApply_keeps (sub_trans hW rfl) ?_) | ((with_reducible conv => arg 3; whnf); first | split | refine Keeps.on_sec (sub_trans hW rfl) ?_ rfl rfl)

theorem State.tail_keeps {W} (hW : 402651126 &&& W = 402651126) {s0 s : State} (hk : Keeps W s0 s) : Keeps W s0 (State.tail s) := by
  unfold State.tail
  repeat' first | with_reducible assumption | intro _ | with_reducible (first | refine State.finishResets_keeps (sub_trans hW rfl) ?_ | refine State.changeProgress_keeps (sub_trans hW rfl) ?_ | refine State.adminEnd_keeps (sub_trans hW rfl) ?_ | refine Keeps.foldl ?_ ?_) | ((with_reducible conv => arg 3; whnf); first | split)

theorem State.scrubStep_keeps {W} (hW : 402651126 &&& W = 402651126) {s0 s : State} {b} (hk : Keeps W s0 s) : Keeps W s0 (State.scrubStep s b) := by
  unfold State.scrubStep
  repeat' first | with_reducible assumption | with_reducible (first | refine State.scrubStrip_keeps (sub_trans hW rfl) ?_ | refine State.setBay_keeps (sub_trans hW rfl) ?_ | refine State.finishScrub_keeps (sub_trans hW rfl) ?_ | refine State.tail_keeps (sub_trans hW rfl) ?_) | ((with_reducible conv => arg 3; whnf); split)

theorem State.approved_keeps {W} (hW : 402651126 &&& W = 402651126) {s0 s : State} {q it x} (hk : Keeps W s0 s) : Keeps W s0 (State.approved s q it x) := by
  unfold State.approved
  repeat' first | with_reducible assumption | intro _ | with_reducible (first | refine State.adminEnd_keeps (sub_trans hW rfl) ?_ | refine State.updItem_keeps (sub_trans hW rfl) ?_ | refine State.securityStop_keeps (sub_trans hW rfl) ?_ | refine State.tail_keeps (sub_trans hW rfl) ?_ | refine Keeps.foldl ?_ ?_) | ((with_reducible conv => arg 3; whnf); first | split | refine Keeps.on_sec (sub_trans hW rfl) ?_ rfl rfl)

theorem State.approve_keeps {W} (hW : 402651126 &&& W = 402651126) {s0 s : State} {q op} (hk : Keeps W s0 s) : Keeps W s0 (State.approve s q op) := by
  unfold State.approve
  repeat' first | with_reducible assumption | intro _ | with_reducible (first | refine State.adminRun_keeps (sub_trans hW rfl) ?_ ?_ | refine State.drawn_keeps (sub_trans hW rfl) ?_ | refine State.adminEnd_keeps (sub_trans hW rfl) ?_ | refine State.approved_keeps (sub_trans hW rfl) ?_) | ((with_reducible conv => arg 3; whnf); first | with_reducible assumption | split | refine Keeps.pair ‹_› ?_)

theorem execBayCreate_keeps {W} (hW : 402651126 &&& W = 402651126) {s0 s : State} {q} (hk : Keeps W s0 s) : KeepsX W s0 (execBayCreate q s) := KeepsX.next (State.approve_keeps (sub_trans hW rfl) hk)

theorem execBayResize_keeps {W} (hW : 402651126 &&& W = 402651126) {s0 s : State} {q} (hk : Keeps W s0 s) : KeepsX W s0 (execBayResize q s) := KeepsX.next (State.approve_keeps (sub_trans hW rfl) hk)

theorem execBayDestroy_keeps {W} (hW : 402651126 &&& W = 402651126) {s0 s : State} {q} (hk : Keeps W s0 s) : KeepsX W s0 (execBayDestroy q s) := KeepsX.next (State.approve_keeps (sub_trans hW rfl) hk)

theorem execSetMode_keeps {W} (hW : 402651126 &&& W = 402651126) {s0 s : State} {q} (hk : Keeps W s0 s) : KeepsX W s0 (execSetMode q s) := KeepsX.next (State.approve_keeps (sub_trans hW rfl) hk)

theorem execReleaseLock_keeps {W} (hW : 402651126 &&& W = 402651126) {s0 s : State} {q} (hk : Keeps W s0 s) : KeepsX W s0 (execReleaseLock q s) := KeepsX.next (State.approve_keeps (sub_trans hW rfl) hk)

theorem execSetDebug_keeps {W} (hW : 402651126 &&& W = 402651126) {s0 s : State} {q} (hk : Keeps W s0 s) : KeepsX W s0 (execSetDebug q s) := KeepsX.next (State.approve_keeps (sub_trans hW rfl) hk)

theorem execSetPolicy_keeps {W} (hW : 402651126 &&& W = 402651126) {s0 s : State} {q} (hk : Keeps W s0 s) : KeepsX W s0 (execSetPolicy q s) := KeepsX.next (State.approve_keeps (sub_trans hW rfl) hk)

theorem execLifecycleChange_keeps {W} (hW : 402651126 &&& W = 402651126) {s0 s : State} {q} (hk : Keeps W s0 s) : KeepsX W s0 (execLifecycleChange q s) := KeepsX.next (State.approve_keeps (sub_trans hW rfl) hk)

theorem execKeySlot_keeps {W} (hW : 402651126 &&& W = 402651126) {s0 s : State} {q} (hk : Keeps W s0 s) : KeepsX W s0 (execKeySlot q s) := KeepsX.next (State.approve_keeps (sub_trans hW rfl) hk)

theorem execFuseWrite_keeps {W} (hW : 402651126 &&& W = 402651126) {s0 s : State} {q} (hk : Keeps W s0 s) : KeepsX W s0 (execFuseWrite q s) := KeepsX.next (State.approve_keeps (sub_trans hW rfl) hk)

theorem execCertificate_keeps {W} (hW : 402651126 &&& W = 402651126) {s0 s : State} {q} (hk : Keeps W s0 s) : KeepsX W s0 (execCertificate q s) := KeepsX.next (State.approve_keeps (sub_trans hW rfl) hk)

theorem execCertificateExpiry_keeps {W} (hW : 4 &&& W = 4) {s0 s : State} (hk : Keeps W s0 s) : KeepsX W s0 (execCertificateExpiry s) := by
  unfold execCertificateExpiry
  repeat' first | with_reducible assumption | with_reducible refine KeepsX.next ?_ | ((with_reducible conv => arg 3; whnf); first | split | refine Keeps.on_sec (sub_trans hW rfl) ?_ rfl rfl)

theorem State.setRepair_keeps {W} (hW : 16777216 &&& W = 16777216) {s0 s : State} {key r} (hk : Keeps W s0 s) : Keeps W s0 (State.setRepair s key r) := Keeps.on_repairs (sub_trans hW rfl) hk

theorem State.endRepair_keeps {W} (hW : 16777216 &&& W = 16777216) {s0 s : State} {key} (hk : Keeps W s0 s) : Keeps W s0 (State.endRepair s key) := Keeps.on_repairs (sub_trans hW rfl) hk

theorem State.slipWork_keeps {W} (hW : 398452722 &&& W = 398452722) {s0 s : State} {c w} (hk : Keeps W s0 s) : Keeps W s0 (State.slipWork s c w) := by
  unfold State.slipWork
  repeat' first | with_reducible assumption | with_reducible (first | refine State.landWork_keeps (sub_trans hW rfl) ?_ | refine State.dropOwner_keeps (sub_trans hW rfl) ?_ | refine State.setCore_keeps (sub_trans hW rfl) ?_ | refine State.coreReport_keeps (sub_trans hW rfl) ?_) | ((with_reducible conv => arg 3; whnf); first | split | refine Keeps.on_valley (sub_trans hW rfl) ?_)

theorem State.slipCore_keeps {W} (hW : 398452722 &&& W = 398452722) {s0 s : State} {c} (hk : Keeps W s0 s) : Keeps W s0 (State.slipCore s c) := by
  unfold State.slipCore
  repeat' first | with_reducible assumption | intro _ | with_reducible (first | refine State.slipWork_keeps (sub_trans hW rfl) ?_ | refine Keeps.foldl ?_ ?_) | ((with_reducible conv => arg 3; whnf); first | split)

theorem State.slipEave_keeps {W} (hW : 2097664 &&& W = 2097664) {s0 s : State} {k} (hk : Keeps W s0 s) : Keeps W s0 (State.slipEave s k) := by
  unfold State.slipEave
  repeat' first | with_reducible assumption | with_reducible (first | refine State.setStack_keeps (sub_trans hW rfl) ?_ | refine State.report_keeps (sub_trans hW rfl) ?_) | ((with_reducible conv => arg 3; whnf); split)

theorem State.slipAll_keeps {W} (hW : 398452722 &&& W = 398452722) {s0 s : State} {key r} (hk : Keeps W s0 s) : Keeps W s0 (State.slipAll s key r) := by
  unfold State.slipAll
  repeat' first | with_reducible assumption | intro _ | with_reducible (first | refine State.slipWork_keeps (sub_trans hW rfl) ?_ | refine State.slipEave_keeps (sub_trans hW rfl) ?_ | refine State.slipCore_keeps (sub_trans hW rfl) ?_ | refine State.coreSettle_keeps (sub_trans hW rfl) ?_ | refine State.setRepair_keeps (sub_trans hW rfl) ?_ | refine Keeps.foldl ?_ ?_) | ((with_reducible conv => arg 3; whnf); first | split | refine Keeps.on_valley (sub_trans hW rfl) ?_)

theorem State.resizeBack_keeps {W} (hW : 16846884 &&& W = 16846884) {s0 s : State} {c} (hk : Keeps W s0 s) : Keeps W s0 (State.resizeBack s c) := by
  unfold State.resizeBack
  repeat' first | with_reducible assumption | intro _ | with_reducible (first | refine State.setMap_keeps (sub_trans hW rfl) ?_ | refine State.setBay_keeps (sub_trans hW rfl) ?_ | refine State.startScrub_keeps (sub_trans hW rfl) ?_ | refine State.bayResume_keeps (sub_trans hW rfl) ?_ | refine Keeps.foldl ?_ ?_ | refine Keeps.foldl1 ?_ ?_) | ((with_reducible conv => arg 3; whnf); first | with_reducible assumption | split | refine Keeps.pair ‹_› ?_ | refine KeepsO.get ‹_› ?_ | refine KeepsE.get ‹_› ?_ | refine KeepsX.get ‹_› ?_) | dsimp only

theorem State.refuseScrubbed_keeps {W} (hW : 119535540 &&& W = 119535540) {s0 s : State} {k} (hk : Keeps W s0 s) : Keeps W s0 (State.refuseScrubbed s k) := by
  unfold State.refuseScrubbed
  repeat' first | with_reducible assumption | with_reducible (first | refine State.bayGone_keeps (sub_trans hW rfl) ?_ | refine State.changeEnd_keeps (sub_trans hW rfl) ?_ | refine State.resizeBack_keeps (sub_trans hW rfl) ?_) | ((with_reducible conv => arg 3; whnf); first | split)

theorem State.stripLost_keeps {W} (hW : 402651126 &&& W = 402651126) {s0 s : State} {k cause slipped} (hk : Keeps W s0 s) : Keeps W s0 (State.stripLost s k cause slipped) := by
  unfold State.stripLost
  repeat' first | with_reducible assumption | with_reducible (first | refine State.lifeLog_keeps (sub_trans hW rfl) ?_ | refine State.refuseScrubbed_keeps (sub_trans hW rfl) ?_ | refine State.raiseIn_keeps (sub_trans hW rfl) ?_ | refine State.gate_keeps (sub_trans hW rfl) ?_ | refine State.takeSlips_keeps (sub_trans hW rfl) ?_ | refine State.retiredEvent_keeps (sub_trans hW rfl) ?_ | refine State.setTdi_keeps (sub_trans hW rfl) ?_ | refine State.bayReset_keeps (sub_trans hW rfl) ?_ | refine State.tail_keeps (sub_trans hW rfl) ?_) | ((with_reducible conv => arg 3; whnf); first | split | refine Keeps.on_dev (sub_trans hW rfl) ?_ | refine Keeps.on_sec (sub_trans hW rfl) ?_ rfl rfl)

theorem State.columnLost_keeps {W} (hW : 256 &&& W = 256) {s0 s : State} {r col} (hk : Keeps W s0 s) : Keeps W s0 (State.columnLost s r col) := by
  unfold State.columnLost
  repeat' first | with_reducible assumption | with_reducible refine State.setColumn_keeps (sub_trans hW rfl) ?_ | ((with_reducible conv => arg 3; whnf); split)

theorem State.retireColumns_keeps {W} (hW : 402651126 &&& W = 402651126) {s0 s : State} {key k r} (hk : Keeps W s0 s) : Keeps W s0 (State.retireColumns s key k r) := by
  unfold State.retireColumns
  repeat' first | with_reducible assumption | intro _ | with_reducible (first | refine State.columnLost_keeps (sub_trans hW rfl) ?_ | refine State.endRepair_keeps (sub_trans hW rfl) ?_ | refine State.setRepair_keeps (sub_trans hW rfl) ?_ | refine State.stripLost_keeps (sub_trans hW rfl) ?_ | refine Keeps.foldl ?_ ?_) | ((with_reducible conv => arg 3; whnf); first | split)

theorem State.planEntryEnd_keeps {W} (hW : 119531444 &&& W = 119531444) {s0 s : State} {r} (hk : Keeps W s0 s) : Keeps W s0 (State.planEntryEnd s r) := by
  unfold State.planEntryEnd
  repeat' first | with_reducible assumption | with_reducible refine State.adminEnd_keeps (sub_trans hW rfl) ?_ | ((with_reducible conv => arg 3; whnf); split)

theorem State.repairAdvance_keeps {W} (hW : 402651126 &&& W = 402651126) {s0 s : State} {key} (hk : Keeps W s0 s) : Keeps W s0 (State.repairAdvance s key) := by
  unfold State.repairAdvance
  repeat' first | with_reducible assumption | with_reducible (first | refine State.retireColumns_keeps (sub_trans hW rfl) ?_ | refine State.planEntryEnd_keeps (sub_trans hW rfl) ?_ | refine State.ungate_keeps (sub_trans hW rfl) ?_ | refine State.setRepair_keeps (sub_trans hW rfl) ?_) | ((with_reducible conv => arg 3; whnf); split)

theorem State.repairReplan_keeps {W} (hW : 402651126 &&& W = 402651126) {s0 s : State} {key} (hk : Keeps W s0 s) : Keeps W s0 (State.repairReplan s key) := by
  unfold State.repairReplan
  repeat' first | with_reducible assumption | with_reducible (first | refine State.setRepair_keeps (sub_trans hW rfl) ?_ | refine State.slipAll_keeps (sub_trans hW rfl) ?_ | refine State.repairAdvance_keeps (sub_trans hW rfl) ?_) | ((with_reducible conv => arg 3; whnf); split)

theorem State.tileDown_keeps {W} (hW : 402651126 &&& W = 402651126) {s0 s : State} {col row} (hk : Keeps W s0 s) : Keeps W s0 (State.tileDown s col row) := by
  unfold State.tileDown
  repeat' first | with_reducible assumption | with_reducible (first | refine State.tileFails_keeps (sub_trans hW rfl) ?_ | refine State.repairReplan_keeps (sub_trans hW rfl) ?_) | ((with_reducible conv => arg 3; whnf); split)

theorem State.repairBegin_keeps {W} (hW : 16777216 &&& W = 16777216) {s0 s : State} {key} (hk : Keeps W s0 s) : Keeps W s0 (State.repairBegin s key) := by
  unfold State.repairBegin
  repeat' first | with_reducible assumption | with_reducible refine State.setRepair_keeps (sub_trans hW rfl) ?_ | ((with_reducible conv => arg 3; whnf); split)

theorem State.repairAgain_keeps {W} (hW : 16777216 &&& W = 16777216) {s0 s : State} (hk : Keeps W s0 s) : Keeps W s0 (State.repairAgain s) := by
  unfold State.repairAgain
  repeat' first | with_reducible assumption | intro _ | with_reducible (first | refine Keeps.foldl ?_ ?_ | refine Keeps.foldl1 ?_ ?_) | ((with_reducible conv => arg 3; whnf); first | with_reducible assumption | split | refine Keeps.pair ‹_› ?_ | refine KeepsO.get ‹_› ?_ | refine KeepsE.get ‹_› ?_ | refine KeepsX.get ‹_› ?_) | dsimp only | refine Keeps.on_repairs (sub_trans hW rfl) ?_

theorem execSlipRepair_keeps {W} (hW : 16777216 &&& W = 16777216) {s0 s : State} {owner} (hk : Keeps W s0 s) : KeepsX W s0 (execSlipRepair owner s) := KeepsX.next (State.repairBegin_keeps (sub_trans hW rfl) hk)

theorem State.meshDrained_keeps {W} (hW : 402651126 &&& W = 402651126) {s0 s : State} {key} (hk : Keeps W s0 s) : Keeps W s0 (State.meshDrained s key) := by
  unfold State.meshDrained
  repeat' first | with_reducible assumption | with_reducible (first | refine State.slipAll_keeps (sub_trans hW rfl) ?_ | refine State.repairAdvance_keeps (sub_trans hW rfl) ?_ | refine State.setRepair_keeps (sub_trans hW rfl) ?_) | ((with_reducible conv => arg 3; whnf); split)

theorem execSlipMeshDrained_keeps {W} (hW : 402651126 &&& W = 402651126) {s0 s : State} {owner} (hk : Keeps W s0 s) : KeepsX W s0 (execSlipMeshDrained owner s) := KeepsX.next (State.meshDrained_keeps (sub_trans hW rfl) hk)

theorem State.planWaitEnds_keeps {W} (hW : 16777216 &&& W = 16777216) {s0 s : State} {key} (hk : Keeps W s0 s) : Keeps W s0 (State.planWaitEnds s key) := by
  unfold State.planWaitEnds
  repeat' first | with_reducible assumption | with_reducible refine State.setRepair_keeps (sub_trans hW rfl) ?_ | ((with_reducible conv => arg 3; whnf); split)

theorem execPlannedSlipWaitExpiry_keeps {W} (hW : 16777216 &&& W = 16777216) {s0 s : State} {owner} (hk : Keeps W s0 s) : KeepsX W s0 (execPlannedSlipWaitExpiry owner s) := KeepsX.next (State.planWaitEnds_keeps (sub_trans hW rfl) hk)

theorem State.spareChecked_keeps {W} (hW : 128 &&& W = 128) {s0 s : State} {col row} (hk : Keeps W s0 s) : Keeps W s0 (State.spareChecked s col row) := by
  unfold State.spareChecked
  repeat' first | with_reducible assumption | with_reducible refine State.setTile_keeps (sub_trans hW rfl) ?_ | ((with_reducible conv => arg 3; whnf); split)

theorem State.spareCheckEnd_keeps {W} (hW : 402651126 &&& W = 402651126) {s0 s : State} {col row pass} (hk : Keeps W s0 s) : Keeps W s0 (State.spareCheckEnd s col row pass) := by
  unfold State.spareCheckEnd
  repeat' first | with_reducible assumption | with_reducible (first | refine State.spareChecked_keeps (sub_trans hW rfl) ?_ | refine State.spareDies_keeps (sub_trans hW rfl) ?_ | refine State.repairReplan_keeps (sub_trans hW rfl) ?_ | refine State.setRepair_keeps (sub_trans hW rfl) ?_ | refine State.repairAdvance_keeps (sub_trans hW rfl) ?_ | refine State.slipAll_keeps (sub_trans hW rfl) ?_) | ((with_reducible conv => arg 3; whnf); split)

theorem execSpareCheckDone_keeps {W} (hW : 402651126 &&& W = 402651126) {s0 s : State} {col row pass} (hk : Keeps W s0 s) : KeepsX W s0 (execSpareCheckDone col row pass s) := KeepsX.next (State.spareCheckEnd_keeps (sub_trans hW rfl) hk)

theorem State.fullCheck_keeps {W} (hW : 128 &&& W = 128) {s0 s : State} {col} (hk : Keeps W s0 s) : Keeps W s0 (State.fullCheck s col) := by
  unfold State.fullCheck
  repeat' first | with_reducible assumption | with_reducible refine State.setTile_keeps (sub_trans hW rfl) ?_ | ((with_reducible conv => arg 3; whnf); split)

theorem execSpareFullCheck_keeps {W} (hW : 128 &&& W = 128) {s0 s : State} {col} (hk : Keeps W s0 s) : KeepsX W s0 (execSpareFullCheck col s) := KeepsX.next (State.fullCheck_keeps (sub_trans hW rfl) hk)

theorem State.salvage_keeps {W} (hW : 102490704 &&& W = 102490704) {s0 s : State} {core l} (hk : Keeps W s0 s) : Keeps W s0 (State.salvage s core l) := by
  unfold State.salvage
  repeat' first | with_reducible assumption | intro _ | with_reducible (first | refine State.poisonSpad_keeps (sub_trans hW rfl) ?_ | refine State.setCore_keeps (sub_trans hW rfl) ?_ | refine Keeps.foldl ?_ ?_ | refine Keeps.foldl1 ?_ ?_) | ((with_reducible conv => arg 3; whnf); first | with_reducible assumption | split | refine Keeps.pair ‹_› ?_ | refine KeepsO.get ‹_› ?_ | refine KeepsE.get ‹_› ?_ | refine KeepsX.get ‹_› ?_) | dsimp only | refine Keeps.on_spadFlaws (sub_trans hW rfl) ?_

theorem State.settleMoved_keeps {W} (hW : 192 &&& W = 192) {s0 s : State} {m} (hk : Keeps W s0 s) : Keeps W s0 (State.settleMoved s m) := by
  unfold State.settleMoved
  repeat' first | with_reducible assumption | with_reducible (first | refine State.setCore_keeps (sub_trans hW rfl) ?_ | refine State.setTile_keeps (sub_trans hW rfl) ?_) | ((with_reducible conv => arg 3; whnf); split)

theorem State.slippedEvents_keeps {W} (hW : 100917776 &&& W = 100917776) {s0 s : State} {moved a__internal_hyg0 a__internal_hyg03} (hk : Keeps W s0 s) : Keeps W s0 (State.slippedEvents s moved a__internal_hyg0 a__internal_hyg03) := by
  fun_induction State.slippedEvents s moved a__internal_hyg0 a__internal_hyg03 <;> (repeat' first | with_reducible assumption | intro _ | with_reducible refine State.raiseStrip_keeps (sub_trans hW rfl) ?_ | with_reducible apply_assumption | ((with_reducible conv => arg 3; whnf); first | with_reducible assumption | split | refine Keeps.pair ‹_› ?_ | refine KeepsO.get ‹_› ?_ | refine KeepsE.get ‹_› ?_ | refine KeepsX.get ‹_› ?_) | dsimp only)

theorem State.migrate_keeps {W} (hW : 402651126 &&& W = 402651126) {s0 s : State} {key losses} (hk : Keeps W s0 s) : Keeps W s0 (State.migrate s key losses) := by
  unfold State.migrate
  repeat' first | with_reducible assumption | intro _ | with_reducible (first | refine State.setColumn_keeps (sub_trans hW rfl) ?_ | refine State.salvage_keeps (sub_trans hW rfl) ?_ | refine State.settleMoved_keeps (sub_trans hW rfl) ?_ | refine State.endRepair_keeps (sub_trans hW rfl) ?_ | refine State.collRetell_keeps (sub_trans hW rfl) ?_ | refine State.slippedEvents_keeps (sub_trans hW rfl) ?_ | refine State.planEntryEnd_keeps (sub_trans hW rfl) ?_ | refine State.tail_keeps (sub_trans hW rfl) ?_ | refine Keeps.foldl ?_ ?_) | ((with_reducible conv => arg 3; whnf); first | split)

theorem execSlipMigrationDone_keeps {W} (hW : 402651126 &&& W = 402651126) {s0 s : State} {owner losses} (hk : Keeps W s0 s) : KeepsX W s0 (execSlipMigrationDone owner losses s) := by
  unfold execSlipMigrationDone
  repeat' first | with_reducible assumption | with_reducible (first | refine KeepsX.next ?_ | refine State.migrate_keeps (sub_trans hW rfl) ?_) | ((with_reducible conv => arg 3; whnf); split)

theorem execTileSelfCheckFailure_keeps {W} (hW : 402651126 &&& W = 402651126) {s0 s : State} {col row} (hk : Keeps W s0 s) : KeepsX W s0 (execTileSelfCheckFailure col row s) := by
  unfold execTileSelfCheckFailure
  repeat' first | with_reducible assumption | with_reducible (first | refine KeepsX.next ?_ | refine State.pend_keeps (sub_trans hW rfl) ?_ | refine State.tileDown_keeps (sub_trans hW rfl) ?_) | ((with_reducible conv => arg 3; whnf); split)

theorem State.heartbeat_keeps {W} (hW : 402651126 &&& W = 402651126) {s0 s : State} {col row answered} (hk : Keeps W s0 s) : Keeps W s0 (State.heartbeat s col row answered) := by
  unfold State.heartbeat
  repeat' first | with_reducible assumption | with_reducible (first | refine State.setTile_keeps (sub_trans hW rfl) ?_ | refine State.pend_keeps (sub_trans hW rfl) ?_ | refine State.tileDown_keeps (sub_trans hW rfl) ?_) | ((with_reducible conv => arg 3; whnf); split)

theorem execTileHeartbeat_keeps {W} (hW : 402651126 &&& W = 402651126) {s0 s : State} {col row answered} (hk : Keeps W s0 s) : KeepsX W s0 (execTileHeartbeat col row answered s) := by
  unfold execTileHeartbeat
  repeat' first | with_reducible assumption | with_reducible (first | refine KeepsX.next ?_ | refine State.heartbeat_keeps (sub_trans hW rfl) ?_) | ((with_reducible conv => arg 3; whnf); split)

theorem State.eaveFails_keeps {W} (hW : 390063090 &&& W = 390063090) {s0 s : State} {k} (hk : Keeps W s0 s) : Keeps W s0 (State.eaveFails s k) := by
  unfold State.eaveFails
  repeat' first | with_reducible assumption | intro _ | with_reducible (first | refine State.landMerge_keeps (sub_trans hW rfl) ?_ ?_ | refine State.unstopped_keeps (sub_trans hW rfl) ?_ | refine State.evRun_keeps (sub_trans hW rfl) ?_ | refine State.report_keeps (sub_trans hW rfl) ?_ | refine State.setStack_keeps (sub_trans hW rfl) ?_ | refine State.pend_keeps (sub_trans hW rfl) ?_ | refine State.raiseStrip_keeps (sub_trans hW rfl) ?_ | refine Keeps.foldl ?_ ?_) | ((with_reducible conv => arg 3; whnf); first | split)

theorem execEaveEngineFailure_keeps {W} (hW : 390063090 &&& W = 390063090) {s0 s : State} {stack} (hk : Keeps W s0 s) : KeepsX W s0 (execEaveEngineFailure stack s) := by
  unfold execEaveEngineFailure
  repeat' first | with_reducible assumption | with_reducible (first | refine KeepsX.next ?_ | refine State.eaveFails_keeps (sub_trans hW rfl) ?_) | ((with_reducible conv => arg 3; whnf); split)

theorem execStackControllerFailure_keeps {W} (hW : 402651126 &&& W = 402651126) {s0 s : State} {stack cause} (hk : Keeps W s0 s) : KeepsX W s0 (execStackControllerFailure stack cause s) := by
  unfold execStackControllerFailure
  repeat' first | with_reducible assumption | with_reducible (first | refine KeepsX.next ?_ | refine State.pend_keeps (sub_trans hW rfl) ?_ | refine State.stripLost_keeps (sub_trans hW rfl) ?_) | ((with_reducible conv => arg 3; whnf); split)

theorem execDeviceFatal_keeps {W} (hW : 402651126 &&& W = 402651126) {s0 s : State} {clock} (hk : Keeps W s0 s) : KeepsX W s0 (execDeviceFatal clock s) := by
  unfold execDeviceFatal
  repeat' first | with_reducible assumption | with_reducible (first | refine KeepsX.next ?_ | refine State.pend_keeps (sub_trans hW rfl) ?_ | refine State.deviceFatal_keeps (sub_trans hW rfl) ?_) | ((with_reducible conv => arg 3; whnf); split)

theorem State.refuse_keeps {W} (hW : 119531444 &&& W = 119531444) {s0 s : State} {q it reason} (hk : Keeps W s0 s) : Keeps W s0 (State.refuse s q it reason) := by
  unfold State.refuse
  repeat' first | with_reducible assumption | with_reducible refine State.adminEnd_keeps (sub_trans hW rfl) ?_ | ((with_reducible conv => arg 3; whnf); split)

theorem State.columnStates_keeps {W} (hW : 119531446 &&& W = 119531446) {s0 s : State} {q} (hk : Keeps W s0 s) : Keeps W s0 (State.columnStates s q) := by
  unfold State.columnStates
  repeat' first | with_reducible assumption | intro _ | with_reducible (first | refine State.adminRun_keeps (sub_trans hW rfl) ?_ ?_ | refine State.adminWrite_keeps (sub_trans hW rfl) ?_ ?_ | refine State.adminEnd_keeps (sub_trans hW rfl) ?_) | ((with_reducible conv => arg 3; whnf); first | with_reducible assumption | split | refine Keeps.pair ‹_› ?_)

theorem execColumnState_keeps {W} (hW : 119531446 &&& W = 119531446) {s0 s : State} {q} (hk : Keeps W s0 s) : KeepsX W s0 (execColumnState q s) := KeepsX.next (State.columnStates_keeps (sub_trans hW rfl) hk)

theorem State.rehang_keeps {W} (hW : 119535542 &&& W = 119535542) {s0 s : State} {q} (hk : Keeps W s0 s) : Keeps W s0 (State.rehang s q) := by
  unfold State.rehang
  repeat' first | with_reducible assumption | intro _ | with_reducible (first | refine State.adminRun_keeps (sub_trans hW rfl) ?_ ?_ | refine State.refuse_keeps (sub_trans hW rfl) ?_ | refine State.ungate_keeps (sub_trans hW rfl) ?_ | refine State.setTile_keeps (sub_trans hW rfl) ?_ | refine State.updItem_keeps (sub_trans hW rfl) ?_) | ((with_reducible conv => arg 3; whnf); first | with_reducible assumption | split | refine Keeps.pair ‹_› ?_)

theorem execRehang_keeps {W} (hW : 119535542 &&& W = 119535542) {s0 s : State} {q} (hk : Keeps W s0 s) : KeepsX W s0 (execRehang q s) := KeepsX.next (State.rehang_keeps (sub_trans hW rfl) hk)

theorem State.rehangEnd_keeps {W} (hW : 119535540 &&& W = 119535540) {s0 s : State} {col row pass} (hk : Keeps W s0 s) : Keeps W s0 (State.rehangEnd s col row pass) := by
  unfold State.rehangEnd
  repeat' first | with_reducible assumption | with_reducible (first | refine State.setTile_keeps (sub_trans hW rfl) ?_ | refine State.gate_keeps (sub_trans hW rfl) ?_ | refine State.setColumn_keeps (sub_trans hW rfl) ?_ | refine State.raiseStrip_keeps (sub_trans hW rfl) ?_ | refine State.lifeLog_keeps (sub_trans hW rfl) ?_ | refine State.adminEnd_keeps (sub_trans hW rfl) ?_) | ((with_reducible conv => arg 3; whnf); split)

theorem execRehangCheckDone_keeps {W} (hW : 119535540 &&& W = 119535540) {s0 s : State} {col row pass} (hk : Keeps W s0 s) : KeepsX W s0 (execRehangCheckDone col row pass s) := KeepsX.next (State.rehangEnd_keeps (sub_trans hW rfl) hk)

theorem State.plannedSlip_keeps {W} (hW : 119531446 &&& W = 119531446) {s0 s : State} {q} (hk : Keeps W s0 s) : Keeps W s0 (State.plannedSlip s q) := by
  unfold State.plannedSlip
  repeat' first | with_reducible assumption | intro _ | with_reducible (first | refine State.adminRun_keeps (sub_trans hW rfl) ?_ ?_ | refine State.refuse_keeps (sub_trans hW rfl) ?_ | refine State.tileFails_keeps (sub_trans hW rfl) ?_ | refine State.adminEnd_keeps (sub_trans hW rfl) ?_ | refine State.spareDies_keeps (sub_trans hW rfl) ?_ | refine State.updItem_keeps (sub_trans hW rfl) ?_ | refine State.setRepair_keeps (sub_trans hW rfl) ?_ | refine State.repairBegin_keeps (sub_trans hW rfl) ?_) | ((with_reducible conv => arg 3; whnf); first | with_reducible assumption | split | refine Keeps.pair ‹_› ?_)

theorem execPlannedSlip_keeps {W} (hW : 119531446 &&& W = 119531446) {s0 s : State} {q} (hk : Keeps W s0 s) : KeepsX W s0 (execPlannedSlip q s) := KeepsX.next (State.plannedSlip_keeps (sub_trans hW rfl) hk)

theorem State.retireStrip_keeps {W} (hW : 402651126 &&& W = 402651126) {s0 s : State} {q} (hk : Keeps W s0 s) : Keeps W s0 (State.retireStrip s q) := by
  unfold State.retireStrip
  repeat' first | with_reducible assumption | intro _ | with_reducible (first | refine State.adminRun_keeps (sub_trans hW rfl) ?_ ?_ | refine State.refuse_keeps (sub_trans hW rfl) ?_ | refine State.stripLost_keeps (sub_trans hW rfl) ?_ | refine State.adminEnd_keeps (sub_trans hW rfl) ?_) | ((with_reducible conv => arg 3; whnf); first | with_reducible assumption | split | refine Keeps.pair ‹_› ?_)

theorem execRetireStrip_keeps {W} (hW : 402651126 &&& W = 402651126) {s0 s : State} {q} (hk : Keeps W s0 s) : KeepsX W s0 (execRetireStrip q s) := KeepsX.next (State.retireStrip_keeps (sub_trans hW rfl) hk)

theorem State.holdAdjacent_keeps {W} (hW : 32 &&& W = 32) {s0 s : State} {k} (hk : Keeps W s0 s) : Keeps W s0 (State.holdAdjacent s k) := by
  unfold State.holdAdjacent
  repeat' first | with_reducible assumption | intro _ | with_reducible (first | refine State.setBay_keeps (sub_trans hW rfl) ?_ | refine Keeps.foldl ?_ ?_) | ((with_reducible conv => arg 3; whnf); first | split)

theorem State.restoreStrip_keeps {W} (hW : 119531446 &&& W = 119531446) {s0 s : State} {q} (hk : Keeps W s0 s) : Keeps W s0 (State.restoreStrip s q) := by
  unfold State.restoreStrip
  repeat' first | with_reducible assumption | intro _ | with_reducible (first | refine State.adminRun_keeps (sub_trans hW rfl) ?_ ?_ | refine State.refuse_keeps (sub_trans hW rfl) ?_ | refine State.holdAdjacent_keeps (sub_trans hW rfl) ?_ | refine State.updItem_keeps (sub_trans hW rfl) ?_) | ((with_reducible conv => arg 3; whnf); first | with_reducible assumption | split | refine Keeps.pair ‹_› ?_ | refine Keeps.on_dev (sub_trans hW rfl) ?_)

theorem execRestoreStrip_keeps {W} (hW : 119531446 &&& W = 119531446) {s0 s : State} {q} (hk : Keeps W s0 s) : KeepsX W s0 (execRestoreStrip q s) := KeepsX.next (State.restoreStrip_keeps (sub_trans hW rfl) hk)

theorem State.restoreGo_keeps {W} (hW : 4098 &&& W = 4098) {s0 s : State} (hk : Keeps W s0 s) : Keeps W s0 (State.restoreGo s) := by
  unfold State.restoreGo
  repeat' first | with_reducible assumption | with_reducible refine State.ungate_keeps (sub_trans hW rfl) ?_ | ((with_reducible conv => arg 3; whnf); first | split | refine Keeps.on_dev (sub_trans hW rfl) ?_)

theorem execRestoreQuiesce_keeps {W} (hW : 4098 &&& W = 4098) {s0 s : State} (hk : Keeps W s0 s) : KeepsX W s0 (execRestoreQuiesce s) := KeepsX.next (State.restoreGo_keeps (sub_trans hW rfl) hk)

theorem State.restoreExpires_keeps {W} (hW : 119531446 &&& W = 119531446) {s0 s : State} (hk : Keeps W s0 s) : Keeps W s0 (State.restoreExpires s) := by
  unfold State.restoreExpires
  repeat' first | with_reducible assumption | with_reducible (first | refine State.releaseHolds_keeps (sub_trans hW rfl) ?_ | refine State.adminEnd_keeps (sub_trans hW rfl) ?_) | ((with_reducible conv => arg 3; whnf); first | split | refine Keeps.on_dev (sub_trans hW rfl) ?_)

theorem execRestoreQuiesceTimeout_keeps {W} (hW : 119531446 &&& W = 119531446) {s0 s : State} (hk : Keeps W s0 s) : KeepsX W s0 (execRestoreQuiesceTimeout s) := KeepsX.next (State.restoreExpires_keeps (sub_trans hW rfl) hk)

theorem State.restoreDone_keeps {W} (hW : 119535606 &&& W = 119535606) {s0 s : State} (hk : Keeps W s0 s) : Keeps W s0 (State.restoreDone s) := by
  unfold State.restoreDone
  repeat' first | with_reducible assumption | with_reducible (first | refine State.dropRestore_keeps (sub_trans hW rfl) ?_ | refine State.adminEnd_keeps (sub_trans hW rfl) ?_ | refine State.rebuildStrip_keeps (sub_trans hW rfl) ?_ | refine State.scrubStrip_keeps (sub_trans hW rfl) ?_ | refine State.releaseHolds_keeps (sub_trans hW rfl) ?_ | refine State.gate_keeps (sub_trans hW rfl) ?_ | refine State.lifeLog_keeps (sub_trans hW rfl) ?_ | refine State.raiseIn_keeps (sub_trans hW rfl) ?_) | ((with_reducible conv => arg 3; whnf); first | split | refine Keeps.on_dev (sub_trans hW rfl) ?_)

theorem execBayScrubDone_keeps {W} (hW : 402651126 &&& W = 402651126) {s0 s : State} {bay} (hk : Keeps W s0 s) : KeepsX W s0 (execBayScrubDone bay s) := by
  unfold execBayScrubDone
  repeat' first | with_reducible assumption | with_reducible (first | refine KeepsX.next ?_ | refine State.restoreDone_keeps (sub_trans hW rfl) ?_ | refine State.scrubStep_keeps (sub_trans hW rfl) ?_) | ((with_reducible conv => arg 3; whnf); split)

theorem State.readErrors_keeps {W} (hW : 119531446 &&& W = 119531446) {s0 s : State} {q} (hk : Keeps W s0 s) : Keeps W s0 (State.readErrors s q) := by
  unfold State.readErrors
  repeat' first | with_reducible assumption | intro _ | with_reducible (first | refine State.adminRun_keeps (sub_trans hW rfl) ?_ ?_ | refine State.needBay_keeps (sub_trans hW rfl) ?_ ?_ | refine State.adminEnd_keeps (sub_trans hW rfl) ?_ | refine State.adminWrite_keeps (sub_trans hW rfl) ?_ ?_) | ((with_reducible conv => arg 3; whnf); first | with_reducible assumption | split | refine Keeps.pair ‹_› ?_)

theorem execReadErrors_keeps {W} (hW : 119531446 &&& W = 119531446) {s0 s : State} {q} (hk : Keeps W s0 s) : KeepsX W s0 (execReadErrors q s) := KeepsX.next (State.readErrors_keeps (sub_trans hW rfl) hk)

theorem State.patrolScrub_keeps {W} (hW : 100917776 &&& W = 100917776) {s0 s : State} {k found} (hk : Keeps W s0 s) : Keeps W s0 (State.patrolScrub s k found) := by
  unfold State.patrolScrub
  repeat' first | with_reducible assumption | with_reducible (first | refine State.setStack_keeps (sub_trans hW rfl) ?_ | refine State.lineRead_keeps (sub_trans hW rfl) ?_ | refine State.drawn_keeps (sub_trans hW rfl) ?_) | ((with_reducible conv => arg 3; whnf); split)

theorem execPatrolScrubLine_keeps {W} (hW : 100917776 &&& W = 100917776) {s0 s : State} {stack syms lanes code} (hk : Keeps W s0 s) : KeepsX W s0 (execPatrolScrubLine stack syms lanes code s) := by
  unfold execPatrolScrubLine
  repeat' first | with_reducible assumption | with_reducible (first | refine KeepsX.next ?_ | refine State.patrolScrub_keeps (sub_trans hW rfl) ?_) | ((with_reducible conv => arg 3; whnf); split)

theorem State.refresh_keeps {W} (hW : 512 &&& W = 512) {s0 s : State} {k pc bank acts flaws} (hk : Keeps W s0 s) : Keeps W s0 (State.refresh s k pc bank acts flaws) := by
  unfold State.refresh
  repeat' first | with_reducible assumption | with_reducible refine State.setStack_keeps (sub_trans hW rfl) ?_ | ((with_reducible conv => arg 3; whnf); split)

theorem execRefresh_keeps {W} (hW : 512 &&& W = 512) {s0 s : State} {stack pc bank} (hk : Keeps W s0 s) : KeepsX W s0 (execRefresh stack pc bank s) := by
  unfold execRefresh
  repeat' first | with_reducible assumption | with_reducible (first | refine KeepsX.next ?_ | refine State.refresh_keeps (sub_trans hW rfl) ?_) | ((with_reducible conv => arg 3; whnf); split)

theorem State.rowRepair_keeps {W} (hW : 512 &&& W = 512) {s0 s : State} {k} (hk : Keeps W s0 s) : Keeps W s0 (State.rowRepair s k) := by
  unfold State.rowRepair
  repeat' first | with_reducible assumption | with_reducible refine State.setStack_keeps (sub_trans hW rfl) ?_ | ((with_reducible conv => arg 3; whnf); split)

theorem execRowRepair_keeps {W} (hW : 512 &&& W = 512) {s0 s : State} {stack} (hk : Keeps W s0 s) : KeepsX W s0 (execRowRepair stack s) := by
  unfold execRowRepair
  repeat' first | with_reducible assumption | with_reducible (first | refine KeepsX.next ?_ | refine State.rowRepair_keeps (sub_trans hW rfl) ?_) | ((with_reducible conv => arg 3; whnf); split)

theorem State.rowLoses_keeps {W} (hW : 100917776 &&& W = 100917776) {s0 s : State} {k line} (hk : Keeps W s0 s) : Keeps W s0 (State.rowLoses s k line) := by
  unfold State.rowLoses
  repeat' first | with_reducible assumption | with_reducible (first | refine State.setStack_keeps (sub_trans hW rfl) ?_ | refine State.poisonLine_keeps (sub_trans hW rfl) ?_) | ((with_reducible conv => arg 3; whnf); split)

theorem State.rowMigrates_keeps {W} (hW : 100917776 &&& W = 100917776) {s0 s : State} {k key} (hk : Keeps W s0 s) : Keeps W s0 (State.rowMigrates s k key) := by
  unfold State.rowMigrates
  repeat' first | with_reducible assumption | intro _ | with_reducible (first | refine State.lineRead_keeps (sub_trans hW rfl) ?_ | refine State.setStack_keeps (sub_trans hW rfl) ?_ | refine Keeps.foldl ?_ ?_) | ((with_reducible conv => arg 3; whnf); first | split)

theorem State.spareLow_keeps {W} (hW : 100917776 &&& W = 100917776) {s0 s : State} {k} (hk : Keeps W s0 s) : Keeps W s0 (State.spareLow s k) := by
  unfold State.spareLow
  repeat' first | with_reducible assumption | with_reducible (first | refine State.setStack_keeps (sub_trans hW rfl) ?_ | refine State.raiseStack_keeps (sub_trans hW rfl) ?_) | ((with_reducible conv => arg 3; whnf); split)

theorem State.rowRepairDone_keeps {W} (hW : 100917776 &&& W = 100917776) {s0 s : State} {k lost} (hk : Keeps W s0 s) : Keeps W s0 (State.rowRepairDone s k lost) := by
  unfold State.rowRepairDone
  repeat' first | with_reducible assumption | intro _ | with_reducible (first | refine State.rowLoses_keeps (sub_trans hW rfl) ?_ | refine State.rowMigrates_keeps (sub_trans hW rfl) ?_ | refine State.setStack_keeps (sub_trans hW rfl) ?_ | refine State.raiseStack_keeps (sub_trans hW rfl) ?_ | refine State.spareLow_keeps (sub_trans hW rfl) ?_ | refine Keeps.foldl ?_ ?_) | ((with_reducible conv => arg 3; whnf); first | split)

theorem execRowRepairDone_keeps {W} (hW : 100917776 &&& W = 100917776) {s0 s : State} {stack lost} (hk : Keeps W s0 s) : KeepsX W s0 (execRowRepairDone stack lost s) := by
  unfold execRowRepairDone
  repeat' first | with_reducible assumption | with_reducible (first | refine KeepsX.next ?_ | refine State.rowRepairDone_keeps (sub_trans hW rfl) ?_) | ((with_reducible conv => arg 3; whnf); split)

end Sys2Proof.Machine
end

