-- ==== Sys2Proof/Laws/KeepsDevice.lean ====
section
/-! SUPPORT. What Keeps.lean says of every operation, for power, interrupts, debug, firmware, resets and the sideband. -/

set_option maxRecDepth 4000

namespace Sys2Proof.Machine

theorem State.throttled_keeps {W} (hW : 4128 &&& W = 4128) {s0 s : State} {b bit} (hk : Keeps W s0 s) : Keeps W s0 (State.throttled s b bit) := by
  unfold State.throttled
  repeat' first | with_reducible assumption | with_reducible refine State.setBay_keeps (sub_trans hW rfl) ?_ | ((with_reducible conv => arg 3; whnf); first | split | refine Keeps.on_power (sub_trans hW rfl) ?_)

theorem State.lowerTo_keeps {W} (hW : 100921904 &&& W = 100921904) {s0 s : State} {b point reason} (hk : Keeps W s0 s) : Keeps W s0 (State.lowerTo s b point reason) := by
  unfold State.lowerTo
  repeat' first | with_reducible assumption | with_reducible (first | refine State.setBay_keeps (sub_trans hW rfl) ?_ | refine State.throttled_keeps (sub_trans hW rfl) ?_ | refine State.violate_keeps (sub_trans hW rfl) ?_) | ((with_reducible conv => arg 3; whnf); split)

theorem State.lower_keeps {W} (hW : 100921904 &&& W = 100921904) {s0 s : State} {b reason} (hk : Keeps W s0 s) : Keeps W s0 (State.lower s b reason) := by
  unfold State.lower
  repeat' first | with_reducible assumption | with_reducible refine State.lowerTo_keeps (sub_trans hW rfl) ?_ | ((with_reducible conv => arg 3; whnf); split)

theorem State.followSet_keeps {W} (hW : 32 &&& W = 32) {s0 s : State} {b} (hk : Keeps W s0 s) : Keeps W s0 (State.followSet s b) := by
  unfold State.followSet
  repeat' first | with_reducible assumption | with_reducible refine State.setBay_keeps (sub_trans hW rfl) ?_ | ((with_reducible conv => arg 3; whnf); split)

theorem State.episodeEnds_keeps {W} (hW : 32 &&& W = 32) {s0 s : State} {b} (hk : Keeps W s0 s) : Keeps W s0 (State.episodeEnds s b) := by
  unfold State.episodeEnds
  repeat' first | with_reducible assumption | with_reducible refine State.setBay_keeps (sub_trans hW rfl) ?_ | ((with_reducible conv => arg 3; whnf); split)

theorem State.rise_keeps {W} (hW : 32 &&& W = 32) {s0 s : State} {b} (hk : Keeps W s0 s) : Keeps W s0 (State.rise s b) := by
  unfold State.rise
  repeat' first | with_reducible assumption | with_reducible refine State.setBay_keeps (sub_trans hW rfl) ?_ | ((with_reducible conv => arg 3; whnf); split)

theorem State.capRaises_keeps {W} (hW : 4128 &&& W = 4128) {s0 s : State} {total pw stretched} (hk : Keeps W s0 s) : Keeps W s0 (State.capRaises s total pw stretched) := by
  unfold State.capRaises
  repeat' first | with_reducible assumption | with_reducible refine State.rise_keeps (sub_trans hW rfl) ?_ | ((with_reducible conv => arg 3; whnf); first | split | refine Keeps.on_power (sub_trans hW rfl) ?_)

theorem State.capStep_keeps {W} (hW : 100921904 &&& W = 100921904) {s0 s : State} {total pw stretched} (hk : Keeps W s0 s) : Keeps W s0 (State.capStep s total pw stretched) := by
  unfold State.capStep
  repeat' first | with_reducible assumption | with_reducible (first | refine State.lower_keeps (sub_trans hW rfl) ?_ | refine State.setBay_keeps (sub_trans hW rfl) ?_ | refine State.throttled_keeps (sub_trans hW rfl) ?_ | refine State.capRaises_keeps (sub_trans hW rfl) ?_) | ((with_reducible conv => arg 3; whnf); first | split | refine Keeps.on_power (sub_trans hW rfl) ?_)

theorem State.meter_keeps {W} (hW : 4128 &&& W = 4128) {s0 s : State} {total pw} (hk : Keeps W s0 s) : Keeps W s0 (State.meter s total pw) := by
  unfold State.meter
  repeat' first | with_reducible assumption | intro _ | with_reducible (first | refine State.setBay_keeps (sub_trans hW rfl) ?_ | refine Keeps.foldl ?_ ?_) | ((with_reducible conv => arg 3; whnf); first | split | refine Keeps.on_power (sub_trans hW rfl) ?_)

theorem State.throttleAll_keeps {W} (hW : 100921904 &&& W = 100921904) {s0 s : State} (hk : Keeps W s0 s) : Keeps W s0 (State.throttleAll s) := by
  unfold State.throttleAll
  repeat' first | with_reducible assumption | intro _ | with_reducible (first | refine State.setBay_keeps (sub_trans hW rfl) ?_ | refine State.throttled_keeps (sub_trans hW rfl) ?_ | refine State.violate_keeps (sub_trans hW rfl) ?_ | refine Keeps.foldl ?_ ?_) | ((with_reducible conv => arg 3; whnf); first | split | refine Keeps.on_power (sub_trans hW rfl) ?_)

theorem State.emergency_keeps {W} (hW : 100921904 &&& W = 100921904) {s0 s : State} {cause src e} (hk : Keeps W s0 s) : Keeps W s0 (State.emergency s cause src e) := by
  unfold State.emergency
  repeat' first | with_reducible assumption | with_reducible (first | refine State.pend_keeps (sub_trans hW rfl) ?_ | refine State.throttleAll_keeps (sub_trans hW rfl) ?_ | refine State.raiseAll_keeps (sub_trans hW rfl) ?_) | ((with_reducible conv => arg 3; whnf); first | split | refine Keeps.on_power (sub_trans hW rfl) ?_)

theorem State.powerEmergency_keeps {W} (hW : 100921904 &&& W = 100921904) {s0 s : State} {cause} (hk : Keeps W s0 s) : Keeps W s0 (State.powerEmergency s cause) := by
  unfold State.powerEmergency
  repeat' first | with_reducible assumption | with_reducible refine State.emergency_keeps (sub_trans hW rfl) ?_ | ((with_reducible conv => arg 3; whnf); split)

theorem execPowerEmergency_keeps {W} (hW : 100921906 &&& W = 100921906) {s0 s : State} {cause} (hk : Keeps W s0 s) : KeepsX W s0 (execPowerEmergency cause s) := by
  unfold execPowerEmergency
  repeat' first | with_reducible assumption | with_reducible (first | refine KeepsX.next ?_ | refine State.powerEmergency_keeps (sub_trans hW rfl) ?_) | ((with_reducible conv => arg 3; whnf); first | split | refine Keeps.on_dev (sub_trans hW rfl) ?_)

theorem State.emergencyRelease_keeps {W} (hW : 4130 &&& W = 4130) {s0 s : State} (hk : Keeps W s0 s) : Keeps W s0 (State.emergencyRelease s) := by
  unfold State.emergencyRelease
  repeat' first | with_reducible assumption | intro _ | with_reducible (first | refine State.setBay_keeps (sub_trans hW rfl) ?_ | refine Keeps.foldl ?_ ?_) | ((with_reducible conv => arg 3; whnf); first | split | refine Keeps.on_devPower (sub_trans hW rfl) ?_)

theorem execEmergencyRelease_keeps {W} (hW : 4130 &&& W = 4130) {s0 s : State} (hk : Keeps W s0 s) : KeepsX W s0 (execEmergencyRelease s) := KeepsX.next (State.emergencyRelease_keeps (sub_trans hW rfl) hk)

theorem State.stretchLowers_keeps {W} (hW : 100921904 &&& W = 100921904) {s0 s : State} {stretched} (hk : Keeps W s0 s) : Keeps W s0 (State.stretchLowers s stretched) := by
  unfold State.stretchLowers
  repeat' first | with_reducible assumption | intro _ | with_reducible (first | refine State.lower_keeps (sub_trans hW rfl) ?_ | refine Keeps.foldl ?_ ?_) | ((with_reducible conv => arg 3; whnf); first | split)

theorem State.envelopeLowers_keeps {W} (hW : 100921904 &&& W = 100921904) {s0 s : State} {pw} (hk : Keeps W s0 s) : Keeps W s0 (State.envelopeLowers s pw) := by
  unfold State.envelopeLowers
  repeat' first | with_reducible assumption | intro _ | with_reducible (first | refine State.lower_keeps (sub_trans hW rfl) ?_ | refine Keeps.foldl ?_ ?_) | ((with_reducible conv => arg 3; whnf); first | split)

theorem State.capTick_keeps {W} (hW : 100921904 &&& W = 100921904) {s0 s : State} {total bays stretched} (hk : Keeps W s0 s) : Keeps W s0 (State.capTick s total bays stretched) := by
  unfold State.capTick
  repeat' first | with_reducible assumption | intro _ | with_reducible (first | refine State.pend_keeps (sub_trans hW rfl) ?_ | refine State.meter_keeps (sub_trans hW rfl) ?_ | refine State.powerEmergency_keeps (sub_trans hW rfl) ?_ | refine State.drawn_keeps (sub_trans hW rfl) ?_ | refine State.followSet_keeps (sub_trans hW rfl) ?_ | refine State.stretchLowers_keeps (sub_trans hW rfl) ?_ | refine State.envelopeLowers_keeps (sub_trans hW rfl) ?_ | refine State.capStep_keeps (sub_trans hW rfl) ?_ | refine State.episodeEnds_keeps (sub_trans hW rfl) ?_ | refine Keeps.foldl ?_ ?_) | ((with_reducible conv => arg 3; whnf); first | split)

theorem execCapTick_keeps {W} (hW : 100921904 &&& W = 100921904) {s0 s : State} {power bays stretched} (hk : Keeps W s0 s) : KeepsX W s0 (execCapTick power bays stretched s) := by
  unfold execCapTick
  repeat' first | with_reducible assumption | with_reducible (first | refine KeepsX.next ?_ | refine State.capTick_keeps (sub_trans hW rfl) ?_) | ((with_reducible conv => arg 3; whnf); first | split)

theorem State.settleAclk_keeps {W} (hW : 32 &&& W = 32) {s0 s : State} {b} (hk : Keeps W s0 s) : Keeps W s0 (State.settleAclk s b) := by
  unfold State.settleAclk
  repeat' first | with_reducible assumption | with_reducible (first | refine State.setBay_keeps (sub_trans hW rfl) ?_ | refine State.episodeEnds_keeps (sub_trans hW rfl) ?_) | ((with_reducible conv => arg 3; whnf); split)

theorem execAclkStepSettle_keeps {W} (hW : 32 &&& W = 32) {s0 s : State} {bay} (hk : Keeps W s0 s) : KeepsX W s0 (execAclkStepSettle bay s) := by
  unfold execAclkStepSettle
  repeat' first | with_reducible assumption | with_reducible (first | refine KeepsX.next ?_ | refine State.settleAclk_keeps (sub_trans hW rfl) ?_) | ((with_reducible conv => arg 3; whnf); split)

theorem State.mainOff_keeps {W} (hW : 5122 &&& W = 5122) {s0 s : State} {input} (hk : Keeps W s0 s) : Keeps W s0 (State.mainOff s input) := Keeps.on_devPortsPower (sub_trans hW rfl) hk

theorem State.mainShutdown_keeps {W} (hW : 402651126 &&& W = 402651126) {s0 s : State} {cause} (hk : Keeps W s0 s) : Keeps W s0 (State.mainShutdown s cause) := by
  unfold State.mainShutdown
  repeat' first | with_reducible assumption | with_reducible (first | refine State.deviceFatal_keeps (sub_trans hW rfl) ?_ | refine State.mainOff_keeps (sub_trans hW rfl) ?_) | ((with_reducible conv => arg 3; whnf); first | split)

theorem execMainInputShutdown_keeps {W} (hW : 402651126 &&& W = 402651126) {s0 s : State} {_over} (hk : Keeps W s0 s) : KeepsX W s0 (execMainInputShutdown _over s) := by
  unfold execMainInputShutdown
  repeat' first | with_reducible assumption | intro _ | with_reducible (first | refine KeepsX.next ?_ | refine State.pend_keeps (sub_trans hW rfl) ?_ | refine State.mainShutdown_keeps (sub_trans hW rfl) ?_) | ((with_reducible conv => arg 3; whnf); first | with_reducible assumption | split | refine Keeps.pair ‹_› ?_ | refine KeepsO.get ‹_› ?_ | refine KeepsE.get ‹_› ?_ | refine KeepsX.get ‹_› ?_) | dsimp only | refine Keeps.on_dev (sub_trans hW rfl) ?_

theorem State.bayTemp_keeps {W} (hW : 100921904 &&& W = 100921904) {s0 s : State} {b hot} (hk : Keeps W s0 s) : Keeps W s0 (State.bayTemp s b hot) := by
  unfold State.bayTemp
  repeat' first | with_reducible assumption | with_reducible (first | refine State.setBay_keeps (sub_trans hW rfl) ?_ | refine State.lower_keeps (sub_trans hW rfl) ?_) | ((with_reducible conv => arg 3; whnf); split)

theorem State.stripHeat_keeps {W} (hW : 36864 &&& W = 36864) {s0 s : State} {live} (hk : Keeps W s0 s) : Keeps W s0 (State.stripHeat s live) := by
  unfold State.stripHeat
  repeat' first | with_reducible assumption | intro _ | with_reducible (first | refine State.pend_keeps (sub_trans hW rfl) ?_ | refine Keeps.foldl ?_ ?_ | refine Keeps.foldl1 ?_ ?_) | ((with_reducible conv => arg 3; whnf); first | with_reducible assumption | split | refine Keeps.pair ‹_› ?_ | refine KeepsO.get ‹_› ?_ | refine KeepsE.get ‹_› ?_ | refine KeepsX.get ‹_› ?_) | dsimp only | refine Keeps.on_power (sub_trans hW rfl) ?_

theorem State.stackThrottled_keeps {W} (hW : 4128 &&& W = 4128) {s0 s : State} {k} (hk : Keeps W s0 s) : Keeps W s0 (State.stackThrottled s k) := by
  unfold State.stackThrottled
  repeat' first | with_reducible assumption | intro _ | with_reducible refine State.throttled_keeps (sub_trans hW rfl) ?_ | ((with_reducible conv => arg 3; whnf); first | with_reducible assumption | split | refine Keeps.pair ‹_› ?_ | refine KeepsO.get ‹_› ?_ | refine KeepsE.get ‹_› ?_ | refine KeepsX.get ‹_› ?_) | dsimp only | refine Keeps.on_power (sub_trans hW rfl) ?_

theorem State.stackHeat_keeps {W} (hW : 37408 &&& W = 37408) {s0 s : State} {k t} (hk : Keeps W s0 s) : Keeps W s0 (State.stackHeat s k t) := by
  unfold State.stackHeat
  repeat' first | with_reducible assumption | with_reducible (first | refine State.setStack_keeps (sub_trans hW rfl) ?_ | refine State.pend_keeps (sub_trans hW rfl) ?_ | refine State.stackThrottled_keeps (sub_trans hW rfl) ?_) | ((with_reducible conv => arg 3; whnf); split)

theorem State.sampled_keeps {W} (hW : 20480 &&& W = 20480) {s0 s : State} {tiles stackList reg} (hk : Keeps W s0 s) : Keeps W s0 (State.sampled s tiles stackList reg) := Keeps.on_powerLife (sub_trans hW rfl) hk

theorem State.thermalEmergencies_keeps {W} (hW : 100921904 &&& W = 100921904) {s0 s : State} {live stackList reg} (hk : Keeps W s0 s) : Keeps W s0 (State.thermalEmergencies s live stackList reg) := by
  unfold State.thermalEmergencies
  repeat' first | with_reducible assumption | with_reducible refine State.emergency_keeps (sub_trans hW rfl) ?_ | ((with_reducible conv => arg 3; whnf); split)

theorem State.temperatures_keeps {W} (hW : 402651126 &&& W = 402651126) {s0 s : State} {tiles stackList reg} (hk : Keeps W s0 s) : Keeps W s0 (State.temperatures s tiles stackList reg) := by
  unfold State.temperatures
  repeat' first | with_reducible assumption | intro _ | with_reducible (first | refine State.pend_keeps (sub_trans hW rfl) ?_ | refine State.sampled_keeps (sub_trans hW rfl) ?_ | refine State.stackHeat_keeps (sub_trans hW rfl) ?_ | refine State.stripHeat_keeps (sub_trans hW rfl) ?_ | refine State.mainShutdown_keeps (sub_trans hW rfl) ?_ | refine State.bayTemp_keeps (sub_trans hW rfl) ?_ | refine State.thermalEmergencies_keeps (sub_trans hW rfl) ?_ | refine Keeps.foldl ?_ ?_) | ((with_reducible conv => arg 3; whnf); first | split)

theorem execTemperatureSample_keeps {W} (hW : 402651126 &&& W = 402651126) {s0 s : State} {tiles stackList reg} (hk : Keeps W s0 s) : KeepsX W s0 (execTemperatureSample tiles stackList reg s) := by
  unfold execTemperatureSample
  repeat' first | with_reducible assumption | with_reducible (first | refine KeepsX.next ?_ | refine State.temperatures_keeps (sub_trans hW rfl) ?_) | ((with_reducible conv => arg 3; whnf); split)

theorem State.droop_keeps {W} (hW : 4128 &&& W = 4128) {s0 s : State} {kind unit cycles} (hk : Keeps W s0 s) : Keeps W s0 (State.droop s kind unit cycles) := by
  unfold State.droop
  repeat' first | with_reducible assumption | with_reducible refine State.setBay_keeps (sub_trans hW rfl) ?_ | ((with_reducible conv => arg 3; whnf); first | split | refine Keeps.on_power (sub_trans hW rfl) ?_)

theorem execDroopTrip_keeps {W} (hW : 4128 &&& W = 4128) {s0 s : State} {kind unit cycles} (hk : Keeps W s0 s) : KeepsX W s0 (execDroopTrip kind unit cycles s) := KeepsX.next (State.droop_keeps (sub_trans hW rfl) hk)

theorem State.trim_keeps {W} (hW : 20480 &&& W = 20480) {s0 s : State} {a} (hk : Keeps W s0 s) : Keeps W s0 (State.trim s a) := by
  unfold State.trim
  repeat' first | with_reducible assumption | with_reducible refine State.lifeLog_keeps (sub_trans hW rfl) ?_ | ((with_reducible conv => arg 3; whnf); first | split | refine Keeps.on_power (sub_trans hW rfl) ?_)

theorem execAgeingMeasurement_keeps {W} (hW : 53248 &&& W = 53248) {s0 s : State} {low} (hk : Keeps W s0 s) : KeepsX W s0 (execAgeingMeasurement low s) := by
  unfold execAgeingMeasurement
  repeat' first | with_reducible assumption | intro _ | with_reducible (first | refine KeepsX.next ?_ | refine State.trim_keeps (sub_trans hW rfl) ?_ | refine State.pend_keeps (sub_trans hW rfl) ?_ | refine Keeps.foldl ?_ ?_) | ((with_reducible conv => arg 3; whnf); first | split)

theorem execDomainGate_keeps {W} (hW : 4096 &&& W = 4096) {s0 s : State} {domain} (hk : Keeps W s0 s) : KeepsX W s0 (execDomainGate domain s) := by
  unfold execDomainGate
  repeat' first | with_reducible assumption | with_reducible (first | refine KeepsX.next ?_ | refine State.gate_keeps (sub_trans hW rfl) ?_) | ((with_reducible conv => arg 3; whnf); split)

theorem State.domainWakes_keeps {W} (hW : 121631664 &&& W = 121631664) {s0 s : State} {d} (hk : Keeps W s0 s) : Keeps W s0 (State.domainWakes s d) := by
  unfold State.domainWakes
  repeat' first | with_reducible assumption | with_reducible (first | refine State.ungate_keeps (sub_trans hW rfl) ?_ | refine State.collRetell_keeps (sub_trans hW rfl) ?_) | ((with_reducible conv => arg 3; whnf); split)

theorem execDomainWake_keeps {W} (hW : 121631664 &&& W = 121631664) {s0 s : State} {domain} (hk : Keeps W s0 s) : KeepsX W s0 (execDomainWake domain s) := by
  unfold execDomainWake
  repeat' first | with_reducible assumption | with_reducible (first | refine KeepsX.next ?_ | refine State.domainWakes_keeps (sub_trans hW rfl) ?_) | ((with_reducible conv => arg 3; whnf); split)

theorem State.regulatorFault_keeps {W} (hW : 402653174 &&& W = 402653174) {s0 s : State} {d} (hk : Keeps W s0 s) : Keeps W s0 (State.regulatorFault s d) := by
  unfold State.regulatorFault
  repeat' first | with_reducible assumption | intro _ | with_reducible (first | refine State.tileFails_keeps (sub_trans hW rfl) ?_ | refine State.pend_keeps (sub_trans hW rfl) ?_ | refine State.repairReplan_keeps (sub_trans hW rfl) ?_ | refine State.stripLost_keeps (sub_trans hW rfl) ?_ | refine State.eaveFails_keeps (sub_trans hW rfl) ?_ | refine State.portStops_keeps (sub_trans hW rfl) ?_ | refine State.deviceFatal_keeps (sub_trans hW rfl) ?_ | refine Keeps.foldl ?_ ?_) | ((with_reducible conv => arg 3; whnf); first | split | refine Keeps.on_power (sub_trans hW rfl) ?_)

theorem execRegulatorFault_keeps {W} (hW : 402653174 &&& W = 402653174) {s0 s : State} {domain} (hk : Keeps W s0 s) : KeepsX W s0 (execRegulatorFault domain s) := by
  unfold execRegulatorFault
  repeat' first | with_reducible assumption | with_reducible (first | refine KeepsX.next ?_ | refine State.regulatorFault_keeps (sub_trans hW rfl) ?_) | ((with_reducible conv => arg 3; whnf); first | split)

theorem State.setTgt_keeps {W} (hW : 32768 &&& W = 32768) {s0 s : State} {t v} (h : Keeps W s0 s) : Keeps W s0 (s.setTgt t v) :=
  Keeps.on_ictl (sub_trans hW rfl) h (fun x => ⟨x.1, x.2⟩)

theorem State.deliver_keeps {W} (hW : 32768 &&& W = 32768) {s0 s : State} {t} (h : Keeps W s0 s) : Keeps W s0 (s.deliver t) := by
  unfold State.deliver
  split
  · split
    · exact h
    · exact State.setTgt_keeps hW (State.setSrc_keeps hW h (fun _ => ⟨rfl, rfl⟩))
  · exact h

theorem execInterruptDelivery_keeps {W} (hW : 32768 &&& W = 32768) {s0 s : State} {target} (hk : Keeps W s0 s) : KeepsX W s0 (execInterruptDelivery target s) := KeepsX.next (State.deliver_keeps (sub_trans hW rfl) hk)

theorem execIctlDone_keeps {W} (hW : 32768 &&& W = 32768) {s0 s : State} {target} (hk : Keeps W s0 s) : KeepsX W s0 (execIctlDone target s) := by
  unfold execIctlDone
  repeat' first | with_reducible assumption | with_reducible (first | refine KeepsX.next ?_ | refine State.setTgt_keeps (sub_trans hW rfl) ?_) | ((with_reducible conv => arg 3; whnf); split)

theorem execIctlSoftSet_keeps {W} (hW : 32768 &&& W = 32768) {s0 s : State} {value} (hk : Keeps W s0 s) : KeepsX W s0 (execIctlSoftSet value s) := by
  unfold execIctlSoftSet
  repeat' first | with_reducible assumption | with_reducible (first | refine KeepsX.next ?_ | refine State.pend_keeps (sub_trans hW rfl) ?_) | ((with_reducible conv => arg 3; whnf); split)

theorem State.srcWrite_keeps {W} (hW : 32768 &&& W = 32768) {s0 s : State} {n value} (h : Keeps W s0 s) : Keeps W s0 (s.srcWrite n value) := by
  unfold State.srcWrite
  split
  · exact h
  · refine State.setSrc_keeps hW h (fun hn => ?_)
    have hl : srcListed n = true := by simp [srcListed, hn]
    simp [hl, srcWritten, hn]

theorem execIctlSrcWrite_keeps {W} (hW : 32768 &&& W = 32768) {s0 s : State} {src value} (hk : Keeps W s0 s) : KeepsX W s0 (execIctlSrcWrite src value s) := KeepsX.next (State.srcWrite_keeps (sub_trans hW rfl) hk)

theorem execIctlMaskWrite_keeps {W} (hW : 32768 &&& W = 32768) {s0 s : State} {target value} (hk : Keeps W s0 s) : KeepsX W s0 (execIctlMaskWrite target value s) := by
  unfold execIctlMaskWrite
  repeat' first | with_reducible assumption | with_reducible (first | refine KeepsX.next ?_ | refine State.setTgt_keeps (sub_trans hW rfl) ?_) | ((with_reducible conv => arg 3; whnf); split)

theorem execWaitInstruction_keeps {W} (hW : 32768 &&& W = 32768) {s0 s : State} {target} (hk : Keeps W s0 s) : KeepsX W s0 (execWaitInstruction target s) := by
  unfold execWaitInstruction
  repeat' first | with_reducible assumption | with_reducible (first | refine KeepsX.next ?_ | refine State.setTgt_keeps (sub_trans hW rfl) ?_) | ((with_reducible conv => arg 3; whnf); split)

theorem execWaitWake_keeps {W} (hW : 32768 &&& W = 32768) {s0 s : State} {target} (hk : Keeps W s0 s) : KeepsX W s0 (execWaitWake target s) := by
  unfold execWaitWake
  repeat' first | with_reducible assumption | with_reducible (first | refine KeepsX.next ?_ | refine State.setTgt_keeps (sub_trans hW rfl) ?_) | ((with_reducible conv => arg 3; whnf); split)

theorem State.msixUnmask_keeps {W} (hW : 402651126 &&& W = 402651126) {s0 s : State} {fn entry} (hk : Keeps W s0 s) : Keeps W s0 (State.msixUnmask s fn entry) := by
  unfold State.msixUnmask
  repeat' first | with_reducible assumption | with_reducible (first | refine State.pend_keeps (sub_trans hW rfl) ?_ | refine State.securityStop_keeps (sub_trans hW rfl) ?_ | refine State.setFn_keeps (sub_trans hW rfl) ?_ | refine State.msixFlush_keeps (sub_trans hW rfl) ?_ | refine State.tail_keeps (sub_trans hW rfl) ?_) | ((with_reducible conv => arg 3; whnf); split)

theorem execMsixUnmask_keeps {W} (hW : 402651126 &&& W = 402651126) {s0 s : State} {fn entry} (hk : Keeps W s0 s) : KeepsX W s0 (execMsixUnmask fn entry s) := KeepsX.next (State.msixUnmask_keeps (sub_trans hW rfl) hk)

theorem State.hostStrobe_keeps {W} (hW : 119531446 &&& W = 119531446) {s0 s : State} {q} (hk : Keeps W s0 s) : Keeps W s0 (State.hostStrobe s q) := by
  unfold State.hostStrobe
  repeat' first | with_reducible assumption | intro _ | with_reducible (first | refine State.adminRun_keeps (sub_trans hW rfl) ?_ ?_ | refine State.strobe_keeps (sub_trans hW rfl) ?_ | refine State.refuse_keeps (sub_trans hW rfl) ?_ | refine State.snapSend_keeps (sub_trans hW rfl) ?_ | refine State.adminEnd_keeps (sub_trans hW rfl) ?_) | ((with_reducible conv => arg 3; whnf); first | with_reducible assumption | split | refine Keeps.pair ‹_› ?_)

theorem execSnapshotStrobe_keeps {W} (hW : 119531446 &&& W = 119531446) {s0 s : State} {q} (hk : Keeps W s0 s) : KeepsX W s0 (execSnapshotStrobe q s) := KeepsX.next (State.hostStrobe_keeps (sub_trans hW rfl) hk)

theorem State.snapRead_keeps {W} (hW : 119531446 &&& W = 119531446) {s0 s : State} {q} (hk : Keeps W s0 s) : Keeps W s0 (State.snapRead s q) := by
  unfold State.snapRead
  repeat' first | with_reducible assumption | intro _ | with_reducible (first | refine State.adminRun_keeps (sub_trans hW rfl) ?_ ?_ | refine State.refuse_keeps (sub_trans hW rfl) ?_ | refine State.adminEnd_keeps (sub_trans hW rfl) ?_ | refine State.adminWrite_keeps (sub_trans hW rfl) ?_ ?_) | ((with_reducible conv => arg 3; whnf); first | with_reducible assumption | split | refine Keeps.pair ‹_› ?_)

theorem execSnapshotRead_keeps {W} (hW : 119531446 &&& W = 119531446) {s0 s : State} {q} (hk : Keeps W s0 s) : KeepsX W s0 (execSnapshotRead q s) := KeepsX.next (State.snapRead_keeps (sub_trans hW rfl) hk)

theorem State.snapFree_keeps {W} (hW : 536879104 &&& W = 536879104) {s0 s : State} (h : Keeps W s0 s) : Keeps W s0 s.snapFree :=
  Keeps.on_debugFree (sub_trans hW rfl) h

theorem State.snapRelease_keeps {W} (hW : 656402358 &&& W = 656402358) {s0 s : State} {q} (hk : Keeps W s0 s) : Keeps W s0 (State.snapRelease s q) := by
  unfold State.snapRelease
  repeat' first | with_reducible assumption | intro _ | with_reducible (first | refine State.adminRun_keeps (sub_trans hW rfl) ?_ ?_ | refine State.snapFree_keeps (sub_trans hW rfl) ?_ | refine State.adminEnd_keeps (sub_trans hW rfl) ?_) | ((with_reducible conv => arg 3; whnf); first | with_reducible assumption | split | refine Keeps.pair ‹_› ?_)

theorem execSnapshotRelease_keeps {W} (hW : 656402358 &&& W = 656402358) {s0 s : State} {q} (hk : Keeps W s0 s) : KeepsX W s0 (execSnapshotRelease q s) := KeepsX.next (State.snapRelease_keeps (sub_trans hW rfl) hk)

theorem execSnapshotHoldExpiry_keeps {W} (hW : 536879104 &&& W = 536879104) {s0 s : State} (hk : Keeps W s0 s) : KeepsX W s0 (execSnapshotHoldExpiry s) := by
  unfold execSnapshotHoldExpiry
  repeat' first | with_reducible assumption | with_reducible (first | refine KeepsX.next ?_ | refine State.trigger_keeps (sub_trans hW rfl) ?_ | refine State.snapFree_keeps (sub_trans hW rfl) ?_) | ((with_reducible conv => arg 3; whnf); split)

theorem execSnapN_keeps {W} (hW : 33562624 &&& W = 33562624) {s0 s : State} {ns} (hk : Keeps W s0 s) : KeepsX W s0 (execSnapN ns s) := by
  unfold execSnapN
  repeat' first | with_reducible assumption | with_reducible (first | refine KeepsX.next ?_ | refine State.strobe_keeps (sub_trans hW rfl) ?_) | ((with_reducible conv => arg 3; whnf); split)

theorem State.traceRead_keeps {W} (hW : 119531446 &&& W = 119531446) {s0 s : State} {q} (hk : Keeps W s0 s) : Keeps W s0 (State.traceRead s q) := by
  unfold State.traceRead
  repeat' first | with_reducible assumption | intro _ | with_reducible (first | refine State.adminRun_keeps (sub_trans hW rfl) ?_ ?_ | refine State.refuse_keeps (sub_trans hW rfl) ?_ | refine State.adminEnd_keeps (sub_trans hW rfl) ?_ | refine State.adminWrite_keeps (sub_trans hW rfl) ?_ ?_) | ((with_reducible conv => arg 3; whnf); first | with_reducible assumption | split | refine Keeps.pair ‹_› ?_)

theorem execTraceRead_keeps {W} (hW : 119531446 &&& W = 119531446) {s0 s : State} {q} (hk : Keeps W s0 s) : KeepsX W s0 (execTraceRead q s) := KeepsX.next (State.traceRead_keeps (sub_trans hW rfl) hk)

theorem State.traceHalt_keeps {W} (hW : 33562624 &&& W = 33562624) {s0 s : State} {b ev} (hk : Keeps W s0 s) : Keeps W s0 (State.traceHalt s b ev) := by
  unfold State.traceHalt
  repeat' first | with_reducible assumption | intro _ | with_reducible (first | refine State.traceCore_keeps (sub_trans hW rfl) ?_ | refine Keeps.foldl ?_ ?_) | ((with_reducible conv => arg 3; whnf); first | split)

theorem State.halt_keeps {W} (hW : 119531446 &&& W = 119531446) {s0 s : State} {q} (hk : Keeps W s0 s) : Keeps W s0 (State.halt s q) := by
  unfold State.halt
  repeat' first | with_reducible assumption | intro _ | with_reducible (first | refine State.adminRun_keeps (sub_trans hW rfl) ?_ ?_ | refine State.refuse_keeps (sub_trans hW rfl) ?_ | refine State.traceHalt_keeps (sub_trans hW rfl) ?_ | refine State.setBay_keeps (sub_trans hW rfl) ?_ | refine State.adminEnd_keeps (sub_trans hW rfl) ?_) | ((with_reducible conv => arg 3; whnf); first | with_reducible assumption | split | refine Keeps.pair ‹_› ?_)

theorem execHaltBay_keeps {W} (hW : 119531446 &&& W = 119531446) {s0 s : State} {q} (hk : Keeps W s0 s) : KeepsX W s0 (execHaltBay q s) := KeepsX.next (State.halt_keeps (sub_trans hW rfl) hk)

theorem State.stepBay_keeps {W} (hW : 119531446 &&& W = 119531446) {s0 s : State} {q} (hk : Keeps W s0 s) : Keeps W s0 (State.stepBay s q) := by
  unfold State.stepBay
  repeat' first | with_reducible assumption | intro _ | with_reducible (first | refine State.adminRun_keeps (sub_trans hW rfl) ?_ ?_ | refine State.refuse_keeps (sub_trans hW rfl) ?_ | refine State.setBay_keeps (sub_trans hW rfl) ?_ | refine State.adminEnd_keeps (sub_trans hW rfl) ?_) | ((with_reducible conv => arg 3; whnf); first | with_reducible assumption | split | refine Keeps.pair ‹_› ?_)

theorem execStepBay_keeps {W} (hW : 119531446 &&& W = 119531446) {s0 s : State} {q} (hk : Keeps W s0 s) : KeepsX W s0 (execStepBay q s) := KeepsX.next (State.stepBay_keeps (sub_trans hW rfl) hk)

theorem execStepExpiry_keeps {W} (hW : 32 &&& W = 32) {s0 s : State} {bay} (hk : Keeps W s0 s) : KeepsX W s0 (execStepExpiry bay s) := by
  unfold execStepExpiry
  repeat' first | with_reducible assumption | with_reducible (first | refine KeepsX.next ?_ | refine State.setBay_keeps (sub_trans hW rfl) ?_) | ((with_reducible conv => arg 3; whnf); split)

theorem State.resume_keeps {W} (hW : 119531446 &&& W = 119531446) {s0 s : State} {q} (hk : Keeps W s0 s) : Keeps W s0 (State.resume s q) := by
  unfold State.resume
  repeat' first | with_reducible assumption | intro _ | with_reducible (first | refine State.adminRun_keeps (sub_trans hW rfl) ?_ ?_ | refine State.refuse_keeps (sub_trans hW rfl) ?_ | refine State.traceHalt_keeps (sub_trans hW rfl) ?_ | refine State.setBay_keeps (sub_trans hW rfl) ?_ | refine State.adminEnd_keeps (sub_trans hW rfl) ?_) | ((with_reducible conv => arg 3; whnf); first | with_reducible assumption | split | refine Keeps.pair ‹_› ?_)

theorem execResumeBay_keeps {W} (hW : 119531446 &&& W = 119531446) {s0 s : State} {q} (hk : Keeps W s0 s) : KeepsX W s0 (execResumeBay q s) := KeepsX.next (State.resume_keeps (sub_trans hW rfl) hk)

theorem State.debugRead_keeps {W} (hW : 119531508 &&& W = 119531508) {s0 s : State} {q it b} (hk : Keeps W s0 s) : Keeps W s0 (State.debugRead s q it b) := by
  unfold State.debugRead
  repeat' first | with_reducible assumption | intro _ | with_reducible (first | refine State.touchAt_keeps (sub_trans hW rfl) ?_ | refine State.adminEnd_keeps (sub_trans hW rfl) ?_ | refine State.adminWrite_keeps (sub_trans hW rfl) ?_ ?_) | ((with_reducible conv => arg 3; whnf); first | with_reducible assumption | split | refine Keeps.pair ‹_› ?_)

theorem State.debugWrite_keeps {W} (hW : 119531444 &&& W = 119531444) {s0 s : State} {q it b} (hk : Keeps W s0 s) : Keeps W s0 (State.debugWrite s q it b) := by
  unfold State.debugWrite
  repeat' first | with_reducible assumption | intro _ | with_reducible (first | refine State.adminEnd_keeps (sub_trans hW rfl) ?_ | refine State.drawn_keeps (sub_trans hW rfl) ?_ | refine State.writeAt_keeps (sub_trans hW rfl) ?_) | ((with_reducible conv => arg 3; whnf); first | with_reducible assumption | split | refine Keeps.pair ‹_› ?_)

theorem State.debugAccess_keeps {W} (hW : 119531510 &&& W = 119531510) {s0 s : State} {q} (hk : Keeps W s0 s) : Keeps W s0 (State.debugAccess s q) := by
  unfold State.debugAccess
  repeat' first | with_reducible assumption | intro _ | with_reducible (first | refine State.adminRun_keeps (sub_trans hW rfl) ?_ ?_ | refine State.refuse_keeps (sub_trans hW rfl) ?_ | refine State.adminEnd_keeps (sub_trans hW rfl) ?_ | refine State.debugWrite_keeps (sub_trans hW rfl) ?_ | refine State.debugRead_keeps (sub_trans hW rfl) ?_) | ((with_reducible conv => arg 3; whnf); first | with_reducible assumption | split | refine Keeps.pair ‹_› ?_)

theorem execDebugAccess_keeps {W} (hW : 119531510 &&& W = 119531510) {s0 s : State} {q} (hk : Keeps W s0 s) : KeepsX W s0 (execDebugAccess q s) := KeepsX.next (State.debugAccess_keeps (sub_trans hW rfl) hk)

theorem State.setFw_keeps {W} (hW : 4 &&& W = 4) {s0 s : State} {kind k} (hk : Keeps W s0 s) : Keeps W s0 (State.setFw s kind k) := Keeps.on_sec (sub_trans hW rfl) hk rfl rfl

theorem State.stageImage_keeps {W} (hW : 4 &&& W = 4) {s0 s : State} {kind image} (hk : Keeps W s0 s) : Keeps W s0 (State.stageImage s kind image).1 := by
  unfold State.stageImage
  repeat' first | with_reducible assumption | intro _ | with_reducible refine State.setFw_keeps (sub_trans hW rfl) ?_ | ((with_reducible conv => arg 3; whnf); first | with_reducible assumption | split | refine Keeps.pair ‹_› ?_ | refine KeepsO.get ‹_› ?_ | refine KeepsE.get ‹_› ?_ | refine KeepsX.get ‹_› ?_) | dsimp only | refine Keeps.on_sec (sub_trans hW rfl) ?_ rfl rfl

theorem State.fwStage_keeps {W} (hW : 119531446 &&& W = 119531446) {s0 s : State} {q} (hk : Keeps W s0 s) : Keeps W s0 (State.fwStage s q) := by
  unfold State.fwStage
  repeat' first | with_reducible assumption | intro _ | with_reducible (first | refine State.adminRun_keeps (sub_trans hW rfl) ?_ ?_ | refine State.refuse_keeps (sub_trans hW rfl) ?_ | refine State.drawn_keeps (sub_trans hW rfl) ?_ | refine State.adminEnd_keeps (sub_trans hW rfl) ?_ | refine State.stageImage_keeps (sub_trans hW rfl) ?_) | ((with_reducible conv => arg 3; whnf); first | with_reducible assumption | split | refine Keeps.pair ‹_› ?_ | refine KeepsO.get ‹_› ?_ | refine KeepsE.get ‹_› ?_ | refine KeepsX.get ‹_› ?_) | dsimp only

theorem execFwStage_keeps {W} (hW : 119531446 &&& W = 119531446) {s0 s : State} {q} (hk : Keeps W s0 s) : KeepsX W s0 (execFwStage q s) := KeepsX.next (State.fwStage_keeps (sub_trans hW rfl) hk)

theorem State.drainStart_keeps {W} (hW : 33563696 &&& W = 33563696) {s0 s : State} (hk : Keeps W s0 s) : Keeps W s0 (State.drainStart s) := by
  unfold State.drainStart
  repeat' first | with_reducible assumption | intro _ | with_reducible (first | refine State.endItem_keeps (sub_trans hW rfl) ?_ | refine Keeps.foldl ?_ ?_) | ((with_reducible conv => arg 3; whnf); first | split)

theorem State.drainEnd_keeps {W} (hW : 125822960 &&& W = 125822960) {s0 s : State} {p} (hk : Keeps W s0 s) : Keeps W s0 (State.drainEnd s p) := by
  unfold State.drainEnd
  repeat' first | with_reducible assumption | intro _ | with_reducible (first | refine State.endLive_keeps (sub_trans hW rfl) ?_ | refine State.dropOwner_keeps (sub_trans hW rfl) ?_ | refine State.endLaunch_keeps (sub_trans hW rfl) ?_ | refine State.collFail_keeps (sub_trans hW rfl) ?_ | refine Keeps.foldl ?_ ?_) | ((with_reducible conv => arg 3; whnf); first | split)

theorem State.drainLocked_keeps {W} (hW : 402647030 &&& W = 402647030) {s0 s : State} (hk : Keeps W s0 s) : Keeps W s0 (State.drainLocked s) := by
  unfold State.drainLocked
  repeat' first | with_reducible assumption | intro _ | with_reducible (first | refine State.securityStop_keeps (sub_trans hW rfl) ?_ | refine Keeps.foldl ?_ ?_) | ((with_reducible conv => arg 3; whnf); first | split)

theorem State.activateStart_keeps {W} (hW : 402647030 &&& W = 402647030) {s0 s : State} {kind entry} (hk : Keeps W s0 s) : Keeps W s0 (State.activateStart s kind entry) := by
  unfold State.activateStart
  repeat' first | with_reducible assumption | with_reducible (first | refine State.drainLocked_keeps (sub_trans hW rfl) ?_ | refine State.drainStart_keeps (sub_trans hW rfl) ?_ | refine State.settle_keeps (sub_trans hW rfl) ?_) | ((with_reducible conv => arg 3; whnf); first | split | refine Keeps.on_sec (sub_trans hW rfl) ?_ rfl rfl)

theorem State.fwActivate_keeps {W} (hW : 402647030 &&& W = 402647030) {s0 s : State} {q} (hk : Keeps W s0 s) : Keeps W s0 (State.fwActivate s q) := by
  unfold State.fwActivate
  repeat' first | with_reducible assumption | intro _ | with_reducible (first | refine State.adminRun_keeps (sub_trans hW rfl) ?_ ?_ | refine State.refuse_keeps (sub_trans hW rfl) ?_ | refine State.updItem_keeps (sub_trans hW rfl) ?_ | refine State.activateStart_keeps (sub_trans hW rfl) ?_) | ((with_reducible conv => arg 3; whnf); first | with_reducible assumption | split | refine Keeps.pair ‹_› ?_)

theorem execFwActivate_keeps {W} (hW : 402647030 &&& W = 402647030) {s0 s : State} {q} (hk : Keeps W s0 s) : KeepsX W s0 (execFwActivate q s) := KeepsX.next (State.fwActivate_keeps (sub_trans hW rfl) hk)

theorem State.drainLimit_keeps {W} (hW : 125822964 &&& W = 125822964) {s0 s : State} (hk : Keeps W s0 s) : Keeps W s0 (State.drainLimit s) := by
  unfold State.drainLimit
  repeat' first | with_reducible assumption | intro _ | with_reducible (first | refine State.drainEnd_keeps (sub_trans hW rfl) ?_ | refine State.settle_keeps (sub_trans hW rfl) ?_ | refine Keeps.foldl ?_ ?_) | ((with_reducible conv => arg 3; whnf); first | split | refine Keeps.on_sec (sub_trans hW rfl) ?_ rfl rfl)

theorem execDrainLimitExpiry_keeps {W} (hW : 125822964 &&& W = 125822964) {s0 s : State} (hk : Keeps W s0 s) : KeepsX W s0 (execDrainLimitExpiry s) := KeepsX.next (State.drainLimit_keeps (sub_trans hW rfl) hk)

theorem State.sessionsEnd_keeps {W} (hW : 65544 &&& W = 65544) {s0 s : State} (hk : Keeps W s0 s) : Keeps W s0 (State.sessionsEnd s) := by
  unfold State.sessionsEnd
  repeat' first | with_reducible assumption | intro _ | with_reducible (first | refine State.respond_keeps (sub_trans hW rfl) ?_ | refine Keeps.foldl ?_ ?_) | ((with_reducible conv => arg 3; whnf); first | split | refine Keeps.on_spdm (sub_trans hW rfl) ?_)

theorem State.activateEntry_keeps {W} (hW : 119531444 &&& W = 119531444) {s0 s : State} {e st result} (hk : Keeps W s0 s) : Keeps W s0 (State.activateEntry s e st result) := by
  unfold State.activateEntry
  repeat' first | with_reducible assumption | with_reducible (first | refine State.adminEnd_keeps (sub_trans hW rfl) ?_ | refine State.settle_keeps (sub_trans hW rfl) ?_) | ((with_reducible conv => arg 3; whnf); split)

theorem State.sideColdGo_keeps {W} (hW : 402647030 &&& W = 402647030) {s0 s : State} (hk : Keeps W s0 s) : Keeps W s0 (State.sideColdGo s) := by
  unfold State.sideColdGo
  repeat' first | with_reducible assumption | with_reducible refine State.startCold_keeps (sub_trans hW rfl) ?_ | ((with_reducible conv => arg 3; whnf); split)

theorem State.activateEnd_keeps {W} (hW : 402651134 &&& W = 402651134) {s0 s : State} {kind e pass} (hk : Keeps W s0 s) : Keeps W s0 (State.activateEnd s kind e pass) := by
  unfold State.activateEnd
  repeat' first | with_reducible assumption | with_reducible (first | refine State.setFw_keeps (sub_trans hW rfl) ?_ | refine State.fwLog_keeps (sub_trans hW rfl) ?_ | refine State.sessionsEnd_keeps (sub_trans hW rfl) ?_ | refine State.activateEntry_keeps (sub_trans hW rfl) ?_ | refine State.tail_keeps (sub_trans hW rfl) ?_ | refine State.sideColdGo_keeps (sub_trans hW rfl) ?_) | ((with_reducible conv => arg 3; whnf); first | split | refine Keeps.on_sec (sub_trans hW rfl) ?_ rfl rfl | refine Keeps.on_secLife (sub_trans hW rfl) ?_ rfl rfl)

theorem State.drainComplete_keeps {W} (hW : 402651134 &&& W = 402651134) {s0 s : State} {pass} (hk : Keeps W s0 s) : Keeps W s0 (State.drainComplete s pass) := by
  unfold State.drainComplete
  repeat' first | with_reducible assumption | with_reducible refine State.activateEnd_keeps (sub_trans hW rfl) ?_ | ((with_reducible conv => arg 3; whnf); split)

theorem execFwDrainComplete_keeps {W} (hW : 402651134 &&& W = 402651134) {s0 s : State} {pass} (hk : Keeps W s0 s) : KeepsX W s0 (execFwDrainComplete pass s) := KeepsX.next (State.drainComplete_keeps (sub_trans hW rfl) hk)

theorem State.configResets_keeps {W} (hW : 18 &&& W = 18) {s0 s : State} (hk : Keeps W s0 s) : Keeps W s0 (State.configResets s) := by
  unfold State.configResets
  repeat' first | with_reducible assumption | intro _ | with_reducible (first | refine State.setFn_keeps (sub_trans hW rfl) ?_ | refine State.configReset_keeps (sub_trans hW rfl) ?_ | refine Keeps.foldl ?_ ?_) | ((with_reducible conv => arg 3; whnf); first | split | refine Keeps.on_dev (sub_trans hW rfl) ?_)

theorem State.startWarm_keeps {W} (hW : 402647030 &&& W = 402647030) {s0 s : State} (hk : Keeps W s0 s) : Keeps W s0 (State.startWarm s) := by
  unfold State.startWarm
  repeat' first | with_reducible assumption | with_reducible (first | refine State.configResets_keeps (sub_trans hW rfl) ?_ | refine State.endAll_keeps (sub_trans hW rfl) ?_ | refine State.settle_keeps (sub_trans hW rfl) ?_) | ((with_reducible conv => arg 3; whnf); first | split | refine Keeps.on_dev (sub_trans hW rfl) ?_)

theorem State.warmBay_keeps {W} (hW : 69748 &&& W = 69748) {s0 s : State} {b} (hk : Keeps W s0 s) : Keeps W s0 (State.warmBay s b) := by
  unfold State.warmBay
  repeat' first | with_reducible assumption | with_reducible (first | refine State.lockFails_keeps (sub_trans hW rfl) ?_ | refine State.resetBy_keeps (sub_trans hW rfl) ?_ | refine State.setBay_keeps (sub_trans hW rfl) ?_ | refine State.startScrub_keeps (sub_trans hW rfl) ?_ | refine State.bayResume_keeps (sub_trans hW rfl) ?_) | ((with_reducible conv => arg 3; whnf); split)

theorem State.ictlWarm_keeps {W} (hW : 32768 &&& W = 32768) {s0 s : State} (h : Keeps W s0 s) : Keeps W s0 s.ictlWarm := by
  refine Keeps.on_ictl (sub_trans hW rfl) h (fun x => ⟨keysRising_map _ _ (fun e => by split <;> rfl) _ x.1, fun i hi => ?_⟩)
  have h2 := x.2 i hi
  generalize s.ictl.src = m at h2
  induction m with
  | nil => exact h2
  | cons e m ih =>
    obtain ⟨j, v⟩ := e
    simp only [List.map_cons]
    by_cases hj : j = i
    · subst hj
      simp only [tabGet, if_true] at h2
      split <;> simp only [tabGet, if_true] <;> exact h2
    · simp only [tabGet, if_neg hj] at h2
      have := ih h2
      split <;> simp only [tabGet, if_neg hj] <;> exact this

theorem State.recheckBlocks_keeps {W} (hW : 402651126 &&& W = 402651126) {s0 s : State} {pass} (hk : Keeps W s0 s) : Keeps W s0 (State.recheckBlocks s pass) := by
  unfold State.recheckBlocks
  repeat' first | with_reducible assumption | with_reducible (first | refine State.repairAgain_keeps (sub_trans hW rfl) ?_ | refine State.pend_keeps (sub_trans hW rfl) ?_ | refine State.deviceFatal_keeps (sub_trans hW rfl) ?_) | ((with_reducible conv => arg 3; whnf); first | split | refine Keeps.on_dev (sub_trans hW rfl) ?_)

theorem State.warmEffect_keeps {W} (hW : 402651126 &&& W = 402651126) {s0 s : State} {pass} (h : Keeps W s0 s) : Keeps W s0 (s.warmEffect pass) := by
  unfold State.warmEffect
  extract_lets wasFatal z s1 s2 s3 dev sec s4 s5
  have hz : Keeps W s0 z := by
    unfold z
    split
    · exact Keeps.foldl h (fun _ _ ht => State.resetKey_keeps (sub_trans hW rfl) ht)
    · exact h
  have h1 : Keeps W s0 s1 := State.finishResets_keeps (sub_trans hW rfl) (State.flushAll_keeps (sub_trans hW rfl) hz)
  clear_value z
  have h2 : Keeps W s0 s2 := Keeps.foldl (State.configResets_keeps (sub_trans hW rfl) h1) (fun _ _ ht => State.warmBay_keeps (sub_trans hW rfl) ht)
  clear_value s1
  have h3 : Keeps W s0 s3 := State.setFn_keeps (sub_trans hW rfl) h2
  clear_value s3
  exact State.tail_keeps (sub_trans hW rfl) (State.recheckBlocks_keeps (sub_trans hW rfl) (State.lifeLog_keeps (sub_trans hW rfl) (State.ictlWarm_keeps (sub_trans hW rfl) (State.dropRestore_keeps (sub_trans hW rfl) (Keeps.on_devSec (sub_trans hW rfl) h3 rfl rfl)))))

theorem execDeviceWarmReset_keeps {W} (hW : 402651126 &&& W = 402651126) {s0 s : State} {pass} (hk : Keeps W s0 s) : KeepsX W s0 (execDeviceWarmReset pass s) := by
  unfold execDeviceWarmReset
  repeat' first | with_reducible assumption | with_reducible (first | refine KeepsX.next ?_ | refine State.warmEffect_keeps (sub_trans hW rfl) ?_) | ((with_reducible conv => arg 3; whnf); split)

theorem State.warmEntry_keeps {W} (hW : 402647030 &&& W = 402647030) {s0 s : State} {q} (hk : Keeps W s0 s) : Keeps W s0 (State.warmEntry s q) := by
  unfold State.warmEntry
  repeat' first | with_reducible assumption | intro _ | with_reducible (first | refine State.adminRun_keeps (sub_trans hW rfl) ?_ ?_ | refine State.startWarm_keeps (sub_trans hW rfl) ?_) | ((with_reducible conv => arg 3; whnf); first | with_reducible assumption | split | refine Keeps.pair ‹_› ?_)

theorem execWarmReset_keeps {W} (hW : 402647030 &&& W = 402647030) {s0 s : State} {q} (hk : Keeps W s0 s) : KeepsX W s0 (execWarmReset q s) := KeepsX.next (State.warmEntry_keeps (sub_trans hW rfl) hk)

theorem execPerst_keeps {W} (hW : 402647030 &&& W = 402647030) {s0 s : State} (hk : Keeps W s0 s) : KeepsX W s0 (execPerst s) := by
  unfold execPerst
  repeat' first | with_reducible assumption | with_reducible (first | refine KeepsX.next ?_ | refine State.startWarm_keeps (sub_trans hW rfl) ?_) | ((with_reducible conv => arg 3; whnf); first | split | refine Keeps.on_dev (sub_trans hW rfl) ?_)

theorem execPerstDeasserted_keeps {W} (hW : 2 &&& W = 2) {s0 s : State} (hk : Keeps W s0 s) : KeepsX W s0 (execPerstDeasserted s) := by
  unfold execPerstDeasserted
  repeat' first | with_reducible assumption | with_reducible refine KeepsX.next ?_ | ((with_reducible conv => arg 3; whnf); first | split | refine Keeps.on_dev (sub_trans hW rfl) ?_)

theorem execHotReset_keeps {W} (hW : 402647030 &&& W = 402647030) {s0 s : State} {refclk} (hk : Keeps W s0 s) : KeepsX W s0 (execHotReset refclk s) := by
  unfold execHotReset
  repeat' first | with_reducible assumption | intro _ | with_reducible (first | refine KeepsX.next ?_ | refine State.startWarm_keeps (sub_trans hW rfl) ?_) | ((with_reducible conv => arg 3; whnf); first | with_reducible assumption | split | refine Keeps.pair ‹_› ?_ | refine KeepsO.get ‹_› ?_ | refine KeepsE.get ‹_› ?_ | refine KeepsX.get ‹_› ?_) | dsimp only | refine Keeps.on_dev (sub_trans hW rfl) ?_

theorem execPfFlr_keeps {W} (hW : 402647030 &&& W = 402647030) {s0 s : State} (hk : Keeps W s0 s) : KeepsX W s0 (execPfFlr s) := by
  unfold execPfFlr
  repeat' first | with_reducible assumption | with_reducible (first | refine KeepsX.next ?_ | refine State.pend_keeps (sub_trans hW rfl) ?_ | refine State.startWarm_keeps (sub_trans hW rfl) ?_) | ((with_reducible conv => arg 3; whnf); split)

theorem State.bayResetEntry_keeps {W} (hW : 402651126 &&& W = 402651126) {s0 s : State} {q} (hk : Keeps W s0 s) : Keeps W s0 (State.bayResetEntry s q) := by
  unfold State.bayResetEntry
  repeat' first | with_reducible assumption | intro _ | with_reducible (first | refine State.adminRun_keeps (sub_trans hW rfl) ?_ ?_ | refine State.refuse_keeps (sub_trans hW rfl) ?_ | refine State.updItem_keeps (sub_trans hW rfl) ?_ | refine State.bayReset_keeps (sub_trans hW rfl) ?_ | refine State.tail_keeps (sub_trans hW rfl) ?_) | ((with_reducible conv => arg 3; whnf); first | with_reducible assumption | split | refine Keeps.pair ‹_› ?_)

theorem execBayReset_keeps {W} (hW : 402651126 &&& W = 402651126) {s0 s : State} {q} (hk : Keeps W s0 s) : KeepsX W s0 (execBayReset q s) := KeepsX.next (State.bayResetEntry_keeps (sub_trans hW rfl) hk)

theorem State.coreResetEntry_keeps {W} (hW : 119531510 &&& W = 119531510) {s0 s : State} {q} (hk : Keeps W s0 s) : Keeps W s0 (State.coreResetEntry s q) := by
  unfold State.coreResetEntry
  repeat' first | with_reducible assumption | intro _ | with_reducible (first | refine State.adminRun_keeps (sub_trans hW rfl) ?_ ?_ | refine State.refuse_keeps (sub_trans hW rfl) ?_ | refine State.adminEnd_keeps (sub_trans hW rfl) ?_ | refine State.setCore_keeps (sub_trans hW rfl) ?_) | ((with_reducible conv => arg 3; whnf); first | with_reducible assumption | split | refine Keeps.pair ‹_› ?_)

theorem execCoreReset_keeps {W} (hW : 119531510 &&& W = 119531510) {s0 s : State} {q} (hk : Keeps W s0 s) : KeepsX W s0 (execCoreReset q s) := KeepsX.next (State.coreResetEntry_keeps (sub_trans hW rfl) hk)

theorem State.linkResetEntry_keeps {W} (hW : 121630710 &&& W = 121630710) {s0 s : State} {q} (hk : Keeps W s0 s) : Keeps W s0 (State.linkResetEntry s q) := by
  unfold State.linkResetEntry
  repeat' first | with_reducible assumption | intro _ | with_reducible (first | refine State.adminRun_keeps (sub_trans hW rfl) ?_ ?_ | refine State.portStops_keeps (sub_trans hW rfl) ?_ | refine State.setPort_keeps (sub_trans hW rfl) ?_ | refine State.startTraining_keeps (sub_trans hW rfl) ?_ | refine State.adminEnd_keeps (sub_trans hW rfl) ?_) | ((with_reducible conv => arg 3; whnf); first | with_reducible assumption | split | refine Keeps.pair ‹_› ?_)

theorem execLinkReset_keeps {W} (hW : 121630710 &&& W = 121630710) {s0 s : State} {q} (hk : Keeps W s0 s) : KeepsX W s0 (execLinkReset q s) := KeepsX.next (State.linkResetEntry_keeps (sub_trans hW rfl) hk)

theorem State.flrBay_keeps {W} (hW : 402651126 &&& W = 402651126) {s0 s : State} {b stop} (hk : Keeps W s0 s) : Keeps W s0 (State.flrBay s b stop) := by
  unfold State.flrBay
  repeat' first | with_reducible assumption | with_reducible (first | refine State.setBay_keeps (sub_trans hW rfl) ?_ | refine State.securityStop_keeps (sub_trans hW rfl) ?_ | refine State.bayReset_keeps (sub_trans hW rfl) ?_ | refine State.tail_keeps (sub_trans hW rfl) ?_ | refine State.configReset_keeps (sub_trans hW rfl) ?_) | ((with_reducible conv => arg 3; whnf); split)

theorem State.vfFlr_keeps {W} (hW : 402651126 &&& W = 402651126) {s0 s : State} {b} (hk : Keeps W s0 s) : Keeps W s0 (State.vfFlr s b) := by
  unfold State.vfFlr
  repeat' first | with_reducible assumption | with_reducible (first | refine State.pend_keeps (sub_trans hW rfl) ?_ | refine State.flrBay_keeps (sub_trans hW rfl) ?_ | refine State.configReset_keeps (sub_trans hW rfl) ?_) | ((with_reducible conv => arg 3; whnf); split)

theorem execVfFlr_keeps {W} (hW : 402651126 &&& W = 402651126) {s0 s : State} {bay} (hk : Keeps W s0 s) : KeepsX W s0 (execVfFlr bay s) := KeepsX.next (State.vfFlr_keeps (sub_trans hW rfl) hk)

theorem State.vfVanishes_keeps {W} (hW : 402651126 &&& W = 402651126) {s0 s : State} {b disabled} (hk : Keeps W s0 s) : Keeps W s0 (State.vfVanishes s b disabled) := by
  unfold State.vfVanishes
  repeat' first | with_reducible assumption | with_reducible (first | refine State.setFn_keeps (sub_trans hW rfl) ?_ | refine State.flrBay_keeps (sub_trans hW rfl) ?_ | refine State.configReset_keeps (sub_trans hW rfl) ?_) | ((with_reducible conv => arg 3; whnf); split)

theorem State.vfLower_keeps {W} (hW : 402651126 &&& W = 402651126) {s0 s : State} {n} (hk : Keeps W s0 s) : Keeps W s0 (State.vfLower s n) := by
  unfold State.vfLower
  repeat' first | with_reducible assumption | intro _ | with_reducible (first | refine State.vfVanishes_keeps (sub_trans hW rfl) ?_ | refine State.pend_keeps (sub_trans hW rfl) ?_ | refine Keeps.foldl ?_ ?_) | ((with_reducible conv => arg 3; whnf); first | split | refine Keeps.on_dev (sub_trans hW rfl) ?_)

theorem execVfEnableCleared_keeps {W} (hW : 402651126 &&& W = 402651126) {s0 s : State} {numVfs} (hk : Keeps W s0 s) : KeepsX W s0 (execVfEnableCleared numVfs s) := by
  unfold execVfEnableCleared
  repeat' first | with_reducible assumption | with_reducible (first | refine KeepsX.next ?_ | refine State.vfLower_keeps (sub_trans hW rfl) ?_) | ((with_reducible conv => arg 3; whnf); split)

theorem State.vfAppears_keeps {W} (hW : 48 &&& W = 48) {s0 s : State} {b} (hk : Keeps W s0 s) : Keeps W s0 (State.vfAppears s b) := by
  unfold State.vfAppears
  repeat' first | with_reducible assumption | with_reducible (first | refine State.setFn_keeps (sub_trans hW rfl) ?_ | refine State.setBay_keeps (sub_trans hW rfl) ?_) | ((with_reducible conv => arg 3; whnf); split)

theorem State.vfRaise_keeps {W} (hW : 32818 &&& W = 32818) {s0 s : State} {n} (hk : Keeps W s0 s) : Keeps W s0 (State.vfRaise s n) := by
  unfold State.vfRaise
  repeat' first | with_reducible assumption | intro _ | with_reducible (first | refine State.vfAppears_keeps (sub_trans hW rfl) ?_ | refine State.pend_keeps (sub_trans hW rfl) ?_ | refine Keeps.foldl ?_ ?_) | ((with_reducible conv => arg 3; whnf); first | split | refine Keeps.on_dev (sub_trans hW rfl) ?_)

theorem execVfEnableSet_keeps {W} (hW : 32818 &&& W = 32818) {s0 s : State} {numVfs} (hk : Keeps W s0 s) : KeepsX W s0 (execVfEnableSet numVfs s) := by
  unfold execVfEnableSet
  repeat' first | with_reducible assumption | with_reducible (first | refine KeepsX.next ?_ | refine State.vfRaise_keeps (sub_trans hW rfl) ?_) | ((with_reducible conv => arg 3; whnf); split)

theorem State.vfConfig_keeps {W} (hW : 402651126 &&& W = 402651126) {s0 s : State} {fn bars mem master ats pasid msix fmask} (hk : Keeps W s0 s) : Keeps W s0 (State.vfConfig s fn bars mem master ats pasid msix fmask) := by
  unfold State.vfConfig
  repeat' first | with_reducible assumption | with_reducible (first | refine State.pend_keeps (sub_trans hW rfl) ?_ | refine State.securityStop_keeps (sub_trans hW rfl) ?_ | refine State.setFn_keeps (sub_trans hW rfl) ?_ | refine State.msix_keeps (sub_trans hW rfl) ?_ | refine State.msixFlush_keeps (sub_trans hW rfl) ?_ | refine State.tail_keeps (sub_trans hW rfl) ?_) | ((with_reducible conv => arg 3; whnf); split)

theorem execVfConfigChange_keeps {W} (hW : 402651126 &&& W = 402651126) {s0 s : State} {fn bars mem master ats pasid msix fmask} (hk : Keeps W s0 s) : KeepsX W s0 (execVfConfigChange fn bars mem master ats pasid msix fmask s) := by
  unfold execVfConfigChange
  repeat' first | with_reducible assumption | with_reducible (first | refine KeepsX.next ?_ | refine State.vfConfig_keeps (sub_trans hW rfl) ?_ | refine State.msix_keeps (sub_trans hW rfl) ?_) | ((with_reducible conv => arg 3; whnf); split)

theorem State.railsOn_keeps {W} (hW : 37890 &&& W = 37890) {s0 s : State} (h : Keeps W s0 s) : Keeps W s0 s.railsOn := by
  unfold State.railsOn
  extract_lets bad pw dev ic s1
  have h1 : Keeps W s0 s1 := Keeps.on_devPowerIctl (sub_trans hW rfl) h (fun x => ⟨x.1, x.2⟩)
  clear_value s1
  refine Keeps.foldl ?_ (fun _ _ ht => State.startTraining_keeps (sub_trans hW rfl) ht)
  split
  · exact State.pend_keeps (sub_trans hW rfl) h1
  · exact h1

theorem State.coldStart_keeps {W} (hW : 939524095 &&& W = 939524095) {s0 s : State} {cause sref} (hk : Keeps W s0 s) : Keeps W s0 (s.coldStart cause sref) := by
  have h : Keeps W s0 s.dropActivation := State.dropActivation_keeps (sub_trans hW rfl) hk
  have hi : Keeps W s0 s.dropActivation.ictlWarm := State.ictlWarm_keeps (sub_trans hW rfl) h
  unfold State.coldStart
  generalize s.dropActivation = x at h hi
  extract_lets y r aux kept dev sp1 sp2 fb pw t
  have ht : Keeps W s0 t := by
    refine Keeps.anew (sub_trans hW rfl) h.pending rfl rfl ?_ ?_ ?_
    · show _ &&& (if _ then x.secKept else x.secCold).operatorBank = _
      split <;> exact h.operatorBank
    · show _ &&& (if _ then x.secKept else x.secCold).floorBank = _
      split <;> exact h.floorBank
    · show _ → (if _ then x.ictlWarm.ictl else State.reset.ictl).Sound
      split
      · exact hi.sound
      · exact fun _ => soundReset
  clear_value t
  split
  · exact State.railsOn_keeps (sub_trans hW rfl) ht
  · exact ht

theorem execMainInputInRange_keeps {W} (hW : 37890 &&& W = 37890) {s0 s : State} (hk : Keeps W s0 s) : KeepsX W s0 (execMainInputInRange s) := by
  unfold execMainInputInRange
  repeat' first | with_reducible assumption | with_reducible (first | refine KeepsX.next ?_ | refine State.railsOn_keeps (sub_trans hW rfl) ?_) | ((with_reducible conv => arg 3; whnf); first | split | refine Keeps.on_dev (sub_trans hW rfl) ?_)

theorem execMainInputReturn_keeps {W} (hW : 939524095 &&& W = 939524095) {s0 s : State} (hk : Keeps W s0 s) : KeepsX W s0 (execMainInputReturn s) := by
  unfold execMainInputReturn
  repeat' first | with_reducible assumption | with_reducible (first | refine KeepsX.next ?_ | refine State.coldStart_keeps (sub_trans hW rfl) ?_) | ((with_reducible conv => arg 3; whnf); first | split | refine Keeps.on_dev (sub_trans hW rfl) ?_)

theorem State.writeStops_keeps {W} (hW : 4 &&& W = 4) {s0 s : State} {kind} (hk : Keeps W s0 s) : Keeps W s0 (State.writeStops s kind) := by
  unfold State.writeStops
  repeat' first | with_reducible assumption | intro _ | with_reducible refine State.setFw_keeps (sub_trans hW rfl) ?_ | ((with_reducible conv => arg 3; whnf); first | with_reducible assumption | split | refine Keeps.pair ‹_› ?_ | refine KeepsO.get ‹_› ?_ | refine KeepsE.get ‹_› ?_ | refine KeepsX.get ‹_› ?_) | dsimp only | refine Keeps.on_sec (sub_trans hW rfl) ?_ rfl rfl

theorem execModResetN_keeps {W} (hW : 939524095 &&& W = 939524095) {s0 s : State} {pulse} (hk : Keeps W s0 s) : KeepsX W s0 (execModResetN pulse s) := by
  unfold execModResetN
  repeat' first | with_reducible assumption | with_reducible (first | refine KeepsX.next ?_ | refine State.writeStops_keeps (sub_trans hW rfl) ?_ | refine State.coldStart_keeps (sub_trans hW rfl) ?_) | ((with_reducible conv => arg 3; whnf); first | split | refine Keeps.on_dev (sub_trans hW rfl) ?_)

theorem State.coldEntry_keeps {W} (hW : 402647030 &&& W = 402647030) {s0 s : State} {q} (hk : Keeps W s0 s) : Keeps W s0 (State.coldEntry s q) := by
  unfold State.coldEntry
  repeat' first | with_reducible assumption | intro _ | with_reducible (first | refine State.adminRun_keeps (sub_trans hW rfl) ?_ ?_ | refine State.startCold_keeps (sub_trans hW rfl) ?_) | ((with_reducible conv => arg 3; whnf); first | with_reducible assumption | split | refine Keeps.pair ‹_› ?_)

theorem State.sideColdReset_keeps {W} (hW : 402647030 &&& W = 402647030) {s0 s : State} {e} (hk : Keeps W s0 s) : Keeps W s0 (State.sideColdReset s e) := by
  unfold State.sideColdReset
  repeat' first | with_reducible assumption | intro _ | with_reducible (first | refine State.announce_keeps (sub_trans hW rfl) ?_ ?_ | refine State.pend_keeps (sub_trans hW rfl) ?_ | refine State.respond_keeps (sub_trans hW rfl) ?_ | refine State.startCold_keeps (sub_trans hW rfl) ?_) | ((with_reducible conv => arg 3; whnf); first | with_reducible assumption | split | refine Keeps.pair ‹_› ?_ | refine KeepsO.get ‹_› ?_ | refine KeepsE.get ‹_› ?_ | refine KeepsX.get ‹_› ?_) | dsimp only | refine Keeps.on_dev (sub_trans hW rfl) ?_

theorem execColdReset_keeps {W} (hW : 402647030 &&& W = 402647030) {s0 s : State} {q side} (hk : Keeps W s0 s) : KeepsX W s0 (execColdReset q side s) := by
  unfold execColdReset
  repeat' first | with_reducible assumption | with_reducible (first | refine KeepsX.next ?_ | refine State.sideColdReset_keeps (sub_trans hW rfl) ?_ | refine State.coldEntry_keeps (sub_trans hW rfl) ?_) | ((with_reducible conv => arg 3; whnf); first | split)

theorem execModuleColdReset_keeps {W} (hW : 939524095 &&& W = 939524095) {s0 s : State} {release} (hk : Keeps W s0 s) : KeepsX W s0 (execModuleColdReset release s) := by
  unfold execModuleColdReset
  repeat' first | with_reducible assumption | with_reducible (first | refine KeepsX.next ?_ | refine State.coldStart_keeps (sub_trans hW rfl) ?_) | ((with_reducible conv => arg 3; whnf); split)

theorem State.auxLoss_keeps {W} (hW : 33575938 &&& W = 33575938) {s0 s : State} (hk : Keeps W s0 s) : Keeps W s0 (State.auxLoss s) := by
  unfold State.auxLoss
  repeat' first | with_reducible assumption | with_reducible (first | refine State.mainOff_keeps (sub_trans hW rfl) ?_ | refine State.drawn_keeps (sub_trans hW rfl) ?_) | ((with_reducible conv => arg 3; whnf); first | split | refine Keeps.on_devPowerLife (sub_trans hW rfl) ?_)

theorem execAuxInputLoss_keeps {W} (hW : 33575938 &&& W = 33575938) {s0 s : State} (hk : Keeps W s0 s) : KeepsX W s0 (execAuxInputLoss s) := by
  unfold execAuxInputLoss
  repeat' first | with_reducible assumption | with_reducible (first | refine KeepsX.next ?_ | refine State.auxLoss_keeps (sub_trans hW rfl) ?_) | ((with_reducible conv => arg 3; whnf); split)

theorem State.bootColumn_keeps {W} (hW : 16640 &&& W = 16640) {s0 s : State} {dead col} (hk : Keeps W s0 s) : Keeps W s0 (State.bootColumn s dead col) := by
  unfold State.bootColumn
  repeat' first | with_reducible assumption | intro _ | with_reducible (first | refine State.setColumn_keeps (sub_trans hW rfl) ?_ | refine State.lifeLog_keeps (sub_trans hW rfl) ?_ | refine Keeps.foldl ?_ ?_) | ((with_reducible conv => arg 3; whnf); first | split)

theorem State.bootStack_keeps {W} (hW : 16896 &&& W = 16896) {s0 s : State} {k} (hk : Keeps W s0 s) : Keeps W s0 (State.bootStack s k) := by
  unfold State.bootStack
  repeat' first | with_reducible assumption | intro _ | with_reducible (first | refine State.lifeLog_keeps (sub_trans hW rfl) ?_ | refine State.setStack_keeps (sub_trans hW rfl) ?_ | refine Keeps.foldl ?_ ?_) | ((with_reducible conv => arg 3; whnf); first | split)

theorem State.bootStrip_keeps {W} (hW : 100917778 &&& W = 100917778) {s0 s : State} {k cause} (hk : Keeps W s0 s) : Keeps W s0 (State.bootStrip s k cause) := by
  unfold State.bootStrip
  repeat' first | with_reducible assumption | with_reducible (first | refine State.lifeLog_keeps (sub_trans hW rfl) ?_ | refine State.raiseIn_keeps (sub_trans hW rfl) ?_) | ((with_reducible conv => arg 3; whnf); first | split | refine Keeps.on_dev (sub_trans hW rfl) ?_)

theorem State.bootReady_keeps {W} (hW : 100922130 &&& W = 100922130) {s0 s : State} {dead bad ch ms} (h : Keeps W s0 s) : Keeps W s0 (s.bootReady dead bad ch ms) := by
  have h1 := Keeps.foldl (f := fun (t : State) c => t.bootColumn dead c) (l := List.range 72) h (fun _ _ ht => State.bootColumn_keeps (sub_trans hW rfl) ht)
  have h2 := Keeps.foldl (f := fun (t : State) k => t.bootStack k) (l := List.range 24) h1 (fun _ _ ht => State.bootStack_keeps (sub_trans hW rfl) ht)
  unfold State.bootReady
  extract_lets s1 t2 s2 s3 s4 out s5 s6
  have h2 : Keeps W s0 s2 := Keeps.foldl (Keeps.on_draws (sub_trans hW rfl) h2) (fun _ _ ht => State.stackFailing_keeps (sub_trans hW rfl) ht)
  clear_value s2
  have h3 : Keeps W s0 s3 := by
    refine Keeps.foldl h2 (fun t k ht => ?_)
    split
    · exact State.bootStrip_keeps (sub_trans hW rfl) ht
    · exact ht
  clear_value s3
  have h4 : Keeps W s0 s4 := Keeps.foldl h3 (fun _ _ ht => State.bootStrip_keeps (sub_trans hW rfl) ht)
  clear_value s4
  exact Keeps.on_dev (sub_trans hW rfl) (State.lifeLog_keeps (sub_trans hW rfl) (State.gate_keeps (sub_trans hW rfl) h4))

theorem execBootReady_keeps {W} (hW : 100922130 &&& W = 100922130) {s0 s : State} {dead found bootMs} (hk : Keeps W s0 s) : KeepsX W s0 (execBootReady dead found bootMs s) := by
  unfold execBootReady
  repeat' first | with_reducible assumption | with_reducible (first | refine KeepsX.next ?_ | refine State.bootReady_keeps (sub_trans hW rfl) ?_) | ((with_reducible conv => arg 3; whnf); split)

theorem State.lifeRead_keeps {W} (hW : 119531446 &&& W = 119531446) {s0 s : State} {q} (hk : Keeps W s0 s) : Keeps W s0 (State.lifeRead s q) := by
  unfold State.lifeRead
  repeat' first | with_reducible assumption | intro _ | with_reducible (first | refine State.adminRun_keeps (sub_trans hW rfl) ?_ ?_ | refine State.adminEnd_keeps (sub_trans hW rfl) ?_ | refine State.adminWrite_keeps (sub_trans hW rfl) ?_ ?_) | ((with_reducible conv => arg 3; whnf); first | with_reducible assumption | split | refine Keeps.pair ‹_› ?_)

theorem State.sideRespond_keeps {W} (hW : 81920 &&& W = 81920) {s0 s : State} {r} (hk : Keeps W s0 s) : Keeps W s0 (State.sideRespond s r) := by
  unfold State.sideRespond
  repeat' first | with_reducible assumption | with_reducible (first | refine State.announce_keeps (sub_trans hW rfl) ?_ ?_ | refine State.respond_keeps (sub_trans hW rfl) ?_) | ((with_reducible conv => arg 3; whnf); split)

theorem State.sideLifeRead_keeps {W} (hW : 114688 &&& W = 114688) {s0 s : State} {e} (hk : Keeps W s0 s) : Keeps W s0 (State.sideLifeRead s e) := by
  unfold State.sideLifeRead
  repeat' first | with_reducible assumption | with_reducible (first | refine State.pend_keeps (sub_trans hW rfl) ?_ | refine State.sideRespond_keeps (sub_trans hW rfl) ?_) | ((with_reducible conv => arg 3; whnf); split)

theorem execLifetimeRead_keeps {W} (hW : 119531446 &&& W = 119531446) {s0 s : State} {q side} (hk : Keeps W s0 s) : KeepsX W s0 (execLifetimeRead q side s) := by
  unfold execLifetimeRead
  repeat' first | with_reducible assumption | with_reducible (first | refine KeepsX.next ?_ | refine State.lifeRead_keeps (sub_trans hW rfl) ?_ | refine State.sideLifeRead_keeps (sub_trans hW rfl) ?_) | ((with_reducible conv => arg 3; whnf); split)

theorem State.epochSet_keeps {W} (hW : 16384 &&& W = 16384) {s0 s : State} {v} (hk : Keeps W s0 s) : Keeps W s0 (State.epochSet s v) := by
  unfold State.epochSet
  repeat' first | with_reducible assumption | with_reducible refine State.lifeLog_keeps (sub_trans hW rfl) ?_ | ((with_reducible conv => arg 3; whnf); first | split | refine Keeps.on_life (sub_trans hW rfl) ?_)

theorem State.setEpoch_keeps {W} (hW : 119531446 &&& W = 119531446) {s0 s : State} {q} (hk : Keeps W s0 s) : Keeps W s0 (State.setEpoch s q) := by
  unfold State.setEpoch
  repeat' first | with_reducible assumption | intro _ | with_reducible (first | refine State.adminRun_keeps (sub_trans hW rfl) ?_ ?_ | refine State.refuse_keeps (sub_trans hW rfl) ?_ | refine State.epochSet_keeps (sub_trans hW rfl) ?_ | refine State.adminEnd_keeps (sub_trans hW rfl) ?_) | ((with_reducible conv => arg 3; whnf); first | with_reducible assumption | split | refine Keeps.pair ‹_› ?_)

theorem State.sideEpoch_keeps {W} (hW : 114688 &&& W = 114688) {s0 s : State} {r} (hk : Keeps W s0 s) : Keeps W s0 (State.sideEpoch s r) := by
  unfold State.sideEpoch
  repeat' first | with_reducible assumption | with_reducible (first | refine State.pend_keeps (sub_trans hW rfl) ?_ | refine State.epochSet_keeps (sub_trans hW rfl) ?_ | refine State.sideRespond_keeps (sub_trans hW rfl) ?_) | ((with_reducible conv => arg 3; whnf); split)

theorem execSetEpoch_keeps {W} (hW : 119531446 &&& W = 119531446) {s0 s : State} {q side} (hk : Keeps W s0 s) : KeepsX W s0 (execSetEpoch q side s) := by
  unfold execSetEpoch
  repeat' first | with_reducible assumption | with_reducible (first | refine KeepsX.next ?_ | refine State.setEpoch_keeps (sub_trans hW rfl) ?_ | refine State.sideEpoch_keeps (sub_trans hW rfl) ?_) | ((with_reducible conv => arg 3; whnf); split)

theorem State.summary_keeps {W} (hW : 16384 &&& W = 16384) {s0 s : State} {before} (hk : Keeps W s0 s) : Keeps W s0 (State.summary s before) := by
  unfold State.summary
  repeat' first | with_reducible assumption | with_reducible refine State.lifeLog_keeps (sub_trans hW rfl) ?_ | ((with_reducible conv => arg 3; whnf); first | split | refine Keeps.on_life (sub_trans hW rfl) ?_)

theorem State.lifeCommit_keeps {W} (hW : 16384 &&& W = 16384) {s0 s : State} {tileBins stackBins} (hk : Keeps W s0 s) : Keeps W s0 (State.lifeCommit s tileBins stackBins) := by
  unfold State.lifeCommit
  repeat' first | with_reducible assumption | with_reducible refine State.summary_keeps (sub_trans hW rfl) ?_ | ((with_reducible conv => arg 3; whnf); first | split | refine Keeps.on_life (sub_trans hW rfl) ?_)

theorem execLifetimeCommit_keeps {W} (hW : 16384 &&& W = 16384) {s0 s : State} {tileBins stackBins} (hk : Keeps W s0 s) : KeepsX W s0 (execLifetimeCommit tileBins stackBins s) := by
  unfold execLifetimeCommit
  repeat' first | with_reducible assumption | with_reducible (first | refine KeepsX.next ?_ | refine State.lifeCommit_keeps (sub_trans hW rfl) ?_) | ((with_reducible conv => arg 3; whnf); split)

theorem execEntdaa_keeps {W} (hW : 33669120 &&& W = 33669120) {s0 s : State} {address} (hk : Keeps W s0 s) : KeepsX W s0 (execEntdaa address s) := by
  unfold execEntdaa
  repeat' first | with_reducible assumption | with_reducible (first | refine KeepsX.next ?_ | refine State.pend_keeps (sub_trans hW rfl) ?_ | refine State.drawn_keeps (sub_trans hW rfl) ?_ | refine State.respond_keeps (sub_trans hW rfl) ?_) | ((with_reducible conv => arg 3; whnf); first | split | refine Keeps.on_life (sub_trans hW rfl) ?_)

theorem execSetEndpointId_keeps {W} (hW : 49152 &&& W = 49152) {s0 s : State} {eid} (hk : Keeps W s0 s) : KeepsX W s0 (execSetEndpointId eid s) := by
  unfold execSetEndpointId
  repeat' first | with_reducible assumption | with_reducible (first | refine KeepsX.next ?_ | refine State.pend_keeps (sub_trans hW rfl) ?_) | ((with_reducible conv => arg 3; whnf); first | split | refine Keeps.on_life (sub_trans hW rfl) ?_)

theorem execPldmDiscovery_keeps {W} (hW : 33669120 &&& W = 33669120) {s0 s : State} {command} (hk : Keeps W s0 s) : KeepsX W s0 (execPldmDiscovery command s) := by
  unfold execPldmDiscovery
  repeat' first | with_reducible assumption | with_reducible (first | refine KeepsX.next ?_ | refine State.pend_keeps (sub_trans hW rfl) ?_ | refine State.drawn_keeps (sub_trans hW rfl) ?_ | refine State.sideRespond_keeps (sub_trans hW rfl) ?_) | ((with_reducible conv => arg 3; whnf); split)

theorem execPldmSensorRead_keeps {W} (hW : 33669120 &&& W = 33669120) {s0 s : State} {sensor} (hk : Keeps W s0 s) : KeepsX W s0 (execPldmSensorRead sensor s) := by
  unfold execPldmSensorRead
  repeat' first | with_reducible assumption | with_reducible (first | refine KeepsX.next ?_ | refine State.pend_keeps (sub_trans hW rfl) ?_ | refine State.drawn_keeps (sub_trans hW rfl) ?_ | refine State.sideRespond_keeps (sub_trans hW rfl) ?_) | ((with_reducible conv => arg 3; whnf); split)

theorem State.pldmUpdate_keeps {W} (hW : 402647030 &&& W = 402647030) {s0 s : State} {kind image activate} (hk : Keeps W s0 s) : Keeps W s0 (State.pldmUpdate s kind image activate) := by
  unfold State.pldmUpdate
  repeat' first | with_reducible assumption | with_reducible (first | refine State.sideRespond_keeps (sub_trans hW rfl) ?_ | refine State.activateStart_keeps (sub_trans hW rfl) ?_ | refine State.stageImage_keeps (sub_trans hW rfl) ?_) | ((with_reducible conv => arg 3; whnf); split)

theorem execPldmFirmwareUpdate_keeps {W} (hW : 402647030 &&& W = 402647030) {s0 s : State} {kind image activate} (hk : Keeps W s0 s) : KeepsX W s0 (execPldmFirmwareUpdate kind image activate s) := by
  unfold execPldmFirmwareUpdate
  repeat' first | with_reducible assumption | with_reducible (first | refine KeepsX.next ?_ | refine State.pend_keeps (sub_trans hW rfl) ?_ | refine State.pldmUpdate_keeps (sub_trans hW rfl) ?_) | ((with_reducible conv => arg 3; whnf); split)

end Sys2Proof.Machine
end

