-- ==== Sys2Proof/Laws/KeepsHost.lean ====
section
/-! SUPPORT. What Keeps.lean says of every operation, for the set-up registers, the host interface and the secure sessions. -/

set_option maxRecDepth 4000

namespace Sys2Proof.Machine

theorem setIf_keeps {W} (hW : 0 &&& W = 0) {s0 : State} {ok reason out} (h : KeepsE W s0 out) : KeepsE W s0 (setIf ok reason out) := by
  unfold setIf
  split
  · exact h
  · exact KeepsE.error _

theorem State.setRes_keeps {W} (hW : 0 &&& W = 0) {s0 s : State} {b out} (h : KeepsE W s0 out) : KeepsE W s0 (s.setRes b out) := setIf_keeps (sub_trans hW rfl) h

theorem State.setPcie_keeps {W} (hW : 32 &&& W = 32) {s0 s : State} {b v} (hk : Keeps W s0 s) : KeepsE W s0 (State.setPcie s b v) := by
  unfold State.setPcie
  repeat' first | with_reducible assumption | with_reducible (first | refine KeepsE.ok ?_ | refine State.setBay_keeps (sub_trans hW rfl) ?_ | refine setIf_keeps (sub_trans hW rfl) ?_) | exact KeepsE.error _ | ((with_reducible conv => arg 3; whnf); split)

theorem State.setEnvelope_keeps {W} (hW : 32 &&& W = 32) {s0 s : State} {b v} (hk : Keeps W s0 s) : KeepsE W s0 (State.setEnvelope s b v) := by
  unfold State.setEnvelope
  repeat' first | with_reducible assumption | with_reducible (first | refine KeepsE.ok ?_ | refine State.setBay_keeps (sub_trans hW rfl) ?_ | refine setIf_keeps (sub_trans hW rfl) ?_) | exact KeepsE.error _ | ((with_reducible conv => arg 3; whnf); split)

theorem State.setAclk_keeps {W} (hW : 32 &&& W = 32) {s0 s : State} {b v} (hk : Keeps W s0 s) : KeepsE W s0 (State.setAclk s b v) := by
  unfold State.setAclk
  repeat' first | with_reducible assumption | with_reducible (first | refine KeepsE.ok ?_ | refine setIf_keeps (sub_trans hW rfl) ?_ | refine State.setBay_keeps (sub_trans hW rfl) ?_) | exact KeepsE.error _ | ((with_reducible conv => arg 3; whnf); split)

theorem State.setAclkRange_keeps {W} (hW : 32 &&& W = 32) {s0 s : State} {b v} (hk : Keeps W s0 s) : KeepsE W s0 (State.setAclkRange s b v) := by
  unfold State.setAclkRange
  repeat' first | with_reducible assumption | with_reducible (first | refine KeepsE.ok ?_ | refine setIf_keeps (sub_trans hW rfl) ?_ | refine State.setBay_keeps (sub_trans hW rfl) ?_) | exact KeepsE.error _ | ((with_reducible conv => arg 3; whnf); split)

theorem State.setFreqMode_keeps {W} (hW : 32 &&& W = 32) {s0 s : State} {b v} (hk : Keeps W s0 s) : KeepsE W s0 (State.setFreqMode s b v) := by
  unfold State.setFreqMode
  repeat' first | with_reducible assumption | with_reducible (first | refine KeepsE.ok ?_ | refine State.setBay_keeps (sub_trans hW rfl) ?_) | exact KeepsE.error _ | ((with_reducible conv => arg 3; whnf); split)

theorem State.setPortMap_keeps {W} (hW : 1072 &&& W = 1072) {s0 s : State} {p v named} {out : SetOut → SetOut} (h : Keeps W s0 s) (hf : ∀ x, KeepsE W s0 x → KeepsE W s0 (out x)) :
    KeepsE W s0 (s.setPortMap p v named out) :=
  setIf_keeps (sub_trans hW rfl) (hf _ (KeepsE.ok (Keeps.foldl (State.pumpPort_keeps (sub_trans hW rfl) (State.setPort_keeps (sub_trans hW rfl) h)) (fun _ _ ht =>
    State.destRecheck_keeps (sub_trans hW rfl) (by
      split
      · exact State.linkRestart_keeps (sub_trans hW rfl) ht
      · exact ht)))))

theorem State.setAssign_keeps {W} (hW : 1072 &&& W = 1072) {s0 s : State} {p v} (hk : Keeps W s0 s) : KeepsE W s0 (State.setAssign s p v) := by
  unfold State.setAssign
  repeat' first | with_reducible assumption | intro _ | with_reducible (first | refine KeepsE.ok ?_ | refine State.setPortMap_keeps (sub_trans hW rfl) ?_ ?_ | refine setIf_keeps (sub_trans hW rfl) ?_) | exact KeepsE.error _ | ((with_reducible conv => arg 3; whnf); first | with_reducible assumption | split | refine Keeps.pair ‹_› ?_)

theorem State.setSlots_keeps {W} (hW : 1072 &&& W = 1072) {s0 s : State} {p i v} (hk : Keeps W s0 s) : KeepsE W s0 (State.setSlots s p i v) := by
  unfold State.setSlots
  repeat' first | with_reducible assumption | intro _ | with_reducible (first | refine KeepsE.ok ?_ | refine State.setPortMap_keeps (sub_trans hW rfl) ?_ ?_ | refine setIf_keeps (sub_trans hW rfl) ?_ | refine Keeps.foldl ?_ ?_) | exact KeepsE.error _ | ((with_reducible conv => arg 3; whnf); first | split)

theorem setRange_keeps {W} (hW : 0 &&& W = 0) {s0 : State} {v bits lo hi} {out : BitVec 32 → State} (hf : ∀ x, Keeps W s0 (out x)) : KeepsE W s0 (setRange v bits lo hi out) :=
  setIf_keeps (sub_trans hW rfl) (KeepsE.ok (hf _))

theorem capCheck_keeps {W} (hW : 0 &&& W = 0) {s0 : State} {out} (h : KeepsE W s0 out) : KeepsE W s0 (capCheck out) := by
  unfold capCheck
  split
  · exact h
  · exact setIf_keeps (sub_trans hW rfl) h

theorem State.setFabric_keeps {W} (hW : 121630704 &&& W = 121630704) {s0 s : State} {v} (hk : Keeps W s0 s) : Keeps W s0 (State.setFabric s v) := by
  unfold State.setFabric
  repeat' first | with_reducible assumption | with_reducible refine State.startWalk_keeps (sub_trans hW rfl) ?_ | ((with_reducible conv => arg 3; whnf); first | split | refine Keeps.on_fabric (sub_trans hW rfl) ?_)

theorem setTrig_keeps {W} (hW : 0 &&& W = 0) {s0 : State} {v} {out : BitVec 32 → State} (hf : ∀ x, Keeps W s0 (out x)) : KeepsE W s0 (setTrig v out) :=
  setIf_keeps (sub_trans hW rfl) (KeepsE.ok (hf _))

theorem State.setDest_keeps {W} (hW : 16777216 &&& W = 16777216) {s0 s : State} {fn v len spaces} {out : BitVec 64 → State} (hf : ∀ x, Keeps W s0 (out x)) : KeepsE W s0 (s.setDest fn v len spaces out) := by
  unfold State.setDest
  split
  · exact KeepsE.ok (hf _)
  · exact setIf_keeps (sub_trans hW rfl) (setIf_keeps (sub_trans hW rfl) (KeepsE.ok (hf _)))

theorem State.setQReg_keeps {W} (hW : 16 &&& W = 16) {s0 s : State} {fn q ok reason new} (hk : Keeps W s0 s) : KeepsE W s0 (State.setQReg s fn q ok reason new) := by
  unfold State.setQReg
  repeat' first | with_reducible assumption | with_reducible (first | refine KeepsE.ok ?_ | refine setIf_keeps (sub_trans hW rfl) ?_ | refine State.setQueue_keeps (sub_trans hW rfl) ?_) | exact KeepsE.error _ | ((with_reducible conv => arg 3; whnf); split)

theorem State.qEnable_keeps {W} (hW : 16777232 &&& W = 16777232) {s0 s : State} {fn q} (hk : Keeps W s0 s) : KeepsE W s0 (State.qEnable s fn q) := by
  unfold State.qEnable
  repeat' first | with_reducible assumption | with_reducible (first | refine KeepsE.ok ?_ | refine setIf_keeps (sub_trans hW rfl) ?_ | refine State.calm_keeps (sub_trans hW rfl) ?_ | refine State.setQueue_keeps (sub_trans hW rfl) ?_) | exact KeepsE.error _ | ((with_reducible conv => arg 3; whnf); split)

theorem State.qDisable_keeps {W} (hW : 119530388 &&& W = 119530388) {s0 s : State} {fn q} (hk : Keeps W s0 s) : KeepsE W s0 (State.qDisable s fn q) := by
  unfold State.qDisable
  repeat' first | with_reducible assumption | with_reducible (first | refine KeepsE.ok ?_ | refine State.flushQueue_keeps (sub_trans hW rfl) ?_ | refine setIf_keeps (sub_trans hW rfl) ?_ | refine State.setQueue_keeps (sub_trans hW rfl) ?_) | exact KeepsE.error _ | ((with_reducible conv => arg 3; whnf); split)

theorem State.qRestart_keeps {W} (hW : 16 &&& W = 16) {s0 s : State} {fn q} (hk : Keeps W s0 s) : KeepsE W s0 (State.qRestart s fn q) := by
  unfold State.qRestart
  repeat' first | with_reducible assumption | with_reducible (first | refine KeepsE.ok ?_ | refine setIf_keeps (sub_trans hW rfl) ?_ | refine State.setQueue_keeps (sub_trans hW rfl) ?_) | exact KeepsE.error _ | ((with_reducible conv => arg 3; whnf); split)

theorem State.qCommand_keeps {W} (hW : 119530388 &&& W = 119530388) {s0 s : State} {fn q cmd} (hk : Keeps W s0 s) : KeepsE W s0 (State.qCommand s fn q cmd) := by
  unfold State.qCommand
  repeat' first | with_reducible assumption | with_reducible (first | refine KeepsE.ok ?_ | refine State.qEnable_keeps (sub_trans hW rfl) ?_ | refine State.qDisable_keeps (sub_trans hW rfl) ?_ | refine State.qRestart_keeps (sub_trans hW rfl) ?_) | exact KeepsE.error _ | ((with_reducible conv => arg 3; whnf); split)

theorem State.setErr_keeps {W} (hW : 16777232 &&& W = 16777232) {s0 s : State} {fn e} (hk : Keeps W s0 s) : KeepsE W s0 (State.setErr s fn e) := by
  unfold State.setErr
  repeat' first | with_reducible assumption | with_reducible (first | refine KeepsE.ok ?_ | refine setIf_keeps (sub_trans hW rfl) ?_ | refine State.calm_keeps (sub_trans hW rfl) ?_ | refine State.setFn_keeps (sub_trans hW rfl) ?_) | exact KeepsE.error _ | ((with_reducible conv => arg 3; whnf); split)

theorem State.putWin_keeps {W} (hW : 32 &&& W = 32) {s0 s : State} {b inbound w d} (hk : Keeps W s0 s) : Keeps W s0 (State.putWin s b inbound w d) := by
  unfold State.putWin
  repeat' first | with_reducible assumption | with_reducible refine State.setBay_keeps (sub_trans hW rfl) ?_ | ((with_reducible conv => arg 3; whnf); split)

theorem State.setWin_keeps {W} (hW : 16777248 &&& W = 16777248) {s0 s : State} {b inbound w k v} (hk : Keeps W s0 s) : KeepsE W s0 (State.setWin s b inbound w k v) := by
  unfold State.setWin
  repeat' first | with_reducible assumption | with_reducible (first | refine KeepsE.ok ?_ | refine State.putWin_keeps (sub_trans hW rfl) ?_ | refine setIf_keeps (sub_trans hW rfl) ?_) | exact KeepsE.error _ | ((with_reducible conv => arg 3; whnf); split)

theorem State.setEvid_keeps {W} (hW : 32 &&& W = 32) {s0 s : State} {b ok reason new} (hk : Keeps W s0 s) : KeepsE W s0 (State.setEvid s b ok reason new) := by
  unfold State.setEvid
  repeat' first | with_reducible assumption | with_reducible (first | refine KeepsE.ok ?_ | refine setIf_keeps (sub_trans hW rfl) ?_ | refine State.setBay_keeps (sub_trans hW rfl) ?_) | exact KeepsE.error _ | ((with_reducible conv => arg 3; whnf); split)

theorem State.setReg_keeps {W} (hW : 121634806 &&& W = 121634806) {s0 s : State} {fn r v} (hk : Keeps W s0 s) : KeepsE W s0 (State.setReg s fn r v) := by
  unfold State.setReg
  repeat' first | with_reducible assumption | intro _ | with_reducible (first | refine KeepsE.ok ?_ | refine State.setFn_keeps (sub_trans hW rfl) ?_ | refine setIf_keeps (sub_trans hW rfl) ?_ | refine State.setDest_keeps (sub_trans hW rfl) ?_ | refine State.setQReg_keeps (sub_trans hW rfl) ?_ | refine State.setQueue_keeps (sub_trans hW rfl) ?_ | refine State.qCommand_keeps (sub_trans hW rfl) ?_ | refine State.setErr_keeps (sub_trans hW rfl) ?_ | refine State.setRes_keeps (sub_trans hW rfl) ?_ | refine State.setPcie_keeps (sub_trans hW rfl) ?_ | refine State.setEnvelope_keeps (sub_trans hW rfl) ?_ | refine State.setAclk_keeps (sub_trans hW rfl) ?_ | refine State.setAclkRange_keeps (sub_trans hW rfl) ?_ | refine State.setFreqMode_keeps (sub_trans hW rfl) ?_ | refine capCheck_keeps (sub_trans hW rfl) ?_ | refine setRange_keeps (sub_trans hW rfl) ?_ | refine State.setAssign_keeps (sub_trans hW rfl) ?_ | refine State.setPort_keeps (sub_trans hW rfl) ?_ | refine State.hold_keeps (sub_trans hW rfl) ?_ | refine State.setSlots_keeps (sub_trans hW rfl) ?_ | refine State.setFabric_keeps (sub_trans hW rfl) ?_ | refine setTrig_keeps (sub_trans hW rfl) ?_ | refine State.setBay_keeps (sub_trans hW rfl) ?_ | refine State.setWin_keeps (sub_trans hW rfl) ?_ | refine State.setEvid_keeps (sub_trans hW rfl) ?_ | refine State.evidenceGo_keeps (sub_trans hW rfl) ?_) | exact KeepsE.error _ | ((with_reducible conv => arg 3; whnf); first | with_reducible assumption | split | refine Keeps.pair ‹_› ?_ | refine Keeps.on_dev (sub_trans hW rfl) ?_ | refine Keeps.on_power (sub_trans hW rfl) ?_ | refine Keeps.on_debug (sub_trans hW rfl) ?_ (HeldKept.refl _))

theorem State.putReg_keeps {W} (hW : 121634806 &&& W = 121634806) {s0 s : State} {fn off r v} (hk : Keeps W s0 s) : Keeps W s0 (State.putReg s fn off r v) := by
  unfold State.putReg
  repeat' first | with_reducible assumption | intro _ | with_reducible (first | refine State.setReg_keeps (sub_trans hW rfl) ?_ | refine State.setupRefuse_keeps (sub_trans hW rfl) ?_) | ((with_reducible conv => arg 3; whnf); first | with_reducible assumption | split | refine Keeps.pair ‹_› ?_ | refine KeepsO.get ‹_› ?_ | refine KeepsE.get ‹_› ?_ | refine KeepsX.get ‹_› ?_) | dsimp only

theorem State.putHigh_keeps {W} (hW : 121634806 &&& W = 121634806) {s0 s : State} {fn off r v} (hk : Keeps W s0 s) : Keeps W s0 (State.putHigh s fn off r v) := by
  unfold State.putHigh
  repeat' first | with_reducible assumption | with_reducible (first | refine State.setFn_keeps (sub_trans hW rfl) ?_ | refine State.putReg_keeps (sub_trans hW rfl) ?_) | ((with_reducible conv => arg 3; whnf); first | split)

theorem State.setupWrite_keeps {W} (hW : 121634806 &&& W = 121634806) {s0 s : State} {fn off width value} (hk : Keeps W s0 s) : Keeps W s0 (State.setupWrite s fn off width value) := by
  unfold State.setupWrite
  repeat' first | with_reducible assumption | with_reducible (first | refine State.putReg_keeps (sub_trans hW rfl) ?_ | refine State.setFn_keeps (sub_trans hW rfl) ?_ | refine State.countAer_keeps (sub_trans hW rfl) ?_ | refine State.putHigh_keeps (sub_trans hW rfl) ?_) | ((with_reducible conv => arg 3; whnf); first | split)

theorem State.ridgeActs_keeps {W} (hW : 125829110 &&& W = 125829110) {s0 s : State} {fn e} (hk : Keeps W s0 s) : Keeps W s0 (State.ridgeActs s fn e) := by
  unfold State.ridgeActs
  repeat' first | with_reducible assumption | with_reducible (first | refine State.setupWrite_keeps (sub_trans hW rfl) ?_ | refine State.settle_keeps (sub_trans hW rfl) ?_ | refine State.applyEvent_keeps (sub_trans hW rfl) ?_) | ((with_reducible conv => arg 3; whnf); split)

theorem State.setupGets_keeps {W} (hW : 125829110 &&& W = 125829110) {s0 s : State} {fn off width value} (hk : Keeps W s0 s) : Keeps W s0 (State.setupGets s fn off width value) := by
  unfold State.setupGets
  repeat' first | with_reducible assumption | with_reducible (first | refine State.ridgeActs_keeps (sub_trans hW rfl) ?_ | refine State.hold_keeps (sub_trans hW rfl) ?_) | ((with_reducible conv => arg 3; whnf); split)

theorem State.releaseOne_keeps {W} (hW : 125829110 &&& W = 125829110) {s0 s : State} {b} (hk : Keeps W s0 s) : Keeps W s0 (State.releaseOne s b) := by
  unfold State.releaseOne
  repeat' first | with_reducible assumption | with_reducible (first | refine State.setHeld_keeps (sub_trans hW rfl) ?_ | refine State.ridgeActs_keeps (sub_trans hW rfl) ?_) | ((with_reducible conv => arg 3; whnf); split)

theorem State.releaseHeld_keeps {W} (hW : 125829110 &&& W = 125829110) {s0 s : State} {b} (hk : Keeps W s0 s) : Keeps W s0 (State.releaseHeld s b) := by
  unfold State.releaseHeld
  repeat' first | with_reducible assumption | intro _ | with_reducible (first | refine State.releaseOne_keeps (sub_trans hW rfl) ?_ | refine Keeps.foldl ?_ ?_) | ((with_reducible conv => arg 3; whnf); first | split)

theorem State.slotBoundary_keeps {W} (hW : 125829111 &&& W = 125829111) {s0 s : State} (hk : Keeps W s0 s) : Keeps W s0 (State.slotBoundary s) := by
  unfold State.slotBoundary
  repeat' first | with_reducible assumption | intro _ | with_reducible (first | refine State.releaseHeld_keeps (sub_trans hW rfl) ?_ | refine State.settle_keeps (sub_trans hW rfl) ?_ | refine Keeps.foldl ?_ ?_) | ((with_reducible conv => arg 3; whnf); first | split | refine Keeps.on_timeDev (sub_trans hW rfl) ?_)

theorem execRidgeSlotBoundary_keeps {W} (hW : 402653175 &&& W = 402653175) {s0 s : State} (hk : Keeps W s0 s) : KeepsX W s0 (execRidgeSlotBoundary s) := by
  unfold execRidgeSlotBoundary
  repeat' first | with_reducible assumption | with_reducible (first | refine KeepsX.next ?_ | refine State.slotBoundary_keeps (sub_trans hW rfl) ?_ | refine State.tail_keeps (sub_trans hW rfl) ?_) | ((with_reducible conv => arg 3; whnf); split)

theorem execSetupRegisterWrite_keeps {W} (hW : 125829110 &&& W = 125829110) {s0 s : State} {fn off width data} (hk : Keeps W s0 s) : KeepsX W s0 (execSetupRegisterWrite fn off width data s) := by
  unfold execSetupRegisterWrite
  repeat' first | with_reducible assumption | with_reducible (first | refine KeepsX.next ?_ | refine State.countAer_keeps (sub_trans hW rfl) ?_ | refine State.setupGets_keeps (sub_trans hW rfl) ?_) | ((with_reducible conv => arg 3; whnf); split)

theorem State.queueCommand_keeps {W} (hW : 125829110 &&& W = 125829110) {s0 s : State} {fn q cmd} (hk : Keeps W s0 s) : Keeps W s0 (State.queueCommand s fn q cmd) := by
  unfold State.queueCommand
  repeat' first | with_reducible assumption | with_reducible refine State.setupGets_keeps (sub_trans hW rfl) ?_ | ((with_reducible conv => arg 3; whnf); split)

theorem execEnableQueue_keeps {W} (hW : 125829110 &&& W = 125829110) {s0 s : State} {fn q} (hk : Keeps W s0 s) : KeepsX W s0 (execEnableQueue fn q s) := KeepsX.next (State.queueCommand_keeps (sub_trans hW rfl) hk)

theorem execDisableQueue_keeps {W} (hW : 125829110 &&& W = 125829110) {s0 s : State} {fn q} (hk : Keeps W s0 s) : KeepsX W s0 (execDisableQueue fn q s) := KeepsX.next (State.queueCommand_keeps (sub_trans hW rfl) hk)

theorem execRestartQueue_keeps {W} (hW : 125829110 &&& W = 125829110) {s0 s : State} {fn q} (hk : Keeps W s0 s) : KeepsX W s0 (execRestartQueue fn q s) := KeepsX.next (State.queueCommand_keeps (sub_trans hW rfl) hk)

theorem State.winCommand_keeps {W} (hW : 125829110 &&& W = 125829110) {s0 s : State} {b inbound w word isOpen} (hk : Keeps W s0 s) : Keeps W s0 (State.winCommand s b inbound w word isOpen) := by
  unfold State.winCommand
  repeat' first | with_reducible assumption | with_reducible refine State.setupGets_keeps (sub_trans hW rfl) ?_ | ((with_reducible conv => arg 3; whnf); split)

theorem execWindowOpen_keeps {W} (hW : 125829110 &&& W = 125829110) {s0 s : State} {bay inbound w word} (hk : Keeps W s0 s) : KeepsX W s0 (execWindowOpen bay inbound w word s) := KeepsX.next (State.winCommand_keeps (sub_trans hW rfl) hk)

theorem execWindowClose_keeps {W} (hW : 125829110 &&& W = 125829110) {s0 s : State} {bay inbound w word} (hk : Keeps W s0 s) : KeepsX W s0 (execWindowClose bay inbound w word s) := KeepsX.next (State.winCommand_keeps (sub_trans hW rfl) hk)

theorem execEvidenceGo_keeps {W} (hW : 125829110 &&& W = 125829110) {s0 s : State} {bay} (hk : Keeps W s0 s) : KeepsX W s0 (execEvidenceGo bay s) := by
  unfold execEvidenceGo
  repeat' first | with_reducible assumption | with_reducible (first | refine KeepsX.next ?_ | refine State.setupGets_keeps (sub_trans hW rfl) ?_) | ((with_reducible conv => arg 3; whnf); split)

theorem State.hostSupply_keeps {W} (hW : 65536 &&& W = 65536) {s0 s : State} {fn pasid iova data} (hk : Keeps W s0 s) : Keeps W s0 (State.hostSupply s fn pasid iova data) := Keeps.on_host (sub_trans hW rfl) hk

theorem State.hostFails_keeps {W} (hW : 65536 &&& W = 65536) {s0 s : State} {fn pasid iova len poisoned} (hk : Keeps W s0 s) : Keeps W s0 (State.hostFails s fn pasid iova len poisoned) := Keeps.on_host (sub_trans hW rfl) hk

theorem execHostReadCompletion_keeps {W} (hW : 65536 &&& W = 65536) {s0 s : State} {fn pasid iova status data} (hk : Keeps W s0 s) : KeepsX W s0 (execHostReadCompletion fn pasid iova status data s) := by
  unfold execHostReadCompletion
  repeat' first | with_reducible assumption | with_reducible (first | refine KeepsX.next ?_ | refine State.hostSupply_keeps (sub_trans hW rfl) ?_ | refine State.hostFails_keeps (sub_trans hW rfl) ?_) | ((with_reducible conv => arg 3; whnf); split)

theorem execCompletionTimeout_keeps {W} (hW : 65536 &&& W = 65536) {s0 s : State} {fn pasid iova len} (hk : Keeps W s0 s) : KeepsX W s0 (execCompletionTimeout fn pasid iova len s) := KeepsX.next (State.hostFails_keeps (sub_trans hW rfl) hk)

theorem State.copiesSoFar_keeps {W} (hW : 387966928 &&& W = 387966928) {s0 s : State} {fn} (hk : Keeps W s0 s) : Keeps W s0 (State.copiesSoFar s fn) := by
  unfold State.copiesSoFar
  repeat' first | with_reducible assumption | intro _ | with_reducible (first | refine State.copyPart_keeps (sub_trans hW rfl) ?_ | refine Keeps.foldl ?_ ?_ | refine Keeps.foldl1 ?_ ?_) | ((with_reducible conv => arg 3; whnf); first | with_reducible assumption | split | refine Keeps.pair ‹_› ?_ | refine KeepsO.get ‹_› ?_ | refine KeepsE.get ‹_› ?_ | refine KeepsX.get ‹_› ?_) | dsimp only

theorem State.invalidate_keeps {W} (hW : 387966928 &&& W = 387966928) {s0 s : State} {fn pasid iova len noRead noWrite} (hk : Keeps W s0 s) : Keeps W s0 (State.invalidate s fn pasid iova len noRead noWrite) := by
  unfold State.invalidate
  repeat' first | with_reducible assumption | with_reducible (first | refine State.copiesSoFar_keeps (sub_trans hW rfl) ?_ | refine State.streamsSoFar_keeps (sub_trans hW rfl) ?_) | ((with_reducible conv => arg 3; whnf); first | split | refine Keeps.on_host (sub_trans hW rfl) ?_)

theorem execAtsInvalidation_keeps {W} (hW : 387966928 &&& W = 387966928) {s0 s : State} {fn pasid iova len lacks} (hk : Keeps W s0 s) : KeepsX W s0 (execAtsInvalidation fn pasid iova len lacks s) := KeepsX.next (State.invalidate_keeps (sub_trans hW rfl) hk)

theorem State.nonTee_keeps {W} (hW : 100917776 &&& W = 100917776) {s0 s : State} {b} (hk : Keeps W s0 s) : Keeps W s0 (State.nonTee s b) := by
  unfold State.nonTee
  repeat' first | with_reducible assumption | with_reducible refine State.raiseIn_keeps (sub_trans hW rfl) ?_ | ((with_reducible conv => arg 3; whnf); first | split | refine Keeps.on_host (sub_trans hW rfl) ?_)

theorem execNonTeeRequest_keeps {W} (hW : 100917776 &&& W = 100917776) {s0 s : State} {bay _write} (hk : Keeps W s0 s) : KeepsX W s0 (execNonTeeRequest bay _write s) := KeepsX.next (State.nonTee_keeps (sub_trans hW rfl) hk)

theorem State.setIde_keeps {W} (hW : 8 &&& W = 8) {s0 s : State} {n v} (hk : Keeps W s0 s) : Keeps W s0 (State.setIde s n v) := Keeps.on_spdm (sub_trans hW rfl) hk

theorem State.ideFails_keeps {W} (hW : 402651134 &&& W = 402651134) {s0 s : State} {n} (hk : Keeps W s0 s) : Keeps W s0 (State.ideFails s n) := by
  unfold State.ideFails
  repeat' first | with_reducible assumption | intro _ | with_reducible (first | refine State.pend_keeps (sub_trans hW rfl) ?_ | refine State.setIde_keeps (sub_trans hW rfl) ?_ | refine State.msix_keeps (sub_trans hW rfl) ?_ | refine State.securityStop_keeps (sub_trans hW rfl) ?_ | refine State.tail_keeps (sub_trans hW rfl) ?_ | refine Keeps.foldl ?_ ?_) | ((with_reducible conv => arg 3; whnf); first | split)

theorem execIdeIntegrityFailure_keeps {W} (hW : 402651134 &&& W = 402651134) {s0 s : State} {stream} (hk : Keeps W s0 s) : KeepsX W s0 (execIdeIntegrityFailure stream s) := by
  unfold execIdeIntegrityFailure
  repeat' first | with_reducible assumption | with_reducible (first | refine KeepsX.next ?_ | refine State.ideFails_keeps (sub_trans hW rfl) ?_) | ((with_reducible conv => arg 3; whnf); split)

theorem State.spdmError_keeps {W} (hW : 65536 &&& W = 65536) {s0 s : State} {code} (hk : Keeps W s0 s) : Keeps W s0 (State.spdmError s code) := by
  unfold State.spdmError
  repeat' first | with_reducible assumption | with_reducible refine State.respond_keeps (sub_trans hW rfl) ?_ | ((with_reducible conv => arg 3; whnf); split)

theorem State.spdmRun_keeps {W} (hW : 114688 &&& W = 114688) {s0 s : State} {sideband always} {act : State → State} (h : Keeps W s0 s) (hf : ∀ t, Keeps W s0 t → Keeps W s0 (act t)) :
    Keeps W s0 (s.spdmRun sideband always act) := by
  unfold State.spdmRun
  split
  · extract_lets t
    have ht : Keeps W s0 t := State.pend_keeps (sub_trans hW rfl) h
    clear_value t
    refine State.announce_keeps (sub_trans hW rfl) h ?_
    split
    · exact State.spdmError_keeps (sub_trans hW rfl) ht
    · split
      · exact State.spdmError_keeps (sub_trans hW rfl) ht
      · exact hf _ ht
  · exact h

theorem State.setSession_keeps {W} (hW : 8 &&& W = 8) {s0 s : State} {sid f} (hk : Keeps W s0 s) : Keeps W s0 (State.setSession s sid f) := Keeps.on_spdm (sub_trans hW rfl) hk

theorem State.dropSession_keeps {W} (hW : 8 &&& W = 8) {s0 s : State} {sid} (hk : Keeps W s0 s) : Keeps W s0 (State.dropSession s sid) := Keeps.on_spdm (sub_trans hW rfl) hk

theorem State.setConn_keeps {W} (hW : 8 &&& W = 8) {s0 s : State} {sideband c} (hk : Keeps W s0 s) : Keeps W s0 (State.setConn s sideband c) := Keeps.on_spdm (sub_trans hW rfl) hk

theorem State.inSession_keeps {W} (hW : 114696 &&& W = 114696) {s0 s : State} {sid always} {act : State → State} (h : Keeps W s0 s) (hf : ∀ t, Keeps W s0 t → Keeps W s0 (act t)) :
    Keeps W s0 (s.inSession sid always act) := by
  refine State.spdmRun_keeps (sub_trans hW rfl) h (fun t ht => ?_)
  repeat' first | with_reducible assumption | with_reducible refine State.spdmError_keeps (sub_trans hW rfl) ?_ | with_reducible refine State.setSession_keeps (sub_trans hW rfl) ?_ | with_reducible apply hf | ((with_reducible conv => arg 3; whnf); split)

theorem State.inEither_keeps {W} (hW : 114696 &&& W = 114696) {s0 s : State} {path always} {act : State → State} (h : Keeps W s0 s) (hf : ∀ t, Keeps W s0 t → Keeps W s0 (act t)) :
    Keeps W s0 (s.inEither path always act) := by
  have outside (sideband : Bool) : Keeps W s0 (s.spdmRun sideband always (fun t => if (t.connAt sideband).algs then act t else t.spdmError 0x04)) := by
    refine State.spdmRun_keeps (sub_trans hW rfl) h (fun t ht => ?_)
    repeat' first | with_reducible assumption | with_reducible refine State.spdmError_keeps (sub_trans hW rfl) ?_ | with_reducible apply hf | ((with_reducible conv => arg 3; whnf); split)
  unfold State.inEither
  split
  · exact State.inSession_keeps (sub_trans hW rfl) h hf
  · exact outside false
  · exact outside true

theorem State.spdmVersion_keeps {W} (hW : 114696 &&& W = 114696) {s0 s : State} {sideband} (hk : Keeps W s0 s) : Keeps W s0 (State.spdmVersion s sideband) := by
  unfold State.spdmVersion
  repeat' first | with_reducible assumption | intro _ | with_reducible (first | refine State.spdmRun_keeps (sub_trans hW rfl) ?_ ?_ | refine State.setConn_keeps (sub_trans hW rfl) ?_ | refine State.respond_keeps (sub_trans hW rfl) ?_) | ((with_reducible conv => arg 3; whnf); first | with_reducible assumption | split | refine Keeps.pair ‹_› ?_)

theorem execGetVersion_keeps {W} (hW : 114696 &&& W = 114696) {s0 s : State} {sideband} (hk : Keeps W s0 s) : KeepsX W s0 (execGetVersion sideband s) := KeepsX.next (State.spdmVersion_keeps (sub_trans hW rfl) hk)

theorem State.spdmCaps_keeps {W} (hW : 114696 &&& W = 114696) {s0 s : State} {sideband version} (hk : Keeps W s0 s) : Keeps W s0 (State.spdmCaps s sideband version) := by
  unfold State.spdmCaps
  repeat' first | with_reducible assumption | intro _ | with_reducible (first | refine State.spdmRun_keeps (sub_trans hW rfl) ?_ ?_ | refine State.spdmError_keeps (sub_trans hW rfl) ?_ | refine State.setConn_keeps (sub_trans hW rfl) ?_ | refine State.respond_keeps (sub_trans hW rfl) ?_) | ((with_reducible conv => arg 3; whnf); first | with_reducible assumption | split | refine Keeps.pair ‹_› ?_)

theorem execGetCapabilities_keeps {W} (hW : 114696 &&& W = 114696) {s0 s : State} {sideband version} (hk : Keeps W s0 s) : KeepsX W s0 (execGetCapabilities sideband version s) := KeepsX.next (State.spdmCaps_keeps (sub_trans hW rfl) hk)

theorem State.spdmAlgs_keeps {W} (hW : 114696 &&& W = 114696) {s0 s : State} {sideband asym hash dhe aead} (hk : Keeps W s0 s) : Keeps W s0 (State.spdmAlgs s sideband asym hash dhe aead) := by
  unfold State.spdmAlgs
  repeat' first | with_reducible assumption | intro _ | with_reducible (first | refine State.spdmRun_keeps (sub_trans hW rfl) ?_ ?_ | refine State.spdmError_keeps (sub_trans hW rfl) ?_ | refine State.setConn_keeps (sub_trans hW rfl) ?_ | refine State.respond_keeps (sub_trans hW rfl) ?_) | ((with_reducible conv => arg 3; whnf); first | with_reducible assumption | split | refine Keeps.pair ‹_› ?_)

theorem execNegotiateAlgorithms_keeps {W} (hW : 114696 &&& W = 114696) {s0 s : State} {sideband asym hash dhe aead} (hk : Keeps W s0 s) : KeepsX W s0 (execNegotiateAlgorithms sideband asym hash dhe aead s) := KeepsX.next (State.spdmAlgs_keeps (sub_trans hW rfl) hk)

theorem State.spdmDigests_keeps {W} (hW : 114696 &&& W = 114696) {s0 s : State} {path} (hk : Keeps W s0 s) : Keeps W s0 (State.spdmDigests s path) := by
  unfold State.spdmDigests
  repeat' first | with_reducible assumption | intro _ | with_reducible (first | refine State.inEither_keeps (sub_trans hW rfl) ?_ ?_ | refine State.respond_keeps (sub_trans hW rfl) ?_) | ((with_reducible conv => arg 3; whnf); first | with_reducible assumption | split | refine Keeps.pair ‹_› ?_)

theorem execGetDigests_keeps {W} (hW : 114696 &&& W = 114696) {s0 s : State} {path} (hk : Keeps W s0 s) : KeepsX W s0 (execGetDigests path s) := KeepsX.next (State.spdmDigests_keeps (sub_trans hW rfl) hk)

theorem State.spdmCert_keeps {W} (hW : 114696 &&& W = 114696) {s0 s : State} {path slot off len} (hk : Keeps W s0 s) : Keeps W s0 (State.spdmCert s path slot off len) := by
  unfold State.spdmCert
  repeat' first | with_reducible assumption | intro _ | with_reducible (first | refine State.inEither_keeps (sub_trans hW rfl) ?_ ?_ | refine State.spdmError_keeps (sub_trans hW rfl) ?_ | refine State.respond_keeps (sub_trans hW rfl) ?_) | ((with_reducible conv => arg 3; whnf); first | with_reducible assumption | split | refine Keeps.pair ‹_› ?_)

theorem execGetCertificate_keeps {W} (hW : 114696 &&& W = 114696) {s0 s : State} {path certSlot off len} (hk : Keeps W s0 s) : KeepsX W s0 (execGetCertificate path certSlot off len s) := KeepsX.next (State.spdmCert_keeps (sub_trans hW rfl) hk)

theorem State.spdmSigned_keeps {W} (hW : 33619968 &&& W = 33619968) {s0 s : State} {body extra} (hk : Keeps W s0 s) : Keeps W s0 (State.spdmSigned s body extra) := by
  unfold State.spdmSigned
  repeat' first | with_reducible assumption | with_reducible (first | refine State.drawn_keeps (sub_trans hW rfl) ?_ | refine State.respond_keeps (sub_trans hW rfl) ?_) | ((with_reducible conv => arg 3; whnf); split)

theorem State.spdmChallenge_keeps {W} (hW : 33669128 &&& W = 33669128) {s0 s : State} {path slot nonce} (hk : Keeps W s0 s) : Keeps W s0 (State.spdmChallenge s path slot nonce) := by
  unfold State.spdmChallenge
  repeat' first | with_reducible assumption | intro _ | with_reducible (first | refine State.inEither_keeps (sub_trans hW rfl) ?_ ?_ | refine State.spdmSigned_keeps (sub_trans hW rfl) ?_ | refine State.spdmError_keeps (sub_trans hW rfl) ?_) | ((with_reducible conv => arg 3; whnf); first | with_reducible assumption | split | refine Keeps.pair ‹_› ?_)

theorem execChallenge_keeps {W} (hW : 33669128 &&& W = 33669128) {s0 s : State} {path certSlot nonce} (hk : Keeps W s0 s) : KeepsX W s0 (execChallenge path certSlot nonce s) := KeepsX.next (State.spdmChallenge_keeps (sub_trans hW rfl) hk)

theorem State.spdmSetCert_keeps {W} (hW : 114700 &&& W = 114700) {s0 s : State} {path slot chain} (hk : Keeps W s0 s) : Keeps W s0 (State.spdmSetCert s path slot chain) := by
  unfold State.spdmSetCert
  repeat' first | with_reducible assumption | intro _ | with_reducible (first | refine State.inEither_keeps (sub_trans hW rfl) ?_ ?_ | refine State.respond_keeps (sub_trans hW rfl) ?_ | refine State.spdmError_keeps (sub_trans hW rfl) ?_) | ((with_reducible conv => arg 3; whnf); first | with_reducible assumption | split | refine Keeps.pair ‹_› ?_ | refine Keeps.on_secSpdm (sub_trans hW rfl) ?_ rfl rfl)

theorem execSetCertificate_keeps {W} (hW : 114700 &&& W = 114700) {s0 s : State} {path certSlot chain} (hk : Keeps W s0 s) : KeepsX W s0 (execSetCertificate path certSlot chain s) := KeepsX.next (State.spdmSetCert_keeps (sub_trans hW rfl) hk)

theorem State.spdmMeas_keeps {W} (hW : 33669128 &&& W = 33669128) {s0 s : State} {path ix signed nonce} (hk : Keeps W s0 s) : Keeps W s0 (State.spdmMeas s path ix signed nonce) := by
  unfold State.spdmMeas
  repeat' first | with_reducible assumption | intro _ | with_reducible (first | refine State.inEither_keeps (sub_trans hW rfl) ?_ ?_ | refine State.spdmSigned_keeps (sub_trans hW rfl) ?_ | refine State.respond_keeps (sub_trans hW rfl) ?_ | refine State.spdmError_keeps (sub_trans hW rfl) ?_) | ((with_reducible conv => arg 3; whnf); first | with_reducible assumption | split | refine Keeps.pair ‹_› ?_)

theorem execGetMeasurements_keeps {W} (hW : 33669128 &&& W = 33669128) {s0 s : State} {path index signed nonce} (hk : Keeps W s0 s) : KeepsX W s0 (execGetMeasurements path index signed nonce s) := KeepsX.next (State.spdmMeas_keeps (sub_trans hW rfl) hk)

theorem State.spdmKeyExchange_keeps {W} (hW : 33669128 &&& W = 33669128) {s0 s : State} {sideband slot share} (hk : Keeps W s0 s) : Keeps W s0 (State.spdmKeyExchange s sideband slot share) := by
  unfold State.spdmKeyExchange
  repeat' first | with_reducible assumption | intro _ | with_reducible (first | refine State.spdmRun_keeps (sub_trans hW rfl) ?_ ?_ | refine State.spdmError_keeps (sub_trans hW rfl) ?_ | refine State.spdmSigned_keeps (sub_trans hW rfl) ?_) | ((with_reducible conv => arg 3; whnf); first | with_reducible assumption | split | refine Keeps.pair ‹_› ?_ | refine Keeps.on_spdm (sub_trans hW rfl) ?_)

theorem execKeyExchange_keeps {W} (hW : 33669128 &&& W = 33669128) {s0 s : State} {sideband certSlot share} (hk : Keeps W s0 s) : KeepsX W s0 (execKeyExchange sideband certSlot share s) := KeepsX.next (State.spdmKeyExchange_keeps (sub_trans hW rfl) hk)

theorem State.spdmFinish_keeps {W} (hW : 114696 &&& W = 114696) {s0 s : State} {sid pass root} (hk : Keeps W s0 s) : Keeps W s0 (State.spdmFinish s sid pass root) := by
  unfold State.spdmFinish
  repeat' first | with_reducible assumption | intro _ | with_reducible (first | refine State.spdmRun_keeps (sub_trans hW rfl) ?_ ?_ | refine State.spdmError_keeps (sub_trans hW rfl) ?_ | refine State.setSession_keeps (sub_trans hW rfl) ?_ | refine State.respond_keeps (sub_trans hW rfl) ?_ | refine State.dropSession_keeps (sub_trans hW rfl) ?_) | ((with_reducible conv => arg 3; whnf); first | with_reducible assumption | split | refine Keeps.pair ‹_› ?_)

theorem execSpdmFinish_keeps {W} (hW : 114696 &&& W = 114696) {s0 s : State} {sid proof} (hk : Keeps W s0 s) : KeepsX W s0 (execSpdmFinish sid proof s) := KeepsX.next (State.spdmFinish_keeps (sub_trans hW rfl) hk)

theorem execKeyUpdate_keeps {W} (hW : 114696 &&& W = 114696) {s0 s : State} {sid} (hk : Keeps W s0 s) : KeepsX W s0 (execKeyUpdate sid s) := by
  unfold execKeyUpdate
  repeat' first | with_reducible assumption | intro _ | with_reducible (first | refine KeepsX.next ?_ | refine State.inSession_keeps (sub_trans hW rfl) ?_ ?_ | refine State.setSession_keeps (sub_trans hW rfl) ?_ | refine State.respond_keeps (sub_trans hW rfl) ?_) | ((with_reducible conv => arg 3; whnf); first | with_reducible assumption | split | refine Keeps.pair ‹_› ?_)

theorem execHeartbeat_keeps {W} (hW : 114696 &&& W = 114696) {s0 s : State} {sid} (hk : Keeps W s0 s) : KeepsX W s0 (execHeartbeat sid s) := by
  unfold execHeartbeat
  repeat' first | with_reducible assumption | intro _ | with_reducible (first | refine KeepsX.next ?_ | refine State.inSession_keeps (sub_trans hW rfl) ?_ ?_ | refine State.respond_keeps (sub_trans hW rfl) ?_) | ((with_reducible conv => arg 3; whnf); first | with_reducible assumption | split | refine Keeps.pair ‹_› ?_)

theorem State.spdmMiss_keeps {W} (hW : 32776 &&& W = 32776) {s0 s : State} {sid} (hk : Keeps W s0 s) : Keeps W s0 (State.spdmMiss s sid) := by
  unfold State.spdmMiss
  repeat' first | with_reducible assumption | with_reducible (first | refine State.pend_keeps (sub_trans hW rfl) ?_ | refine State.dropSession_keeps (sub_trans hW rfl) ?_ | refine State.setSession_keeps (sub_trans hW rfl) ?_) | ((with_reducible conv => arg 3; whnf); split)

theorem execSessionHeartbeatExpiry_keeps {W} (hW : 32776 &&& W = 32776) {s0 s : State} {sid} (hk : Keeps W s0 s) : KeepsX W s0 (execSessionHeartbeatExpiry sid s) := KeepsX.next (State.spdmMiss_keeps (sub_trans hW rfl) hk)

theorem execEndSession_keeps {W} (hW : 114696 &&& W = 114696) {s0 s : State} {sid} (hk : Keeps W s0 s) : KeepsX W s0 (execEndSession sid s) := by
  unfold execEndSession
  repeat' first | with_reducible assumption | intro _ | with_reducible (first | refine KeepsX.next ?_ | refine State.inSession_keeps (sub_trans hW rfl) ?_ ?_ | refine State.dropSession_keeps (sub_trans hW rfl) ?_ | refine State.respond_keeps (sub_trans hW rfl) ?_) | ((with_reducible conv => arg 3; whnf); first | with_reducible assumption | split | refine Keeps.pair ‹_› ?_)

theorem State.spdmSubscribe_keeps {W} (hW : 114696 &&& W = 114696) {s0 s : State} {sid subscribe} (hk : Keeps W s0 s) : Keeps W s0 (State.spdmSubscribe s sid subscribe) := by
  unfold State.spdmSubscribe
  repeat' first | with_reducible assumption | intro _ | with_reducible (first | refine State.inSession_keeps (sub_trans hW rfl) ?_ ?_ | refine State.setSession_keeps (sub_trans hW rfl) ?_ | refine State.respond_keeps (sub_trans hW rfl) ?_ | refine State.spdmError_keeps (sub_trans hW rfl) ?_) | ((with_reducible conv => arg 3; whnf); first | with_reducible assumption | split | refine Keeps.pair ‹_› ?_)

theorem execSubscribeEventTypes_keeps {W} (hW : 114696 &&& W = 114696) {s0 s : State} {sid subscribe} (hk : Keeps W s0 s) : KeepsX W s0 (execSubscribeEventTypes sid subscribe s) := KeepsX.next (State.spdmSubscribe_keeps (sub_trans hW rfl) hk)

theorem execPskExchange_keeps {W} (hW : 114688 &&& W = 114688) {s0 s : State} {sideband} (hk : Keeps W s0 s) : KeepsX W s0 (execPskExchange sideband s) := by
  unfold execPskExchange
  repeat' first | with_reducible assumption | intro _ | with_reducible (first | refine KeepsX.next ?_ | refine State.spdmRun_keeps (sub_trans hW rfl) ?_ ?_ | refine State.spdmError_keeps (sub_trans hW rfl) ?_) | ((with_reducible conv => arg 3; whnf); first | with_reducible assumption | split | refine Keeps.pair ‹_› ?_)

theorem execPskFinish_keeps {W} (hW : 114688 &&& W = 114688) {s0 s : State} {sideband} (hk : Keeps W s0 s) : KeepsX W s0 (execPskFinish sideband s) := by
  unfold execPskFinish
  repeat' first | with_reducible assumption | intro _ | with_reducible (first | refine KeepsX.next ?_ | refine State.spdmRun_keeps (sub_trans hW rfl) ?_ ?_ | refine State.spdmError_keeps (sub_trans hW rfl) ?_) | ((with_reducible conv => arg 3; whnf); first | with_reducible assumption | split | refine Keeps.pair ‹_› ?_)

theorem State.ideProg_keeps {W} (hW : 114696 &&& W = 114696) {s0 s : State} {sid stream keySet sub dir rid addrs} (hk : Keeps W s0 s) : Keeps W s0 (State.ideProg s sid stream keySet sub dir rid addrs) := by
  unfold State.ideProg
  repeat' first | with_reducible assumption | intro _ | with_reducible (first | refine State.inSession_keeps (sub_trans hW rfl) ?_ ?_ | refine State.respond_keeps (sub_trans hW rfl) ?_ | refine State.setIde_keeps (sub_trans hW rfl) ?_) | ((with_reducible conv => arg 3; whnf); first | with_reducible assumption | split | refine Keeps.pair ‹_› ?_)

theorem execKeyProg_keeps {W} (hW : 114696 &&& W = 114696) {s0 s : State} {sid stream keySet sub dir assoc} (hk : Keeps W s0 s) : KeepsX W s0 (execKeyProg sid stream keySet sub dir assoc s) := KeepsX.next (State.ideProg_keeps (sub_trans hW rfl) hk)

theorem State.ideGo_keeps {W} (hW : 114696 &&& W = 114696) {s0 s : State} {sid stream keySet sub dir} (hk : Keeps W s0 s) : Keeps W s0 (State.ideGo s sid stream keySet sub dir) := by
  unfold State.ideGo
  repeat' first | with_reducible assumption | intro _ | with_reducible (first | refine State.inSession_keeps (sub_trans hW rfl) ?_ ?_ | refine State.respond_keeps (sub_trans hW rfl) ?_ | refine State.setIde_keeps (sub_trans hW rfl) ?_) | ((with_reducible conv => arg 3; whnf); first | with_reducible assumption | split | refine Keeps.pair ‹_› ?_)

theorem execKSetGo_keeps {W} (hW : 114696 &&& W = 114696) {s0 s : State} {sid stream keySet sub dir} (hk : Keeps W s0 s) : KeepsX W s0 (execKSetGo sid stream keySet sub dir s) := KeepsX.next (State.ideGo_keeps (sub_trans hW rfl) hk)

theorem State.tdispError_keeps {W} (hW : 65536 &&& W = 65536) {s0 s : State} {b code} (hk : Keeps W s0 s) : Keeps W s0 (State.tdispError s b code) := by
  unfold State.tdispError
  repeat' first | with_reducible assumption | with_reducible refine State.respond_keeps (sub_trans hW rfl) ?_ | ((with_reducible conv => arg 3; whnf); split)

theorem State.tdisp_keeps {W} (hW : 114696 &&& W = 114696) {s0 s : State} {sid b} {act : State → State} (h : Keeps W s0 s) (hf : ∀ t, Keeps W s0 t → Keeps W s0 (act t)) :
    Keeps W s0 (s.tdisp sid b act) := by
  refine State.inSession_keeps (sub_trans hW rfl) h (fun t ht => ?_)
  repeat' first | with_reducible assumption | with_reducible refine State.tdispError_keeps (sub_trans hW rfl) ?_ | with_reducible apply hf | ((with_reducible conv => arg 3; whnf); split)

theorem execGetTdispVersion_keeps {W} (hW : 114696 &&& W = 114696) {s0 s : State} {sid bay} (hk : Keeps W s0 s) : KeepsX W s0 (execGetTdispVersion sid bay s) := by
  unfold execGetTdispVersion
  repeat' first | with_reducible assumption | intro _ | with_reducible (first | refine KeepsX.next ?_ | refine State.tdisp_keeps (sub_trans hW rfl) ?_ ?_ | refine State.respond_keeps (sub_trans hW rfl) ?_) | ((with_reducible conv => arg 3; whnf); first | with_reducible assumption | split | refine Keeps.pair ‹_› ?_)

theorem execGetTdispCapabilities_keeps {W} (hW : 114696 &&& W = 114696) {s0 s : State} {sid bay} (hk : Keeps W s0 s) : KeepsX W s0 (execGetTdispCapabilities sid bay s) := by
  unfold execGetTdispCapabilities
  repeat' first | with_reducible assumption | intro _ | with_reducible (first | refine KeepsX.next ?_ | refine State.tdisp_keeps (sub_trans hW rfl) ?_ ?_ | refine State.respond_keeps (sub_trans hW rfl) ?_) | ((with_reducible conv => arg 3; whnf); first | with_reducible assumption | split | refine Keeps.pair ‹_› ?_)

theorem State.tdispLock_keeps {W} (hW : 118824 &&& W = 118824) {s0 s : State} {sid b stream} (hk : Keeps W s0 s) : Keeps W s0 (State.tdispLock s sid b stream) := by
  unfold State.tdispLock
  repeat' first | with_reducible assumption | intro _ | with_reducible (first | refine State.tdisp_keeps (sub_trans hW rfl) ?_ ?_ | refine State.setBay_keeps (sub_trans hW rfl) ?_ | refine State.startScrub_keeps (sub_trans hW rfl) ?_ | refine State.tdispError_keeps (sub_trans hW rfl) ?_) | ((with_reducible conv => arg 3; whnf); first | with_reducible assumption | split | refine Keeps.pair ‹_› ?_)

theorem execLockInterface_keeps {W} (hW : 118824 &&& W = 118824) {s0 s : State} {sid bay stream} (hk : Keeps W s0 s) : KeepsX W s0 (execLockInterface sid bay stream s) := KeepsX.next (State.tdispLock_keeps (sub_trans hW rfl) hk)

theorem State.tdispReport_keeps {W} (hW : 114696 &&& W = 114696) {s0 s : State} {sid b off len} (hk : Keeps W s0 s) : Keeps W s0 (State.tdispReport s sid b off len) := by
  unfold State.tdispReport
  repeat' first | with_reducible assumption | intro _ | with_reducible (first | refine State.tdisp_keeps (sub_trans hW rfl) ?_ ?_ | refine State.tdispError_keeps (sub_trans hW rfl) ?_ | refine State.respond_keeps (sub_trans hW rfl) ?_) | ((with_reducible conv => arg 3; whnf); first | with_reducible assumption | split | refine Keeps.pair ‹_› ?_)

theorem execGetInterfaceReport_keeps {W} (hW : 114696 &&& W = 114696) {s0 s : State} {sid bay off len} (hk : Keeps W s0 s) : KeepsX W s0 (execGetInterfaceReport sid bay off len s) := KeepsX.next (State.tdispReport_keeps (sub_trans hW rfl) hk)

theorem execGetInterfaceState_keeps {W} (hW : 114696 &&& W = 114696) {s0 s : State} {sid bay} (hk : Keeps W s0 s) : KeepsX W s0 (execGetInterfaceState sid bay s) := by
  unfold execGetInterfaceState
  repeat' first | with_reducible assumption | intro _ | with_reducible (first | refine KeepsX.next ?_ | refine State.tdisp_keeps (sub_trans hW rfl) ?_ ?_ | refine State.respond_keeps (sub_trans hW rfl) ?_) | ((with_reducible conv => arg 3; whnf); first | with_reducible assumption | split | refine Keeps.pair ‹_› ?_)

theorem State.tdispStart_keeps {W} (hW : 67223608 &&& W = 67223608) {s0 s : State} {sid b nonce} (hk : Keeps W s0 s) : Keeps W s0 (State.tdispStart s sid b nonce) := by
  unfold State.tdispStart
  repeat' first | with_reducible assumption | intro _ | with_reducible (first | refine State.tdisp_keeps (sub_trans hW rfl) ?_ ?_ | refine State.tdispError_keeps (sub_trans hW rfl) ?_ | refine State.setTdi_keeps (sub_trans hW rfl) ?_ | refine State.respond_keeps (sub_trans hW rfl) ?_) | ((with_reducible conv => arg 3; whnf); first | with_reducible assumption | split | refine Keeps.pair ‹_› ?_)

theorem execStartInterface_keeps {W} (hW : 67223608 &&& W = 67223608) {s0 s : State} {sid bay nonce} (hk : Keeps W s0 s) : KeepsX W s0 (execStartInterface sid bay nonce s) := KeepsX.next (State.tdispStart_keeps (sub_trans hW rfl) hk)

theorem State.tdispStop_keeps {W} (hW : 402651134 &&& W = 402651134) {s0 s : State} {sid b} (hk : Keeps W s0 s) : Keeps W s0 (State.tdispStop s sid b) := by
  unfold State.tdispStop
  repeat' first | with_reducible assumption | intro _ | with_reducible (first | refine State.tdisp_keeps (sub_trans hW rfl) ?_ ?_ | refine State.tdispError_keeps (sub_trans hW rfl) ?_ | refine State.respond_keeps (sub_trans hW rfl) ?_ | refine State.setBay_keeps (sub_trans hW rfl) ?_ | refine State.securityStop_keeps (sub_trans hW rfl) ?_ | refine State.tail_keeps (sub_trans hW rfl) ?_) | ((with_reducible conv => arg 3; whnf); first | with_reducible assumption | split | refine Keeps.pair ‹_› ?_)

theorem execStopInterface_keeps {W} (hW : 402651134 &&& W = 402651134) {s0 s : State} {sid bay} (hk : Keeps W s0 s) : KeepsX W s0 (execStopInterface sid bay s) := KeepsX.next (State.tdispStop_keeps (sub_trans hW rfl) hk)

end Sys2Proof.Machine
end

