-- ==== Sys2Proof/Laws/Exec.lean ====
section
/-! SUPPORT. What Keeps.lean says of every command: the parts of the state that it may change, by number, and that it keeps the
rest. -/

namespace Sys2Proof.Machine

/-- The parts of the state that a command may change, as a set of the numbers of `Keeps`. -/
def changes : Instr → Nat
  | .sqTailDoorbell _ _ _ _ => 123725748
  | .cqHeadDoorbell _ _ _ _ => 123725748
  | .fenceWindowWrite _ _ _ _ => 123725748
  | .entryFetch _ _ => 119531510
  | .launch _ _ => 119531446
  | .launchReadsComplete _ _ _ => 119531508
  | .courseNodeRead _ _ _ => 123725812
  | .nodeDispatch _ _ _ _ => 123725812
  | .workOrderArrive _ _ => 35660352
  | .workOrderStart _ => 35659840
  | .workOrderComplete _ _ _ _ => 121627600
  | .workOrderReport _ => 125822900
  | .endNotice _ => 125822960
  | .counterWaitTimeout _ => 121627600
  | .syncArrive _ => 64
  | .syncReport _ => 123725812
  | .syncRelease _ _ _ _ => 121628660
  | .matrixWorkOrder _ => 387965904
  | .fusedChain _ => 387965904
  | .sparProgram _ => 387965904
  | .softmax _ => 387965904
  | .partialState _ => 387965904
  | .mergeStates _ => 387965904
  | .applyState _ => 387965904
  | .layerNorm _ => 387965904
  | .rmsNorm _ => 387965904
  | .routerSelect _ => 387965904
  | .routerAdmit _ => 387965904
  | .routerCombine _ => 387965904
  | .exitTest _ => 387965904
  | .dmaCopy _ _ _ _ => 387966928
  | .dmaGather _ _ _ _ => 387966928
  | .dmaScatter _ _ _ _ => 387966928
  | .dmaFill _ _ _ _ => 387966928
  | .arrivalSignal _ _ _ _ => 64
  | .remoteScratchpadAccess _ _ _ _ _ => 387965904
  | .valleyDispatch _ _ _ => 127657936
  | .valleyReturn _ _ _ => 127657936
  | .valleySegment _ => 396355568
  | .valleyDone _ => 396355568
  | .attend _ => 387965904
  | .pageCopy _ => 387965904
  | .eavePartialReturn _ => 576
  | .copyStart _ _ => 119531446
  | .copyComplete _ _ _ => 387966964
  | .fenceWait _ _ => 123725750
  | .fenceSignal _ _ => 119531446
  | .barrierStart _ _ => 119531446
  | .cancelStart _ _ => 123725750
  | .waitTimeout _ _ _ _ => 123725748
  | .completionPathLost _ _ => 119531444
  | .readRetained _ => 119531446
  | .resetQueue _ => 123725750
  | .queueState _ => 119531446
  | .approvalNonce _ => 119531446
  | .nonceExpiry => 32772
  | .bayMap _ => 119531446
  | .bayCreate _ => 402651126
  | .bayResize _ => 402651126
  | .bayDestroy _ => 402651126
  | .setMode _ => 402651126
  | .releaseLock _ => 402651126
  | .setDebug _ => 402651126
  | .setPolicy _ => 402651126
  | .lifecycleChange _ => 402651126
  | .keySlot _ => 402651126
  | .fuseWrite _ => 402651126
  | .certificate _ => 402651126
  | .certificateExpiry => 4
  | .bayScrubDone _ => 402651126
  | .ridgeSlotBoundary => 402653175
  | .evidenceGo _ => 125829110
  | .fwStage _ => 119531446
  | .fwActivate _ => 402647030
  | .drainLimitExpiry => 125822964
  | .fwDrainComplete _ => 402651134
  | .warmReset _ => 402647030
  | .coldReset _ _ => 402647030
  | .bayReset _ => 402651126
  | .coreReset _ => 119531510
  | .linkReset _ => 121630710
  | .lifetimeRead _ _ => 119531446
  | .setEpoch _ _ => 119531446
  | .columnState _ => 119531446
  | .rehang _ => 119535542
  | .rehangCheckDone _ _ _ => 119535540
  | .plannedSlip _ => 119531446
  | .plannedSlipWaitExpiry _ => 16777216
  | .retireStrip _ => 402651126
  | .restoreStrip _ => 119531446
  | .restoreQuiesce => 4098
  | .restoreQuiesceTimeout => 119531446
  | .readErrors _ => 119531446
  | .snapshotStrobe _ => 119531446
  | .snapshotRead _ => 119531446
  | .snapshotRelease _ => 656402358
  | .snapshotHoldExpiry => 536879104
  | .snapN _ => 33562624
  | .traceRead _ => 119531446
  | .haltBay _ => 119531446
  | .stepBay _ => 119531446
  | .stepExpiry _ => 32
  | .resumeBay _ => 119531446
  | .debugAccess _ => 119531510
  | .enableQueue _ _ => 125829110
  | .disableQueue _ _ => 125829110
  | .restartQueue _ _ => 125829110
  | .windowOpen _ _ _ _ => 125829110
  | .windowClose _ _ _ _ => 125829110
  | .setupRegisterWrite _ _ _ _ => 125829110
  | .tileSelfCheckFailure _ _ => 402651126
  | .tileHeartbeat _ _ _ => 402651126
  | .slipRepair _ => 16777216
  | .slipMeshDrained _ => 402651126
  | .spareCheckDone _ _ _ => 402651126
  | .slipMigrationDone _ _ => 402651126
  | .spareFullCheck _ => 128
  | .eaveEngineFailure _ => 390063090
  | .stackControllerFailure _ _ => 402651126
  | .deviceFatal _ => 402651126
  | .patrolScrubLine _ _ _ _ => 100917776
  | .refresh _ _ _ => 512
  | .rowRepair _ => 512
  | .rowRepairDone _ _ => 100917776
  | .memoryHealthRecord _ => 119530384
  | .linkHealthRecord _ => 119530384
  | .powerRecord _ => 119534512
  | .portTraining _ _ _ _ _ _ _ _ => 121630704
  | .trainingRetry _ => 33792
  | .laneMarginal _ _ => 100918800
  | .laneLost _ _ => 100918800
  | .dataFlit _ _ _ => 100918800
  | .idleFlit _ _ _ => 1024
  | .nakFlit _ _ _ => 100918800
  | .replayTimeout _ => 100918800
  | .portHoldExpiry _ => 121630704
  | .farWrite _ => 400549876
  | .farRead _ => 400549876
  | .farAtomicAdd _ => 400549876
  | .farWriteAck _ => 390064112
  | .farReadData _ => 390064112
  | .farAtomicAck _ => 390064112
  | .farValley _ => 400549876
  | .farValleyAck _ => 390064112
  | .responseTimeout _ _ => 121628656
  | .farForward _ _ => 100918800
  | .enumMessage _ => 121630704
  | .topologyMessage _ => 121630704
  | .rootTakeover => 121630704
  | .snapshotMessage _ => 33596416
  | .allReduce _ _ => 390064112
  | .reduceScatter _ _ => 390064112
  | .allGather _ _ => 390064112
  | .allToAll _ _ => 390064112
  | .broadcast _ _ => 390064112
  | .remoteAdd _ _ => 390064112
  | .collGrant _ => 390064112
  | .collData _ => 390064112
  | .collAbort _ => 390064112
  | .frameReduce _ _ _ => 390064112
  | .collectiveTimeout _ _ _ => 121628592
  | .capTick _ _ _ => 100921904
  | .aclkStepSettle _ => 32
  | .powerEmergency _ => 100921906
  | .emergencyRelease => 4130
  | .mainInputShutdown _ => 402651126
  | .mainInputReturn => 939524095
  | .auxInputLoss => 33575938
  | .temperatureSample _ _ _ => 402651126
  | .droopTrip _ _ _ => 4128
  | .ageingMeasurement _ => 53248
  | .domainGate _ => 4096
  | .domainWake _ => 121631664
  | .regulatorFault _ => 402653174
  | .interruptDelivery _ => 32768
  | .ictlDone _ => 32768
  | .ictlSoftSet _ => 32768
  | .ictlSrcWrite _ _ => 32768
  | .ictlMaskWrite _ _ => 32768
  | .waitInstruction _ => 32768
  | .waitWake _ => 32768
  | .msixUnmask _ _ => 402651126
  | .vfFlr _ => 402651126
  | .pfFlr => 402647030
  | .vfEnableCleared _ => 402651126
  | .vfConfigChange _ _ _ _ _ _ _ _ => 402651126
  | .perst => 402647030
  | .hotReset _ => 402647030
  | .deviceWarmReset _ => 402651126
  | .modResetN _ => 939524095
  | .moduleColdReset _ => 939524095
  | .bootReady _ _ _ => 100922130
  | .hostReadCompletion _ _ _ _ _ => 65536
  | .completionTimeout _ _ _ _ => 65536
  | .atsInvalidation _ _ _ _ _ => 387966928
  | .nonTeeRequest _ _ => 100917776
  | .ideIntegrityFailure _ => 402651134
  | .getVersion _ => 114696
  | .getCapabilities _ _ => 114696
  | .negotiateAlgorithms _ _ _ _ _ => 114696
  | .getDigests _ => 114696
  | .getCertificate _ _ _ _ => 114696
  | .challenge _ _ _ => 33669128
  | .getMeasurements _ _ _ _ => 33669128
  | .keyExchange _ _ _ => 33669128
  | .spdmFinish _ _ => 114696
  | .keyUpdate _ => 114696
  | .heartbeat _ => 114696
  | .sessionHeartbeatExpiry _ => 32776
  | .endSession _ => 114696
  | .setCertificate _ _ _ => 114700
  | .subscribeEventTypes _ _ => 114696
  | .pskExchange _ => 114688
  | .pskFinish _ => 114688
  | .keyProg _ _ _ _ _ _ => 114696
  | .kSetGo _ _ _ _ _ => 114696
  | .getTdispVersion _ _ => 114696
  | .getTdispCapabilities _ _ => 114696
  | .lockInterface _ _ _ => 118824
  | .getInterfaceReport _ _ _ _ => 114696
  | .getInterfaceState _ _ => 114696
  | .startInterface _ _ _ => 67223608
  | .stopInterface _ _ => 402651134
  | .entdaa _ => 33669120
  | .setEndpointId _ => 49152
  | .pldmDiscovery _ => 33669120
  | .pldmSensorRead _ => 33669120
  | .pldmFirmwareUpdate _ _ _ => 402647030
  | .lifetimeCommit _ _ => 16384
  | .frefLost _ => 121630706
  | .portRetrained _ _ => 121630704
  | .vfEnableSet _ => 32818
  | .perstDeasserted => 2
  | .mainInputInRange => 37890

/-- A command keeps every part of the state outside its `changes`, and the forms that `Keeps` names. -/
theorem exec_keeps {i : Instr} {s t : State} (h : exec i s = .next t) : Keeps (changes i) s t := by
  cases i with
  | sqTailDoorbell x0 x1 x2 x3 => exact (execSqTailDoorbell_keeps rfl (Keeps.refl 123725748 s)).of t h
  | cqHeadDoorbell x0 x1 x2 x3 => exact (execCqHeadDoorbell_keeps rfl (Keeps.refl 123725748 s)).of t h
  | fenceWindowWrite x0 x1 x2 x3 => exact (execFenceWindowWrite_keeps rfl (Keeps.refl 123725748 s)).of t h
  | entryFetch x0 x1 => exact (execEntryFetch_keeps rfl (Keeps.refl 119531510 s)).of t h
  | launch x0 x1 => exact (execLaunch_keeps rfl (Keeps.refl 119531446 s)).of t h
  | launchReadsComplete x0 x1 x2 => exact (execLaunchReadsComplete_keeps rfl (Keeps.refl 119531508 s)).of t h
  | courseNodeRead x0 x1 x2 => exact (execCourseNodeRead_keeps rfl (Keeps.refl 123725812 s)).of t h
  | nodeDispatch x0 x1 x2 x3 => exact (execNodeDispatch_keeps rfl (Keeps.refl 123725812 s)).of t h
  | workOrderArrive x0 x1 => exact (execWorkOrderArrive_keeps rfl (Keeps.refl 35660352 s)).of t h
  | workOrderStart x0 => exact (execWorkOrderStart_keeps rfl (Keeps.refl 35659840 s)).of t h
  | workOrderComplete x0 x1 x2 x3 => exact (execWorkOrderComplete_keeps rfl (Keeps.refl 121627600 s)).of t h
  | workOrderReport x0 => exact (execWorkOrderReport_keeps rfl (Keeps.refl 125822900 s)).of t h
  | endNotice x0 => exact (execEndNotice_keeps rfl (Keeps.refl 125822960 s)).of t h
  | counterWaitTimeout x0 => exact (execCounterWaitTimeout_keeps rfl (Keeps.refl 121627600 s)).of t h
  | syncArrive x0 => exact (execSyncArrive_keeps rfl (Keeps.refl 64 s)).of t h
  | syncReport x0 => exact (execSyncReport_keeps rfl (Keeps.refl 123725812 s)).of t h
  | syncRelease x0 x1 x2 x3 => exact (execSyncRelease_keeps rfl (Keeps.refl 121628660 s)).of t h
  | matrixWorkOrder x0 => exact (execMatrixWorkOrder_keeps rfl (Keeps.refl 387965904 s)).of t h
  | fusedChain x0 => exact (execFusedChain_keeps rfl (Keeps.refl 387965904 s)).of t h
  | sparProgram x0 => exact (execSparProgram_keeps rfl (Keeps.refl 387965904 s)).of t h
  | softmax x0 => exact (execSoftmax_keeps rfl (Keeps.refl 387965904 s)).of t h
  | partialState x0 => exact (execPartialState_keeps rfl (Keeps.refl 387965904 s)).of t h
  | mergeStates x0 => exact (execMergeStates_keeps rfl (Keeps.refl 387965904 s)).of t h
  | applyState x0 => exact (execApplyState_keeps rfl (Keeps.refl 387965904 s)).of t h
  | layerNorm x0 => exact (execLayerNorm_keeps rfl (Keeps.refl 387965904 s)).of t h
  | rmsNorm x0 => exact (execRmsNorm_keeps rfl (Keeps.refl 387965904 s)).of t h
  | routerSelect x0 => exact (execRouterSelect_keeps rfl (Keeps.refl 387965904 s)).of t h
  | routerAdmit x0 => exact (execRouterAdmit_keeps rfl (Keeps.refl 387965904 s)).of t h
  | routerCombine x0 => exact (execRouterCombine_keeps rfl (Keeps.refl 387965904 s)).of t h
  | exitTest x0 => exact (execExitTest_keeps rfl (Keeps.refl 387965904 s)).of t h
  | dmaCopy x0 x1 x2 x3 => exact (execDmaCopy_keeps rfl (Keeps.refl 387966928 s)).of t h
  | dmaGather x0 x1 x2 x3 => exact (execDmaGather_keeps rfl (Keeps.refl 387966928 s)).of t h
  | dmaScatter x0 x1 x2 x3 => exact (execDmaScatter_keeps rfl (Keeps.refl 387966928 s)).of t h
  | dmaFill x0 x1 x2 x3 => exact (execDmaFill_keeps rfl (Keeps.refl 387966928 s)).of t h
  | arrivalSignal x0 x1 x2 x3 => exact (execArrivalSignal_keeps rfl (Keeps.refl 64 s)).of t h
  | remoteScratchpadAccess x0 x1 x2 x3 x4 => exact (execRemoteScratchpadAccess_keeps rfl (Keeps.refl 387965904 s)).of t h
  | valleyDispatch x0 x1 x2 => exact (execValleyDispatch_keeps rfl (Keeps.refl 127657936 s)).of t h
  | valleyReturn x0 x1 x2 => exact (execValleyReturn_keeps rfl (Keeps.refl 127657936 s)).of t h
  | valleySegment x0 => exact (execValleySegment_keeps rfl (Keeps.refl 396355568 s)).of t h
  | valleyDone x0 => exact (execValleyDone_keeps rfl (Keeps.refl 396355568 s)).of t h
  | attend x0 => exact (execAttend_keeps rfl (Keeps.refl 387965904 s)).of t h
  | pageCopy x0 => exact (execPageCopy_keeps rfl (Keeps.refl 387965904 s)).of t h
  | eavePartialReturn x0 => exact (execEavePartialReturn_keeps rfl (Keeps.refl 576 s)).of t h
  | copyStart x0 x1 => exact (execCopyStart_keeps rfl (Keeps.refl 119531446 s)).of t h
  | copyComplete x0 x1 x2 => exact (execCopyComplete_keeps rfl (Keeps.refl 387966964 s)).of t h
  | fenceWait x0 x1 => exact (execFenceWait_keeps rfl (Keeps.refl 123725750 s)).of t h
  | fenceSignal x0 x1 => exact (execFenceSignal_keeps rfl (Keeps.refl 119531446 s)).of t h
  | barrierStart x0 x1 => exact (execBarrierStart_keeps rfl (Keeps.refl 119531446 s)).of t h
  | cancelStart x0 x1 => exact (execCancelStart_keeps rfl (Keeps.refl 123725750 s)).of t h
  | waitTimeout x0 x1 x2 x3 => exact (execWaitTimeout_keeps rfl (Keeps.refl 123725748 s)).of t h
  | completionPathLost x0 x1 => exact (execCompletionPathLost_keeps rfl (Keeps.refl 119531444 s)).of t h
  | readRetained x0 => exact (execReadRetained_keeps rfl (Keeps.refl 119531446 s)).of t h
  | resetQueue x0 => exact (execResetQueue_keeps rfl (Keeps.refl 123725750 s)).of t h
  | queueState x0 => exact (execQueueState_keeps rfl (Keeps.refl 119531446 s)).of t h
  | approvalNonce x0 => exact (execApprovalNonce_keeps rfl (Keeps.refl 119531446 s)).of t h
  | nonceExpiry => exact (execNonceExpiry_keeps rfl (Keeps.refl 32772 s)).of t h
  | bayMap x0 => exact (execBayMap_keeps rfl (Keeps.refl 119531446 s)).of t h
  | bayCreate x0 => exact (execBayCreate_keeps rfl (Keeps.refl 402651126 s)).of t h
  | bayResize x0 => exact (execBayResize_keeps rfl (Keeps.refl 402651126 s)).of t h
  | bayDestroy x0 => exact (execBayDestroy_keeps rfl (Keeps.refl 402651126 s)).of t h
  | setMode x0 => exact (execSetMode_keeps rfl (Keeps.refl 402651126 s)).of t h
  | releaseLock x0 => exact (execReleaseLock_keeps rfl (Keeps.refl 402651126 s)).of t h
  | setDebug x0 => exact (execSetDebug_keeps rfl (Keeps.refl 402651126 s)).of t h
  | setPolicy x0 => exact (execSetPolicy_keeps rfl (Keeps.refl 402651126 s)).of t h
  | lifecycleChange x0 => exact (execLifecycleChange_keeps rfl (Keeps.refl 402651126 s)).of t h
  | keySlot x0 => exact (execKeySlot_keeps rfl (Keeps.refl 402651126 s)).of t h
  | fuseWrite x0 => exact (execFuseWrite_keeps rfl (Keeps.refl 402651126 s)).of t h
  | certificate x0 => exact (execCertificate_keeps rfl (Keeps.refl 402651126 s)).of t h
  | certificateExpiry => exact (execCertificateExpiry_keeps rfl (Keeps.refl 4 s)).of t h
  | bayScrubDone x0 => exact (execBayScrubDone_keeps rfl (Keeps.refl 402651126 s)).of t h
  | ridgeSlotBoundary => exact (execRidgeSlotBoundary_keeps rfl (Keeps.refl 402653175 s)).of t h
  | evidenceGo x0 => exact (execEvidenceGo_keeps rfl (Keeps.refl 125829110 s)).of t h
  | fwStage x0 => exact (execFwStage_keeps rfl (Keeps.refl 119531446 s)).of t h
  | fwActivate x0 => exact (execFwActivate_keeps rfl (Keeps.refl 402647030 s)).of t h
  | drainLimitExpiry => exact (execDrainLimitExpiry_keeps rfl (Keeps.refl 125822964 s)).of t h
  | fwDrainComplete x0 => exact (execFwDrainComplete_keeps rfl (Keeps.refl 402651134 s)).of t h
  | warmReset x0 => exact (execWarmReset_keeps rfl (Keeps.refl 402647030 s)).of t h
  | coldReset x0 x1 => exact (execColdReset_keeps rfl (Keeps.refl 402647030 s)).of t h
  | bayReset x0 => exact (execBayReset_keeps rfl (Keeps.refl 402651126 s)).of t h
  | coreReset x0 => exact (execCoreReset_keeps rfl (Keeps.refl 119531510 s)).of t h
  | linkReset x0 => exact (execLinkReset_keeps rfl (Keeps.refl 121630710 s)).of t h
  | lifetimeRead x0 x1 => exact (execLifetimeRead_keeps rfl (Keeps.refl 119531446 s)).of t h
  | setEpoch x0 x1 => exact (execSetEpoch_keeps rfl (Keeps.refl 119531446 s)).of t h
  | columnState x0 => exact (execColumnState_keeps rfl (Keeps.refl 119531446 s)).of t h
  | rehang x0 => exact (execRehang_keeps rfl (Keeps.refl 119535542 s)).of t h
  | rehangCheckDone x0 x1 x2 => exact (execRehangCheckDone_keeps rfl (Keeps.refl 119535540 s)).of t h
  | plannedSlip x0 => exact (execPlannedSlip_keeps rfl (Keeps.refl 119531446 s)).of t h
  | plannedSlipWaitExpiry x0 => exact (execPlannedSlipWaitExpiry_keeps rfl (Keeps.refl 16777216 s)).of t h
  | retireStrip x0 => exact (execRetireStrip_keeps rfl (Keeps.refl 402651126 s)).of t h
  | restoreStrip x0 => exact (execRestoreStrip_keeps rfl (Keeps.refl 119531446 s)).of t h
  | restoreQuiesce => exact (execRestoreQuiesce_keeps rfl (Keeps.refl 4098 s)).of t h
  | restoreQuiesceTimeout => exact (execRestoreQuiesceTimeout_keeps rfl (Keeps.refl 119531446 s)).of t h
  | readErrors x0 => exact (execReadErrors_keeps rfl (Keeps.refl 119531446 s)).of t h
  | snapshotStrobe x0 => exact (execSnapshotStrobe_keeps rfl (Keeps.refl 119531446 s)).of t h
  | snapshotRead x0 => exact (execSnapshotRead_keeps rfl (Keeps.refl 119531446 s)).of t h
  | snapshotRelease x0 => exact (execSnapshotRelease_keeps rfl (Keeps.refl 656402358 s)).of t h
  | snapshotHoldExpiry => exact (execSnapshotHoldExpiry_keeps rfl (Keeps.refl 536879104 s)).of t h
  | snapN x0 => exact (execSnapN_keeps rfl (Keeps.refl 33562624 s)).of t h
  | traceRead x0 => exact (execTraceRead_keeps rfl (Keeps.refl 119531446 s)).of t h
  | haltBay x0 => exact (execHaltBay_keeps rfl (Keeps.refl 119531446 s)).of t h
  | stepBay x0 => exact (execStepBay_keeps rfl (Keeps.refl 119531446 s)).of t h
  | stepExpiry x0 => exact (execStepExpiry_keeps rfl (Keeps.refl 32 s)).of t h
  | resumeBay x0 => exact (execResumeBay_keeps rfl (Keeps.refl 119531446 s)).of t h
  | debugAccess x0 => exact (execDebugAccess_keeps rfl (Keeps.refl 119531510 s)).of t h
  | enableQueue x0 x1 => exact (execEnableQueue_keeps rfl (Keeps.refl 125829110 s)).of t h
  | disableQueue x0 x1 => exact (execDisableQueue_keeps rfl (Keeps.refl 125829110 s)).of t h
  | restartQueue x0 x1 => exact (execRestartQueue_keeps rfl (Keeps.refl 125829110 s)).of t h
  | windowOpen x0 x1 x2 x3 => exact (execWindowOpen_keeps rfl (Keeps.refl 125829110 s)).of t h
  | windowClose x0 x1 x2 x3 => exact (execWindowClose_keeps rfl (Keeps.refl 125829110 s)).of t h
  | setupRegisterWrite x0 x1 x2 x3 => exact (execSetupRegisterWrite_keeps rfl (Keeps.refl 125829110 s)).of t h
  | tileSelfCheckFailure x0 x1 => exact (execTileSelfCheckFailure_keeps rfl (Keeps.refl 402651126 s)).of t h
  | tileHeartbeat x0 x1 x2 => exact (execTileHeartbeat_keeps rfl (Keeps.refl 402651126 s)).of t h
  | slipRepair x0 => exact (execSlipRepair_keeps rfl (Keeps.refl 16777216 s)).of t h
  | slipMeshDrained x0 => exact (execSlipMeshDrained_keeps rfl (Keeps.refl 402651126 s)).of t h
  | spareCheckDone x0 x1 x2 => exact (execSpareCheckDone_keeps rfl (Keeps.refl 402651126 s)).of t h
  | slipMigrationDone x0 x1 => exact (execSlipMigrationDone_keeps rfl (Keeps.refl 402651126 s)).of t h
  | spareFullCheck x0 => exact (execSpareFullCheck_keeps rfl (Keeps.refl 128 s)).of t h
  | eaveEngineFailure x0 => exact (execEaveEngineFailure_keeps rfl (Keeps.refl 390063090 s)).of t h
  | stackControllerFailure x0 x1 => exact (execStackControllerFailure_keeps rfl (Keeps.refl 402651126 s)).of t h
  | deviceFatal x0 => exact (execDeviceFatal_keeps rfl (Keeps.refl 402651126 s)).of t h
  | patrolScrubLine x0 x1 x2 x3 => exact (execPatrolScrubLine_keeps rfl (Keeps.refl 100917776 s)).of t h
  | refresh x0 x1 x2 => exact (execRefresh_keeps rfl (Keeps.refl 512 s)).of t h
  | rowRepair x0 => exact (execRowRepair_keeps rfl (Keeps.refl 512 s)).of t h
  | rowRepairDone x0 x1 => exact (execRowRepairDone_keeps rfl (Keeps.refl 100917776 s)).of t h
  | memoryHealthRecord x0 => exact (execMemoryHealthRecord_keeps rfl (Keeps.refl 119530384 s)).of t h
  | linkHealthRecord x0 => exact (execLinkHealthRecord_keeps rfl (Keeps.refl 119530384 s)).of t h
  | powerRecord x0 => exact (execPowerRecord_keeps rfl (Keeps.refl 119534512 s)).of t h
  | portTraining x0 x1 x2 x3 x4 x5 x6 x7 => exact (execPortTraining_keeps (_prevId := x3) rfl (Keeps.refl 121630704 s)).of t h
  | trainingRetry x0 => exact (execTrainingRetry_keeps rfl (Keeps.refl 33792 s)).of t h
  | laneMarginal x0 x1 => exact (execLaneMarginal_keeps rfl (Keeps.refl 100918800 s)).of t h
  | laneLost x0 x1 => exact (execLaneLost_keeps rfl (Keeps.refl 100918800 s)).of t h
  | dataFlit x0 x1 x2 => exact (execDataFlit_keeps rfl (Keeps.refl 100918800 s)).of t h
  | idleFlit x0 x1 x2 => exact (execIdleFlit_keeps rfl (Keeps.refl 1024 s)).of t h
  | nakFlit x0 x1 x2 => exact (execNakFlit_keeps rfl (Keeps.refl 100918800 s)).of t h
  | replayTimeout x0 => exact (execReplayTimeout_keeps rfl (Keeps.refl 100918800 s)).of t h
  | portHoldExpiry x0 => exact (execPortHoldExpiry_keeps rfl (Keeps.refl 121630704 s)).of t h
  | farWrite x0 => exact (execFarWrite_keeps rfl (Keeps.refl 400549876 s)).of t h
  | farRead x0 => exact (execFarRead_keeps rfl (Keeps.refl 400549876 s)).of t h
  | farAtomicAdd x0 => exact (execFarAtomicAdd_keeps rfl (Keeps.refl 400549876 s)).of t h
  | farWriteAck x0 => exact (execFarWriteAck_keeps rfl (Keeps.refl 390064112 s)).of t h
  | farReadData x0 => exact (execFarReadData_keeps rfl (Keeps.refl 390064112 s)).of t h
  | farAtomicAck x0 => exact (execFarAtomicAck_keeps rfl (Keeps.refl 390064112 s)).of t h
  | farValley x0 => exact (execFarValley_keeps rfl (Keeps.refl 400549876 s)).of t h
  | farValleyAck x0 => exact (execFarValleyAck_keeps rfl (Keeps.refl 390064112 s)).of t h
  | responseTimeout x0 x1 => exact (execResponseTimeout_keeps rfl (Keeps.refl 121628656 s)).of t h
  | farForward x0 x1 => exact (execFarForward_keeps rfl (Keeps.refl 100918800 s)).of t h
  | enumMessage x0 => exact (execEnumMessage_keeps rfl (Keeps.refl 121630704 s)).of t h
  | topologyMessage x0 => exact (execTopologyMessage_keeps rfl (Keeps.refl 121630704 s)).of t h
  | rootTakeover => exact (execRootTakeover_keeps rfl (Keeps.refl 121630704 s)).of t h
  | snapshotMessage x0 => exact (execSnapshotMessage_keeps rfl (Keeps.refl 33596416 s)).of t h
  | allReduce x0 x1 => exact (execAllReduce_keeps rfl (Keeps.refl 390064112 s)).of t h
  | reduceScatter x0 x1 => exact (execReduceScatter_keeps rfl (Keeps.refl 390064112 s)).of t h
  | allGather x0 x1 => exact (execAllGather_keeps rfl (Keeps.refl 390064112 s)).of t h
  | allToAll x0 x1 => exact (execAllToAll_keeps rfl (Keeps.refl 390064112 s)).of t h
  | broadcast x0 x1 => exact (execBroadcast_keeps rfl (Keeps.refl 390064112 s)).of t h
  | remoteAdd x0 x1 => exact (execRemoteAdd_keeps rfl (Keeps.refl 390064112 s)).of t h
  | collGrant x0 => exact (execCollGrant_keeps rfl (Keeps.refl 390064112 s)).of t h
  | collData x0 => exact (execCollData_keeps rfl (Keeps.refl 390064112 s)).of t h
  | collAbort x0 => exact (execCollAbort_keeps rfl (Keeps.refl 390064112 s)).of t h
  | frameReduce x0 x1 x2 => exact (execFrameReduce_keeps rfl (Keeps.refl 390064112 s)).of t h
  | collectiveTimeout x0 x1 x2 => exact (execCollectiveTimeout_keeps rfl (Keeps.refl 121628592 s)).of t h
  | capTick x0 x1 x2 => exact (execCapTick_keeps rfl (Keeps.refl 100921904 s)).of t h
  | aclkStepSettle x0 => exact (execAclkStepSettle_keeps rfl (Keeps.refl 32 s)).of t h
  | powerEmergency x0 => exact (execPowerEmergency_keeps rfl (Keeps.refl 100921906 s)).of t h
  | emergencyRelease => exact (execEmergencyRelease_keeps rfl (Keeps.refl 4130 s)).of t h
  | mainInputShutdown x0 => exact (execMainInputShutdown_keeps (_over := x0) rfl (Keeps.refl 402651126 s)).of t h
  | mainInputReturn => exact (execMainInputReturn_keeps rfl (Keeps.refl 939524095 s)).of t h
  | auxInputLoss => exact (execAuxInputLoss_keeps rfl (Keeps.refl 33575938 s)).of t h
  | temperatureSample x0 x1 x2 => exact (execTemperatureSample_keeps rfl (Keeps.refl 402651126 s)).of t h
  | droopTrip x0 x1 x2 => exact (execDroopTrip_keeps rfl (Keeps.refl 4128 s)).of t h
  | ageingMeasurement x0 => exact (execAgeingMeasurement_keeps rfl (Keeps.refl 53248 s)).of t h
  | domainGate x0 => exact (execDomainGate_keeps rfl (Keeps.refl 4096 s)).of t h
  | domainWake x0 => exact (execDomainWake_keeps rfl (Keeps.refl 121631664 s)).of t h
  | regulatorFault x0 => exact (execRegulatorFault_keeps rfl (Keeps.refl 402653174 s)).of t h
  | interruptDelivery x0 => exact (execInterruptDelivery_keeps rfl (Keeps.refl 32768 s)).of t h
  | ictlDone x0 => exact (execIctlDone_keeps rfl (Keeps.refl 32768 s)).of t h
  | ictlSoftSet x0 => exact (execIctlSoftSet_keeps rfl (Keeps.refl 32768 s)).of t h
  | ictlSrcWrite x0 x1 => exact (execIctlSrcWrite_keeps rfl (Keeps.refl 32768 s)).of t h
  | ictlMaskWrite x0 x1 => exact (execIctlMaskWrite_keeps rfl (Keeps.refl 32768 s)).of t h
  | waitInstruction x0 => exact (execWaitInstruction_keeps rfl (Keeps.refl 32768 s)).of t h
  | waitWake x0 => exact (execWaitWake_keeps rfl (Keeps.refl 32768 s)).of t h
  | msixUnmask x0 x1 => exact (execMsixUnmask_keeps rfl (Keeps.refl 402651126 s)).of t h
  | vfFlr x0 => exact (execVfFlr_keeps rfl (Keeps.refl 402651126 s)).of t h
  | pfFlr => exact (execPfFlr_keeps rfl (Keeps.refl 402647030 s)).of t h
  | vfEnableCleared x0 => exact (execVfEnableCleared_keeps rfl (Keeps.refl 402651126 s)).of t h
  | vfConfigChange x0 x1 x2 x3 x4 x5 x6 x7 => exact (execVfConfigChange_keeps rfl (Keeps.refl 402651126 s)).of t h
  | perst => exact (execPerst_keeps rfl (Keeps.refl 402647030 s)).of t h
  | hotReset x0 => exact (execHotReset_keeps rfl (Keeps.refl 402647030 s)).of t h
  | deviceWarmReset x0 => exact (execDeviceWarmReset_keeps rfl (Keeps.refl 402651126 s)).of t h
  | modResetN x0 => exact (execModResetN_keeps rfl (Keeps.refl 939524095 s)).of t h
  | moduleColdReset x0 => exact (execModuleColdReset_keeps rfl (Keeps.refl 939524095 s)).of t h
  | bootReady x0 x1 x2 => exact (execBootReady_keeps rfl (Keeps.refl 100922130 s)).of t h
  | hostReadCompletion x0 x1 x2 x3 x4 => exact (execHostReadCompletion_keeps rfl (Keeps.refl 65536 s)).of t h
  | completionTimeout x0 x1 x2 x3 => exact (execCompletionTimeout_keeps rfl (Keeps.refl 65536 s)).of t h
  | atsInvalidation x0 x1 x2 x3 x4 => exact (execAtsInvalidation_keeps rfl (Keeps.refl 387966928 s)).of t h
  | nonTeeRequest x0 x1 => exact (execNonTeeRequest_keeps (_write := x1) rfl (Keeps.refl 100917776 s)).of t h
  | ideIntegrityFailure x0 => exact (execIdeIntegrityFailure_keeps rfl (Keeps.refl 402651134 s)).of t h
  | getVersion x0 => exact (execGetVersion_keeps rfl (Keeps.refl 114696 s)).of t h
  | getCapabilities x0 x1 => exact (execGetCapabilities_keeps rfl (Keeps.refl 114696 s)).of t h
  | negotiateAlgorithms x0 x1 x2 x3 x4 => exact (execNegotiateAlgorithms_keeps rfl (Keeps.refl 114696 s)).of t h
  | getDigests x0 => exact (execGetDigests_keeps rfl (Keeps.refl 114696 s)).of t h
  | getCertificate x0 x1 x2 x3 => exact (execGetCertificate_keeps rfl (Keeps.refl 114696 s)).of t h
  | challenge x0 x1 x2 => exact (execChallenge_keeps rfl (Keeps.refl 33669128 s)).of t h
  | getMeasurements x0 x1 x2 x3 => exact (execGetMeasurements_keeps rfl (Keeps.refl 33669128 s)).of t h
  | keyExchange x0 x1 x2 => exact (execKeyExchange_keeps rfl (Keeps.refl 33669128 s)).of t h
  | spdmFinish x0 x1 => exact (execSpdmFinish_keeps rfl (Keeps.refl 114696 s)).of t h
  | keyUpdate x0 => exact (execKeyUpdate_keeps rfl (Keeps.refl 114696 s)).of t h
  | heartbeat x0 => exact (execHeartbeat_keeps rfl (Keeps.refl 114696 s)).of t h
  | sessionHeartbeatExpiry x0 => exact (execSessionHeartbeatExpiry_keeps rfl (Keeps.refl 32776 s)).of t h
  | endSession x0 => exact (execEndSession_keeps rfl (Keeps.refl 114696 s)).of t h
  | setCertificate x0 x1 x2 => exact (execSetCertificate_keeps rfl (Keeps.refl 114700 s)).of t h
  | subscribeEventTypes x0 x1 => exact (execSubscribeEventTypes_keeps rfl (Keeps.refl 114696 s)).of t h
  | pskExchange x0 => exact (execPskExchange_keeps rfl (Keeps.refl 114688 s)).of t h
  | pskFinish x0 => exact (execPskFinish_keeps rfl (Keeps.refl 114688 s)).of t h
  | keyProg x0 x1 x2 x3 x4 x5 => exact (execKeyProg_keeps rfl (Keeps.refl 114696 s)).of t h
  | kSetGo x0 x1 x2 x3 x4 => exact (execKSetGo_keeps rfl (Keeps.refl 114696 s)).of t h
  | getTdispVersion x0 x1 => exact (execGetTdispVersion_keeps rfl (Keeps.refl 114696 s)).of t h
  | getTdispCapabilities x0 x1 => exact (execGetTdispCapabilities_keeps rfl (Keeps.refl 114696 s)).of t h
  | lockInterface x0 x1 x2 => exact (execLockInterface_keeps rfl (Keeps.refl 118824 s)).of t h
  | getInterfaceReport x0 x1 x2 x3 => exact (execGetInterfaceReport_keeps rfl (Keeps.refl 114696 s)).of t h
  | getInterfaceState x0 x1 => exact (execGetInterfaceState_keeps rfl (Keeps.refl 114696 s)).of t h
  | startInterface x0 x1 x2 => exact (execStartInterface_keeps rfl (Keeps.refl 67223608 s)).of t h
  | stopInterface x0 x1 => exact (execStopInterface_keeps rfl (Keeps.refl 402651134 s)).of t h
  | entdaa x0 => exact (execEntdaa_keeps rfl (Keeps.refl 33669120 s)).of t h
  | setEndpointId x0 => exact (execSetEndpointId_keeps rfl (Keeps.refl 49152 s)).of t h
  | pldmDiscovery x0 => exact (execPldmDiscovery_keeps rfl (Keeps.refl 33669120 s)).of t h
  | pldmSensorRead x0 => exact (execPldmSensorRead_keeps rfl (Keeps.refl 33669120 s)).of t h
  | pldmFirmwareUpdate x0 x1 x2 => exact (execPldmFirmwareUpdate_keeps rfl (Keeps.refl 402647030 s)).of t h
  | lifetimeCommit x0 x1 => exact (execLifetimeCommit_keeps rfl (Keeps.refl 16384 s)).of t h
  | frefLost x0 => exact (execFrefLost_keeps rfl (Keeps.refl 121630706 s)).of t h
  | portRetrained x0 x1 => exact (execPortRetrained_keeps rfl (Keeps.refl 121630704 s)).of t h
  | vfEnableSet x0 => exact (execVfEnableSet_keeps rfl (Keeps.refl 32818 s)).of t h
  | perstDeasserted => exact (execPerstDeasserted_keeps rfl (Keeps.refl 2 s)).of t h
  | mainInputInRange => exact (execMainInputInRange_keeps rfl (Keeps.refl 37890 s)).of t h

/-- The same of a step, which takes the front command out of the queue. -/
theorem step_keeps {s t : State} (h : step s = .next t) :
    t = s ∨ ∃ i rest, s.pending = i :: rest ∧ Keeps (changes i) { s with pending := rest } t := by
  unfold step at h
  split at h
  · exact .inl (by cases h; rfl)
  · next i rest e => exact .inr ⟨i, rest, e, exec_keeps h⟩

end Sys2Proof.Machine
end

