-- ==== Sys2Proof/Laws/Shared.lean ====
section
/-! SUPPORT. Laws of the operations that many commands share: an ADMIN item, an engine's work order, a valley message, and an SPDM
request on a connection or inside a session. Each says once what the operation does. -/

namespace Sys2Proof.Machine

/-- An ADMIN item that is first in its queue and passes its check is served and acts. -/
theorem adminRun_ok {s : State} {q op : Nat} {check : List Byte → Chk Unit} {act : State → Item → State} {it : Item}
    (h : s.adminItem q op = some it) (hc : check it.entry = .ok ()) : s.adminRun q op check act = (act (s.served pfFn q) it).settle := by
  simp only [State.adminRun, h, hc]

/-- One that fails its check is served and completes with the status. -/
theorem adminRun_refused {s : State} {q op : Nat} {check : List Byte → Chk Unit} {act : State → Item → State} {it : Item} {e : Status}
    (h : s.adminItem q op = some it) (hc : check it.entry = .error e) :
    s.adminRun q op check act = (s.served pfFn q).adminEnd q it.slot e 0 := by
  simp only [State.adminRun, h, hc]

/-- With no such item in front nothing changes. -/
theorem adminRun_none {s : State} {q op : Nat} {check : List Byte → Chk Unit} {act : State → Item → State}
    (h : s.adminItem q op = none) : s.adminRun q op check act = s := by
  simp only [State.adminRun, h]

/-- An operation on a bay that exists, or on the part, acts. -/
theorem needBay_ok {s : State} {q : Nat} {it : Item} {act : State → State} (h : adBay it.entry = 12 ∨ s.bayExists (adBay it.entry) = true) :
    s.needBay q it act = act s := if_pos h

/-- A valley message that need not wait, of the kind that arrives, leaves the queue of messages and arrives. -/
theorem valleyArrive_done {s : State} {n : Nat} {m : ValleyMsg} {d : Bool} (h1 : s.valley[n]? = some m) (h2 : s.valleyHeld n m = false)
    (h3 : byteBit m.header 6 1 = d) : s.valleyArrive n d =
      if d then State.doneArrives { s with valley := s.valley.take n ++ s.valley.drop (n + 1) } m
      else State.raced { s with valley := s.valley.take n ++ s.valley.drop (n + 1) }
        (State.segmentArrives { s with valley := s.valley.take n ++ s.valley.drop (n + 1) } m) := by
  unfold State.valleyArrive
  rw [h1]
  simp only [h2, h3, bne_self_eq_false, Bool.or_self, Bool.false_eq_true, if_false]

/-- Work beside which no other work has written memory runs on memory as it is; what it writes, the work orders in progress remember. -/
theorem raceRun_fresh {s : State} {w : WorkOrder} {run : State → State} (h : w.stale = []) : s.raceRun w run = s.raced (run s) := by
  unfold State.raceRun
  rw [h]
  rfl

/-- An item beside which no other work has written memory moves bytes on memory as it is. -/
theorem itemRace_fresh {s : State} {it : Item} {run : State → State × Nat × Option Status} (h : tabGet s.itemStale it.order [] = []) :
    s.itemRace it run = run s := by
  unfold State.itemRace State.itemView
  rw [h]
  rfl

/-- Work that leaves memory as it was races with nothing. -/
theorem raced_same {s t : State} (h : formerCells s t = []) : s.raced t = t := if_pos h

/-- What work orders and items under way remember of the bytes before changes nothing but the cores, the stacks' eave queues and what is kept
of the items. -/
theorem raced_parts (s t : State) : ∃ cores stackTab items, s.raced t = { t with cores := cores, stackTab := stackTab, itemStale := items } := by
  have eaves (f : List (Bool × Host.Cell)) : ∀ (l : List (Nat × Stack)) (x : State), ∃ st,
      l.foldl (fun (x : State) e => x.setStack e.1 { e.2 with eave := rememberHead f e.2.eave }) x = { x with stackTab := st } := by
    intro l
    induction l with
    | nil => exact fun x => ⟨x.stackTab, rfl⟩
    | cons e l ih => exact fun x => (ih _).imp fun _ h => h
  have queues (f : List (Bool × Host.Cell)) : ∀ (l : List (Nat × Core)) (x : State), ∃ cs,
      l.foldl (fun (x : State) e => x.setCore e.1 { e.2 with queue := e.2.queue.map (CoreEntry.remember f) }) x = { x with cores := cs } := by
    intro l
    induction l with
    | nil => exact fun x => ⟨x.cores, rfl⟩
    | cons e l ih => exact fun x => (ih _).imp fun _ h => h
  by_cases h : formerCells s t = []
  · exact ⟨t.cores, t.stackTab, t.itemStale, raced_same h⟩
  · obtain ⟨cs, hc⟩ := queues (formerCells s t) t.cores t
    obtain ⟨st, hs⟩ := eaves (formerCells s t) t.stackTab { t with cores := cs }
    refine ⟨cs, st, t.itemsRemember (formerCells s t), (if_neg h).trans ?_⟩
    simp only [hc]
    exact congrArg (fun x : State => { x with itemStale := t.itemsRemember (formerCells s t) }) hs

@[simp] theorem raced_spadMem (s t : State) : (s.raced t).spadMem = t.spadMem := by obtain ⟨_, _, _, h⟩ := raced_parts s t; rw [h]
@[simp] theorem raced_stackMem (s t : State) : (s.raced t).stackMem = t.stackMem := by obtain ⟨_, _, _, h⟩ := raced_parts s t; rw [h]

/-- A request that a connection reaches, outside an activation, acts after its interrupt source is raised. -/
theorem spdmRun_ok {s : State} {side always : Bool} {act : State → State} (h1 : s.spdmReached side = true) (h2 : s.updating = false)
    (h3 : s.sec.lifecycle ≠ 3 ∨ always = true) : s.spdmRun side always act = s.announce (act (s.pend (if side then 200 else 24))) side := by
  have h2' : (s.pend (if side then 200 else 24)).updating = false := h2
  have h3' : ¬ ((s.pend (if side then 200 else 24)).sec.lifecycle = 3 ∧ always = false) := by
    rintro ⟨a, b⟩; rcases h3 with h | h
    · exact h a
    · simp [h] at b
  simp only [State.spdmRun, h1, if_true, h2', Bool.false_eq_true, if_false, if_neg h3']

/-- A request inside an established session acts, and the session has missed no heartbeat. -/
theorem inSession_ok {s : State} {sid : Nat} {x : Session} {always : Bool} {act : State → State} (h : s.sessionAt sid = some x)
    (h1 : s.spdmReached x.sideband = true) (h2 : s.updating = false) (h3 : s.sec.lifecycle ≠ 3 ∨ always = true) (h4 : x.established = true) :
    s.inSession sid always act =
      s.announce (act ((s.pend (if x.sideband then 200 else 24)).setSession sid (fun y => { y with misses := 0 }))) x.sideband := by
  have hs : s.sessionSide sid = x.sideband := by simp [State.sessionSide, h]
  have h' : (s.pend (if x.sideband then 200 else 24)).sessionAt sid = some x := h
  rw [State.inSession, hs, spdmRun_ok h1 h2 h3]
  simp only [h', h4, if_true]

/-- A request on a connection with algorithms, or inside an established session, acts. -/
theorem inEither_ok {s t : State} {path : SpdmPath} {side always : Bool} {act : State → State} (h2 : s.updating = false) (h3 : s.sec.lifecycle ≠ 3)
    (h1 : s.spdmReached side = true)
    (h : (path = (if side then SpdmPath.sideband else SpdmPath.doe) ∧ t = s.pend (if side then 200 else 24) ∧ (t.connAt side).algs = true) ∨
    (∃ sid x, path = .session sid ∧ side = s.sessionSide sid ∧ s.sessionAt sid = some x ∧ x.established = true ∧
      t = (s.pend (if side then 200 else 24)).setSession sid (fun y => { y with misses := 0 }))) :
    s.inEither path always act = s.announce (act t) side := by
  rcases h with ⟨rfl, rfl, ha⟩ | ⟨sid, x, rfl, hs, hx, he, rfl⟩
  · have run := (spdmRun_ok (always := always) (act := fun t => if (t.connAt side).algs then act t else t.spdmError 0x04) h1 h2 (.inl h3)).trans
      (congrArg (fun u => s.announce u side) (if_pos ha))
    cases side <;> exact run
  · have hx' : s.sessionSide sid = x.sideband := by simp [State.sessionSide, hx]
    rw [hx'] at hs
    subst hs
    exact inSession_ok hx h1 h2 (.inl h3) he

end Sys2Proof.Machine
end

