-- ==== Sys2Proof/Tests/Slice0.lean ====
section
/-! SUPPORT. Tests: ill-formed commands are refused, examples of the spec, and for each statement concrete states that meet its
hypotheses. -/

set_option Elab.async false

namespace Sys2Proof.Tests

open Sys2Proof Sys2Proof.Machine

/- States and records of the tests. -/

/-- A device that has booted in shared mode, with bay 0 on strip 0 and its virtual function. -/
def up : State := { State.reset with
  dev := { devReset with
    boot := .ready, ready := true, mainInput := true, mainOn := true, perst := false, configAnswers := true, isolated := false,
    vfEnable := true, numVfs := 1, cycle := [0] },
  power := { powerReset with on := List.range 189 },
  fns := [(0, { fnReset with exists_ := true, memSpace := true, busMaster := true, ats := true }),
          (12, { fnReset with exists_ := true, memSpace := true, busMaster := true })],
  bays := [(0, { bayReset with first := 0, count := 1, live := true })] }

/-- A record of `n` bytes, zero but for the fields given. -/
def rec (n : Nat) (fields : List (Nat × List Byte)) : List Byte := fields.foldl (fun e f => overlay e f.1 f.2) (List.replicate n 0)

/-- An entry of 64 bytes. -/
def entry (fields : List (Nat × List Byte)) : List Byte := rec 64 fields

/-- An ADMIN entry: opcode, TARGET_BAY, ADDRESS, COUNT and more fields. -/
def admin (op bay addr count : Nat) (fields : List (Nat × List Byte)) : List Byte :=
  entry ([(0, natLE 1 7), (8, natLE 1 op), (9, natLE 1 bay), (16, natLE 8 addr), (24, natLE 4 count)] ++ fields)

/-- Queue 0 of a function with items in slots 0 and up. -/
def withItems (s : State) (fn : Nat) (items : List Item) : State :=
  s.setQueue fn 0 { queueReset with
    st := .running, sqHead := items.length, sqTail := items.length, fetched := items.length, items := items,
    cqBase := BitVec.ofNat 64 (4 * 2 ^ 60) }

/-- Queue 0 of a function with one item just fetched. -/
def submit (s : State) (fn : Nat) (e : List Byte) : State := withItems s fn [itemNew 0 0 0 e]

/-- A work order of bay 0 for its core or stack 0, of launch 1, queue 0, slot 0 and node 0. -/
def wo (r : List Byte) (st : WoSt) : WorkOrder := ⟨0, 1, 0, 0, 0, r, 0, 10000, none, st, [], false, 0, none, [], []⟩

/-- The booted device with a queue of core 0, and bytes of its scratchpad. -/
def core0 (q : List CoreEntry) (spad : List Host.Cell) : State := { up with cores := [(0, { coreReset with queue := q })], spadMem := spad }

/-- The booted device with an eave work order of stack 0, and bytes of the stack. -/
def stack0 (q : List WorkOrder) (mem : List Host.Cell) : State := { up with stackTab := [(0, { stackReset with eave := q })], stackMem := mem }

/-- A check or a read passes with a value. -/
def isOk {α : Type} [DecidableEq α] (x : Chk α) (v : α) : Bool := decide (x.toOption = some v)
theorem isOk_iff {α : Type} [DecidableEq α] (x : Chk α) (v : α) : isOk x v = true ↔ x = .ok v := by
  cases x <;> simp [isOk, Except.toOption]

/- Ill-formed commands, one for each check, and well-formed ones at the bound. -/

theorem test_ill_formed_refused : ([.sqTailDoorbell 13 0 4 ⟨0, false⟩, .sqTailDoorbell 0 64 4 ⟨0, false⟩, .sqTailDoorbell 12 4 4 ⟨0, false⟩, .sqTailDoorbell 0 0 3 ⟨0, false⟩,
    .sqTailDoorbell 0 0 2 ⟨65536, false⟩, .launchReadsComplete 0 0 65536, .haltBay 4, .evidenceGo 12, .bayScrubDone 13, .workOrderStart 4032,
    .workOrderArrive false 4032, .workOrderArrive true 24, .dmaCopy 0 0 0 16, .spareFullCheck 72, .tileHeartbeat 0 60 true, .attend 24,
    .farWrite 16, .farForward 0 4, .domainWake 190, .ictlDone 3, .ictlSrcWrite 512 0, .getCertificate .doe 8 0 0, .ideIntegrityFailure 16,
    .completionTimeout 0 none (2 ^ 60) 0, .completionTimeout 0 (some (2 ^ 20)) 0 0, .windowOpen 0 false 64 0, .lifetimeCommit [(3, 2)] [(4, 1)],
    .msixUnmask 0 (some ⟨66, 0, 0, false⟩), .msixUnmask 12 (some ⟨32, 0, 0, false⟩), .ageingMeasurement [⟨190, true⟩], .modResetN ⟨10, true, some 4⟩, .perst] : List Instr).filter wellFormed
    = [.perst] := by decide +kernel
theorem test_well_formed_at_bounds : ([.sqTailDoorbell 12 3 2 ⟨65535, false⟩, .sqTailDoorbell 11 63 8 ⟨0, false⟩, .launchReadsComplete 0 0 65535, .evidenceGo 11,
    .workOrderStart 4031, .workOrderArrive true 23, .dmaCopy 0 0 0 15, .tileHeartbeat 71 59 true, .farForward 15 3, .domainWake 189, .ictlDone 2,
    .ictlSrcWrite 511 0, .getCertificate .sideband 7 0 0, .completionTimeout 0 (some (2 ^ 20 - 1)) (2 ^ 60 - 1) 0,
    .lifetimeCommit [(3, 2)] [(4, 1), (5, 1)], .msixUnmask 11 (some ⟨65, 0, 0, true⟩), .msixUnmask 12 (some ⟨31, 0, 0, false⟩), .ageingMeasurement [⟨189, false⟩],
    .modResetN ⟨10, false, some 3⟩] : List Instr).all wellFormed = true := by
  decide +kernel
theorem test_no_word_spells_a_command : decodeTableWord 32 0 = none := rfl

/- Examples of the spec. -/

/-- 02: in the bay of strips 2 and 3, bay memory offset 0x1234567 is offset 0x48D567 of N2. -/
theorem test_bay_memory_example : (up.setBay 2 { up.bayAt 0 with first := 2, count := 2 }).memPlace 2 0x1234567 = (2, 0x48D567) := by decide +kernel
/-- 00: the scratchpad byte 0x12340 of core (13, 7) in that bay. -/
theorem test_core_address_example : let s := up.setBay 2 { up.bayAt 0 with first := 2, count := 2 }
    isOk (s.resolve 2 0x200003F000012340 1) (.spad (13 * 56 + 7) 0x12340) = true := by decide +kernel
/-- 06: four FP6 elements are stored as 08 FA 05. -/
theorem test_packing_example : rowBytes 0 24 (packBits 6 [0x08, 0x28, 0x1F, 0x01]) = [0x08, 0xFA, 0x05] := by decide +kernel
/-- 07: one group in the window, and the pair and the drained value it gives. -/
theorem test_group_example : let x (c : Nat) := expand c .e4m3 none
    let g := groupSum [(x 0x7E, x 0x7E), (x 0x01, x 0xAC), (x 0x01, x 0x2C), (x 0x39, x 0xB9)]
    g = .fin (mkRat 205519599 1024) ∧ accumulate (0, 0) g = (0x4843FFAF, 0xBA800000) ∧ drain (accumulate (0, 0) g) = 0x4843FFAF := by decide +kernel
/-- 07: three quarters of an ulp that the underlay keeps. -/
theorem test_underlay_example : let g : Machine.Num := .fin (mkRat 1 (2 ^ 25))
    accumulate (accumulate (accumulate (0x3F800000, 0) g) g) g = (0x3F800000, 0x33C00000) ∧ drain (0x3F800000, 0x33C00000) = 0x3F800001 := by
  decide +kernel
/-- 07: from the drained value to the stored code, under both directed roundings. -/
theorem test_epilogue_example : let y := epilogue 0x3A800000 (some 0xC0800000) 1 0 0 0x4843FFAF
    y = 0x433FFFAF ∧ rneTo (dec32 y) .e4m3 = 0x74 ∧ rtzTo (dec32 y) .e4m3 = 0x73 := by decide +kernel
/-- 09: rows of the table of special functions. -/
theorem test_special_examples : sfExp2 0x3F000000 = 0x3FB504F3 ∧ sfExp2 0xC3160000 = 0 ∧ sfRcp 0x80000000 = 0xFF800000 ∧
    sfRsqrt 0x40000000 = 0x3F3504F3 ∧ sfRsqrt 0x40800000 = 0x3F000000 ∧ sfLog2 0x00400000 = 0xC2FE0000 ∧ sfLog 0xBF800000 = 0x7FC00000 ∧
    sfTanh 0x41A00000 = 0x3F800000 ∧ sfLogistic 0 = 0x3F000000 ∧ sfSinTurn 0x49743000 0x3A800000 = 0xBF800000 ∧
    sfCosTurn 0x49743000 0x3A800000 = 0 := by decide +kernel

/-- 11: a line with its check bytes is a codeword, and with one wrong symbol it is none. -/
theorem test_line_code : let line := (List.range 64).map (fun i => BitVec.ofNat 8 (i * 37 + 1))
    let syms := line ++ rsCheck line
    syms.length = 72 ∧ rsCodeword syms = true ∧ rsCodeword (overlay syms 71 [syms.getD 71 0 ^^^ 1#8]) = false := by decide +kernel
/-- 11: four wrong symbols, or a whole lane and none besides, decode; five, or a lane and one besides, do not. -/
theorem test_line_decodes : let bad (n : Nat) : List (Nat × Nat) := (List.range n).map (fun i => (i, 1))
    rsDecodes (bad 4) [] = true ∧ rsDecodes (bad 5) [] = false ∧ rsDecodes (bad 8) [0, 1, 2, 3, 4, 5, 6, 7] = true ∧
    rsDecodes (bad 9) [0, 1, 2, 3, 4, 5, 6, 7] = false := by decide +kernel

/-- 15: a codeword of a Faref port has 30 parity symbols, and its value is 0 at the roots 1, 2 and 4 of the generator. -/
theorem test_port_codeword : let w := kp4Encode [1, 1023, 512, 7]
    w.length = 34 ∧ kp4At w 1 = 0 ∧ kp4At w 2 = 0 ∧ kp4At w 4 = 0 ∧ kp4At (w.set 0 2) 1 ≠ 0 := by decide +kernel

/-- The state after one command. -/
def after (i : Instr) (s : State) : State := match exec i s with | .next t => t | _ => s
/-- 24: the first two steps of bringing up a queue: an address off its page is refused, a write of one clears the refusal. -/
theorem test_queue_example : let s := after (.setupRegisterWrite 0 0x10C0 8 ⟨0x400000007F200800, false⟩) up
    (s.fnAt 0).setupStatus = 0x810010C0 ∧ ((after (.setupRegisterWrite 0 0x0008 4 ⟨0x80000000, false⟩) s).fnAt 0).setupStatus.toNat < 0x80000000 := by
  decide +kernel
/-- 24: step 4 of the same example. -/
theorem test_queue_config_example : ((after (.setupRegisterWrite 0 0x10D0 4 ⟨0x0320A000, false⟩) up).queueAt 0 3).cfg = 0x0320A000 := by decide +kernel

/- The whole machine. -/

theorem wit_step : ∃ (s : State) (i : Instr) (rest : List Instr), s.pending = i :: rest := ⟨{ up with pending := [.perst] }, .perst, [], rfl⟩
theorem wit_idle : State.reset.pending = [] := rfl
theorem wit_next : ∃ t, exec .perst State.reset = .next t := ⟨_, rfl⟩
theorem wit_step_next : ∃ t, step { State.reset with pending := [.perst] } = .next t := ⟨_, rfl⟩
theorem wit_canonical : memWf (core0 [] [(0, 2)]).stackMem = true ∧ memWf (core0 [] [(0, 2)]).spadMem = true := by decide
theorem wit_sound : up.ictl.Sound := by unfold Ictl.Sound; decide +kernel

/- Engines: the started work order of each kind at core 0, its descriptor at scratchpad offset 0. -/

def vecWo : WorkOrder := wo (rec 128 [(0, natLE 1 2)]) .started
theorem wit_engine_runs : up.engineStopped 0 0 = false := by decide +kernel
theorem wit_matrix : pickStarted [.wo (wo (rec 128 [(0, natLE 1 1)]) .started)] (fun v => fieldAt v.rcd 0 1 == 1) =
    some (wo (rec 128 [(0, natLE 1 1)]) .started) := by decide +kernel
theorem wit_exit : pickStarted [.wo (wo (rec 128 [(0, natLE 1 6)]) .started)] (fun v => fieldAt v.rcd 0 1 == 6) =
    some (wo (rec 128 [(0, natLE 1 6)]) .started) := by decide +kernel
theorem wit_chain : let s := core0 [.wo vecWo] []
    pickStarted (s.coreAt 0).queue (fun v => fieldAt v.rcd 0 1 == 2 && s.vecMode 0 v == 0) = some vecWo := by decide +kernel
theorem wit_spar : let s := core0 [.wo vecWo] [(0, 1)]
    pickStarted (s.coreAt 0).queue (fun v => fieldAt v.rcd 0 1 == 2 && s.vecMode 0 v == 1) = some vecWo := by decide +kernel
theorem wit_rows : ∀ op : Fin 6, let s := core0 [.wo vecWo] [(0, 2), (64, BitVec.ofNat 8 (op.val + 1))]
    pickStarted (s.coreAt 0).queue (s.isRn 0 (op.val + 1)) = some vecWo := by decide +kernel
theorem wit_router : ∀ op : Fin 3, let s := core0 [.wo vecWo] [(0, 3), (64, BitVec.ofNat 8 (op.val + 1))]
    pickStarted (s.coreAt 0).queue (s.isRt 0 (op.val + 1)) = some vecWo := by decide +kernel

/- Transfers. -/

def dmaWo : WorkOrder := wo (rec 128 [(0, natLE 1 3), (48, natLE 2 1), (53, natLE 1 1)]) .started
/-- A stream of no elements of each operation: C0 is 0. -/
theorem wit_dma : ∀ op : Fin 4, let s := core0 [.wo dmaWo] [(0, BitVec.ofNat 8 (op.val + 1))]
    pickStarted (s.coreAt 0).queue (fun v => s.dmaPick 0 1 0 0 (op.val + 1) v && !s.engineStopped v.bay 0) = some dmaWo ∧
    s.dmaWaits 0 dmaWo 0 = false ∧ ((s.raceView dmaWo.stale).dmaRead 0 dmaWo).dmaFirstBad 0 dmaWo = none := by decide +kernel
theorem wit_dma_runs : ∀ op : Fin 4, let s := ((core0 [.wo dmaWo] [(0, BitVec.ofNat 8 (op.val + 1))]).raceView dmaWo.stale).dmaRead 0 dmaWo
    (match s.dmaDesc 0 dmaWo 0 with
      | .ok m => (State.dmaRuns s m (m.runs.drop (tabGet dmaWo.begun 0 0)) 0 s).2.2.isNone
      | .error _ => false) = true := by decide +kernel
def ranWo : WorkOrder := { dmaWo with streams := [⟨0, .ok, [0], 63, 1, false⟩] }
theorem wit_arrival : let s := core0 [.wo ranWo] []
    findWo (s.coreAt 0).queue 1 0 = some ranWo ∧ ranWo.streams.find? (fun x => x.ix == 0) = some ⟨0, .ok, [0], 63, 1, false⟩ ∧
    woFailed ranWo = false ∧ s.streamWaits 0 1 0 0 = false ∧ (∀ c ∈ [0], s.coreAsleep c = false) := by decide +kernel
theorem wit_partial : ((({ up with stackTab := [(0, { stackReset with eaveSigs := [[(0, 63, 1)]] })] } : State)).stackAt 0).eaveSigs =
    [(0, 63, 1)] :: [] ∧ up.coreAsleep 0 = false := by decide +kernel
theorem wit_remote_write : ∃ data : List Byte, data ≠ [] ∧ spadBytes - 1 + data.length ≤ spadBytes ∧
    (up.stripOwner (coreStrip 335)).isSome = true ∧ up.coreAsleep 335 = false ∧ up.spadFlaws = [] := ⟨[1], by decide +kernel⟩
def evWo : WorkOrder := wo (rec 128 [(0, natLE 1 4)]) .queued
theorem wit_eave : ∀ op : Fin 2, let s := stack0 [evWo] [(0, BitVec.ofNat 8 (op.val + 1))]
    (s.stackAt 0).eave = [evWo] ∧ s.eaveUp 0 = true ∧ evWo.st = .queued ∧ s.evAsleep 0 evWo = false ∧ (s.touchStack 0 0 64).evOp 0 evWo = op.val + 1 := by decide +kernel
def msg (flags : Nat) : ValleyMsg := ⟨0, 0, rec 16 [(6, natLE 1 flags)], 0, [], none, none⟩
theorem wit_valley_message : (∀ f : Fin 2, let s := { up with valley := [msg (2 * f.val)] }
    s.valley[0]? = some (msg (2 * f.val)) ∧ s.valleyHeld 0 (msg (2 * f.val)) = false) ∧ byteBit (msg 0).header 6 1 = false ∧ byteBit (msg 2).header 6 1 = true := by
  decide +kernel
theorem wit_valley_send : ∀ f : Fin 2, let w := wo (rec 128 [(0, natLE 1 5), (52, natLE 1 (16 * f.val))]) .started
    pickStarted [.wo w] (fun v => fieldAt v.rcd 0 1 == 5 && byteBit v.rcd 52 4 == (f.val == 1) && v.lid == 1 && v.nodeIx == 0) = some w := by
  decide +kernel

/- The ridge. -/

/-- Bay 0 with queue 0 as given. -/
def queued (q : Queue) : State := up.setQueue 0 0 q
def running : Queue := { queueReset with st := .running }
theorem wit_bar_open : up.barOpen 0 = true ∧ up.barOpen 12 = true ∧ up.dev.fatal = none ∧ up.takesNow 0 = true ∧ up.takesNow 12 = true := by decide +kernel
theorem wit_tail_doorbell : let v := (queued running).queueAt 0 0
    (queued running).barOpen 0 = true ∧ (queued running).takesNow 0 = true ∧ v.st ≠ .disabled ∧ v.tailFence = none ∧ 63 < v.size ∧ ¬ 64 < v.size := by decide +kernel
theorem wit_head_doorbell : let v := (queued { running with recHead := 63 }).queueAt 0 0
    v.st ≠ .disabled ∧ 63 < v.size ∧ (63 + v.size - v.cqHead) % v.size ≤ (v.recHead + v.size - v.cqHead) % v.size := by decide +kernel
theorem wit_disabled_doorbell : (up.queueAt 0 0).st = .disabled := by decide +kernel
theorem wit_fence_window : 4095 < 4096 ∧ 2 ^ 64 - 1 < 2 ^ 64 := by decide
theorem wit_fetch : let s := queued { running with sqTail := 1 }
    s.turn 0 0 = true ∧ s.fetchable 0 0 = true ∧ isOk (((s.served 0 0).touchAt 0 0 64).readAt ⟨0, 0, none⟩ 0 64) (List.replicate 64 0) = true := by
  decide +kernel

def launchEntry : List Byte := entry [(0, natLE 1 1)]
def starts (type : Nat) : State := submit up 0 (entry [(0, natLE 1 type)])
theorem wit_launch : let s := starts 1
    s.toStart 0 0 1 = some (itemNew 0 0 0 launchEntry) ∧ s.launchFault 0 launchEntry = none := by decide +kernel
theorem wit_copy : let s := starts 2
    s.toStart 0 0 2 = some (itemNew 0 0 0 (entry [(0, natLE 1 2)])) ∧ s.calm.copyFault 0 (entry [(0, natLE 1 2)]) = none := by decide +kernel
theorem wit_fence_wait : (starts 3).toStart 0 0 3 = some (itemNew 0 0 0 (entry [(0, natLE 1 3)])) := by decide +kernel
theorem wit_fence_signal : (starts 4).toStart 0 0 4 = some (itemNew 0 0 0 (entry [(0, natLE 1 4)])) := by decide +kernel
theorem wit_barrier : (starts 6).toStart 0 0 6 = some (itemNew 0 0 0 (entry [(0, natLE 1 6)])) := by decide +kernel
theorem wit_cancel : let s := starts 5
    s.toStart 0 0 5 = some (itemNew 0 0 0 (entry [(0, natLE 1 5)])) ∧ s.cancelFault 0 (entry [(0, natLE 1 5)]) = none := by decide +kernel

/-- A course of one node, a FENCE_SIGNAL, at bay memory offset 0. -/
def courseHeader : List Byte := rec 64 [(0, natLE 4 0x45535243), (4, natLE 2 0x0200), (6, natLE 1 1), (8, natLE 2 1), (16, natLE 4 192), (20, natLE 4 64)]
def courseNode : List Byte := rec 128 [(0, natLE 1 8)]
def courseMem : List Host.Cell := memWrite [] 0 (courseHeader ++ courseNode)
/-- The booted device with the course, and its launch running. -/
def launched (l : Launch) : State := { withItems up 0 [{ itemNew 0 0 0 launchEntry with st := .running, launch := some l }] with stackMem := courseMem }
def fresh : Launch := launchNew 1
def launching : Item := { itemNew 0 0 0 launchEntry with st := .running, launch := some fresh }
def readied (nodes : List NodeRun) : Launch := { fresh with ready := true, header := courseHeader, nodes := nodes }
theorem wit_launch_reads : let s := launched fresh
    s.itemAt 0 0 0 = some launching ∧ s.serves 0 = true ∧ launching.active = true ∧ fresh.goes = true ∧
    fresh.ready = false ∧ s.farPending (fun o => o == .item 0 0 0) = false ∧
    isOk (((s.launchTouch ⟨0, 0, none⟩ launching).itemView launching).launchReads ⟨0, 0, none⟩ launching) (courseHeader, [], []) = true := by decide +kernel
theorem wit_node_read : let s := launched (readied [])
    (s.itemAt 0 0 0).bind (·.launch) = some (readied []) ∧ (0 < coNodes courseHeader) ∧
    let it := itemNew 0 0 0 launchEntry
    (((s.nodeTouch ⟨0, 0, none⟩ it (readied [])).itemView it).nextNode ⟨0, 0, none⟩ it (readied [])).fail = none := by decide +kernel
theorem wit_node_dispatch : let l := readied [nodeNew courseNode [] none]
    (launched l).nodeToSend 0 l = some 0 ∧ ((launched l).bayAt 0).halted = false := by decide +kernel

def copying : Item := { itemNew 0 0 0 (entry [(0, natLE 1 2)]) with st := .running }
theorem wit_copy_complete : let s := withItems up 0 [copying]
    s.itemAt 0 0 0 = some copying ∧ s.serves 0 = true ∧ s.copyWaits 0 copying.entry = false := by decide +kernel
theorem wit_copy_ends : let it : Item := { copying with st := .waiting }
    (withItems up 0 [it]).itemAt 0 0 0 = some it ∧ it.st = .waiting ∧ (withItems up 0 [it]).copyWaits 0 it.entry = false := by decide +kernel
/-- R48: a COPY under way remembers the former byte that a remote write replaced. -/
theorem test_copy_remembers :
    (after (.remoteScratchpadAccess 0 0 0 true [7]) { withItems up 0 [copying] with spadMem := [(0, 5)] }).itemStale = [(0, [(true, (0, 5))])] := by
  decide +kernel
def waits : Item := { itemNew 0 0 0 (entry [(0, natLE 1 3), (16, natLE 1 1)]) with st := .waiting, timeout := 1 }
theorem wit_wait_timeout : let s := withItems up 0 [waits]
    s.itemAt 0 0 0 = some waits ∧ s.serves 0 = true ∧ (s.bayAt 0).halted = false ∧ enType waits.entry = 3 ∧ waits.timeout ≠ 0 ∧
    s.fenceAt 0 (fwFence waits.entry) < fwValue waits.entry := by decide +kernel
def waitNode : NodeRun := { nodeNew (rec 128 [(0, natLE 1 8), (32, natLE 1 1), (40, natLE 8 1)]) [] none with st := .waiting, timeout := 1 }
theorem wit_node_timeout : let l := readied [waitNode]
    ((launched l).itemAt 0 0 0).bind (·.launch) = some l ∧ ((launched l).itemAt 0 0 0).any (·.active) = true ∧ l.nodes[0]? = some waitNode ∧
    ndFenceWait waitNode.rcd = true ∧ waitNode.timeout ≠ 0 ∧ (launched l).fenceAt 0 (ndFence waitNode.rcd) < ndValue waitNode.rcd := by decide +kernel
theorem wit_path_lost : let s := withItems up 0 []
    (s.queueAt 0 0).cqBase.toNat / 2 ^ 60 = 4 ∧ (s.fnAt 0).ats = true ∧ (s.queueAt 0 0).st = .running := by decide +kernel

/-- A PF queue 0 with an ADMIN item. -/
def asked (e : List Byte) (s : State) : State := submit s 12 e
def host4 : Nat := 4 * 2 ^ 60
theorem wit_read_retained : let e := admin 1 0 host4 64 []
    let s := asked e (queued { running with retained := [List.replicate 32 0] })
    let t := s.served 12 0
    s.adminItem 0 1 = some (itemNew 0 0 0 e) ∧ isOk (readRetainedCheck e) () = true ∧ t.bayExists 0 = true ∧ t.checkAt 12 host4 2048 = none ∧
    (t.writeAt ⟨12, 12, none⟩ host4 (List.replicate 32 0)).2 = none := by decide +kernel
theorem wit_reset_queue : let e := admin 2 0 0 0 []
    let s := asked e (queued running)
    s.adminItem 0 2 = some (itemNew 0 0 0 e) ∧ isOk (queueAdminCheck e) () = true ∧ (s.served 12 0).bayExists 0 = true ∧
    (s.served 12 0).resetRefused 0 e = false := by decide +kernel
theorem wit_queue_state : let e := admin 3 12 0 0 [(10, natLE 1 3)]
    (asked e up).adminItem 0 3 = some (itemNew 0 0 0 e) ∧ isOk (queueAdminCheck e) () = true := by decide +kernel

/- Core and eave queues. -/

def plainWo (t : Nat) (st : WoSt) : WorkOrder := wo (rec 128 [(0, natLE 1 t)]) st
/-- A work order that waits for counter 0 to reach 1. -/
def waitWo : WorkOrder := wo (rec 128 [(0, natLE 1 1), (32, natLE 1 0x80), (36, natLE 4 1)]) .queued
theorem wit_core_arrive : let k : Core := { coreReset with tree := [.wo (plainWo 1 .queued)], queue := List.replicate 15 (.wo waitWo) }
    k.tree = .wo (plainWo 1 .queued) :: [] ∧ entriesHeld k.queue < 16 ∧ up.coreAsleep 0 = false := by decide +kernel
theorem wit_core_start : let s := core0 [.wo (plainWo 1 .queued)] []
    queueHead (s.coreAt 0).queue = some (plainWo 1 .queued) ∧ s.mayStart 0 (plainWo 1 .queued) = true := by decide +kernel
theorem wit_core_complete : let w := plainWo 1 (.ran .ok 0 0)
    let s := core0 [.wo w] []
    findWo (s.coreAt 0).queue w.lid w.nodeIx = some w ∧ s.woAcked 0 w .ok = true ∧ s.engineStopped w.bay 0 = false := by decide +kernel
theorem wit_core_timeout : let s := core0 [.wo waitWo] []
    queueHead (s.coreAt 0).queue = some waitWo ∧ waitWo.timeout ≠ 0 ∧ waitsMet (s.coreAt 0) waitWo.rcd = false ∧
    (s.bayAt 0).halted = false := by decide +kernel
theorem wit_report : ∃ r, ({ up with reports := [(0, .report 1 0 0 .ok 0 0)] } : State).reports[0]? = some r := ⟨_, rfl⟩
theorem wit_eave_arrive : let v : Stack := { stackReset with eaveTree := [plainWo 4 .queued], eave := List.replicate 7 (plainWo 4 .queued) }
    v.eaveTree = plainWo 4 .queued :: [] ∧ v.eaveFailed = false ∧ v.eaveEnded.contains 1 = false ∧ v.eave.length < 8 := by decide +kernel
theorem wit_eave_failed : let v : Stack := { stackReset with eaveTree := [plainWo 4 .queued], eaveFailed := true }
    v.eaveTree = plainWo 4 .queued :: [] ∧ v.eaveFailed = true := by decide +kernel
theorem wit_eave_complete : let w := plainWo 4 (.ran .ok 0 0)
    ((stack0 [w] []).stackAt 0).eave = w :: [] ∧ w.st = .ran .ok 0 0 ∧ ((stack0 [w] []).stackAt 0).eaveSigs = [] := by decide +kernel

/- Syncs and end notices. -/

theorem wit_sync_arrive : ({ coreReset with tree := [.barrier 0 1 0 false] } : Core).tree = .barrier 0 1 0 false :: [] := rfl
theorem wit_sync_report : syncDue ((core0 [.barrier 0 1 0 false] []).coreAt 0).queue = some (0, 1, 0) := by decide +kernel
def syncNode : List Byte := rec 128 [(0, natLE 1 9)]
theorem wit_sync_release : let n : NodeRun := { nodeNew syncNode [] none with st := .waiting }
    let l := readied [n]
    ((launched l).itemAt 0 0 0).bind (·.launch) = some l ∧ l.nodes[0]? = some n ∧ (launched l).serves 0 = true ∧
    ((launched l).itemAt 0 0 0).any (·.active) = true ∧ l.goes = true ∧ ndType n.rcd = 9 := by decide +kernel
theorem wit_notice : ∀ d ∈ [NoticeTo.core 0, .eave 0, .coll], ({ up with notices := [⟨0, 1, d, []⟩] } : State).notices[0]? = some ⟨0, 1, d, []⟩ := by
  decide +kernel

/- Collectives. -/

/-- A group of this device, ID 1, and a partner, ID 2, at port E0; its table stands at offset 0 of bay 0's memory. -/
def groupTable : List Byte := rec 32 [(0, natLE 1 2), (2, natLE 2 1), (16, natLE 1 1), (17, natLE 1 0xFF), (24, natLE 1 2)]
def linked : State := { up with
  bays := [(0, { bayReset with
    first := 0, count := 1, live := true, outWin := [(0, ⟨rec 16 [(0, natLE 1 0x80), (1, natLE 1 2)]⟩)],
    inWin := [(0, ⟨rec 32 [(0, natLE 1 0xE8), (1, natLE 1 0xFF), (2, natLE 1 0xFF)]⟩)] })],
  fabric := { fabricReset with id := 1 },
  ports := [(0, { portReset with st := .up, partnerId := 2, assign := BitVec.ofNat 32 (2 ^ 30), credits := [1024, 1024, 1536, 64] })],
  stackMem := memWrite [] 0 groupTable }
def collNode (op : Nat) : List Byte := rec 128 [(0, natLE 1 7), (32, natLE 1 op), (40, natLE 8 0x10000), (48, natLE 8 0x20000), (56, natLE 8 1), (72, natLE 4 1)]
def collOf (op : Nat) (table : List Byte) : Coll := ⟨1, 0, 0, 0, collNode op, table, false, 0, [], [], [], [], [], [], 0, [], [], []⟩
def collWaits (c : Coll) : State := linked.setBay 0 { linked.bayAt 0 with coll := { (linked.bayAt 0).coll with waiting := [c] } }
def collRuns (c : Coll) : State := linked.setBay 0 { linked.bayAt 0 with coll := { (linked.bayAt 0).coll with running := [c] } }
theorem wit_coll_start : ∀ op : Fin 5, let c0 := collOf (op.val + 1) []
    let s := collWaits c0
    let c := { c0 with started := true, startTime := s.stamp }
    let s1 := (s.setWaiting 0 []).setColls 0 [c]
    let s2 := s1.touchAt 0 (clTab c.rcd) (16 + 8 * min (gtP ((s1.readAt (collAgent 0) (clTab c.rcd) 16).toOption.getD [])) 64)
    let c1 := { c with table := groupTable }
    let s3 := s2.putColl 0 c1
    let s4 := s3.setBay 0 { s3.bayAt 0 with coll := { (s3.bayAt 0).coll with lastSeq := [(1, 1)] } }
    s.collTurnOf 0 0 = true ∧ s.collDown 0 c0 = false ∧ clOp c0.rcd = op.val + 1 ∧ isOk (s2.collRead 0 c.rcd) groupTable = true ∧ isOk (s3.collTable 0 c.rcd groupTable) () = true ∧
    seqNewer (tabFind (s3.bayAt 0).coll.lastSeq 1) (clSeq c.rcd) = true ∧ isOk (s4.collRanges 0 c1) () = true := by decide +kernel
theorem wit_remote_add : let c0 := collOf 6 []
    let s := collWaits c0
    (s.bayAt 0).coll.waiting[0]? = some c0 ∧ s.collTurnOf 0 0 = true ∧ s.collDown 0 c0 = false ∧ clOp c0.rcd = 6 := by decide +kernel
/-- A COLLECTIVE message from device 2 for window 0 at the head of its channel. -/
def inbox (s : State) (v : Nat) (m : List Byte) : State := s.setPort 0 { s.portAt 0 with rxMsgs := [[], [], [], []].set v [(1, m)] }
def collMsg (kind : Nat) : List Byte := rec 48 [(0, natLE 1 0x10), (2, natLE 1 1), (3, natLE 1 2), (16, natLE 1 kind)]
theorem wit_coll_message : ∀ k : Fin 3, let m := collMsg (k.val + 1)
    let s := inbox linked 2 m
    s.headMsg 0 2 = some m ∧ s.fabric.id ≠ 0xFF ∧ mgDst m = s.fabric.id ∧ ((s.popMsg 0 2).collWindow m).2 = some 0 ∧
    (s.bayAt 0).coll.running.any (fun d => s.collDown 0 d) = false ∧ fieldAt (bytesAt (mgData m) 0 32) 0 1 = k.val + 1 := by decide +kernel
theorem wit_frame : let c := { collOf 1 groupTable with frames := [(0, 1, [])] }
    ((collRuns c).bayAt 0).coll.running[0]? = some c ∧ (collRuns c).collDown 0 c = false ∧ clReduces c.rcd = true ∧ 0 = c.reduced ∧
    0 < c.pieces ∧ (∀ j ∈ c.others, c.hasFrame 0 j = true) := by decide +kernel
theorem wit_coll_timeout : let c := collOf 1 groupTable
    ((collRuns c).bayAt 0).coll.running[0]? = some c ∧ clOp c.rcd ≠ 6 ∧ c.other 1 = true ∧ c.waitsOn 1 = true := by decide +kernel

/- The fabric. -/

def mgmtMsg (kind hops : Nat) (data : List Byte) : List Byte :=
  rec 16 [(0, natLE 1 kind), (1, natLE 1 hops), (2, natLE 1 0xFF), (3, natLE 1 2)] ++ data
theorem wit_enum : (inbox linked 3 (mgmtMsg 0x20 1 [])).mgmtHead 0 0x20 = some (mgmtMsg 0x20 1 []) := by decide +kernel
/-- A table that gives ID 1 to a device identifier. -/
def topo (dev : Nat) : List Byte := List.replicate 9 0 ++ natLE 1 1 ++ natLE 8 dev
theorem wit_topology : let m := mgmtMsg 0x21 1 []
    let s := inbox linked 3 m
    s.mgmtHead 0 0x21 = some m ∧ mgHops m ≠ 0 ∧
    tabFind (topoTable (mgData m)) ((((s.popMsg 0 3).pend 192).applyTable (topoTable (mgData m))).fabric.id) = none ∧
    (inbox linked 3 (mgmtMsg 0x21 0 [])).mgmtHead 0 0x21 = some (mgmtMsg 0x21 0 []) ∧ mgHops (mgmtMsg 0x21 0 []) = 0 := by decide +kernel
theorem wit_topology_of (dev : Fin 2) : let m := mgmtMsg 0x21 255 (topo dev.val)
    let s := inbox linked 3 m
    s.mgmtHead 0 0x21 = some m ∧ mgHops m ≠ 0 ∧
    tabFind (topoTable (mgData m)) ((((s.popMsg 0 3).pend 192).applyTable (topoTable (mgData m))).fabric.id) = some (1, dev.val) := by
  revert dev; decide +kernel
/-- One of the two identifiers is not this device's. -/
theorem wit_topology_other : ∃ dev : Fin 2, dev.val ≠ deviceNat := by
  rcases Nat.eq_zero_or_pos deviceNat with h | h
  · exact ⟨1, by simp [h]⟩
  · exact ⟨0, by simp; omega⟩
theorem wit_snapshot_message : ∀ hops ∈ [0, 255], let m := mgmtMsg 0x22 hops (natLE 8 7)
    let s := inbox linked 3 m
    let s1 := (s.popMsg 0 3).pend 192
    s.mgmtHead 0 0x22 = some m ∧ mgHops m = hops ∧ bitOf s1.dbg.ctrl.toNat 0 = true ∧ s1.strobeTakes 0 = true := by decide +kernel
theorem wit_snapshot_refused : let h : Snapshot := ⟨1, 0, 2, 0, 0xFF, 3, 4, 5, [], [], [], 0⟩
    ({ up with dbg := { up.dbg with held := some h } } : State).strobeTakes 0 = false := by decide +kernel
theorem wit_reference : up.dev.mainOn = true ∧ State.reset.dev.mainOn = false := by decide +kernel
theorem wit_takeover : let s := { up with fabric := { fabricReset with rootLost := true, ctrl := 1, id := 1 } }
    s.fabric.rootLost = true ∧ s.fabric.isRoot = false ∧ bitOf s.fabric.ctrl.toNat 0 = true ∧ s.fabric.id ≠ 0xFF ∧
    s.fabric.parent = none ∧ s.fabric.children = [] := by decide +kernel
def bound (dst hops kind : Nat) : List Byte := rec 16 [(0, natLE 1 kind), (1, natLE 1 hops), (2, natLE 1 dst), (3, natLE 1 9)]
theorem wit_forward : let m := bound 2 1 1
    let s := inbox linked 0 m
    s.headMsg 0 0 = some m ∧ s.forOther m = true ∧ s.fabric.id ≠ 0xFF ∧ mgHops m ≠ 0 ∧ (s.popMsg 0 0).route (mgDst m) = some 0 ∧
    ((s.popMsg 0 0).portAt 0).carries = true := by decide +kernel
theorem wit_forward_no_hops : let m := bound 2 0 1
    (inbox linked 0 m).headMsg 0 0 = some m ∧ (inbox linked 0 m).forOther m = true ∧ linked.fabric.id ≠ 0xFF ∧ mgHops m = 0 := by decide +kernel
theorem wit_forward_no_route : let m := bound 7 255 1
    let s := inbox linked 0 m
    s.headMsg 0 0 = some m ∧ s.forOther m = true ∧ mgHops m ≠ 0 ∧ (s.popMsg 0 0).route (mgDst m) = none := by decide +kernel

def portIn (st : PortSt) : State := up.setPort 0 { portReset with st := st, width := 8 }
theorem wit_training : ((portIn .training).portAt 0).st = .training ∧ deviceNat + 1 ≠ deviceNat := ⟨by decide +kernel, by omega⟩
/-- A message for another device at a device without a fabric ID. -/
theorem wit_forward_unidentified : let m := bound 2 1 1
    let s := inbox { linked with fabric := fabricReset } 0 m
    s.headMsg 0 0 = some m ∧ s.forOther m = true ∧ s.fabric.id = 0xFF := by decide +kernel
theorem wit_training_width : pickWidth (Nat.land 0xFFFF 0xFFFF) 16 = some (16, 0, none) ∧ pickWidth (Nat.land 0x1FFFF 0x1FFFE) 16 = some (16, 0, some 0) ∧
    pickWidth (Nat.land 0x7 0xFFFF) 16 = none := by decide +kernel
theorem wit_retry : ((portIn .down).portAt 0).st = .down ∧ (portIn .down).dev.fref = true := by decide +kernel
theorem wit_lane : ((portIn .up).portAt 0).st = .up ∧ ((portIn .up).portAt 0).spareIdle = true ∧ ((portIn .up).portAt 0).spared = none ∧ 15 < 16 ∧
    ((up.setPort 0 { portReset with st := .up, spared := some 3 }).portAt 0).spareIdle = false ∧ 16 ≤ 16 := by decide +kernel
theorem wit_retrained : let q := (portIn .retraining).portAt 0
    let clean (mask : Nat) : Nat := (List.range 17).foldl
      (fun m l => if bitOf mask l && bitOf 0x1FFFF l && !q.badLanes.contains l then m + 2 ^ l else m) 0
    q.st = .retraining ∧ pickWidth (clean 0x1FFFE) q.limit = some (16, 0, some 0) ∧ pickWidth (clean 0xF) q.limit = some (4, 0, none) ∧ 4 < q.width ∧
    pickWidth (clean 0x7) q.limit = none := by decide +kernel
theorem wit_flit : ((portIn .up).portAt 0).st = .up ∧ flitGood [] = false ∧ (((portIn .up).portAt 0).fec []).2 = false ∧
    (((portIn .up).portAt 0).fec ((List.range 16).map (fun i => (0, i)))).2 = true := by decide +kernel
theorem wit_good_flit : ∀ k : Fin 3, let f := flitOf k.val 0 0 0 0 [0, 0, 0, 0] []
    flitGood f = true ∧ fieldAt f 0 1 / 16 = k.val := by decide +kernel
theorem wit_replay : let q : Port := { portReset with st := .up, replay := [(65535, [])] }
    q.replay = (65535, []) :: [] ∧ ({ q with nakOut := true } : Port).nakOut = true := by decide +kernel

/- Requests and responses. -/

/-- The linked device whose window 0 is a DATA window of 64 bytes at offset 0, or a fence or VALLEY window. -/
def opened (kind : Nat) : State := linked.setBay 0 { linked.bayAt 0 with
  inWin := [(0, ⟨rec 32 [(0, natLE 1 (0x9C + 32 * kind)), (1, natLE 1 0xFF), (2, natLE 1 0xFF), (16, natLE 8 64)]⟩)] }
def request (kind off len : Nat) (data : List Byte) : List Byte :=
  rec 16 [(0, natLE 1 kind), (2, natLE 1 1), (3, natLE 1 2), (8, natLE 6 off), (14, natLE 2 len)] ++ data
theorem wit_request_fails : ∀ kind ∈ [1, 2, 3, 0x11], let m := request kind 64 8 []
    let s := inbox linked 0 m
    s.headMsg 0 0 = some m ∧ s.forMe m = true ∧ s.reqWaits m = false ∧ mgType m = kind ∧
    (match (s.popMsg 0 0).drawn.reqCheck m with | .error _ => true | .ok _ => false) = true := by decide +kernel
def passes (s : State) (m : List Byte) (b kind : Nat) : Bool :=
  match s.reqCheck m with | .ok (c, d) => c == b && iwKind d == kind && iwBase d == 0 | .error _ => false
theorem wit_request_data : ∀ kind : Fin 3, let m := request (kind.val + 1) 56 8 (natLE 8 1)
    let s := inbox (opened 0) 0 m
    let t := (s.popMsg 0 0).drawn
    s.headMsg 0 0 = some m ∧ s.forMe m = true ∧ s.reqWaits m = false ∧ mgType m = kind.val + 1 ∧ passes t m 0 0 = true ∧
    (t.writeAt (collAgent 0) 56 (mgData m)).2 = none ∧ isOk ((t.touchAt 0 56 8).readAt (collAgent 0) 56 8) (List.replicate 8 0) = true ∧
    ((t.touchAt 0 56 8).writeAt (collAgent 0) 56 (natLE 8 1)).2 = none := by decide +kernel
theorem wit_request_valley : let m := request 0x11 0 16 (List.replicate 16 0)
    let s := inbox (opened 2) 0 m
    s.headMsg 0 0 = some m ∧ s.forMe m = true ∧ s.reqWaits m = false ∧ mgType m = 0x11 ∧ passes (s.popMsg 0 0).drawn m 0 2 = true := by
  decide +kernel
/-- A request of the item in slot 0 of queue 0 with tag 4095, and the response of each TYPE to it. -/
def asking (kind : Nat) : State := linked.setPort 0 { linked.portAt 0 with reqs := [⟨4095, kind, 2, .item 0 0 0, [], 0, 0⟩] }
theorem wit_response : ∀ k ∈ [(1, 4), (2, 5), (3, 6), (0x11, 0x12)], let m := rec 16 [(0, natLE 1 k.2), (2, natLE 1 1), (3, natLE 1 2), (4, natLE 2 4095)]
    let s := inbox (asking k.1) 1 m
    let r : FarReq := ⟨4095, k.1, 2, .item 0 0 0, [], 0, 0⟩
    s.headMsg 0 1 = some m ∧ s.forMe m = true ∧ (s.popMsg 0 1).findReq 0 m = some (0, r) ∧ s.respWaits r = false ∧ mgType m = k.2 := by
  decide +kernel
theorem wit_unanswered : ((asking 1).portAt 0).reqs.find? (fun x => x.tag == 4095) = some ⟨4095, 1, 2, .item 0 0 0, [], 0, 0⟩ := by decide +kernel

theorem wit_records : let s := up.setBay 0 { up.bayAt 0 with memHealthDest := 1, linkHealthDest := 65, powerDest := 0x400000000001 }
    s.recordsFor 0 = true ∧ destOf (s.bayAt 0).memHealthDest = some 0 ∧ destOf (s.bayAt 0).linkHealthDest = some 64 ∧
    destOf (s.bayAt 0).powerDest = some 0x400000000000 ∧ 0 ≠ pfFn := by decide +kernel

/- Approved changes. -/

/-- Reading host memory that refuses nothing and holds no failure gives the bytes that it holds, or free ones. -/
def hostByteOf (s : State) (key : Nat) : Byte := match tabFind s.host.mem key with | some b => b | none => Config.hostByte s.draws key
theorem host_read (s : State) (key n i : Nat) (hr : ∀ k, s.hostRefused 12 k false = false) (he : s.host.errs = []) (hk : hostKey 12 none 0 = key) :
    s.readFrom ⟨12, 12, none⟩ (.host 0) i n = .ok ((List.range n).map (fun j => hostByteOf s (key + (i + j)))) := by
  induction n generalizing i with
  | zero => rfl
  | succ n ih =>
    have hkey : hostKey 12 none (0 + i) = key + i := by simp only [hostKey] at hk ⊢; omega
    have hb : s.readByte ⟨12, 12, none⟩ (.host 0) i = .ok (hostByteOf s (key + i)) := by
      simp only [State.readByte, State.hostByte, hkey, hr, he, hostByteOf, List.find?_nil]
      cases tabFind s.host.mem (key + i) <;> simp
    simp only [State.readFrom, hb, ih (i + 1), List.range_succ_eq_map, List.map_cons, List.map_map, Nat.add_zero]
    refine congrArg _ (congrArg _ (List.map_congr_left fun j _ => ?_))
    simp [Nat.add_comm 1 j, Nat.add_assoc]

theorem leNat_natLE (n v : Nat) : leNat (natLE n v) = v % 256 ^ n := by
  induction n generalizing v with
  | zero => simp [natLE, leNat, Nat.mod_one]
  | succ n ih =>
    rw [show 256 ^ (n + 1) = 256 * 256 ^ n from by rw [Nat.pow_succ, Nat.mul_comm], Nat.mod_mul]
    simp only [natLE, leNat, ih, BitVec.toNat_ofNat]

def blockByte (op i : Nat) : Byte :=
  if 8 ≤ i ∧ i < 16 then (natLE 8 Config.deviceId.toNat).getD (i - 8) 0
  else (rec 16 [(0, natLE 4 0x41504C32), (4, natLE 1 1), (5, natLE 1 op)]).getD i 0
/-- A well-formed block of an operation for this device, with nonce 0. -/
def block (op : Nat) : List Byte := (List.range 384).map (blockByte op)
theorem wit_block : ∀ op : Fin 11, blockOk (block (op.val + 1)) = true := by
  have hd (op : Nat) : fieldAt (block op) 8 8 = Config.deviceId.toNat := by
    have hr : ((List.range 384).drop 8).take 8 = [8, 9, 10, 11, 12, 13, 14, 15] := by decide +kernel
    have hx : bytesAt (block op) 8 8 = natLE 8 Config.deviceId.toNat := by
      have hm : bytesAt (block op) 8 8 = [8, 9, 10, 11, 12, 13, 14, 15].map (blockByte op) := by
        simp only [bytesAt, block, ← List.map_drop, ← List.map_take, hr, List.length_map, List.length_cons, List.length_nil,
          Nat.sub_self, List.replicate_zero, List.append_nil]
      rw [hm]; rfl
    have hl : Config.deviceId.toNat < 256 ^ 8 := Config.deviceId.isLt
    rw [fieldAt, hx, leNat_natLE, Nat.mod_eq_of_lt hl]
  intro op
  have h0 : ∀ op : Fin 11, (fieldAt (block (op.val + 1)) 0 4 == 0x41504C32 && fieldAt (block (op.val + 1)) 4 1 == 1 &&
      fieldAt (block (op.val + 1)) 6 1 / 2 == 0 && fieldAt (block (op.val + 1)) 7 1 / 16 == 0 &&
      decide (1 ≤ apOp (block (op.val + 1)) ∧ apOp (block (op.val + 1)) ≤ 0x0B)) = true := by decide +kernel
  unfold blockOk; rw [h0 op, hd]; simp
theorem wit_block_fields : ∀ op : Fin 11, apOp (block (op.val + 1)) = op.val + 1 ∧ apNonce (block (op.val + 1)) = 0 := by decide +kernel
def approveEntry : List Byte := admin 0x11 0 host4 384 []
def blockHost (op : Nat) : HostView := { hostReset with mem := (List.range 384).map (fun i => (hostKey 12 none 0 + i, blockByte op i)) }
/-- The device asked to make an approved change whose block stands in host memory, with nonce 0 live. -/
def approving (op : Nat) : State :=
  let s := asked approveEntry up
  { s with sec := { s.sec with liveNonce := some 0 }, host := blockHost op }
theorem wit_approve_entry : ∀ op : Fin 11, let s := approving (op.val + 1)
    s.adminItem 0 0x11 = some (itemNew 0 0 0 approveEntry) ∧ isOk (approvedCheck approveEntry) () = true ∧ (s.served 12 0).drawn.sec.change = none ∧
    (s.served 12 0).drawn.sec.liveNonce.map (·.toNat) = some 0 := by decide +kernel
theorem find_range (f : Nat → Byte) (k n j : Nat) (h : j < n) : tabFind ((List.range n).map (fun i => (k + i, f i))) (k + j) = some (f j) := by
  have hf : ((List.range n).map (fun i => (k + i, f i))).find? (fun e => e.1 == k + j) = some (k + j, f j) := by
    rw [List.find?_map]
    have : (List.range n).find? ((fun e : Nat × Byte => e.1 == k + j) ∘ fun i => (k + i, f i)) = some j := by
      rw [List.find?_range_eq_some]; refine ⟨by simp, by simpa using h, fun m hm => by simp; omega⟩
    rw [this]; rfl
  simp [tabFind, hf]
theorem block_read (s : State) (op : Nat) (hz : s.resolve 12 host4 384 = .ok (.host 0)) (hb : (s.fnAt 12).busMaster = true)
    (ha : (s.fnAt 12).ats = false) (hh : s.host = blockHost op) : s.readAt ⟨12, 12, none⟩ host4 384 = .ok (block op) := by
  have h1 : s.readAt ⟨12, 12, none⟩ host4 384 = s.readFrom ⟨12, 12, none⟩ (.host 0) 0 384 := by simp [State.readAt, hz]
  rw [h1, host_read s _ 384 0 (fun k => by simp [State.hostRefused, hb, ha]) (by rw [hh]; rfl) rfl]
  refine congrArg _ (List.map_congr_left fun j hj => ?_)
  simp only [hostByteOf, hh, blockHost, Nat.zero_add, find_range _ _ _ _ (List.mem_range.mp hj)]
theorem wit_approve_read (op : Nat) : (approving op).readAt ⟨12, 12, none⟩ host4 384 = .ok (block op) ∧
    ((approving op).served 12 0).readAt ⟨12, 12, none⟩ host4 384 = .ok (block op) :=
  ⟨block_read _ op rfl rfl rfl rfl, block_read _ op rfl rfl rfl rfl⟩
theorem next_block (s : State) (q : Nat) (it : Item) (x : List Byte) (h : s.adminItem q 0x11 = some it)
    (hr : s.readAt ((s.queueAt pfFn q).agent pfFn) (adAddr it.entry) 384 = .ok x) : s.nextBlock q = some x := by
  simp [State.nextBlock, h, hr]
theorem wit_next_block (op : Fin 11) : (approving (op.val + 1)).nextBlock 0 = some (block (op.val + 1)) := by
  have hp : ((approving (op.val + 1)).queueAt 12 0).pasidOf = none := by revert op; decide +kernel
  have ha : ((approving (op.val + 1)).queueAt 12 0).agent 12 = ⟨12, 12, none⟩ := by simp only [Queue.agent, hp]
  have hd : adAddr (itemNew 0 0 0 approveEntry).entry = host4 := by decide +kernel
  refine next_block _ 0 _ _ (wit_approve_entry op).1 ?_
  have := (wit_approve_read (op.val + 1)).1
  rwa [show pfFn = 12 from rfl, ha, hd]

/- Nonces, the bay map and scrubs. -/

theorem wit_nonce : let e := admin 0x10 0 host4 48 []
    let s := asked e up
    let t := (s.served 12 0).drawn
    s.adminItem 0 0x10 = some (itemNew 0 0 0 e) ∧ isOk (fixedCount 48 e) () = true ∧
    t.checkAt 12 host4 (natLE 48 (Config.random384 0).toNat).length = none ∧
    (t.writeAt ⟨12, 12, none⟩ host4 (natLE 48 (Config.random384 0).toNat)).2 = none := by decide +kernel
theorem wit_map : let e := admin 0x12 0 host4 16 []
    let s := asked e up
    let t := s.served 12 0
    s.adminItem 0 0x12 = some (itemNew 0 0 0 e) ∧ isOk (fixedCount 16 e) () = true ∧ t.checkAt 12 host4 t.mapBytes.length = none ∧
    (t.writeAt ⟨12, 12, none⟩ host4 t.mapBytes).2 = none := by decide +kernel
theorem wit_nonce_expiry : ({ up with sec := { up.sec with liveNonce := some 0 } } : State).sec.liveNonce = some 0 := by decide +kernel
def scrubbing (ks : List Nat) : State := up.setBay 0 { up.bayAt 0 with scrub := ks, afterScrub := 1 }
theorem wit_scrub : ∀ ks ∈ [[0], [0, 1]], let s := scrubbing ks
    0 ≠ 12 ∧ (s.bayAt 0).scrub = 0 :: ks.drop 1 ∧ s.dev.fatal = none ∧ (s.bayAt 0).resets = [] ∧ (∀ r ∈ s.repairs, r.1 ≠ 0 ∧ r.1 ≠ 16 + 0) := by decide +kernel
def restoring (going : Bool) : State := { up with dev := { up.dev with outOfService := [11], restore := some (11, 0, 0, going) } }
theorem wit_restore_scrub : (restoring true).dev.restore = some (11, 0, 0, true) ∧ (restoring true).dev.fatal = none ∧
    (∀ i, i < 6 → ((restoring true).columnAt (6 * 11 + i)).dead.length ≤ 4) ∧ ((restoring true).stackAt 11).failing = false ∧
    ((restoring true).stackAt 23).failing = false := by decide +kernel
theorem wit_restore_refused : let s := (restoring true).setColumn 71 { columnReset with dead := [0, 1, 2, 3, 4] }
    s.dev.restore = some (11, 0, 0, true) ∧ s.dev.fatal = none ∧ 5 < 6 ∧ 4 < (s.columnAt (6 * 11 + 5)).dead.length ∧
    (((restoring true).setStack 23 { stackReset with failing := true }).stackAt (12 + 11)).failing = true := by decide +kernel
theorem wit_restore_wait : (restoring false).dev.restore = some (11, 0, 0, false) ∧
    ((restoring false).adjacentBays 11).all (restoring false).quiesced = true ∧ tabHas (restoring false).repairs 27 = false := by decide +kernel

/- Repair. -/

/-- A repair of the tile at column 0, physical row 0, at a step, with checked spares. -/
def fixing (step : Nat) (checked : List (Nat × Nat)) : Repair := ⟨[(0, 0, false, 0)], checked, step, [], [], none⟩
def repairing (step : Nat) (checked : List (Nat × Nat)) : State := { up with repairs := [(0, fixing step checked)] }
theorem wit_repair_steps : ∀ step ∈ [0, 1, 2, 3], tabFind (repairing step []).repairs 0 = some (fixing step []) ∧ (fixing step []).step = step ∧
    (repairing step []).movedIdle (fixing step []) = true := by decide +kernel
theorem wit_repair_check : let s := repairing 5 []
    0 = s.repairKey (0 / 6) ∧ (0, 56) ∈ s.chosen (fixing 5 []) ∧ (0, 56) ∉ (fixing 5 []).checked := by decide +kernel
theorem wit_repair_migrates : tabFind (repairing 6 [(0, 56)]).repairs 0 = some (fixing 6 [(0, 56)]) ∧ (fixing 6 [(0, 56)]).step = 6 := by decide +kernel
theorem wit_tile : 71 < 72 ∧ 59 < 60 ∧ (up.tileAt 71 59).misses < 2 ∧ 2 ≤ ((up.setTile 71 59 { tileReset with misses := 2 }).tileAt 71 59).misses ∧
    23 < 24 := by decide +kernel
theorem wit_heartbeat : (up.stripOwner (71 / 6)).any (fun b => (up.bayAt b).halted) = false ∧
    (let s := up.setBay 0 { up.bayAt 0 with halted := true }
     (s.stripOwner (0 / 6)).any (fun b => (s.bayAt b).halted) = true) := by decide +kernel
theorem wit_spare : (∀ x ∈ (up.columnAt 71).rank, (up.tileAt 71 x).checking ≠ 1) ∧ up.nextSpare 71 = some 56 := by decide +kernel
theorem wit_spare_done : let s := up.setTile 71 56 { tileReset with checking := 1 }
    tabFind s.repairs (s.repairKey (71 / 6)) = none ∧ (s.tileAt 71 56).checking = 1 := by decide +kernel
def asks (op bay : Nat) (fields : List (Nat × List Byte)) : List Byte := admin op bay 0 0 fields
theorem wit_rehang_done : let e := asks 0x31 0 [(28, natLE 1 71), (29, natLE 1 59)]
    let it : Item := { itemNew 0 0 0 e with st := .waiting }
    let s := (withItems up 12 [it]).setTile 71 59 { tileReset with checking := 2 }
    (s.tileAt 71 59).checking = 2 ∧ s.waitingAdmin 0x31
      (fun e => fieldAt e 28 1 == 71 && fieldAt e 29 1 == 59) = some (0, it) := by decide +kernel
theorem wit_column_state : let e := admin 0x30 0 host4 72 []
    let s := asked e up
    let t := s.served 12 0
    let bytes := (List.range 72).flatMap t.columnRecord
    s.adminItem 0 0x30 = some (itemNew 0 0 0 e) ∧ isOk (columnStateCheck e) () = true ∧ t.checkAt 12 host4 bytes.length = none ∧
    (t.writeAt ⟨12, 12, none⟩ host4 bytes).2 = none := by decide +kernel
theorem wit_rehang : let e := asks 0x31 0 [(28, natLE 1 71), (29, natLE 1 59)]
    let s := (asked e up).setColumn 71 { columnReset with dead := [59] }
    let t := s.served 12 0
    s.adminItem 0 0x31 = some (itemNew 0 0 0 e) ∧ isOk (repairCheck true true e) () = true ∧ 59 ∈ (t.columnAt 71).dead ∧
    (t.tileAt 71 59).failures < 3 ∧ t.scrubbing 11 = false ∧ tabHas t.repairs (t.repairKey 11) = false ∧ (t.tileAt 71 59).checking ≠ 2 := by
  decide +kernel
theorem wit_planned : ∀ row ∈ [0, 59], let e := asks 0x32 0 [(28, natLE 1 71), (29, natLE 1 row)]
    let s := asked e up
    let t := s.served 12 0
    s.adminItem 0 0x32 = some (itemNew 0 0 0 e) ∧ isOk (repairCheck true true e) () = true ∧ row ∉ (t.columnAt 71).dead ∧
    (t.columnAt 71).rank ≠ [] ∧ (t.columnAt 71).retired = false ∧ t.retesting 11 = false ∧ tabHas t.repairs (t.repairKey 11) = false ∧
    (row ∈ (t.columnAt 71).holes ↔ row = 59) := by decide +kernel
theorem wit_retesting : (restoring true).retesting 11 = true := by decide +kernel
theorem wit_retire : ∀ k ∈ [11, 23], let e := asks 0x33 0 [(28, natLE 1 11)]
    let s := (asked e up).setStack k { stackReset with failing := true }
    let t := s.served 12 0
    s.adminItem 0 0x33 = some (itemNew 0 0 0 e) ∧ isOk (repairCheck false false e) () = true ∧
    ((t.stackAt 11).failing = true ∨ (t.stackAt 23).failing = true) ∧ tabHas t.repairs (t.repairKey 11) = false := by decide +kernel
theorem wit_restore : let e := asks 0x34 0 [(28, natLE 1 11)]
    let s := asked e { up with dev := { up.dev with outOfService := [11] } }
    let t := s.served 12 0
    s.adminItem 0 0x34 = some (itemNew 0 0 0 e) ∧ isOk (repairCheck false false e) () = true ∧ 11 ∈ t.dev.outOfService ∧ t.stripOwner 11 = none ∧
    (∀ i < 6, (t.columnAt (66 + i)).dead.length ≤ 4) ∧ (t.stackAt 11).failing = false ∧ (t.stackAt 23).failing = false ∧
    t.scrubbing 11 = false ∧ t.dev.restore = none := by decide +kernel
theorem wit_read_errors : let e := admin 0x35 12 host4 64 []
    let s := asked e up
    let t := s.served 12 0
    s.adminItem 0 0x35 = some (itemNew 0 0 0 e) ∧ isOk (readErrorsCheck e) () = true ∧ adBay e = 12 ∧ t.checkAt 12 host4 4096 = none ∧
    (t.writeAt ⟨12, 12, none⟩ host4 []).2 = none := by decide +kernel
theorem wit_controller : up.ctlRuns 23 = true ∧ 63 < 64 ∧ 15 < 16 := by decide +kernel
theorem wit_row_repair : let v : Stack := { stackReset with candidates := [5] }
    v.repairing = none ∧ v.repairable = some 5 := by decide +kernel
theorem wit_row_done : (((up.setStack 23 { stackReset with repairing := some 5 }).stackAt 23).repairing) = some 5 := by decide +kernel

/- Power. -/

theorem wit_power : up.dev.mainOn = true ∧ up.power.causes.contains 3 = false ∧ up.power.causes.contains 4 = false := by decide +kernel
theorem wit_settle : let s := up.setBay 0 { up.bayAt 0 with aclkTarget := some 1150 }
    (s.bayAt 0).aclkTarget = some 1150 ∧ s.capHeld = false := by decide +kernel
theorem wit_release : let s := { up with power := { up.power with causes := [1, 2, 3, 4, 5, 6, 7] } }
    s.power.causes ≠ [] ∧ s.power.causes.all s.causeCleared = true := by decide +kernel
theorem wit_trip : tripMet (up.liveTemps [(4319, 460)]) [] 0 = true ∧ tripMet (up.liveTemps []) [(23, 420)] 0 = true ∧
    tripMet (up.liveTemps []) [] 500 = true ∧ tripMet (up.liveTemps [(4319, 459)]) [(23, 419)] 499 = false := by decide +kernel
theorem wit_droop : 11 < 12 ∧ up.stripOwner 0 = some 0 := by decide +kernel
theorem wit_gate : up.power.on.contains 183 = true ∧ up.mayGate 183 = true ∧ up.snapHolds 183 = false := by decide +kernel
theorem wit_wake : let s := up.gate [0]
    s.power.gated.contains 0 = true ∧ s.mayWake 0 = true := by decide +kernel
theorem wit_regulator : (up.dev.mainOn || up.power.on.contains 0) = true ∧ (State.reset.dev.mainOn || State.reset.power.on.contains 188) = true ∧
    (State.reset.dev.mainOn || State.reset.power.on.contains 0) = false := by decide +kernel

/- Interrupts. -/

def listening : State := { up with ictl := { up.ictl with
  src := [(511, ⟨2, true, true⟩)], tgt := [(2, { mask := false, waiting := true })] } }
theorem wit_delivery : (listening.tgtAt 2).mask = false ∧ (listening.tgtAt 2).active = 0xFFFF ∧ 2 < 3 ∧ listening.nextSrc 2 = some 511 ∧
    (listening.tgtAt 2).waiting = true := by decide +kernel
theorem wit_delivery_due : ((listening.srcAt 511).target = 2 ∧ (listening.srcAt 511).enable = true ∧ (listening.srcAt 511).pending = true) ∧
    ∀ m, m < 511 → ¬ ((listening.srcAt m).target = 2 ∧ (listening.srcAt m).enable = true ∧ (listening.srcAt m).pending = true) := by decide +kernel
theorem wit_delivery_sound : listening.ictl.Sound := by unfold Ictl.Sound; decide +kernel
theorem wit_no_delivery : (up.tgtAt 0).mask = true := by decide +kernel
theorem wit_ictl_numbers : 256 ≤ 511 ∧ 511 < 512 ∧ srcListed 511 = true ∧ srcListed 0 = true ∧ srcListed 6 = false := by decide +kernel
theorem wit_msix : msixEntries 12 - 1 < msixEntries 12 ∧ msixEntries 0 - 1 < msixEntries 0 ∧ 12 < 13 := by decide +kernel

/- Snapshots and debug. -/

def snapshot : Snapshot := ⟨1, 0, 7, 0, 1, 0, 0xFF, 0, List.replicate 189 ⟨false, 0, false, [], [], []⟩, List.replicate 12 ⟨false, 0, false, [], [], []⟩, [], 0⟩
def holding : State := { up with dbg := { up.dbg with held := some snapshot } }
theorem wit_strobe : let e := admin 0x40 12 0 0 [(28, natLE 8 7), (36, natLE 1 1)]
    let s := asked e up
    let t := s.served 12 0
    s.adminItem 0 0x40 = some (itemNew 0 0 0 e) ∧ isOk (strobeCheck e) () = true ∧ t.dbg.held = none := by decide +kernel
theorem wit_snapshot_read : let e := admin 0x41 12 host4 64 []
    let s := asked e holding
    let t := s.served 12 0
    let part := (t.snapImage snapshot).take 64
    s.adminItem 0 0x41 = some (itemNew 0 0 0 e) ∧ isOk (snapReadCheck e) () = true ∧ t.dbg.held = some snapshot ∧ t.checkAt 12 host4 64 = none ∧
    t.checkAt 12 host4 part.length = none ∧ (t.writeAt ⟨12, 12, none⟩ host4 part).2 = none := by decide +kernel
theorem wit_snapshot_release : let e := admin 0x42 12 0 0 []
    let s := asked e holding
    let t := s.served 12 0
    s.adminItem 0 0x42 = some (itemNew 0 0 0 e) ∧ isOk (bareCheck .pf e) () = true ∧ t.dbg.held = some snapshot ∧
    snapshot.trigger ≠ evDeviceFatal := by decide +kernel
theorem wit_snap_n : 100 ≤ 100 ∧ up.dev.auxPower = true := by decide +kernel
/-- The booted device whose device and bay 0 have a debug level, with bay 0 halted or not. -/
def opening (level : Nat) (halt : Bool) (step : Nat) : State :=
  let s := up.setBay 0 { up.bayAt 0 with debugLevel := level, halted := halt, stepLeft := step }
  { s with dev := { s.dev with debugLevel := level } }
theorem wit_trace : ∀ sel ∈ [0, 1], let e := admin 0x43 12 host4 32768 [(28, natLE 1 sel)]
    let s := asked e (opening 1 false 0)
    let t := s.served 12 0
    s.adminItem 0 0x43 = some (itemNew 0 0 0 e) ∧ isOk (traceCheck e) () = true ∧ 1 ≤ t.traceDomain sel ∧ t.checkAt 12 host4 (16 * 32768) = none ∧
    lastN 32768 (t.traceOpen sel) = [] ∧ (t.writeAt ⟨12, 12, none⟩ host4 []).2 = none := by decide +kernel
theorem wit_halt : let e := admin 0x44 0 0 0 []
    let s := asked e (opening 3 false 0)
    let t := s.served 12 0
    s.adminItem 0 0x44 = some (itemNew 0 0 0 e) ∧ isOk (bareCheck .bay e) () = true ∧ t.bayExists 0 = true ∧ 3 ≤ (t.bayAt 0).debugLevel ∧
    t.locked 0 = false ∧ (t.bayAt 0).halted = false := by decide +kernel
theorem wit_halted : ∀ op ∈ [0x45, 0x46], let e := admin op 0 0 0 (if op = 0x45 then [(28, natLE 4 65535)] else [])
    let s := asked e (opening 3 true 1)
    let t := s.served 12 0
    s.adminItem 0 op = some (itemNew 0 0 0 e) ∧ isOk (if op = 0x45 then stepCheck e else bareCheck .bay e) () = true ∧ t.bayExists 0 = true ∧
    3 ≤ (t.bayAt 0).debugLevel ∧ t.locked 0 = false ∧ (t.bayAt 0).halted = true ∧ (s.bayAt 0).halted = true ∧ (s.bayAt 0).stepLeft ≠ 0 := by decide +kernel
theorem wit_debug_access : ∀ w : Fin 2, let e := admin 0x47 0 host4 8 [(36, natLE 1 w.val)]
    let s := asked e (opening (2 + w.val) false 0)
    let t := s.served 12 0
    s.adminItem 0 0x47 = some (itemNew 0 0 0 e) ∧ isOk (debugCheck e) () = true ∧ s.addrWaits 0 (daAddr e) = false ∧ t.bayExists 0 = true ∧
    (daWrite e && daAddr e / 2 ^ 60 == 3) = false ∧ debugNeeds e ≤ (t.bayAt 0).debugLevel ∧ t.locked 0 = false := by decide +kernel

/- Firmware. -/

def stageEntry : List Byte := admin 0x20 12 host4 4096 [(28, natLE 1 3)]
theorem wit_stage : let s := asked stageEntry up
    let t := s.served 12 0
    s.adminItem 0 0x20 = some (itemNew 0 0 0 stageEntry) ∧ isOk (fwStageCheck stageEntry) () = true ∧ t.sec.activation = none := by
  decide +kernel
theorem wit_stage_read : ∃ image, ((asked stageEntry up).served 12 0).readAt ⟨12, 12, none⟩ host4 4096 = .ok image := by
  have h : ((asked stageEntry up).served 12 0).readAt ⟨12, 12, none⟩ host4 4096 =
      ((asked stageEntry up).served 12 0).readFrom ⟨12, 12, none⟩ (.host 0) 0 4096 := by
    have hz : ((asked stageEntry up).served 12 0).resolve 12 host4 4096 = .ok (.host 0) := rfl
    simp [State.readAt, hz]
  have hb : (((asked stageEntry up).served 12 0).fnAt 12).busMaster = true ∧ (((asked stageEntry up).served 12 0).fnAt 12).ats = false := by
    decide +kernel
  exact ⟨_, h.trans (host_read _ _ 4096 0 (fun k => by simp [State.hostRefused, hb.1, hb.2]) rfl rfl)⟩
def staged (e : List Byte) : State := asked e { up with sec := { up.sec with staged := [(3, 0)] } }
theorem wit_activate : let e := admin 0x21 12 0 0 [(28, natLE 1 3), (32, natLE 4 2000)]
    (staged e).adminItem 0 0x21 = some (itemNew 0 0 0 e) ∧ isOk (fwActivateCheck e) () = true ∧ (staged e).activateRefused 3 = none := by decide +kernel
def activating (kind stage : Nat) : State := { up with sec := { up.sec with activation := some (kind, none, stage) } }
theorem wit_drain : (activating 3 1).sec.activation = some (3, none, 1) ∧ (activating 3 1).drained = true ∧
    (activating 2 3).sec.activation = some (2, none, 3) := by decide +kernel

/- Resets. -/

theorem wit_warm : up.dev.mainOn = true ∧ up.dev.warmPending = false ∧ up.dev.ready = true ∧ up.dev.fatal = none := by decide +kernel
theorem wit_warm_entry : let e := admin 0x22 12 0 0 []
    let s := asked e up
    let t := s.served 12 0
    s.adminItem 0 0x22 = some (itemNew 0 0 0 e) ∧ isOk (resetCheck e) () = true ∧ s.updating = false ∧ t.dev.mainOn = true ∧
    t.dev.warmPending = false ∧ t.dev.ready = true ∧ t.dev.fatal = none := by
  decide +kernel
theorem wit_warm_effect : let s := { up with dev := { up.dev with warmPending := true } }
    s.dev.warmPending = true ∧ s.recordsDone = true := by decide +kernel
theorem wit_bay_reset : let e := admin 0x24 0 0 0 []
    (asked e up).adminItem 0 0x24 = some (itemNew 0 0 0 e) ∧ isOk (bareCheck .bay e) () = true ∧ ((asked e up).served 12 0).bayExists 0 = true := by decide +kernel
theorem wit_core_reset : let e := admin 0x25 0 0 0 [(28, natLE 1 5), (29, natLE 1 55)]
    let s := asked e up
    let t := s.served 12 0
    s.adminItem 0 0x25 = some (itemNew 0 0 0 e) ∧ isOk (coreResetCheck e) () = true ∧ t.bayExists 0 = true ∧ fieldAt e 28 1 < 6 * (t.bayAt 0).count ∧ fieldAt e 29 1 ≤ 55 ∧
    woList ((t.coreAt (t.coreOf 0 (5 * 56 + 55))).queue ++ (t.coreAt (t.coreOf 0 (5 * 56 + 55))).tree) = [] := by decide +kernel
theorem wit_link_reset : let e := admin 0x26 12 0 0 [(28, natLE 1 15)]
    (asked e up).adminItem 0 0x26 = some (itemNew 0 0 0 e) ∧ isOk (linkResetCheck e) () = true := by decide +kernel
theorem wit_function : (up.fnAt 0).exists_ = true ∧ up.bayExists 0 = true ∧ 0 < up.dev.numVfs ∧ up.dev.numVfs < 12 ∧
    (let s := up.setBay 0 bayReset; (s.fnAt 0).exists_ = true ∧ s.bayExists 0 = false) := by decide +kernel
theorem wit_boot : State.reset.dev.boot = .rails ∧ State.reset.dev.mainOn = false ∧ State.reset.dev.fatal = none ∧ State.reset.sec.recovery = false ∧
    (let s := { up with dev := { up.dev with boot := .testing } }; s.dev.boot = .testing ∧ s.dev.fatal = none) := by decide +kernel
theorem wit_return : ({ up with dev := { up.dev with fatal := some .shutdown } } : State).dev.fatal = some .shutdown := by decide +kernel
theorem wit_mod_reset : 10 ≤ 10 ∧ (∀ kind ∈ [none, some 3], (up.writeStops kind).dev.auxPower = true ∧ (up.writeStops kind).dev.fatal = none) := by
  decide +kernel
theorem wit_mod_reset_hot : let s := { up with dev := { up.dev with fatal := some .thermalTrip }, power := { up.power with regTemp := 500 } }
    (s.writeStops none).dev.fatal = some .thermalTrip ∧ (s.writeStops none).belowEmergency = false := by decide +kernel
theorem wit_cold_side : let s := { up with life := { up.life with i3cAddress := some 8 } }
    s.sideOpen = true ∧ isOk (sideBare (rec 64 [])) () = true ∧ s.updating = false ∧ s.dev.coldCause = none ∧
    ({ s with sec := { s.sec with activation := some (3, none, 1) } } : State).updating = true := by decide +kernel
theorem wit_cold_entry : let e := admin 0x23 12 0 0 []
    let s := asked e up
    s.adminItem 0 0x23 = some (itemNew 0 0 0 e) ∧ isOk (resetCheck e) () = true ∧ s.updating = false ∧ s.dev.coldCause = none := by decide +kernel
theorem wit_cold_due : ({ up with dev := { up.dev with auxPower := false } } : State).coldDue 1 = true ∧
    ({ up with dev := { up.dev with coldCause := some 2 } } : State).coldDue 2 = true ∧
    ({ up with dev := { up.dev with coldCause := some 3 } } : State).coldDue 3 = true ∧
    ({ up with dev := { up.dev with fatal := some .thermalTrip } } : State).coldDue 5 = true := by decide +kernel

/- Lifetime records and the sideband. -/

def lifeOps : List Byte := rec 64 [(24, natLE 4 19)]
theorem wit_life_read : let e := admin 0x27 12 host4 19 []
    let s := asked e up
    let t := s.served 12 0
    let bytes := t.lifeRecords e
    s.adminItem 0 0x27 = some (itemNew 0 0 0 e) ∧ isOk (lifeReadCheck e) () = true ∧ t.checkAt 12 host4 (64 * 19) = none ∧
    t.checkAt 12 host4 bytes.length = none ∧ (t.writeAt ⟨12, 12, none⟩ host4 bytes).2 = none := by decide +kernel
theorem wit_side_read : ({ up with life := { up.life with i3cAddress := some 8 } } : State).sideOpen = true ∧ isOk (lifeSelect lifeOps) () = true := by decide +kernel
theorem wit_epoch : let e := admin 0x28 12 0 0 [(32, natLE 8 1)]
    (asked e up).adminItem 0 0x28 = some (itemNew 0 0 0 e) ∧ isOk (epochCheck e) () = true ∧ fieldAt e 32 8 ≠ 0 ∧
    isOk (epochOperands (rec 64 [(32, natLE 8 1)])) () = true := by decide +kernel
theorem wit_entdaa : up.dev.auxPower = true ∧ up.dev.boot ≠ .off ∧ up.life.i3cAddress = none ∧ 127 < 128 := by decide +kernel
def side : State := { up with life := { up.life with i3cAddress := some 8 } }
theorem wit_side : side.sideReached = true ∧ side.sec.recovery = false ∧ side.sideOpen = true ∧ side.updating = false ∧ 29 < 30 ∧
    (({ side with sec := { side.sec with staged := [(3, 0)] } } : State).pend 200).activateRefused 3 = none := by decide +kernel
theorem wit_setup : up.dev.fatal = none ∧ up.barOpen 0 = true ∧ up.takesNow 0 = true ∧ 3 < (if pfFn = pfFn then 4 else 64) ∧
    63 < (if 0 = pfFn then 4 else 64) ∧ 11 < 12 ∧ 63 < 64 := by decide +kernel
theorem wit_setup_waits : (let s := { up with dev := { up.dev with isolated := true, cycle := [1, 2], slotIx := 0 } }
     s.barOpen 0 = true ∧ s.takesNow 0 = false) ∧
    (let s := up.setHeld 0 [.setup 0 4 0]
     s.barOpen 0 = true ∧ s.takesNow 0 = false) := by decide +kernel
theorem wit_host : (up.fnAt 0).ats = true ∧ ((up.setBay 0 { up.bayAt 0 with tdi := .run }).bayAt 0).tdi = .run ∧ (up.fnAt 0).memSpace = true ∧
    ((up.setIde 15 { secure := true }).ideAt 15).secure = true := by decide +kernel

/- Sessions. -/

/-- Both connections negotiated, a chain in slot 1, and sessions 1 (DOE, established), 2 (being set up) and 3 (sideband, a
heartbeat missed). -/
def talking : State := { side with
  spdm := { side.spdm with
    doe := ⟨true, 0x13, true, true⟩, side := ⟨true, 0x13, true, true⟩, slot1 := some [1],
    sessions := [⟨1, true, 0, false, false, 0, none⟩, ⟨2, false, 0, false, false, 0, none⟩, ⟨3, true, 1, false, true, 0, none⟩],
    ide := [(15, { secure := true, keys := [11], going := [], rid := 1 })] },
  sec := { side.sec with certAuth := some (Config.sha384 [2, 3]) } }

theorem wit_connect : talking.spdmReached true = true ∧ talking.spdmReached false = true ∧ talking.updating = false ∧
    (let t := talking.pend 200; (t.connAt true).versions = true ∧ (t.connAt true).version ≠ 0 ∧ talking.sec.lifecycle ≠ 3 ∧
      (t.connAt true).keyed = true ∧ (t.chainOf 0).isSome = true ∧ (t.chainOf 1).isSome = true ∧ t.spdm.sessions.length < 4) := by
  decide +kernel
theorem wit_open_requests : ∀ side : Bool, let t := talking.pend (if side then 200 else 24)
    talking.spdmReached side = true ∧ talking.updating = false ∧ talking.sec.lifecycle ≠ 3 ∧
      (t.connAt side).algs = true ∧ (t.measurement 1).isSome = true ∧ (t.measurement 10).isSome = true := by decide +kernel
theorem wit_anchor : let t := talking.pend 24
    t.anchorOk none = true ∧ t.anchorOk (some 0) = true ∧ t.anchorOk (some 1) = false := by decide +kernel
theorem wit_session_requests : talking.sessionAt 1 = some ⟨1, true, 0, false, false, 0, none⟩ ∧ talking.spdmReached (talking.sessionSide 1) = true ∧
    talking.sessionAt 3 = some ⟨3, true, 1, false, true, 0, none⟩ ∧ talking.spdmReached (talking.sessionSide 3) = true := by decide +kernel
theorem wit_chain_slot (t : State) (h : t.spdm = talking.spdm) : ∃ c, t.chainOf 1 = some c ∧ 0 < c.length := by
  refine ⟨[1] ++ Config.aliasCert t.sec.aliasSerial, ?_, by simp⟩
  simp [State.chainOf, h, talking]
theorem wit_set_certificate : [2, 3].length ≤ portionMax ∧ talking.sec.certAuth = some (Config.sha384 [2, 3]) := ⟨by decide, rfl⟩
theorem wit_session : talking.updating = false ∧ talking.sec.lifecycle ≠ 3 ∧
    (∃ x, talking.sessionAt 1 = some x ∧ talking.spdmReached x.sideband = true ∧ x.established = true ∧ x.misses = 0) ∧
    (∃ x, talking.sessionAt 2 = some x ∧ talking.spdmReached x.sideband = true ∧ x.established = false) ∧
    (∃ x, talking.sessionAt 3 = some x ∧ talking.spdmReached x.sideband = true ∧ 1 ≤ x.misses) := by
  refine ⟨by decide +kernel, by decide +kernel, ⟨⟨1, true, 0, false, false, 0, none⟩, by decide +kernel⟩, ⟨⟨2, false, 0, false, false, 0, none⟩, by decide +kernel⟩,
    ⟨⟨3, true, 1, false, true, 0, none⟩, by decide +kernel⟩⟩
theorem wit_subscribe : let t := (talking.pend 24).setSession 1 (fun y => { y with misses := 0 })
    (t.connAt (t.sessionSide 1)).version = 0x13 := by decide +kernel
theorem wit_ide : 15 < 16 ∧ 1 < 2 ∧ 2 < 3 ∧ (talking.ideAt 15).going.contains 11 = false ∧ (talking.ideAt 15).keys.contains 11 = true := by decide +kernel

/- The TDI of bay 0, in each state. -/

def tdi (st : Tdi) : State := (talking.setBay 0 { talking.bayAt 0 with tdi := st, lockNonce := 7 }).pend 24
theorem wit_tdisp : talking.bayExists 0 = true ∧ (talking.fnAt 0).exists_ = true ∧ (tdi .unlocked).lockable 0 15 = true ∧
    (tdi .locked).locked 0 = true ∧ ((tdi .locked).bayAt 0).tdi = .locked ∧
    (tdi .locked).bayBusy 0 = false ∧ ((tdi .locked).bayAt 0).lockNonce = 7 ∧ ((tdi .run).bayAt 0).tdi ≠ .unlocked ∧
    ((tdi .unlocked).bayAt 0).tdi = .unlocked := by decide +kernel
theorem wit_report_length : 0 < ((tdi .locked).fullReport 0).length := by
  simp only [State.fullReport, List.length_append, State.interfaceReport, natLE, List.length_cons, List.length_nil]; omega

/- The device as a whole: tables, frames and interrupts. -/

theorem wit_due : let s := { up with ictl := { up.ictl with src := [(0, ⟨0, true, true⟩), (5, ⟨0, true, true⟩)], tgt := [(0, { mask := false })] } }
    (s.srcAt 0).target = 0 ∧ (s.srcAt 0).enable = true ∧ (s.srcAt 0).pending = true ∧ (s.srcAt 5).pending = true ∧
    (s.tgtAt 0).mask = false ∧ (s.tgtAt 0).active = 0xFFFF ∧ (s.tgtAt 2).mask = true := by decide +kernel
theorem wit_slot_boundary : ∃ t, exec .ridgeSlotBoundary { up with time := 1999 } = .next t := ⟨_, rfl⟩
theorem wit_time_returns : (∃ t, exec .mainInputReturn up = .next t) ∧ (∃ t, exec (.modResetN ⟨10, true, none⟩) up = .next t) ∧
    (∃ t, exec (.moduleColdReset ⟨1, true⟩) up = .next t) := ⟨⟨_, rfl⟩, ⟨_, rfl⟩, ⟨_, rfl⟩⟩
theorem wit_session_command : (∃ t, exec (.getVersion true) talking = .next t) ∧ (∃ t, exec (.matrixWorkOrder ⟨4031, []⟩) up = .next t) :=
  ⟨⟨_, rfl⟩, ⟨_, rfl⟩⟩
theorem wit_held : let h : Snapshot := ⟨1, 0, 2, 0, 0xFF, 3, 4, 5, [], [], [], 0⟩
    let s := { up with dbg := { up.dbg with held := some h } }
    s.dbg.held = some h ∧ (∃ t, exec (.snapshotMessage 0) s = .next t) ∧ (∃ t, exec .snapshotHoldExpiry s = .next t) :=
  ⟨rfl, ⟨_, rfl⟩, ⟨_, rfl⟩⟩

/-- A bay on the strips from one on. -/
def strips (first count : Nat) : State := up.setBay 0 { up.bayAt 0 with first := first, count := count }
theorem wit_bay_memory : (∀ p : Fin 2, let s := strips (11 * p.val) (12 - 11 * p.val)
    (s.bayAt 0).first + (s.bayAt 0).count ≤ 12 ∧ 0 < (s.bayAt 0).count * 2 * stackBytes) ∧
    1 * 2 * stackBytes - 1 < ((strips 11 1).bayAt 0).count * 2 * stackBytes ∧ 2 ^ 64 - 1 < 2 ^ 64 := by decide +kernel
theorem wit_rows_of_columns : (0 < 1 ∧ 1 < 2 ∧ 2 < 3 ∧ 3 < 60 ∧ 55 < 56) ∧ (56 < 57 ∧ 57 < 58 ∧ 58 < 59 ∧ 59 < 60 ∧ 0 < 56) := by decide
theorem wit_codes : 126 < 127 ∧ 127 ≤ 0xFE ∧ 0x7F ≤ 0x7F ∧ 0x80 ≤ 0x80 ∧ 0xFF ≤ 0xFF ∧ 0x7 ≤ 0x7 ∧ 0x8 ≤ 0x8 ∧ 0xF ≤ 0xF := by decide
theorem wit_bay_write : ((strips 3 2).bayAt 0).first + ((strips 3 2).bayAt 0).count ≤ 12 ∧ (strips 3 2).spadFlaws = [] ∧
    (∀ k : Fin 24, ((strips 3 2).stackAt k).latent = []) ∧ 27 % 12 < 12 ∧ 5 ≤ 23 % 12 ∧ 14 % 12 < 3 ∧ (2 * 336 + 335) / 336 < 3 ∧
    5 ≤ (5 * 336) / 336 := by decide +kernel
theorem wit_bay_write_every : ∀ k, ((strips 3 2).stackAt k).latent = [] := by
  intro k; rfl

/- Frames: a command of each group answers a next state. -/

theorem wit_frame_engines : (∃ t, exec (.softmax 0) up = .next t) ∧ (∃ t, exec (.attend 23) up = .next t) ∧
    (∃ t, exec (.eavePartialReturn 23) up = .next t) := ⟨⟨_, rfl⟩, ⟨_, rfl⟩, ⟨_, rfl⟩⟩
theorem wit_frame_queues : (∃ t, exec (.entryFetch 12 3) up = .next t) ∧ (∃ t, exec (.workOrderStart 0) up = .next t) ∧
    (∃ t, exec (.syncReport 0) up = .next t) ∧ (∃ t, exec (.resetQueue 0) up = .next t) := ⟨⟨_, rfl⟩, ⟨_, rfl⟩, ⟨_, rfl⟩, ⟨_, rfl⟩⟩
theorem wit_frame_fabric : (∃ t, exec (.trainingRetry 15) up = .next t) ∧ (∃ t, exec (.farWrite 0) up = .next t) ∧
    (∃ t, exec (.collAbort 0) up = .next t) ∧ (∃ t, exec (.frefLost true) up = .next t) := ⟨⟨_, rfl⟩, ⟨_, rfl⟩, ⟨_, rfl⟩, ⟨_, rfl⟩⟩
theorem wit_frame_management : (∃ t, exec (.approvalNonce 12) up = .next t) ∧ (∃ t, exec .nonceExpiry up = .next t) ∧
    (∃ t, exec (.snapshotStrobe 12) up = .next t) ∧ (∃ t, exec (.stepExpiry 11) up = .next t) := ⟨⟨_, rfl⟩, ⟨_, rfl⟩, ⟨_, rfl⟩, ⟨_, rfl⟩⟩
theorem wit_frame_faults : (∃ t, exec (.rowRepair 23) up = .next t) ∧ (∃ t, exec (.slipRepair 71) up = .next t) ∧
    (∃ t, exec .emergencyRelease up = .next t) ∧ (∃ t, exec (.domainGate 189) up = .next t) := ⟨⟨_, rfl⟩, ⟨_, rfl⟩, ⟨_, rfl⟩, ⟨_, rfl⟩⟩
theorem wit_frame_host : (∃ t, exec (.ictlDone 2) up = .next t) ∧ (∃ t, exec (.lifetimeCommit [] []) up = .next t) ∧
    (∃ t, exec (.heartbeat 1) talking = .next t) ∧ (∃ t, exec .perst up = .next t) := ⟨⟨_, rfl⟩, ⟨_, rfl⟩, ⟨_, rfl⟩, ⟨_, rfl⟩⟩

end Sys2Proof.Tests
end

section
/-! SUPPORT. Device addresses of bay memory and stack windows (R28, R29, R33): which addresses resolve to them, where a byte of
bay memory stands, what an access of one byte does there, and the statement that a byte has exactly two addresses. -/

namespace Sys2Proof.Machine

/-- The device address of offset `w` of the bay's stack `i` (R28): space 1, the index in bits 47:43. -/
def stackWindow (i w : Nat) : Nat := 2 ^ 60 + i * 2 ^ 43 + w

variable (s : State)

/- Fields of an address. -/

theorem bitsOf_eq_div_mod (v hi lo : Nat) : bitsOf v hi lo = v / 2 ^ lo % 2 ^ (hi + 1 - lo) := by
  rw [bitsOf, Nat.shiftRight_eq_div_pow]

/-- An address below 2^44 is its own offset, in space 0. -/
theorem bitsOf_bayMemory {addr : Nat} (h : addr < 2 ^ 44) :
    bitsOf addr 63 60 = 0 ∧ bitsOf addr 59 44 = 0 ∧ bitsOf addr 43 0 = addr := by
  simp only [bitsOf_eq_div_mod]
  omega

/-- The fields of a stack-window address, index and offset in their ranges. -/
theorem bitsOf_stackWindow {i w : Nat} (hi : i < 32) (hw : w < 2 ^ 43) :
    bitsOf (stackWindow i w) 63 60 = 1 ∧ bitsOf (stackWindow i w) 59 48 = 0 ∧ bitsOf (stackWindow i w) 47 44 = i / 2 ∧
    bitsOf (stackWindow i w) 47 43 = i ∧ bitsOf (stackWindow i w) 42 0 = w := by
  simp only [bitsOf_eq_div_mod, stackWindow]
  omega

theorem eq_of_bitsOf_bayMemory {addr : Nat} (h : addr < 2 ^ 64) (hspace : bitsOf addr 63 60 = 0) (hzero : bitsOf addr 59 44 = 0) :
    addr = bitsOf addr 43 0 := by
  simp only [bitsOf_eq_div_mod] at *
  omega

theorem eq_stackWindow_of_bitsOf {addr : Nat} (h : addr < 2 ^ 64) (hspace : bitsOf addr 63 60 = 1) (hzero : bitsOf addr 59 48 = 0) :
    addr = stackWindow (bitsOf addr 47 43) (bitsOf addr 42 0) := by
  simp only [bitsOf_eq_div_mod, stackWindow] at *
  omega

theorem bitsOf_side_div (addr : Nat) : bitsOf addr 47 43 / 2 = bitsOf addr 47 44 := by
  simp only [bitsOf_eq_div_mod]
  omega

/- The checks of R33. -/

theorem endCheck_ok {off len size : Nat} (r : Region) (hoff : off < size) (hend : off + len ≤ size) :
    endCheck off len size r = .ok r := by
  rw [endCheck, if_pos hoff, if_pos hend]

theorem endCheck_region {off len size : Nat} {r q : Region} (h : endCheck off len size r = .ok q) : q = r := by
  rw [endCheck] at h
  split at h
  · split at h
    · exact (Except.ok.inj h).symm
    · cases h
  · cases h

theorem coreRegion_region {s : State} {core : Nat} {c : Except Status Region} {q : Region} (h : s.coreRegion core c = .ok q) :
    c = .ok q := by
  unfold State.coreRegion at h
  split at h
  · cases h
  · split at h
    · cases h
    · exact h

/-- What an access that passes the check of R33 can name: bay memory, a stack of a strip of the bay, or no stack at all. -/
theorem resolve_cases {s : State} {b addr len : Nat} {r : Region} (h : s.resolve b addr len = .ok r) :
    (bitsOf addr 63 60 = 0 ∧ bitsOf addr 59 44 = 0 ∧ r = .mem (bitsOf addr 43 0)) ∨
    (bitsOf addr 63 60 = 1 ∧ bitsOf addr 59 48 = 0 ∧ bitsOf addr 47 44 < (s.bayAt b).count ∧
      r = .stack (s.stackOf b (bitsOf addr 47 43)) (bitsOf addr 42 0)) ∨
    ((∀ o, r ≠ .mem o) ∧ ∀ k o, r ≠ .stack k o) := by
  simp only [State.resolve] at h
  split at h
  case h_1 hspace => -- bay memory
    split at h
    · cases h
    · next hzero => exact .inl ⟨hspace, Decidable.not_not.1 hzero, endCheck_region h⟩
  case h_2 hspace => -- stack window
    split at h
    · cases h
    · next hfields =>
      obtain ⟨hzero, hstrip⟩ := not_or.1 hfields
      exact .inr (.inl ⟨hspace, Decidable.not_not.1 hzero, Nat.not_le.1 hstrip, endCheck_region h⟩)
  case h_3 => -- scratchpad
    split at h
    · cases h
    · cases endCheck_region (coreRegion_region h)
      exact .inr (.inr ⟨nofun, nofun⟩)
  case h_4 => -- accumulator store
    split at h
    · cases h
    · cases endCheck_region (coreRegion_region h)
      exact .inr (.inr ⟨nofun, nofun⟩)
  case h_5 => -- host IOVA
    cases endCheck_region h
    exact .inr (.inr ⟨nofun, nofun⟩)
  case h_6 => -- fabric window
    split at h
    · cases h
    · cases endCheck_region h
      exact .inr (.inr ⟨nofun, nofun⟩)
  case h_7 => cases h -- reserved

/-- Only its own address names an offset of bay memory. -/
theorem addr_of_resolve_mem {s : State} {b addr len o : Nat} (haddr : addr < 2 ^ 64) (h : s.resolve b addr len = .ok (.mem o)) :
    addr = o := by
  obtain ⟨hspace, hzero, hr⟩ | ⟨_, _, _, hr⟩ | ⟨hr, _⟩ := resolve_cases h
  · cases hr
    exact eq_of_bitsOf_bayMemory haddr hspace hzero
  · cases hr
  · exact absurd rfl (hr o)

/-- Only stack-window addresses name a stack, and only one of the bay's strips. -/
theorem addr_of_resolve_stack {s : State} {b addr len k o : Nat} (haddr : addr < 2 ^ 64)
    (h : s.resolve b addr len = .ok (.stack k o)) :
    ∃ i, i / 2 < (s.bayAt b).count ∧ k = s.stackOf b i ∧ addr = stackWindow i o := by
  obtain ⟨_, _, hr⟩ | ⟨hspace, hzero, hstrip, hr⟩ | ⟨_, hr⟩ := resolve_cases h
  · cases hr
  · cases hr
    exact ⟨bitsOf addr 47 43, bitsOf_side_div addr ▸ hstrip, rfl, eq_stackWindow_of_bitsOf haddr hspace hzero⟩
  · exact absurd rfl (hr k o)

theorem resolve_bayMemory {b off len : Nat} (hsmall : off < 2 ^ 44) (hoff : off < (s.bayAt b).count * 2 * stackBytes)
    (hend : off + len ≤ (s.bayAt b).count * 2 * stackBytes) : s.resolve b off len = .ok (.mem off) := by
  obtain ⟨hspace, hzero, hfield⟩ := bitsOf_bayMemory hsmall
  simp only [State.resolve, hspace, hzero, hfield, ne_eq, not_true_eq_false, if_false]
  exact endCheck_ok _ hoff hend

theorem resolve_stackWindow {b i w len : Nat} (hi : i < 32) (hstrip : i / 2 < (s.bayAt b).count) (hw : w < stackBytes)
    (hend : w + len ≤ stackBytes) : s.resolve b (stackWindow i w) len = .ok (.stack (s.stackOf b i) w) := by
  obtain ⟨hspace, hzero, hj, hindex, hfield⟩ := bitsOf_stackWindow hi (Nat.lt_trans hw (by decide))
  simp only [State.resolve, hspace, hzero, hj, hindex, hfield, ne_eq, not_true_eq_false, false_or, Nat.not_le.2 hstrip, if_false]
  exact endCheck_ok _ hw hend

/- The interleave of R29. -/

/-- The stacks of a bay whose strips exist are distinct. -/
theorem stackOf_inj {s : State} {b i j : Nat} (hbay : (s.bayAt b).first + (s.bayAt b).count ≤ 12)
    (hi : i / 2 < (s.bayAt b).count) (hj : j / 2 < (s.bayAt b).count) (h : s.stackOf b i = s.stackOf b j) : i = j := by
  simp only [State.stackOf] at h
  omega

theorem index_div_two_lt {n : Nat} (u : Nat) (hn : 0 < n) : u % (2 * n) / 2 < n :=
  Nat.div_lt_of_lt_mul (Nat.mod_lt u (Nat.mul_pos Nat.two_pos hn))

/-- An offset of bay memory is put together from its stack index and its stack offset. -/
theorem offset_of_place (n off : Nat) :
    off = 4096 * (2 * n * (off / 4096 / (2 * n)) + off / 4096 % (2 * n)) + off % 4096 := by
  rw [Nat.div_add_mod, Nat.div_add_mod]

/-- Two offsets of bay memory that stand at one place are one. -/
theorem memPlace_inj {s : State} {b off off' : Nat} (hn : 0 < (s.bayAt b).count)
    (hbay : (s.bayAt b).first + (s.bayAt b).count ≤ 12) (h : s.memPlace b off = s.memPlace b off') : off = off' := by
  simp only [State.memPlace, Prod.mk.injEq] at h
  obtain ⟨hstack, hplace⟩ := h
  have hindex := stackOf_inj hbay (index_div_two_lt _ hn) (index_div_two_lt _ hn) hstack
  have hunit : off / 4096 / (2 * (s.bayAt b).count) = off' / 4096 / (2 * (s.bayAt b).count) := by omega
  have hlow : off % 4096 = off' % 4096 := by omega
  rw [offset_of_place (s.bayAt b).count off, hunit, hindex, hlow, ← offset_of_place]

/-- The place of a byte of bay memory lies inside its stack. -/
theorem stackOffset_lt {n off : Nat} (h : off < n * 2 * stackBytes) : off / 4096 / (2 * n) * 4096 + off % 4096 < stackBytes := by
  have hunit : off / 4096 < 2 * n * (stackBytes / 4096) := by
    simp only [stackBytes] at *
    omega
  have := Nat.div_lt_of_lt_mul hunit
  simp only [stackBytes] at *
  omega

/- Accesses of one byte. -/

theorem readAt_one {s : State} {a : Agent} {addr : Nat} {r : Region} (h : s.resolve a.bay addr 1 = .ok r) :
    s.readAt a addr 1 = s.readByte a r 0 >>= fun b => .ok [b] := by
  simp only [State.readAt, h, State.readFrom, Nat.one_ne_zero, if_false]
  cases s.readByte a r 0 <;> rfl

theorem readByte_mem_zero (a : Agent) (off : Nat) :
    s.readByte a (.mem off) 0 = s.readStackByte (s.memPlace a.bay off).1 (s.memPlace a.bay off).2 := rfl

theorem readByte_stack_zero (a : Agent) (k w : Nat) : s.readByte a (.stack k w) 0 = s.readStackByte k w := rfl

theorem writeAt_one {s : State} {a : Agent} {addr : Nat} {r : Region} (h : s.resolve a.bay addr 1 = .ok r) (b : Byte) :
    s.writeAt a addr [b] = s.writeRegion a r [b] := by
  rw [State.writeAt, if_neg (List.cons_ne_nil b []), List.length_singleton, h]

theorem writeRegion_stack_one (a : Agent) (k w : Nat) (b : Byte) :
    s.writeRegion a (.stack k w) [b] = (s.writeStack k w [b], none) := rfl

theorem memPieces_one (b off fuel : Nat) :
    s.memPieces b (fuel + 2) off 1 = [((s.memPlace b off).1, (s.memPlace b off).2, 1)] := by
  have hhere : min 1 (4096 - off % 4096) = 1 := by omega
  simp only [State.memPieces, hhere, Nat.one_ne_zero, Nat.sub_self, if_true, if_false]

theorem writeRegion_mem_one (a : Agent) (off : Nat) (b : Byte) :
    s.writeRegion a (.mem off) [b] = (s.writeStack (s.memPlace a.bay off).1 (s.memPlace a.bay off).2 [b], none) := by
  simp only [State.writeRegion, State.stackRanges, List.length_singleton, Nat.reduceDiv, memPieces_one, State.writePieces,
    List.take_succ_cons, List.take_zero]

/-- The stack and the offset within it that R29 computes for an offset of bay memory. -/
theorem memPlace_eq (b off : Nat) : let S := 2 * (s.bayAt b).count; let u := off / 4096
    s.memPlace b off = (s.stackOf b (u - S * (u / S)), u / S * 4096 + off % 4096) := by
  intro S u
  rw [← Nat.mod_def]
  rfl

end Sys2Proof.Machine

open Sys2Proof Sys2Proof.Machine

/-- Settles O12: both addresses resolve to the place of R29, where an access of one byte acts, and the place determines the
offset of bay memory and the fields of the stack window. -/
theorem bayMemoryInterleavesItsStacks : Obligations.BayMemoryInterleavesItsStacks := by
  unfold Obligations.BayMemoryInterleavesItsStacks
  intro s a off v hbay hoff S u i w win
  have hcount : 0 < v.count := Nat.pos_of_ne_zero fun hzero => by
    rw [hzero, Nat.zero_mul] at hoff
    exact Nat.not_lt_zero _ hoff
  have hplace : s.memPlace a.bay off = (s.stackOf a.bay i, w) := memPlace_eq s a.bay off
  have hstrip : i / 2 < v.count := by
    have := index_div_two_lt u hcount
    rwa [Nat.mod_def] at this
  have hmem : s.resolve a.bay off 1 = .ok (.mem off) :=
    resolve_bayMemory s (by simp only [stackBytes] at hoff; omega) hoff hoff
  have hw : w < stackBytes := stackOffset_lt hoff
  have hwin : s.resolve a.bay win 1 = .ok (.stack (s.stackOf a.bay i) w) :=
    resolve_stackWindow s (by omega) hstrip hw hw
  have hread : s.readAt a off 1 = s.readStackByte (s.stackOf a.bay i) w >>= fun b => .ok [b] := by
    rw [readAt_one hmem, readByte_mem_zero, hplace]
  have hwrite (b : Byte) : s.writeAt a off [b] = (s.writeStack (s.stackOf a.bay i) w [b], none) := by
    rw [writeAt_one hmem, writeRegion_mem_one, hplace]
  refine ⟨hplace, hread, ?_, fun b => ⟨hwrite b, ?_⟩, fun addr haddr => ⟨fun o hres heq => ?_, fun k o hres heq => ?_⟩⟩
  · rw [readAt_one hwin, readByte_stack_zero, hread]
  · rw [writeAt_one hwin, writeRegion_stack_one, hwrite]
  · rw [addr_of_resolve_mem haddr hres, memPlace_inj hcount hbay heq.symm]
  · obtain ⟨j, hj, rfl, rfl⟩ := addr_of_resolve_stack haddr hres
    obtain ⟨hstack, rfl⟩ := Prod.mk.inj (heq.trans hplace)
    rw [stackOf_inj hbay hj hstrip hstack]
    rfl
end

section
/-! SUPPORT. The values of number codes (R144, R147): powers of two, the bytes of an E8M0 scale, the two halves of a
two's-complement range, and the statement about E8M0, INT8 and INT4. -/

namespace Sys2Proof.Machine

/- Powers of two. -/

theorem pow2_sub_of_lt {a b : Nat} (h : a < b) : pow2 ((a : Int) - b) = mkRat 1 (2 ^ (b - a)) := by
  have hexp : (-((a : Int) - b)).toNat = b - a := by omega
  rw [pow2, if_neg (by omega), hexp]

theorem pow2_sub_of_le {a b : Nat} (h : b ≤ a) : pow2 ((a : Int) - b) = mkRat (2 ^ (a - b)) 1 := by
  have hexp : ((a : Int) - b).toNat = a - b := by omega
  have hcast : ((2 ^ (a - b) : Nat) : Int) = 2 ^ (a - b) := Int.natCast_pow 2 (a - b)
  rw [pow2, if_pos (by omega), hexp, Rat.mkRat_one, ← hcast, Rat.intCast_natCast]

/- Scale bytes. -/

/-- A byte other than 0xFF is the power of two of its unbiased exponent. -/
theorem scaleVal_e8m0 {c : Nat} (h : c ≤ 0xFE) : scaleVal .e8m0 c = some (pow2 ((c : Int) - (127 : Nat))) := by
  have hbyte : c % 256 = c := Nat.mod_eq_of_lt (by omega)
  rw [scaleVal, hbyte, if_neg (by omega), Int.cast_ofNat_Int]

theorem scaleVal_e8m0_nan : scaleVal .e8m0 0xFF = none := rfl

/- Two's complement. -/

theorem signedOf_of_lt_half {w c : Nat} (h : c < 2 ^ (w - 1)) : signedOf w c = c := by
  have hwidth : 2 ^ (w - 1) ≤ 2 ^ w := Nat.pow_le_pow_right (by omega) (Nat.sub_le w 1)
  rw [signedOf, Nat.mod_eq_of_lt (Nat.lt_of_lt_of_le h hwidth), if_pos h]

theorem signedOf_of_half_le {w c : Nat} (hhalf : 2 ^ (w - 1) ≤ c) (h : c < 2 ^ w) : signedOf w c = (c : Int) - (2 ^ w : Nat) := by
  rw [signedOf, Nat.mod_eq_of_lt h, if_neg (Nat.not_lt.mpr hhalf)]

/-- A code of an integer format is the number of its two's-complement value `z`; its zero is positive, and no code is an infinity
or a NaN. -/
theorem decodeFmt_of_isInt {f : Fmt} {c : Nat} {z : Int} (hint : fmtIsInt f = true) (hz : signedOf (fmtWidth f) c = z) :
    decodeFmt f c = if z = 0 then .zero false else .fin (z : Rat) := by
  simp only [decodeFmt, hint, hz, if_true]

end Sys2Proof.Machine

open Sys2Proof Sys2Proof.Machine

/-- Settles O15: an E8M0 byte splits at the bias into the two signs of its exponent, and an integer code at half of its range
into the two signs of its two's-complement value. -/
theorem numberCodesHaveTheirValues : Obligations.NumberCodesHaveTheirValues := by
  unfold Obligations.NumberCodesHaveTheirValues
  refine ⟨⟨fun c hc => ?scaleBelowOne, fun c hbias hc => ?scaleFromOne, scaleVal_e8m0_nan⟩, fun c hc => ?int8NonNeg,
    fun c hhalf hc => ?int8Neg, fun c hc => ?int4NonNeg, fun c hhalf hc => ?int4Neg⟩
  case scaleBelowOne => rw [scaleVal_e8m0 (by omega), pow2_sub_of_lt hc]
  case scaleFromOne => rw [scaleVal_e8m0 hc, pow2_sub_of_le hbias]
  case int8NonNeg => exact decodeFmt_of_isInt rfl (signedOf_of_lt_half (w := 8) (by omega))
  case int8Neg => exact decodeFmt_of_isInt rfl (signedOf_of_half_le (w := 8) hhalf (by omega))
  case int4NonNeg => exact decodeFmt_of_isInt rfl (signedOf_of_lt_half (w := 4) (by omega))
  case int4Neg => exact decodeFmt_of_isInt rfl (signedOf_of_half_le (w := 4) hhalf (by omega))
end

section
/-! SUPPORT. Rows of a column (R17, R261): the function of R261 over any ascending holes, its range, the logical row of the row that
it gives, and the statement that the model's map of rows is that function. -/

namespace Sys2Proof.Machine

/- The function of R261. -/

/-- R261's function over any ascending holes: from north to south, each hole at or above the row reached pushes it one south. -/
def rowPastHoles (holes : List Nat) (y : Nat) : Nat := holes.foldl (fun p h => if h ≤ p then p + 1 else p) y

@[simp] theorem rowPastHoles_nil (y : Nat) : rowPastHoles [] y = y := rfl

theorem rowPastHoles_cons_of_le {h y : Nat} (hs : List Nat) (hle : h ≤ y) : rowPastHoles (h :: hs) y = rowPastHoles hs (y + 1) := by
  rw [rowPastHoles, List.foldl_cons, if_pos hle, rowPastHoles]

theorem rowPastHoles_cons_of_lt {h y : Nat} (hs : List Nat) (hlt : y < h) : rowPastHoles (h :: hs) y = rowPastHoles hs y := by
  rw [rowPastHoles, List.foldl_cons, if_neg (Nat.not_le.mpr hlt), rowPastHoles]

/-- A row north of every hole stays where it is. -/
theorem rowPastHoles_of_forall_lt {holes : List Nat} {y : Nat} (hlt : ∀ h ∈ holes, y < h) : rowPastHoles holes y = y := by
  induction holes with
  | nil => rfl
  | cons h hs ih =>
    rw [rowPastHoles_cons_of_lt hs (hlt h List.mem_cons_self), ih fun g hg => hlt g (List.mem_cons_of_mem h hg)]

theorem rowPastHoles_bounds (holes : List Nat) (y : Nat) : y ≤ rowPastHoles holes y ∧ rowPastHoles holes y ≤ y + holes.length := by
  induction holes generalizing y with
  | nil => exact ⟨Nat.le_refl y, Nat.le_refl y⟩
  | cons h hs ih =>
    rw [List.length_cons]
    rcases Nat.lt_or_ge y h with hlt | hle
    · have := ih y
      rw [rowPastHoles_cons_of_lt hs hlt]
      omega
    · have := ih (y + 1)
      rw [rowPastHoles_cons_of_le hs hle]
      omega

/- The rows that are no holes. -/

/-- With one hole more, at a row north of `f`, one row fewer is in use north of `f`. -/
theorem length_filter_cons_hole {h f : Nat} {hs : List Nat} (hnorth : h < f) (hnew : h ∉ hs) :
    ((List.range f).filter (fun g => !(h :: hs).contains g)).length + 1 = ((List.range f).filter (fun g => !hs.contains g)).length := by
  have hused : h ∈ (List.range f).filter (fun g => !hs.contains g) := by
    simp only [List.mem_filter, List.mem_range, List.contains_eq_mem, hnorth, hnew, decide_false, Bool.not_false, and_self]
  have herase : (List.range f).filter (fun g => !(h :: hs).contains g) = ((List.range f).filter (fun g => !hs.contains g)).erase h := by
    have hnodup : ((List.range f).filter (fun g => !hs.contains g)).Nodup := List.nodup_range.filter _
    rw [List.Nodup.erase_eq_filter hnodup, List.filter_filter]
    simp only [List.contains_cons, Bool.not_or, bne]
  rw [herase, List.length_erase_of_mem hused]
  exact Nat.sub_add_cancel (List.length_pos_of_mem hused)

theorem logRow_eq_some_iff {holes : List Nat} {f y : Nat} :
    logRow holes f = some y ↔ f ∉ holes ∧ ((List.range f).filter (fun g => !holes.contains g)).length = y := by
  by_cases hhole : f ∈ holes
  · rw [logRow, if_pos (List.contains_iff_mem.mpr hhole)]
    exact ⟨nofun, fun ⟨hfree, _⟩ => absurd hhole hfree⟩
  · rw [logRow, if_neg fun hmem => hhole (List.contains_iff_mem.mp hmem), Option.some.injEq, and_iff_right hhole]

/-- A row north of every hole is the logical row of its own number. -/
theorem logRow_of_forall_lt {holes : List Nat} {y : Nat} (hlt : ∀ h ∈ holes, y < h) : logRow holes y = some y := by
  have hfree : ∀ g, g ≤ y → g ∉ holes := fun g hg hmem => Nat.not_lt.mpr hg (hlt g hmem)
  have hkept : (List.range y).filter (fun g => !holes.contains g) = List.range y :=
    List.filter_eq_self.mpr fun g hg => by
      simpa only [List.contains_eq_mem, Bool.not_eq_true', decide_eq_false_iff_not] using hfree g (Nat.le_of_lt (List.mem_range.mp hg))
  rw [logRow_eq_some_iff, hkept, List.length_range]
  exact ⟨hfree y (Nat.le_refl y), rfl⟩

/-- The row that R261 gives is no hole, and exactly `y` of the rows north of it are no holes: its logical row is `y`. -/
theorem logRow_rowPastHoles {holes : List Nat} (hasc : holes.Pairwise (· < ·)) (y : Nat) :
    logRow holes (rowPastHoles holes y) = some y := by
  induction holes generalizing y with
  | nil => exact logRow_of_forall_lt fun h hmem => absurd hmem List.not_mem_nil
  | cons h hs ih =>
    obtain ⟨hfirst, hasc⟩ := List.pairwise_cons.mp hasc
    rcases Nat.lt_or_ge y h with hlt | hle
    case inl =>
      have hall : ∀ g ∈ h :: hs, y < g := List.forall_mem_cons.mpr ⟨hlt, fun g hg => Nat.lt_trans hlt (hfirst g hg)⟩
      rw [rowPastHoles_of_forall_lt hall, logRow_of_forall_lt hall]
    case inr =>
      obtain ⟨hfree, hcount⟩ := logRow_eq_some_iff.mp (ih hasc (y + 1))
      have hnorth : h < rowPastHoles hs (y + 1) := Nat.lt_of_le_of_lt hle (rowPastHoles_bounds hs (y + 1)).1
      have hone := length_filter_cons_hole hnorth fun hmem => Nat.lt_irrefl h (hfirst h hmem)
      rw [rowPastHoles_cons_of_le hs hle, logRow_eq_some_iff]
      exact ⟨List.not_mem_cons_of_ne_of_not_mem (Nat.ne_of_gt hnorth) hfree, by omega⟩

/-- The map of rows inverts the map from physical to logical rows. -/
theorem physRow_of_logRow {holes : List Nat} {f y : Nat} (hf : f < 60) (hlog : logRow holes f = some y) : physRow holes y = f := by
  obtain ⟨hfree, hcount⟩ := logRow_eq_some_iff.mp hlog
  have hsplit : List.range 60 = List.range f ++ f :: List.range' (f + 1) (59 - f) := by
    have hsum : f + (59 - f + 1) = 60 := by omega
    rw [← List.range'_succ, List.range_eq_range', List.range_eq_range', ← hsum, ← List.range'_append_1, Nat.zero_add]
  have hkept : (!holes.contains f) = true := by
    simpa only [List.contains_eq_mem, Bool.not_eq_true', decide_eq_false_iff_not] using hfree
  rw [physRow, hsplit, List.filter_append, List.filter_cons, if_pos hkept, ← hcount, List.getD_eq_getElem?_getD,
    List.getElem?_append_right (Nat.le_refl _), Nat.sub_self, List.getElem?_cons_zero, Option.getD_some]

/-- The model's map of rows is R261's function, for ascending holes and a row that they leave within the column. -/
theorem physRow_eq_rowPastHoles {holes : List Nat} (hasc : holes.Pairwise (· < ·)) {y : Nat} (hy : y + holes.length < 60) :
    physRow holes y = rowPastHoles holes y :=
  physRow_of_logRow (Nat.lt_of_le_of_lt (rowPastHoles_bounds holes y).2 hy) (logRow_rowPastHoles hasc y)

theorem physRow_bounds {holes : List Nat} (hasc : holes.Pairwise (· < ·)) {y : Nat} (hy : y + holes.length < 60) :
    y ≤ physRow holes y ∧ physRow holes y ≤ y + holes.length := by
  rw [physRow_eq_rowPastHoles hasc hy]
  exact rowPastHoles_bounds holes y

theorem pairwise_lt_four {h0 h1 h2 h3 : Nat} (h01 : h0 < h1) (h12 : h1 < h2) (h23 : h2 < h3) : [h0, h1, h2, h3].Pairwise (· < ·) := by
  simp only [List.pairwise_cons, List.mem_cons, List.not_mem_nil, or_false, forall_eq_or_imp, forall_eq, false_implies,
    implies_true, and_true, List.Pairwise.nil]
  omega

end Sys2Proof.Machine

open Sys2Proof Sys2Proof.Machine

/-- Settles O14: for ascending holes the model's map of rows is R261's function, which leaves a row north of every hole in place and
moves a row south by at most the number of holes. -/
theorem physicalRowsFollowTheHoles : Obligations.PhysicalRowsFollowTheHoles := by
  unfold Obligations.PhysicalRowsFollowTheHoles
  intro physical
  refine ⟨fun h0 h1 h2 h3 y h01 h12 h23 _ hy => ?rows, ⟨rfl, fun y hy => ?healthy⟩, fun h0 h1 h2 h3 y h01 h12 h23 _ hy => ?range,
    fun h0 h1 h2 h3 g0 g1 g2 g3 y h01 h12 h23 _ g01 g12 g23 _ hy => ?twoColumns⟩
  case rows => exact physRow_eq_rowPastHoles (pairwise_lt_four h01 h12 h23) (Nat.add_lt_add_right hy 4)
  case healthy =>
    have hnorth : ∀ h ∈ [56, 57, 58, 59], y < h := by
      simp only [List.mem_cons, List.not_mem_nil, or_false, forall_eq_or_imp, forall_eq]
      omega
    rw [physRow_eq_rowPastHoles (by decide) (Nat.add_lt_add_right hy 4), rowPastHoles_of_forall_lt hnorth]
  case range => exact physRow_bounds (pairwise_lt_four h01 h12 h23) (Nat.add_lt_add_right hy 4)
  case twoColumns =>
    have hh := physRow_bounds (pairwise_lt_four h01 h12 h23) (Nat.add_lt_add_right hy 4)
    have hg := physRow_bounds (pairwise_lt_four g01 g12 g23) (Nat.add_lt_add_right hy 4)
    exact Nat.le_trans hh.2 (Nat.add_le_add_right hg.1 4)
end

section
/-! SUPPORT. Frames and invariants of all commands, read off `exec_keeps`: the parts outside a command's `changes` stand, and the forms
that `Keeps` names are kept. -/

namespace Sys2Proof.Machine

/-- The parts of `t` whose numbers are in `W`, the other parts of `s`, and the queue of commands of `s`. -/
def State.patched (W : Nat) (s t : State) : State where
  time := bif W.testBit 0 then t.time else s.time
  dev := bif W.testBit 1 then t.dev else s.dev
  sec := bif W.testBit 2 then t.sec else s.sec
  spdm := bif W.testBit 3 then t.spdm else s.spdm
  fns := bif W.testBit 4 then t.fns else s.fns
  bays := bif W.testBit 5 then t.bays else s.bays
  cores := bif W.testBit 6 then t.cores else s.cores
  tiles := bif W.testBit 7 then t.tiles else s.tiles
  columns := bif W.testBit 8 then t.columns else s.columns
  stackTab := bif W.testBit 9 then t.stackTab else s.stackTab
  ports := bif W.testBit 10 then t.ports else s.ports
  fabric := bif W.testBit 11 then t.fabric else s.fabric
  power := bif W.testBit 12 then t.power else s.power
  dbg := bif W.testBit 13 then t.dbg else s.dbg
  life := bif W.testBit 14 then t.life else s.life
  ictl := bif W.testBit 15 then t.ictl else s.ictl
  host := bif W.testBit 16 then t.host else s.host
  stackMem := bif W.testBit 17 then t.stackMem else s.stackMem
  spadMem := bif W.testBit 18 then t.spadMem else s.spadMem
  spadPoison := bif W.testBit 19 then t.spadPoison else s.spadPoison
  spadFlaws := bif W.testBit 20 then t.spadFlaws else s.spadFlaws
  reports := bif W.testBit 21 then t.reports else s.reports
  notices := bif W.testBit 22 then t.notices else s.notices
  valley := bif W.testBit 23 then t.valley else s.valley
  repairs := bif W.testBit 24 then t.repairs else s.repairs
  draws := bif W.testBit 25 then t.draws else s.draws
  slotWork := bif W.testBit 26 then t.slotWork else s.slotWork
  pending := s.pending
  itemStale := bif W.testBit 28 then t.itemStale else s.itemStale

theorem eq_bif_of_kept {A : Type} {b : Bool} {x y : A} (h : b = false → x = y) : x = bif b then x else y := by
  cases b with
  | false => exact h rfl
  | true => rfl

/-- A state that keeps all but the parts in `W` is the one before with those parts replaced. -/
theorem Keeps.eq_patched {W : Nat} {s t : State} (k : Keeps W s t) : t = s.patched W t := by
  cases t
  simp only [State.patched, State.mk.injEq]
  exact ⟨eq_bif_of_kept k.time, eq_bif_of_kept k.dev, eq_bif_of_kept k.sec, eq_bif_of_kept k.spdm, eq_bif_of_kept k.fns,
    eq_bif_of_kept k.bays, eq_bif_of_kept k.cores, eq_bif_of_kept k.tiles, eq_bif_of_kept k.columns, eq_bif_of_kept k.stackTab,
    eq_bif_of_kept k.ports, eq_bif_of_kept k.fabric, eq_bif_of_kept k.power, eq_bif_of_kept k.dbg, eq_bif_of_kept k.life,
    eq_bif_of_kept k.ictl, eq_bif_of_kept k.host, eq_bif_of_kept k.stackMem, eq_bif_of_kept k.spadMem, eq_bif_of_kept k.spadPoison,
    eq_bif_of_kept k.spadFlaws, eq_bif_of_kept k.reports, eq_bif_of_kept k.notices, eq_bif_of_kept k.valley, eq_bif_of_kept k.repairs,
    eq_bif_of_kept k.draws, eq_bif_of_kept k.slotWork, k.pending, eq_bif_of_kept k.itemStale⟩

/-- A command writes its `changes` and nothing else. -/
theorem exec_eq_patched {i : Instr} {s t : State} (h : exec i s = .next t) : t = s.patched (changes i) t := (exec_keeps h).eq_patched

/-- A step keeps the forms that `Keeps` names, whatever command is in front. -/
theorem step_keeps_all {s t : State} (h : step s = .next t) : ∃ W rest, Keeps W { s with pending := rest } t := by
  rcases step_keeps h with rfl | ⟨i, rest, _, k⟩
  · exact ⟨0, t.pending, Keeps.refl 0 t⟩
  · exact ⟨changes i, rest, k⟩

/- Device time. -/

/-- The parts other than device time. -/
def allButTime : Nat := 402653174

/-- What a slot boundary does once the time has moved leaves the time. -/
theorem slotBoundary_tail_time (s : State) : s.slotBoundary.tail.time = (s.time / 2000 + 1) * 2000 := by
  unfold State.slotBoundary
  extract_lets time isolated dev s1
  have hbays : Keeps allButTime s1 ((List.range 12).foldl (fun t b => t.releaseHeld b) s1) :=
    (Keeps.refl allButTime s1).foldl fun _ _ ht => State.releaseHeld_keeps rfl ht
  exact (State.tail_keeps rfl (State.settle_keeps rfl hbays)).time rfl

/-- A module cold reset starts device time at 0. -/
theorem coldStart_time (s : State) (cause : Nat) (sref : Bool) : (s.coldStart cause sref).time = 0 := by
  unfold State.coldStart
  extract_lets s1 r aux kept dev spdm1 spdm2 fabric power t
  split
  · exact (State.railsOn_keeps (W := allButTime) rfl (Keeps.refl allButTime t)).time rfl
  · rfl

theorem writeStops_time (s : State) (kind : Option Nat) : (s.writeStops kind).time = s.time :=
  (State.writeStops_keeps (W := allButTime) rfl (Keeps.refl allButTime s)).time rfl

theorem mainInputReturn_time {s t : State} (h : exec .mainInputReturn s = .next t) : t.time = s.time ∨ t.time = 0 := by
  obtain rfl := Host.Outcome.next.inj h
  split
  · exact .inr (coldStart_time _ _ _)
  · exact .inl rfl

theorem modResetN_time {s t : State} {pulse : ResetPulse} (h : exec (.modResetN pulse) s = .next t) : t.time = s.time ∨ t.time = 0 := by
  obtain rfl := Host.Outcome.next.inj h
  split
  · exact .inl rfl
  · dsimp only
    split
    · exact .inl (writeStops_time s pulse.writing)
    · exact .inr (coldStart_time _ _ _)

theorem moduleColdReset_time {s t : State} {release : ColdRelease} (h : exec (.moduleColdReset release) s = .next t) :
    t.time = s.time ∨ t.time = 0 := by
  obtain rfl := Host.Outcome.next.inj h
  split
  · exact .inr (coldStart_time _ _ _)
  · exact .inl rfl

end Sys2Proof.Machine

open Sys2Proof Sys2Proof.Machine

/-- Settles O4: `Keeps` has the canonical form of both memories, which the queue of commands is no part of. -/
theorem everyStepKeepsMemoriesCanonical : Obligations.EveryStepKeepsMemoriesCanonical := by
  unfold Obligations.EveryStepKeepsMemoriesCanonical
  intro s t hstack hspad h
  obtain ⟨_, _, k⟩ := step_keeps_all h
  exact ⟨k.canonStack hstack, k.canonSpad hspad⟩

/-- Settles O5: `Keeps` has the form of the interrupt sources. -/
theorem everyStepKeepsSourcesSound : Obligations.EveryStepKeepsSourcesSound := by
  unfold Obligations.EveryStepKeepsSourcesSound
  intro s t hsound h
  obtain ⟨_, _, k⟩ := step_keeps_all h
  exact k.sound hsound

/-- Settles O6: `Keeps` has the burned fuses of both banks. -/
theorem noStepClearsAFuse : Obligations.NoStepClearsAFuse := by
  unfold Obligations.NoStepClearsAFuse
  intro s t h
  obtain ⟨_, _, k⟩ := step_keeps_all h
  exact ⟨k.operatorBank, k.floorBank⟩

/-- Settles O3: `Keeps` has the queue of commands. -/
theorem noCommandTouchesTheQueue : Obligations.NoCommandTouchesTheQueue := by
  unfold Obligations.NoCommandTouchesTheQueue
  intro i s t h
  exact (exec_keeps h).pending

/-- Settles O9: a slot boundary moves the time and all it does then leaves it, a module cold reset starts from 0, and the time is outside
the `changes` of every other command. -/
theorem timeMovesOnlyAtSlotBoundariesAndColdResets : Obligations.TimeMovesOnlyAtSlotBoundariesAndColdResets := by
  unfold Obligations.TimeMovesOnlyAtSlotBoundariesAndColdResets
  intro i s t h
  have k := exec_keeps h
  cases i with dsimp only [changes] at k
  | ridgeSlotBoundary =>
    obtain rfl := Host.Outcome.next.inj h
    exact slotBoundary_tail_time s
  | mainInputReturn => exact mainInputReturn_time h
  | modResetN _ => exact modResetN_time h
  | moduleColdReset _ => exact moduleColdReset_time h
  | _ => exact k.time rfl

/-- Settles O10: sessions and streams are outside the `changes` of the commands that are not listed. -/
theorem onlySessionAndResetCommandsChangeSessions : Obligations.OnlySessionAndResetCommandsChangeSessions := by
  unfold Obligations.OnlySessionAndResetCommandsChangeSessions
  intro i s t h
  have k := exec_keeps h
  cases i with dsimp only [changes] at k
  | fwDrainComplete _ | mainInputReturn | modResetN _ | moduleColdReset _ | ideIntegrityFailure _ | getVersion _
  | getCapabilities _ _ | negotiateAlgorithms _ _ _ _ _ | getDigests _ | getCertificate _ _ _ _
  | challenge _ _ _ | getMeasurements _ _ _ _ | keyExchange _ _ _ | spdmFinish _ _ | keyUpdate _ | heartbeat _
  | sessionHeartbeatExpiry _ | endSession _ | setCertificate _ _ _ | subscribeEventTypes _ _ | keyProg _ _ _ _ _ _
  | kSetGo _ _ _ _ _ | getTdispVersion _ _ | getTdispCapabilities _ _ | lockInterface _ _ _
  | getInterfaceReport _ _ _ _ | getInterfaceState _ _ | startInterface _ _ _ | stopInterface _ _ => trivial
  | _ => exact k.spdm rfl

/-- Settles O11: `Keeps` has the held snapshot for every command without number 29 in its `changes`. -/
theorem heldSnapshotsStayUntilReleased : Obligations.HeldSnapshotsStayUntilReleased := by
  unfold Obligations.HeldSnapshotsStayUntilReleased
  intro i s t g h hheld
  have k := exec_keeps h
  cases i with dsimp only [changes] at k
  | snapshotRelease _ | snapshotHoldExpiry | mainInputReturn | modResetN _ | moduleColdReset _ => trivial
  | _ => exact k.held rfl g hheld

/-- Settles O54: each command of the groups writes only its `changes`, and the parts a group keeps are outside them. -/
theorem enginesAndTransfersChangeOnlyTheirParts : Obligations.EnginesAndTransfersChangeOnlyTheirParts := by
  unfold Obligations.EnginesAndTransfersChangeOnlyTheirParts
  intro i s t h
  have k := exec_keeps h
  have e := exec_eq_patched h
  cases i with dsimp only [changes] at k e
  | matrixWorkOrder _ | fusedChain _ | sparProgram _ | softmax _ | partialState _ | mergeStates _ | applyState _
  | layerNorm _ | rmsNorm _ | routerSelect _ | routerAdmit _ | routerCombine _ | exitTest _
  | remoteScratchpadAccess _ _ _ _ _ | attend _ | pageCopy _ =>
    exact ⟨k.time rfl, k.dev rfl, k.sec rfl, k.spdm rfl, k.bays rfl, k.ports rfl, k.fabric rfl, k.power rfl, k.reports rfl,
      k.notices rfl, k.valley rfl⟩
  | dmaCopy _ _ _ _ | dmaGather _ _ _ _ | dmaScatter _ _ _ _ | dmaFill _ _ _ _ =>
    exact ⟨k.time rfl, k.dev rfl, k.sec rfl, k.spdm rfl, k.bays rfl, k.fabric rfl, k.power rfl, k.reports rfl, k.notices rfl,
      k.valley rfl⟩
  | arrivalSignal _ _ _ _ => exact e
  | valleyDispatch _ _ _ | valleyReturn _ _ _ =>
    exact ⟨k.time rfl, k.dev rfl, k.sec rfl, k.spdm rfl, k.bays rfl, k.fabric rfl, k.power rfl, k.spadMem rfl, k.reports rfl,
      k.notices rfl, k.itemStale rfl⟩
  | valleySegment _ | valleyDone _ =>
    exact ⟨k.time rfl, k.dev rfl, k.sec rfl, k.spdm rfl, k.fabric rfl, k.power rfl, k.reports rfl, k.notices rfl⟩
  | eavePartialReturn _ => exact e
  | _ => trivial

/-- Settles O55: each command of the groups writes only its `changes`, and the parts a group keeps are outside them. -/
theorem queueAndCoreCommandsChangeOnlyTheirParts : Obligations.QueueAndCoreCommandsChangeOnlyTheirParts := by
  unfold Obligations.QueueAndCoreCommandsChangeOnlyTheirParts
  intro i s t h
  have k := exec_keeps h
  have e := exec_eq_patched h
  cases i with dsimp only [changes] at k e
  | sqTailDoorbell _ _ _ _ | cqHeadDoorbell _ _ _ _ | fenceWindowWrite _ _ _ _ | waitTimeout _ _ _ _ =>
    exact ⟨k.time rfl, k.dev rfl, k.spdm rfl, k.cores rfl, k.fabric rfl, k.power rfl, k.reports rfl, k.valley rfl,
      k.itemStale rfl⟩
  | entryFetch _ _ =>
    exact ⟨k.time rfl, k.spdm rfl, k.fabric rfl, k.power rfl, k.reports rfl, k.notices rfl, k.valley rfl, k.itemStale rfl⟩
  | launch _ _ | copyStart _ _ | fenceSignal _ _ | barrierStart _ _ | readRetained _ | queueState _ =>
    exact ⟨k.time rfl, k.spdm rfl, k.cores rfl, k.fabric rfl, k.power rfl, k.reports rfl, k.notices rfl, k.valley rfl,
      k.itemStale rfl⟩
  | launchReadsComplete _ _ _ =>
    exact ⟨k.time rfl, k.dev rfl, k.spdm rfl, k.fabric rfl, k.power rfl, k.reports rfl, k.notices rfl, k.valley rfl,
      k.itemStale rfl⟩
  | courseNodeRead _ _ _ | nodeDispatch _ _ _ _ | syncReport _ =>
    exact ⟨k.time rfl, k.dev rfl, k.spdm rfl, k.fabric rfl, k.power rfl, k.reports rfl, k.valley rfl, k.itemStale rfl⟩
  | workOrderArrive _ _ => exact e
  | workOrderStart _ => exact e
  | workOrderComplete _ _ _ _ | counterWaitTimeout _ =>
    exact ⟨k.time rfl, k.dev rfl, k.sec rfl, k.spdm rfl, k.bays rfl, k.ports rfl, k.fabric rfl, k.power rfl, k.notices rfl,
      k.valley rfl, k.itemStale rfl⟩
  | workOrderReport _ =>
    exact ⟨k.time rfl, k.dev rfl, k.spdm rfl, k.cores rfl, k.fabric rfl, k.power rfl, k.valley rfl, k.itemStale rfl⟩
  | endNotice _ =>
    exact ⟨k.time rfl, k.dev rfl, k.sec rfl, k.spdm rfl, k.fabric rfl, k.power rfl, k.valley rfl, k.itemStale rfl⟩
  | syncArrive _ => exact e
  | syncRelease _ _ _ _ =>
    exact ⟨k.time rfl, k.dev rfl, k.spdm rfl, k.fabric rfl, k.power rfl, k.notices rfl, k.valley rfl, k.itemStale rfl⟩
  | copyComplete _ _ _ =>
    exact ⟨k.time rfl, k.dev rfl, k.spdm rfl, k.fabric rfl, k.power rfl, k.reports rfl, k.notices rfl, k.valley rfl⟩
  | fenceWait _ _ | cancelStart _ _ | resetQueue _ =>
    exact ⟨k.time rfl, k.spdm rfl, k.cores rfl, k.fabric rfl, k.power rfl, k.reports rfl, k.valley rfl, k.itemStale rfl⟩
  | completionPathLost _ _ =>
    exact ⟨k.time rfl, k.dev rfl, k.spdm rfl, k.cores rfl, k.fabric rfl, k.power rfl, k.reports rfl, k.notices rfl,
      k.valley rfl, k.itemStale rfl⟩
  | _ => trivial

/-- Settles O56: each command of the groups writes only its `changes`, and the parts a group keeps are outside them. -/
theorem fabricAndCollectiveCommandsChangeOnlyTheirParts : Obligations.FabricAndCollectiveCommandsChangeOnlyTheirParts := by
  unfold Obligations.FabricAndCollectiveCommandsChangeOnlyTheirParts
  intro i s t h
  have k := exec_keeps h
  have e := exec_eq_patched h
  cases i with dsimp only [changes] at k e
  | portTraining _ _ _ _ _ _ _ _ | portHoldExpiry _ | enumMessage _ | topologyMessage _ | rootTakeover | portRetrained _ _ =>
    exact ⟨k.time rfl, k.dev rfl, k.sec rfl, k.spdm rfl, k.power rfl, k.notices rfl, k.valley rfl, k.itemStale rfl⟩
  | trainingRetry _ => exact e
  | laneMarginal _ _ | laneLost _ _ | dataFlit _ _ _ | nakFlit _ _ _ | replayTimeout _ | farForward _ _ => exact e
  | idleFlit _ _ _ => exact e
  | farWrite _ | farRead _ | farAtomicAdd _ | farValley _ =>
    exact ⟨k.time rfl, k.dev rfl, k.spdm rfl, k.fabric rfl, k.power rfl, k.reports rfl⟩
  | farWriteAck _ | farReadData _ | farAtomicAck _ | farValleyAck _ | allReduce _ _ | reduceScatter _ _ | allGather _ _
  | allToAll _ _ | broadcast _ _ | remoteAdd _ _ | collGrant _ | collData _ | collAbort _ | frameReduce _ _ _ =>
    exact ⟨k.time rfl, k.dev rfl, k.sec rfl, k.spdm rfl, k.fabric rfl, k.power rfl, k.notices rfl, k.valley rfl⟩
  | responseTimeout _ _ =>
    exact ⟨k.time rfl, k.dev rfl, k.sec rfl, k.spdm rfl, k.fabric rfl, k.power rfl, k.notices rfl, k.valley rfl,
      k.itemStale rfl⟩
  | snapshotMessage _ => exact e
  | collectiveTimeout _ _ _ =>
    exact ⟨k.time rfl, k.dev rfl, k.sec rfl, k.spdm rfl, k.cores rfl, k.fabric rfl, k.power rfl, k.notices rfl, k.valley rfl,
      k.itemStale rfl⟩
  | frefLost _ =>
    exact ⟨k.time rfl, k.sec rfl, k.spdm rfl, k.power rfl, k.notices rfl, k.valley rfl, k.itemStale rfl⟩
  | _ => trivial

/-- Settles O57: each command of the groups writes only its `changes`, and the parts a group keeps are outside them. -/
theorem managementCommandsChangeOnlyTheirParts : Obligations.ManagementCommandsChangeOnlyTheirParts := by
  unfold Obligations.ManagementCommandsChangeOnlyTheirParts
  intro i s t h
  have k := exec_keeps h
  have e := exec_eq_patched h
  cases i with dsimp only [changes] at k e
  | approvalNonce _ | bayMap _ | fwStage _ | lifetimeRead _ _ | setEpoch _ _ | columnState _ | plannedSlip _
  | restoreStrip _ | restoreQuiesceTimeout | readErrors _ | snapshotStrobe _ | snapshotRead _ | snapshotRelease _
  | traceRead _ | haltBay _ | stepBay _ | resumeBay _ =>
    exact ⟨k.time rfl, k.spdm rfl, k.cores rfl, k.fabric rfl, k.power rfl, k.reports rfl, k.notices rfl, k.valley rfl,
      k.itemStale rfl⟩
  | nonceExpiry => exact e
  | bayCreate _ | bayResize _ | bayDestroy _ | setMode _ | releaseLock _ | setDebug _ | setPolicy _ | lifecycleChange _
  | keySlot _ | fuseWrite _ | certificate _ | bayScrubDone _ | bayReset _ | retireStrip _ =>
    exact ⟨k.time rfl, k.spdm rfl, k.fabric rfl⟩
  | certificateExpiry => exact e
  | ridgeSlotBoundary =>
    exact k.spdm rfl
  | evidenceGo _ | enableQueue _ _ | disableQueue _ _ | restartQueue _ _ | windowOpen _ _ _ _ | windowClose _ _ _ _
  | setupRegisterWrite _ _ _ _ =>
    exact ⟨k.time rfl, k.spdm rfl, k.valley rfl, k.itemStale rfl⟩
  | fwActivate _ | warmReset _ | coldReset _ _ =>
    exact ⟨k.time rfl, k.spdm rfl, k.fabric rfl, k.power rfl⟩
  | drainLimitExpiry =>
    exact ⟨k.time rfl, k.dev rfl, k.spdm rfl, k.fabric rfl, k.power rfl, k.valley rfl, k.itemStale rfl⟩
  | fwDrainComplete _ =>
    exact ⟨k.time rfl, k.fabric rfl⟩
  | coreReset _ | debugAccess _ =>
    exact ⟨k.time rfl, k.spdm rfl, k.fabric rfl, k.power rfl, k.reports rfl, k.notices rfl, k.valley rfl, k.itemStale rfl⟩
  | linkReset _ =>
    exact ⟨k.time rfl, k.spdm rfl, k.power rfl, k.notices rfl, k.valley rfl, k.itemStale rfl⟩
  | rehang _ =>
    exact ⟨k.time rfl, k.spdm rfl, k.cores rfl, k.fabric rfl, k.reports rfl, k.notices rfl, k.valley rfl, k.itemStale rfl⟩
  | rehangCheckDone _ _ _ =>
    exact ⟨k.time rfl, k.dev rfl, k.spdm rfl, k.cores rfl, k.fabric rfl, k.reports rfl, k.notices rfl, k.valley rfl,
      k.itemStale rfl⟩
  | plannedSlipWaitExpiry _ => exact e
  | restoreQuiesce => exact e
  | snapshotHoldExpiry => exact e
  | snapN _ => exact e
  | stepExpiry _ => exact e
  | _ => trivial

/-- Settles O58: each command of the groups writes only its `changes`, and the parts a group keeps are outside them. -/
theorem faultAndPowerEventsChangeOnlyTheirParts : Obligations.FaultAndPowerEventsChangeOnlyTheirParts := by
  unfold Obligations.FaultAndPowerEventsChangeOnlyTheirParts
  intro i s t h
  have k := exec_keeps h
  have e := exec_eq_patched h
  cases i with dsimp only [changes] at k e
  | tileSelfCheckFailure _ _ | tileHeartbeat _ _ _ | slipMeshDrained _ | spareCheckDone _ _ _ | slipMigrationDone _ _
  | stackControllerFailure _ _ | deviceFatal _ | mainInputShutdown _ | temperatureSample _ _ _ =>
    exact ⟨k.time rfl, k.spdm rfl, k.fabric rfl⟩
  | slipRepair _ => exact e
  | spareFullCheck _ => exact e
  | eaveEngineFailure _ =>
    exact ⟨k.time rfl, k.sec rfl, k.spdm rfl, k.ports rfl, k.fabric rfl, k.power rfl, k.notices rfl, k.valley rfl⟩
  | patrolScrubLine _ _ _ _ | rowRepairDone _ _ => exact e
  | refresh _ _ _ | rowRepair _ => exact e
  | memoryHealthRecord _ | linkHealthRecord _ => exact e
  | powerRecord _ =>
    exact ⟨k.time rfl, k.dev rfl, k.sec rfl, k.spdm rfl, k.cores rfl, k.ports rfl, k.fabric rfl, k.reports rfl,
      k.notices rfl, k.valley rfl, k.itemStale rfl⟩
  | capTick _ _ _ => exact e
  | aclkStepSettle _ => exact e
  | powerEmergency _ => exact e
  | emergencyRelease => exact e
  | auxInputLoss => exact e
  | droopTrip _ _ _ => exact e
  | ageingMeasurement _ => exact e
  | domainGate _ => exact e
  | domainWake _ =>
    exact ⟨k.time rfl, k.dev rfl, k.sec rfl, k.spdm rfl, k.cores rfl, k.ports rfl, k.fabric rfl, k.notices rfl, k.valley rfl,
      k.itemStale rfl⟩
  | regulatorFault _ =>
    exact ⟨k.time rfl, k.spdm rfl⟩
  | _ => trivial

/-- Settles O59: each command of the groups writes only its `changes`, and the parts a group keeps are outside them. -/
theorem resetHostAndSessionCommandsChangeOnlyTheirParts : Obligations.ResetHostAndSessionCommandsChangeOnlyTheirParts := by
  unfold Obligations.ResetHostAndSessionCommandsChangeOnlyTheirParts
  intro i s t h
  have k := exec_keeps h
  have e := exec_eq_patched h
  cases i with dsimp only [changes] at k e
  | interruptDelivery _ | ictlDone _ | ictlSoftSet _ | ictlSrcWrite _ _ | ictlMaskWrite _ _ | waitInstruction _ | waitWake _ => exact e
  | msixUnmask _ _ | vfFlr _ | vfEnableCleared _ | vfConfigChange _ _ _ _ _ _ _ _ | deviceWarmReset _ =>
    exact ⟨k.time rfl, k.spdm rfl, k.fabric rfl⟩
  | pfFlr | perst | hotReset _ | pldmFirmwareUpdate _ _ _ =>
    exact ⟨k.time rfl, k.spdm rfl, k.fabric rfl, k.power rfl⟩
  | bootReady _ _ _ => exact e
  | hostReadCompletion _ _ _ _ _ | completionTimeout _ _ _ _ => exact e
  | atsInvalidation _ _ _ _ _ =>
    exact ⟨k.time rfl, k.dev rfl, k.sec rfl, k.spdm rfl, k.bays rfl, k.fabric rfl, k.power rfl, k.reports rfl, k.notices rfl,
      k.valley rfl⟩
  | nonTeeRequest _ _ => exact e
  | ideIntegrityFailure _ | stopInterface _ _ =>
    exact ⟨k.time rfl, k.fabric rfl⟩
  | getVersion _ | getCapabilities _ _ | negotiateAlgorithms _ _ _ _ _ | getDigests _ | getCertificate _ _ _ _
  | spdmFinish _ _ | keyUpdate _ | heartbeat _ | endSession _ | subscribeEventTypes _ _ | keyProg _ _ _ _ _ _
  | kSetGo _ _ _ _ _ | getTdispVersion _ _ | getTdispCapabilities _ _ | getInterfaceReport _ _ _ _ | getInterfaceState _ _ => exact e
  | challenge _ _ _ | getMeasurements _ _ _ _ | keyExchange _ _ _ => exact e
  | sessionHeartbeatExpiry _ => exact e
  | setCertificate _ _ _ => exact e
  | pskExchange _ | pskFinish _ => exact e
  | lockInterface _ _ _ => exact e
  | startInterface _ _ _ => exact e
  | entdaa _ | pldmDiscovery _ | pldmSensorRead _ => exact e
  | setEndpointId _ => exact e
  | lifetimeCommit _ _ => exact e
  | vfEnableSet _ => exact e
  | perstDeasserted => exact e
  | mainInputInRange => exact e
  | _ => trivial

/-- Settles O1, by the two cases of the queue. -/
theorem stepRunsTheFrontCommand : Obligations.StepRunsTheFrontCommand := by
  unfold Obligations.StepRunsTheFrontCommand
  refine ⟨fun s i rest hqueue => ?front, fun s hqueue => ?idle⟩
  case front => simp only [step, hqueue]
  case idle => simp only [step, hqueue]

/-- Settles O2: the meaning of every command is a next state. -/
theorem everyCommandAnswersANextState : Obligations.EveryCommandAnswersANextState := by
  unfold Obligations.EveryCommandAnswersANextState
  intro i s
  cases i with
  | _ => exact ⟨_, rfl⟩
end

section
/-! SUPPORT. Delivery (R462): in a table with rising keys the first source that is due is the lowest-numbered one, and the statement about
delivery. -/

namespace Sys2Proof.Machine

/- Tables with rising keys. -/

theorem keysRising_iff {V : Type} (m : List (Nat × V)) (a : Nat) :
    keysRising a m = true ↔ m.Pairwise (fun x y => x.1 < y.1) ∧ ∀ e ∈ m, a ≤ e.1 := by
  induction m generalizing a with
  | nil => exact ⟨fun _ => ⟨List.Pairwise.nil, nofun⟩, fun _ => rfl⟩
  | cons e m ih =>
    simp only [keysRising, Bool.and_eq_true, decide_eq_true_eq, ih, List.pairwise_cons, List.forall_mem_cons, Nat.succ_le_iff]
    constructor
    · rintro ⟨hfirst, hpair, habove⟩
      exact ⟨⟨habove, hpair⟩, hfirst, fun d hd => Nat.le_of_lt (Nat.lt_of_le_of_lt hfirst (habove d hd))⟩
    · rintro ⟨⟨habove, hpair⟩, hfirst, _⟩
      exact ⟨hfirst, hpair, habove⟩

/-- An entry of a table with distinct keys is what its key reads as. -/
theorem tabGet_of_mem {V : Type} {m : List (Nat × V)} {e : Nat × V} (d : V) (hpair : m.Pairwise (fun x y => x.1 < y.1)) (he : e ∈ m) :
    tabGet m e.1 d = e.2 := by
  induction m with
  | nil => exact absurd he List.not_mem_nil
  | cons x m ih =>
    obtain ⟨habove, hrest⟩ := List.pairwise_cons.mp hpair
    rcases List.mem_cons.mp he with rfl | he
    · exact if_pos rfl
    · exact (if_neg (Nat.ne_of_lt (habove e he))).trans (ih hrest he)

/-- What a key reads as is listed, or is the default. -/
theorem tabGet_mem_or {V : Type} (m : List (Nat × V)) (k : Nat) (d : V) : (k, tabGet m k d) ∈ m ∨ tabGet m k d = d := by
  induction m with
  | nil => exact .inr rfl
  | cons e m ih =>
    by_cases hk : e.1 = k
    · exact .inl (by rw [tabGet, if_pos hk, ← hk]; exact List.mem_cons_self)
    · rw [tabGet, if_neg hk]
      exact ih.imp_left (List.mem_cons_of_mem e)

/- The source that a target takes. -/

variable {s : State} {t n : Nat}

/-- Source `n` is due at target `t`: it is the target's own, enabled and pending (R462). -/
def State.srcDue (s : State) (t n : Nat) : Prop := (s.srcAt n).target = t ∧ (s.srcAt n).enable = true ∧ (s.srcAt n).pending = true

/-- An entry passes the search of `nextSrc` when its source is due. -/
theorem srcDue_iff_of_mem (hsound : s.ictl.Sound) {e : Nat × IctlSrc} (he : e ∈ s.ictl.src) :
    s.srcDue t e.1 ↔ (e.2.target == t && e.2.enable && e.2.pending) = true := by
  have hread : s.srcAt e.1 = e.2 := tabGet_of_mem _ ((keysRising_iff _ 0).mp hsound.1).1 he
  simp only [State.srcDue, hread, Bool.and_eq_true, beq_iff_eq, and_assoc]

/-- A due source is listed, for an unlisted one is not pending. -/
theorem mem_of_srcDue (hdue : s.srcDue t n) : (n, s.srcAt n) ∈ s.ictl.src := by
  rcases tabGet_mem_or s.ictl.src n (srcReset n) with hmem | hreset
  · exact hmem
  · have hpending := hdue.2.2
    rw [State.srcAt, hreset] at hpending
    exact absurd hpending (by simp only [srcReset, Bool.false_eq_true, not_false_eq_true])

theorem nextSrc_eq_none (hsound : s.ictl.Sound) (hnone : ∀ n, ¬ s.srcDue t n) : s.nextSrc t = none := by
  rw [State.nextSrc, Option.map_eq_none_iff, List.find?_eq_none]
  exact fun e he hdue => hnone e.1 ((srcDue_iff_of_mem hsound he).mpr hdue)

/-- The first due source of the table is the lowest-numbered one. -/
theorem nextSrc_eq_some (hsound : s.ictl.Sound) (hdue : s.srcDue t n) (hlow : ∀ m < n, ¬ s.srcDue t m) : s.nextSrc t = some n := by
  have hmem := mem_of_srcDue hdue
  cases hfound : s.ictl.src.find? (fun e => e.2.target == t && e.2.enable && e.2.pending) with
  | none => exact absurd ((srcDue_iff_of_mem hsound hmem).mp hdue) (List.find?_eq_none.mp hfound _ hmem)
  | some e =>
    have hpassed := List.find?_some hfound
    have hedue : s.srcDue t e.1 := (srcDue_iff_of_mem hsound (List.mem_of_find?_eq_some hfound)).mpr hpassed
    have hge : n ≤ e.1 := Nat.le_of_not_lt fun hlt => hlow e.1 hlt hedue
    obtain ⟨_, before, after, hsplit, hbefore⟩ := List.find?_eq_some_iff_append.mp hfound
    have hpair := ((keysRising_iff _ 0).mp hsound.1).1
    rw [hsplit, List.pairwise_append, List.pairwise_cons] at hpair
    obtain ⟨_, ⟨habove, _⟩, _⟩ := hpair
    have hpass := (srcDue_iff_of_mem hsound hmem).mp hdue
    rw [hsplit, List.mem_append, List.mem_cons] at hmem
    rw [State.nextSrc, hfound, Option.map_some]
    rcases hmem with hbef | heq | haft
    · exact absurd hpass (by simpa only [Bool.not_eq_true', Bool.not_eq_true] using hbefore _ hbef)
    · rw [← heq]
    · exact absurd hge (Nat.not_le.mpr (habove _ haft))

/- Delivery. -/

theorem tgtReady_iff (ht : t < 3) : s.tgtReady t = true ↔ (s.tgtAt t).mask = false ∧ (s.tgtAt t).active = 0xFFFF := by
  simp only [State.tgtReady, ht, decide_true, Bool.true_and, Bool.and_eq_true, Bool.not_eq_true', beq_iff_eq]

theorem deliver_of_nextSrc (hready : s.tgtReady t = true) (hnext : s.nextSrc t = some n) :
    s.deliver t = (s.setSrc n { s.srcAt n with pending := false }).setTgt t { s.tgtAt t with active := n, waiting := false } := by
  simp only [State.deliver, hready, hnext, if_true]

theorem deliver_of_none (hnext : s.nextSrc t = none) : s.deliver t = s := by
  simp only [State.deliver, hnext, ite_self]

theorem deliver_of_not_ready (hready : ¬ s.tgtReady t = true) : s.deliver t = s := if_neg hready

theorem execInterruptDelivery_eq : exec (.interruptDelivery t) s = .next (s.deliver t) := rfl

end Sys2Proof.Machine

open Sys2Proof Sys2Proof.Machine

/-- Settles O42: a ready target takes the first due source of the rising table, which is the lowest-numbered one; without one, or not
ready, it takes none. -/
theorem deliveryTakesTheLowestPendingSource : Obligations.DeliveryTakesTheLowestPendingSource := by
  unfold Obligations.DeliveryTakesTheLowestPendingSource
  intro s t hsound ht due takes
  refine ⟨fun n htakes hdue hlow => ?taken, fun hnot => ?unchanged⟩
  case taken => rw [execInterruptDelivery_eq, deliver_of_nextSrc ((tgtReady_iff ht).mpr htakes) (nextSrc_eq_some hsound hdue hlow)]
  case unchanged =>
    rw [execInterruptDelivery_eq]
    rcases hnot with hbusy | hnone
    · rw [deliver_of_not_ready (mt (tgtReady_iff ht).mp hbusy)]
    · rw [deliver_of_none (nextSrc_eq_none hsound hnone)]
end

section
/-! SUPPORT. Where writes land (R29, R33, R241): a stack or a scratchpad in which no error stands takes exactly the bytes of a write, and
a write of a bay's agent meets the stacks and scratchpads of the bay's strips only. -/

namespace Sys2Proof.Machine

/- Writes where no error stands. -/

variable {s : State}

theorem merged_of_latent_nil {k : Nat} (h : (s.stackAt k).latent = []) (line : Nat) : s.merged k line = (s, []) := by
  simp only [State.merged, h, List.any_nil, Bool.false_eq_true, if_false]

theorem mergeLine_of_latent_nil {k : Nat} (h : (s.stackAt k).latent = []) (line : Nat) : s.mergeLine k line = s := by
  rw [State.mergeLine, merged_of_latent_nil h]
  rfl

/-- The stack after a write of whole bytes: its full lines have no poison and no errors. -/
def Stack.rewrittenRange (v : Stack) (off len : Nat) : Stack :=
  { v with poison := v.poison.filter (fun l => decide (l < (fullLines off len 64).1 ∨ (fullLines off len 64).2 ≤ l)),
           latent := v.latent.filter (fun l => decide (l.line < (fullLines off len 64).1 ∨ (fullLines off len 64).2 ≤ l.line)) }

theorem writeStack_of_latent_nil {k : Nat} (h : (s.stackAt k).latent = []) (off : Nat) {bytes : List Byte} (hne : bytes ≠ []) :
    s.writeStack k off bytes =
      { s.setStack k ((s.stackAt k).rewrittenRange off bytes.length) with stackMem := memWrite s.stackMem (k * stackBytes + off) bytes } := by
  have hlen : bytes.length ≠ 0 := mt List.length_eq_zero_iff.mp hne
  simp only [State.writeStack, hlen, if_false, mergeLine_of_latent_nil h, ite_self]
  rfl

theorem writeStack_nil (k off : Nat) : s.writeStack k off [] = s := rfl

theorem mergeWords_of_no_flaws (h : s.spadFlaws = []) (core off len : Nat) : s.mergeWords core off len = s := by
  simp only [State.mergeWords, State.flawsIn, h, List.filter_nil, List.foldl_nil]

/-- The poisoned lines of scratchpads after a write: none in the full lines that it covers. -/
def poisonOutside (poison : List Nat) (core off len : Nat) : List Nat :=
  poison.filter (fun p => decide (p < core * 0x6000 + (fullLines off len 64).1 ∨ core * 0x6000 + (fullLines off len 64).2 ≤ p))

theorem writeSpad_of_no_flaws (h : s.spadFlaws = []) (core off : Nat) {bytes : List Byte} (hne : bytes ≠ []) :
    s.writeSpad core off bytes = { s with
      spadPoison := poisonOutside s.spadPoison core off bytes.length, spadMem := memWrite s.spadMem (core * spadBytes + off) bytes } := by
  have hlen : bytes.length ≠ 0 := mt List.length_eq_zero_iff.mp hne
  simp only [State.writeSpad, hlen, if_false, mergeWords_of_no_flaws h, h, List.filter_nil]
  cases s
  cases h
  rfl

/- Writes of a list of stack ranges. -/

/-- No error stands in any stack. -/
def State.NoLatent (s : State) : Prop := ∀ k, (s.stackAt k).latent = []

theorem noLatent_writeStack (h : s.NoLatent) (k off : Nat) (bytes : List Byte) : (s.writeStack k off bytes).NoLatent := by
  by_cases hne : bytes = []
  · rwa [hne, writeStack_nil]
  · rw [writeStack_of_latent_nil (h k) off hne]
    intro j
    change Stack.latent (tabGet (tabSet _ _ _) _ _) = []
    rw [tabGet_set_eq]
    split
    · simp only [Stack.rewrittenRange, h k, List.filter_nil]
    · exact h j

/-- Every byte of a stack outside `own` reads the same in both states, and so does every byte of a scratchpad. -/
structure StacksKeptOutside (own : Nat → Prop) (s t : State) : Prop where
  stack : ∀ k off, off < stackBytes → ¬ own k → memGet t.stackMem (k * stackBytes + off) = memGet s.stackMem (k * stackBytes + off)
  spad : t.spadMem = s.spadMem

theorem StacksKeptOutside.refl (own : Nat → Prop) (s : State) : StacksKeptOutside own s s := ⟨fun _ _ _ _ => rfl, rfl⟩

theorem StacksKeptOutside.trans {own : Nat → Prop} {s t u : State} (h : StacksKeptOutside own s t) (h' : StacksKeptOutside own t u) :
    StacksKeptOutside own s u :=
  ⟨fun k off hoff hk => (h'.stack k off hoff hk).trans (h.stack k off hoff hk), h'.spad.trans h.spad⟩

/-- A write inside one stack leaves the bytes of the others. -/
theorem stacksKeptOutside_writeStack {own : Nat → Prop} (h : s.NoLatent) {k off : Nat} {bytes : List Byte} (hk : own k)
    (hend : off + bytes.length ≤ stackBytes) : StacksKeptOutside own s (s.writeStack k off bytes) := by
  by_cases hne : bytes = []
  · rw [hne, writeStack_nil]
    exact StacksKeptOutside.refl own s
  · rw [writeStack_of_latent_nil (h k) off hne]
    refine ⟨fun j o ho hj => ?_, rfl⟩
    have hother : j ≠ k := fun heq => hj (heq ▸ hk)
    have hout : ¬ (k * stackBytes + off ≤ j * stackBytes + o ∧ j * stackBytes + o < k * stackBytes + off + bytes.length) := by
      simp only [stackBytes] at *
      omega
    exact (memGet_write _ _ _ _).trans (if_neg hout)

theorem stacksKeptOutside_writePieces {own : Nat → Prop} (pieces : List (Nat × Nat × Nat)) (bytes : List Byte) (h : s.NoLatent)
    (hpieces : ∀ p ∈ pieces, own p.1 ∧ p.2.1 + p.2.2 ≤ stackBytes) : StacksKeptOutside own s (s.writePieces pieces bytes) := by
  induction pieces generalizing s bytes with
  | nil => exact StacksKeptOutside.refl own s
  | cons p rest ih =>
    obtain ⟨k, off, len⟩ := p
    obtain ⟨⟨hk, hend⟩, hrest⟩ := List.forall_mem_cons.mp hpieces
    have hshort : off + (bytes.take len).length ≤ stackBytes := Nat.le_trans (Nat.add_le_add_left (List.length_take_le _ _) off) hend
    exact (stacksKeptOutside_writeStack h hk hshort).trans (ih _ (noLatent_writeStack h k off _) hrest)

/- The regions of a bay. -/

theorem endCheck_ok_iff {off len size : Nat} {r q : Region} :
    endCheck off len size r = .ok q ↔ off < size ∧ off + len ≤ size ∧ r = q := by
  unfold endCheck
  split
  · split <;> simp_all only [Except.ok.injEq, true_and, false_and, reduceCtorEq]
  · simp_all only [false_and, reduceCtorEq]

/-- A region of some length lies in the storage of the bay's strips, or is no storage. -/
def State.regionInBay (s : State) (b len : Nat) : Region → Prop
  | .mem off => off + len ≤ (s.bayAt b).count * 2 * stackBytes
  | .stack k off => s.ownsStrip b (stackStrip k) = true ∧ off + len ≤ stackBytes
  | .spad core off => s.ownsStrip b (coreStrip core) = true ∧ off + len ≤ spadBytes
  | _ => True

theorem ownsStrip_iff {b strip : Nat} :
    s.ownsStrip b strip = true ↔ (s.bayAt b).first ≤ strip ∧ strip < (s.bayAt b).first + (s.bayAt b).count :=
  decide_eq_true_iff

theorem ownsStrip_stackOf {b i : Nat} (hbay : (s.bayAt b).first + (s.bayAt b).count ≤ 12) (hi : i / 2 < (s.bayAt b).count) :
    s.ownsStrip b (stackStrip (s.stackOf b i)) = true := by
  rw [ownsStrip_iff, stackStrip, State.stackOf]
  omega

theorem ownsStrip_coreOf {b i : Nat} (hi : i < 336 * (s.bayAt b).count) : s.ownsStrip b (coreStrip (s.coreOf b i)) = true := by
  rw [ownsStrip_iff, coreStrip, State.coreOf]
  omega

/-- An access that passes the check of R33 stays in its bay. -/
theorem regionInBay_of_resolve {b addr len : Nat} {r : Region} (hbay : (s.bayAt b).first + (s.bayAt b).count ≤ 12)
    (h : s.resolve b addr len = .ok r) : s.regionInBay b len r := by
  simp only [State.resolve] at h
  split at h
  case h_1 => -- bay memory
    split at h
    · cases h
    · obtain ⟨_, hend, rfl⟩ := endCheck_ok_iff.mp h
      exact hend
  case h_2 => -- stack window
    split at h
    · cases h
    · next hfields =>
      obtain ⟨_, hend, rfl⟩ := endCheck_ok_iff.mp h
      have hstrip : bitsOf addr 47 43 / 2 < (s.bayAt b).count := bitsOf_side_div addr ▸ Nat.not_le.mp (not_or.mp hfields).2
      exact ⟨ownsStrip_stackOf hbay hstrip, hend⟩
  case h_3 => -- scratchpad
    split at h
    · cases h
    · next hfields =>
      obtain ⟨_, hend, rfl⟩ := endCheck_ok_iff.mp (coreRegion_region h)
      exact ⟨ownsStrip_coreOf (Nat.not_le.mp (not_or.mp (not_or.mp hfields).2).2), hend⟩
  case h_4 => -- accumulator store
    split at h
    · cases h
    · obtain ⟨_, _, rfl⟩ := endCheck_ok_iff.mp (coreRegion_region h)
      trivial
  case h_5 => -- host IOVA
    obtain ⟨_, _, rfl⟩ := endCheck_ok_iff.mp h
    trivial
  case h_6 => -- fabric window
    split at h
    · cases h
    · obtain ⟨_, _, rfl⟩ := endCheck_ok_iff.mp h
      trivial
  case h_7 => cases h -- reserved

/-- The pieces of a range of bay memory lie in the stacks of the bay's strips. -/
theorem memPieces_inBay {b : Nat} (hbay : (s.bayAt b).first + (s.bayAt b).count ≤ 12) (fuel off len : Nat)
    (hend : off + len ≤ (s.bayAt b).count * 2 * stackBytes) :
    ∀ p ∈ s.memPieces b fuel off len, s.ownsStrip b (stackStrip p.1) = true ∧ p.2.1 + p.2.2 ≤ stackBytes := by
  induction fuel generalizing off len with
  | zero => exact fun _ h => absurd h List.not_mem_nil
  | succ fuel ih =>
    unfold State.memPieces
    split
    · exact fun _ h => absurd h List.not_mem_nil
    · next hlen =>
      have hoff : off < (s.bayAt b).count * 2 * stackBytes := by omega
      have hcount : 0 < (s.bayAt b).count := Nat.pos_of_ne_zero fun hzero => by
        rw [hzero, Nat.zero_mul] at hoff
        exact Nat.not_lt_zero _ hoff
      refine List.forall_mem_cons.mpr ⟨⟨ownsStrip_stackOf hbay (index_div_two_lt _ hcount), ?_⟩, ih _ _ (by omega)⟩
      have hlast : off / 4096 * 4096 + 4095 < (s.bayAt b).count * 2 * stackBytes := by
        simp only [stackBytes] at *
        omega
      have hplace := stackOffset_lt hlast
      have hunit : (off / 4096 * 4096 + 4095) / 4096 = off / 4096 := by omega
      rw [hunit] at hplace
      simp only [State.memPlace]
      omega

theorem stackRanges_inBay {b len : Nat} {r : Region} (hbay : (s.bayAt b).first + (s.bayAt b).count ≤ 12) (hr : s.regionInBay b len r) :
    ∀ p ∈ s.stackRanges b r len, s.ownsStrip b (stackStrip p.1) = true ∧ p.2.1 + p.2.2 ≤ stackBytes := by
  cases r with
  | mem off => exact memPieces_inBay hbay _ off len hr
  | stack k off =>
    simp only [State.stackRanges]
    split
    · exact fun _ h => absurd h List.not_mem_nil
    · exact List.forall_mem_singleton.mpr hr
  | spad _ _ | acc _ _ | host _ | fabric _ _ => exact fun _ h => absurd h List.not_mem_nil

/- Writes of a bay's agent. -/

/-- Every byte of a stack or scratchpad outside the strips of bay `b` of `s` reads the same in both states. -/
structure StorageKeptOutside (s : State) (b : Nat) (t : State) : Prop where
  stack : ∀ k off, off < stackBytes → s.ownsStrip b (stackStrip k) = false →
    memGet t.stackMem (k * stackBytes + off) = memGet s.stackMem (k * stackBytes + off)
  spad : ∀ core off, off < spadBytes → s.ownsStrip b (coreStrip core) = false →
    memGet t.spadMem (core * spadBytes + off) = memGet s.spadMem (core * spadBytes + off)

theorem storageKeptOutside_of_eq {b : Nat} {t : State} (hstack : t.stackMem = s.stackMem) (hspad : t.spadMem = s.spadMem) :
    StorageKeptOutside s b t :=
  ⟨fun _ _ _ _ => by rw [hstack], fun _ _ _ _ => by rw [hspad]⟩

theorem storageKeptOutside_writePieces {b len : Nat} {r : Region} (hbay : (s.bayAt b).first + (s.bayAt b).count ≤ 12) (h : s.NoLatent)
    (hr : s.regionInBay b len r) (bytes : List Byte) : StorageKeptOutside s b (s.writePieces (s.stackRanges b r len) bytes) := by
  have hkept := stacksKeptOutside_writePieces (own := fun k => s.ownsStrip b (stackStrip k) = true) _ bytes h (stackRanges_inBay hbay hr)
  exact ⟨fun k off hoff hk => hkept.stack k off hoff (Bool.not_eq_true _ ▸ hk), fun _ _ _ _ => by rw [hkept.spad]⟩

theorem storageKeptOutside_writeSpad {b core off : Nat} {bytes : List Byte} (h : s.spadFlaws = []) (hne : bytes ≠ [])
    (hr : s.regionInBay b bytes.length (.spad core off)) : StorageKeptOutside s b (s.writeSpad core off bytes) := by
  rw [writeSpad_of_no_flaws h core off hne]
  refine ⟨fun _ _ _ _ => rfl, fun c o ho hc => ?_⟩
  obtain ⟨hown, hend⟩ := hr
  have hother : c ≠ core := fun heq => by rw [heq, hown] at hc; exact absurd hc (by decide)
  have hout : ¬ (core * spadBytes + off ≤ c * spadBytes + o ∧ c * spadBytes + o < core * spadBytes + off + bytes.length) := by
    simp only [spadBytes] at *
    omega
  exact (memGet_write _ _ _ _).trans (if_neg hout)

theorem storageKeptOutside_writeRegion {a : Agent} {r : Region} {bytes : List Byte}
    (hbay : (s.bayAt a.bay).first + (s.bayAt a.bay).count ≤ 12) (h : s.NoLatent) (hflaws : s.spadFlaws = []) (hne : bytes ≠ [])
    (hr : s.regionInBay a.bay bytes.length r) : StorageKeptOutside s a.bay (s.writeRegion a r bytes).1 := by
  cases r with
  | mem off => exact storageKeptOutside_writePieces hbay h hr bytes
  | stack k off => exact storageKeptOutside_writePieces hbay h hr bytes
  | spad core off => exact storageKeptOutside_writeSpad hflaws hne hr
  | acc _ _ | host _ | fabric _ _ => exact storageKeptOutside_of_eq rfl rfl

theorem storageKeptOutside_writeAt (a : Agent) (addr : Nat) (bytes : List Byte) (hbay : (s.bayAt a.bay).first + (s.bayAt a.bay).count ≤ 12)
    (h : s.NoLatent) (hflaws : s.spadFlaws = []) : StorageKeptOutside s a.bay (s.writeAt a addr bytes).1 := by
  unfold State.writeAt
  split
  · exact storageKeptOutside_of_eq rfl rfl
  · next hne =>
    split
    · exact storageKeptOutside_of_eq rfl rfl
    · next hres => exact storageKeptOutside_writeRegion hbay h hflaws hne (regionInBay_of_resolve hbay hres)

theorem ownsStrip_eq_false {b strip : Nat} (h : strip < (s.bayAt b).first ∨ (s.bayAt b).first + (s.bayAt b).count ≤ strip) :
    s.ownsStrip b strip = false := by
  rw [← Bool.not_eq_true, ownsStrip_iff]
  omega

/- A remote write. -/

theorem remoteAccess_write {core off : Nat} {data : List Byte} (hfits : off + data.length ≤ spadBytes)
    (howned : (s.stripOwner (coreStrip core)).isSome = true) (hawake : s.coreAsleep core = false) :
    s.remoteAccess core off 0 true data = s.raced (s.writeSpad core off data) := by
  have hgoes : ¬ (spadBytes < off + data.length ∨ (s.stripOwner (coreStrip core)).isNone ∨ s.coreAsleep core) := by
    rintro (hlong | hfree | hasleep)
    · exact absurd hfits (Nat.not_le.mpr hlong)
    · rw [Option.isNone_iff_eq_none.mp hfree] at howned
      exact absurd howned (by decide)
    · exact absurd hasleep (Bool.not_eq_true _ ▸ hawake)
  simp only [State.remoteAccess, hgoes, if_false, if_true]

end Sys2Proof.Machine

open Sys2Proof Sys2Proof.Machine

/-- Settles O13: an access that passes the check of R33 names storage of the bay's strips, and a write there changes no byte elsewhere. -/
theorem bayWritesStayInTheirBay : Obligations.BayWritesStayInTheirBay := by
  unfold Obligations.BayWritesStayInTheirBay
  intro s t a addr bytes e v hbay hlatent hflaws hwrite
  have hkept := storageKeptOutside_writeAt a addr bytes hbay hlatent hflaws
  rw [hwrite] at hkept
  exact ⟨fun k off hoff _ hk => hkept.stack k off hoff (ownsStrip_eq_false hk),
    fun core off hoff hcore => hkept.spad core off hoff (ownsStrip_eq_false hcore)⟩

/-- Settles O19: without errors in scratchpads nothing is merged, so the write is that of its bytes. -/
theorem remoteWriteStoresItsBytes : Obligations.RemoteWriteStoresItsBytes := by
  unfold Obligations.RemoteWriteStoresItsBytes
  intro s core off data hne hfits howned hawake hflaws
  refine ⟨s.writeSpad core off data, congrArg Host.Outcome.next (remoteAccess_write hfits howned hawake), fun a => ?bytes, ?frame⟩
  case bytes => rw [raced_spadMem, writeSpad_of_no_flaws hflaws core off hne, memGet_write]
  case frame => rw [writeSpad_of_no_flaws hflaws core off hne]
end

section
/-! SUPPORT. Module cold resets (R481, R482): the values that one leaves, which the return of the rails keeps, and the statement about them. -/

namespace Sys2Proof.Machine

variable {s t : State}

/-- What a module cold reset of a cause other than the return of the main input leaves, of the state `s` before (R482). -/
structure ColdValues (s : State) (aux : Bool) (t : State) : Prop where
  bays : t.bays = []
  isolated : t.dev.isolated = true
  stackMem : t.stackMem = []
  spadMem : t.spadMem = []
  stackTab : t.stackTab = s.stackTab.map (fun (e : Nat × Stack) => (e.1, e.2.cold))
  cores : t.cores = []
  fns : t.fns = []
  sessions : t.spdm.sessions = []
  ide : t.spdm.ide = []
  held : t.dbg.held = none
  log : t.life.log = s.life.log
  fabricId : aux = false → t.fabric.id = s.fabric.id
  operatorBank : t.sec.operatorBank = s.sec.operatorBank
  floorBank : t.sec.floorBank = s.sec.floorBank

theorem railsOn_isolated (s : State) : s.railsOn.dev.isolated = s.dev.isolated := by
  unfold State.railsOn
  extract_lets bad power dev ictl s1
  have hports (u : State) : ((List.range 16).foldl (fun (t : State) p => t.startTraining p) u).dev = u.dev :=
    ((Keeps.refl 33792 u).foldl fun _ _ ht => State.startTraining_keeps rfl ht).dev rfl
  rw [hports]
  split <;> rfl

/-- The rails change none of these values. -/
theorem ColdValues.railsOn {aux : Bool} (h : ColdValues s aux t) : ColdValues s aux t.railsOn := by
  have k : Keeps 37890 t t.railsOn := State.railsOn_keeps rfl (Keeps.refl _ t)
  exact { bays := (k.bays rfl).trans h.bays, isolated := (railsOn_isolated t).trans h.isolated,
          stackMem := (k.stackMem rfl).trans h.stackMem, spadMem := (k.spadMem rfl).trans h.spadMem,
          stackTab := (k.stackTab rfl).trans h.stackTab, cores := (k.cores rfl).trans h.cores, fns := (k.fns rfl).trans h.fns,
          sessions := k.spdm rfl ▸ h.sessions, ide := k.spdm rfl ▸ h.ide, held := k.dbg rfl ▸ h.held, log := k.life rfl ▸ h.log,
          fabricId := k.fabric rfl ▸ h.fabricId, operatorBank := k.sec rfl ▸ h.operatorBank, floorBank := k.sec rfl ▸ h.floorBank }

theorem coldLife_log (aux : Bool) : (s.coldLife aux).log = s.life.log := by
  unfold State.coldLife
  split <;> rfl

/-- A module cold reset of another cause than the return of the main input, of the state without an activation. -/
theorem coldStart_values {cause : Nat} (sref : Bool) (hcause : cause ≠ 4) :
    ColdValues s.dropActivation (cause == 1) (s.coldStart cause sref) := by
  unfold State.coldStart
  extract_lets s1 r aux kept dev spdm1 spdm2 fabric power t
  have hkept : kept = false := beq_eq_false_iff_ne.mpr hcause
  have hspdm : t.spdm = { spdmReset with slot1 := s1.spdm.slot1 } := if_neg (show ¬ kept = true by rw [hkept]; decide)
  have hfabric (haux : aux = false) : t.fabric.id = s1.fabric.id := by
    change (if aux then r.fabric else _).id = _
    rw [haux]
    rfl
  have hcold : ColdValues s1 aux t :=
    { bays := rfl, isolated := rfl, stackMem := rfl, spadMem := rfl, stackTab := rfl, cores := rfl, fns := rfl,
      sessions := congrArg SpdmState.sessions hspdm, ide := congrArg SpdmState.ide hspdm, held := rfl, log := coldLife_log aux,
      fabricId := hfabric,
      operatorBank := (apply_ite Sec.operatorBank _ s1.secKept s1.secCold).trans (ite_self _),
      floorBank := (apply_ite Sec.floorBank _ s1.secKept s1.secCold).trans (ite_self _) }
  split
  · exact hcold.railsOn
  · exact hcold

/- A reset that cuts an activation off. -/

theorem dropActivation_fabric (s : State) : s.dropActivation.fabric = s.fabric :=
  (State.dropActivation_keeps (W := 33570822) rfl (Keeps.refl _ s)).fabric rfl

theorem dropActivation_of_none (h : s.sec.activation = none) : s.dropActivation = s := by
  simp only [State.dropActivation, h]

theorem dropActivation_banks (s : State) :
    s.dropActivation.sec.operatorBank = s.sec.operatorBank ∧ s.dropActivation.sec.floorBank = s.sec.floorBank := by
  unfold State.dropActivation
  split <;> exact ⟨rfl, rfl⟩

/- Stacks after the reset. -/

theorem tabGet_map {V : Type} (f : V → V) (m : List (Nat × V)) (k : Nat) (d : V) (hd : f d = d) :
    tabGet (m.map (fun e => (e.1, f e.2))) k d = f (tabGet m k d) := by
  induction m with
  | nil => exact hd.symm
  | cons e m ih =>
    simp only [List.map_cons, tabGet, ih]
    split <;> rfl

/-- A line without errors decodes: at most the eight symbols of the marked lane are erasures. -/
theorem lineDecodes_clean (v : Stack) (line : Nat) : lineDecodes v ⟨line, [], [], 0, 0⟩ = true := by
  have herased : (erasedSyms v line []).length ≤ 8 := by
    unfold erasedSyms
    extract_lets all
    have hlanes : all.length ≤ 1 := by
      simp only [all]
      split
      · exact Nat.zero_le 1
      · exact Nat.le_refl 1
    match all, hlanes with
    | [], _ => exact Nat.zero_le 8
    | [_], _ => exact Nat.le_refl 8
  exact decide_eq_true ⟨herased, Nat.zero_le _⟩

theorem not_linePoisoned_cold (v : Stack) (line : Nat) : linePoisoned v.cold line = false := by
  have htag : lineTag v.cold line = 0 := by
    simp only [lineTag, Stack.flawOf, Stack.cold, List.contains_nil, Bool.false_eq_true, if_false, List.find?_nil, Option.getD_none]
    rfl
  have hflaw : v.cold.flawOf line = ⟨line, [], [], 0, 0⟩ := rfl
  rw [linePoisoned, htag, hflaw, lineDecodes_clean]
  rfl

/- The cause of a reset that is due. -/

theorem coldDue_cause {cause : Nat} (h : s.coldDue cause = true) : cause ≠ 4 := by
  rintro rfl
  exact Bool.false_ne_true h

theorem execModuleColdReset_of_due {release : ColdRelease} (h : s.coldDue release.cause = true) :
    exec (.moduleColdReset release) s = .next (s.coldStart release.cause release.sref) :=
  congrArg Host.Outcome.next (if_pos h)

end Sys2Proof.Machine

open Sys2Proof Sys2Proof.Machine

/-- Settles O8: the reset writes its values over every table but those that outlive it, and the rails change none of them. -/
theorem coldResetsClearTheDevice : Obligations.ColdResetsClearTheDevice := by
  unfold Obligations.ColdResetsClearTheDevice
  intro s release hdue
  have v := coldStart_values (s := s) release.sref (coldDue_cause hdue)
  obtain ⟨hoperator, hfloor⟩ := dropActivation_banks s
  refine ⟨_, execModuleColdReset_of_due hdue, fun b => ?bays, v.isolated, fun a => ?memory, fun k l => ?lines, fun c => ?cores,
    fun fn => ?history, v.sessions, fun n => ?keys, v.held, fun hnone => ?log, fun hcause => ?fabric, v.operatorBank.trans hoperator,
    v.floorBank.trans hfloor⟩
  case bays => simp only [State.bayExists, State.bayAt, v.bays, tabGet, bayReset, ne_eq, not_true_eq_false, and_false, decide_false]
  case memory => simp only [v.stackMem, v.spadMem, memGet, tabGet, and_self]
  case lines =>
    rw [State.stackAt, v.stackTab, tabGet_map Stack.cold _ _ _ rfl]
    exact not_linePoisoned_cold _ l
  case cores => rw [State.coreAt, v.cores, tabGet]
  case history =>
    rw [State.fnAt, v.fns]
    rfl
  case keys => rw [State.ideAt, v.ide, tabGet]
  case log => rw [v.log, dropActivation_of_none hnone]
  case fabric => rw [v.fabricId (beq_eq_false_iff_ne.mpr hcause), dropActivation_fabric]
end

section
/-! SUPPORT. What reset leaves (R346, R392, R405, R446, R460, R466, R482). -/

open Sys2Proof Sys2Proof.Machine

/-- Settles O7: every table of the reset state is empty, so each read of one gives its reset value. -/
theorem resetLeavesTheStatedValues : Obligations.ResetLeavesTheStatedValues := by
  unfold Obligations.ResetLeavesTheStatedValues
  refine ⟨⟨rfl, rfl, soundReset, rfl⟩, fun _ => rfl, fun _ => ⟨rfl, rfl⟩, fun b => ?noBay, rfl, rfl, fun _ => ⟨rfl, rfl⟩,
    fun _ l => not_linePoisoned_cold {} l, fun _ _ => ⟨rfl, rfl⟩, fun _ => rfl, rfl, fun _ => rfl, rfl, rfl, rfl, rfl⟩
  case noBay => exact decide_eq_false fun hbay => hbay.2 rfl
end

section
/-! SUPPORT. Work orders at the engines of cores and stacks (R48, R119, R178, R187, R219, R271, R278, R301, R313, R323): what a command does
with the work order that it picks, and the statements about them. -/

namespace Sys2Proof.Machine

variable {s : State}

/-- Commands that come to the same state answer the same. -/
theorem next_eq {s t : State} (h : s = t) : (.next s : Host.Outcome State Fault Refusal) = .next t := congrArg _ h

/- Engines of a core. -/

/-- An engine that is not stopped runs the started work order that its command picks. -/
theorem runWork_of_picked {core : Nat} {w : WorkOrder} {p : WorkOrder → Bool} {f : State → WorkOrder → Ran}
    (hgoes : s.engineStopped w.bay core = false) (hpick : pickStarted (s.coreAt core).queue p = some w) :
    s.runWork core p f = s.raceRun w fun v => v.ranBy core w f := by
  unfold State.runWork
  rw [hpick]
  simp only [hgoes, Bool.false_eq_true, if_false]

/- Copy streams. -/

/-- A stream whose descriptors pass and whose runs meet no fault makes the runs that are left. -/
theorem dmaGo_of_ok {core k n : Nat} {w : WorkOrder} {m : Dma} {t : State}
    (hfirst : w.streams ≠ [] ∨ (s.dmaRead core w).dmaFirstBad core w = none) (hdesc : (s.dmaRead core w).dmaDesc core w k = .ok m)
    (hruns : State.dmaRuns (s.dmaRead core w) m (w.runsLeft m k) 0 (s.dmaRead core w) = (t, n, none)) :
    s.dmaGo core w k = t.dmaDone core { w with streams := w.streams ++ [t.dmaRan m k .ok] } := by
  have hgood : (if w.streams = [] then (s.dmaRead core w).dmaFirstBad core w else none) = none := by
    split
    · next hempty => exact hfirst.resolve_left (not_not_intro hempty)
    · rfl
  simp only [State.dmaGo, hgood, hdesc, hruns]

/-- A stream that its command picks runs once no core that it addresses sleeps. -/
theorem dmaStream_of_picked {core lid node k op : Nat} {w : WorkOrder}
    (hpick : pickStarted (s.coreAt core).queue (fun v => s.dmaPick core lid node k op v && !s.engineStopped v.bay core) = some w)
    (hawake : s.dmaWaits core w k = false) : s.dmaStream core lid node k op = s.raceRun w fun v => v.dmaGo core w k := by
  unfold State.dmaStream
  rw [hpick]
  simp only [hawake, Bool.false_eq_true, if_false]

/- Signals. -/

/-- A stream that ended OK, whose writes are acknowledged and whose cores are awake, signals them. -/
theorem arriveSignal_of_ok {core lid node k : Nat} {w : WorkOrder} {r : StreamRun} (hwork : findWo (s.coreAt core).queue lid node = some w)
    (hstream : w.streams.find? (fun x => x.ix == k) = some r) (hgood : woFailed w = false) (hok : r.st = .ok)
    (hnew : r.signalled = false) (hacked : s.streamWaits core lid node k = false) (hawake : ∀ c ∈ r.cores, s.coreAsleep c = false) :
    s.arriveSignal core lid node k = r.cores.foldl (fun t c => t.addCounter c r.ctr r.incr)
      (s.putWork core { w with streams := w.streams.map (fun x => if x.ix = k then { x with signalled := true } else x) }) := by
  have hnone : r.cores.any s.coreAsleep = false := List.any_eq_false.mpr fun c hc => Bool.not_eq_true _ ▸ hawake c hc
  have hst : (r.st != .ok) = false := bne_eq_false_iff_eq.mpr hok
  unfold State.arriveSignal
  rw [hwork]
  simp only [hstream, hgood, hst, hnew, hacked, hnone, Bool.or_self, Bool.false_eq_true, if_false]

/-- The oldest finished request signals its cores, once they are awake. -/
theorem eaveReturn_of_awake {k : Nat} {sigs : List (Nat × Nat × Nat)} {rest : List (List (Nat × Nat × Nat))}
    (hsigs : (s.stackAt k).eaveSigs = sigs :: rest) (hawake : ∀ g ∈ sigs, s.coreAsleep g.1 = false) :
    s.eaveReturn k = sigs.foldl (fun t g => t.addCounter g.1 g.2.1 g.2.2) (s.setStack k { s.stackAt k with eaveSigs := rest }) := by
  have hnone : sigs.any (fun g => s.coreAsleep g.1) = false := List.any_eq_false.mpr fun g hg => Bool.not_eq_true _ ▸ hawake g hg
  simp only [State.eaveReturn, hsigs, hnone, Bool.false_eq_true, if_false]

/- Eave engines. -/

/-- An engine that is up runs the queued work order at its head under the command of its operation. -/
theorem evRun_of_head {k op : Nat} {w : WorkOrder} {rest : List WorkOrder} (hhead : (s.stackAt k).eave = w :: rest) (hup : s.eaveUp k = true)
    (hqueued : w.st = .queued) (hawake : s.evAsleep k w = false)
    (hop : (s.touchStack k (bitsOf (fieldAt w.rcd 40 8) 42 0) 64).evOp k w = op) :
    s.evRun k op = s.raceRun w fun v => v.evGo k w := by
  unfold State.evRun
  rw [hhead]
  simp only [hup, hqueued, hop, hawake, beq_self_eq_true, Bool.not_false, Bool.and_self, if_true]

/- Valley work orders. -/

theorem valleyRun_of_picked {core lid node : Nat} {ret : Bool} {w : WorkOrder} (hpick : pickStarted (s.coreAt core).queue
      (fun v => fieldAt v.rcd 0 1 == 5 && byteBit v.rcd 52 4 == ret && v.lid == lid && v.nodeIx == node) = some w)
    (hgoes : s.engineStopped w.bay core = false) : s.valleyRun core lid node ret = s.valleyGo core w := by
  unfold State.valleyRun
  rw [hpick]
  simp only [hgoes, Bool.false_eq_true, if_false]

end Sys2Proof.Machine

open Sys2Proof Sys2Proof.Machine

/-- Settles O16: each command is the run of the work order that its test picks. -/
theorem engineWorkOrderRuns : Obligations.EngineWorkOrderRuns := by
  unfold Obligations.EngineWorkOrderRuns
  intro s core w hgoes ends picks
  have runs (p : WorkOrder → Bool) (f : State → WorkOrder → Ran) (hpick : picks p) : .next (s.runWork core p f) = ends fun v => f v w :=
    next_eq (runWork_of_picked hgoes hpick)
  exact ⟨fun hits => runs _ _, runs _ _, runs _ _, runs _ _, runs _ _, runs _ _, runs _ _, runs _ _, runs _ _, runs _ _, runs _ _,
    runs _ _, runs _ _⟩

/-- Settles O17: the runs that are left are made, and the stream is recorded. -/
theorem dmaStreamRuns : Obligations.DmaStreamRuns := by
  unfold Obligations.DmaStreamRuns
  intro s core lid node k w m t n op hpick hawake v s0 hfirst hdesc hruns after
  have hgo : v.dmaGo core w k = t.dmaDone core { w with streams := w.streams ++ [t.dmaRan m k .ok] } := dmaGo_of_ok hfirst hdesc hruns
  have hstream : s.dmaStream core lid node k op = after := (dmaStream_of_picked hpick hawake).trans (by rw [State.raceRun, hgo])
  exact ⟨fun hop => next_eq (hop ▸ hstream), fun hop => next_eq (hop ▸ hstream), fun hop => next_eq (hop ▸ hstream),
    fun hop => next_eq (hop ▸ hstream)⟩

/-- Settles O18: neither kind of signal waits where its cores are awake. -/
theorem signalsAddToCounters : Obligations.SignalsAddToCounters := by
  unfold Obligations.SignalsAddToCounters
  exact ⟨fun s core lid node k w r hwork hstream hgood hok hnew hacked hawake =>
      next_eq (arriveSignal_of_ok hwork hstream hgood hok hnew hacked hawake),
    fun s k sigs rest hsigs hawake => next_eq (eaveReturn_of_awake hsigs hawake)⟩

/-- Settles O20: the engine runs its head under either operation. -/
theorem eaveWorkOrderRuns : Obligations.EaveWorkOrderRuns := by
  unfold Obligations.EaveWorkOrderRuns
  intro s k w rest hhead hup hqueued hawake op ran after
  exact ⟨fun hop => next_eq (evRun_of_head hhead hup hqueued hawake hop), fun hop => next_eq (evRun_of_head hhead hup hqueued hawake hop)⟩

/-- Settles O21: a message in flight arrives as its kind says, and a started work order sends. -/
theorem valleyMessagesMeetTheirGates : Obligations.ValleyMessagesMeetTheirGates := by
  unfold Obligations.ValleyMessagesMeetTheirGates
  intro s n core lid node m w g s1 sent
  refine ⟨fun hmsg hfree hdone => ?done, fun hmsg hfree hdone => ?segment, fun hpick hgoes => ?dispatch, fun hpick hgoes => ?ret⟩
  case done => exact next_eq (valleyArrive_done hmsg hfree hdone)
  case segment => exact next_eq (valleyArrive_done hmsg hfree hdone)
  case dispatch => exact next_eq (valleyRun_of_picked hpick hgoes)
  case ret => exact next_eq (valleyRun_of_picked hpick hgoes)
end

section
/-! SUPPORT. The ridge's queues (R62 to R75, R83 to R95): writes that reach the ridge, fetches, the start and the end of items, launches, and
the statements about them. -/

namespace Sys2Proof.Machine

variable {s : State}

/- Writes that reach the ridge. -/

/-- A write that the BAR takes, in a slot of its function, acts at once. -/
theorem barWrite_now {fn : Nat} (src : Nat) (e : RidgeEvent) (hopen : s.barOpen fn = true) (hfatal : s.dev.fatal = none)
    (hnow : s.takesNow fn = true) : s.barWrite fn src false e = ((s.pend src).applyEvent fn e).settle := by
  have hnow' : (s.pend src).takesNow fn = true := hnow
  have hfatal' : (s.pend src).dev.fatal = none := hfatal
  simp only [State.barWrite, State.ridgeGets, hopen, hfatal', hnow', Bool.true_eq_false, Bool.false_eq_true, if_false, Option.isSome_none, if_true]

theorem doorbell_disabled {fn q : Nat} (off width value : Nat) (hst : (s.queueAt fn q).st = .disabled) :
    s.doorbell fn q off width value = s.raiseIn fn ⟨0x10, q, value, 0, 0⟩ := by
  simp only [State.doorbell, hst, beq_self_eq_true, if_true, State.doorbellBad]

theorem doorbell_tail {fn q value : Nat} (hst : (s.queueAt fn q).st ≠ .disabled) (hfence : (s.queueAt fn q).tailFence = none)
    (hvalue : value < (s.queueAt fn q).size) :
    s.doorbell fn q 0 4 value = s.setQueue fn q { s.queueAt fn q with sqTail := value } := by
  simp only [State.doorbell, beq_eq_false_iff_ne.mpr hst, Bool.false_eq_true, if_false, ne_eq, not_true_eq_false, if_true, hfence,
    Option.isSome_none, Nat.not_le.mpr hvalue]

theorem doorbell_head {fn q value : Nat} (hst : (s.queueAt fn q).st ≠ .disabled) (hvalue : value < (s.queueAt fn q).size)
    (hdone : (value + (s.queueAt fn q).size - (s.queueAt fn q).cqHead) % (s.queueAt fn q).size ≤
      ((s.queueAt fn q).recHead + (s.queueAt fn q).size - (s.queueAt fn q).cqHead) % (s.queueAt fn q).size) :
    s.doorbell fn q 8 4 value = s.setQueue fn q { s.queueAt fn q with cqHead := value } := by
  have hword : ¬ 8 = 0 := by decide
  simp only [State.doorbell, beq_eq_false_iff_ne.mpr hst, Bool.false_eq_true, if_false, ne_eq, not_true_eq_false, if_true, Nat.not_le.mpr hvalue,
    Nat.not_lt.mpr hdone, or_self, hword]

/-- A write of a fence in the window raises an external fence, and is reported for another (R86, R87). -/
theorem fenceWrite_word {b f value : Nat} (hf : f < 4096) (hvalue : value < 2 ^ 64) : s.fenceWrite b (8 * f) 8 value =
    if s.fenceExternal b f then s.fenceMax b f value else s.raiseIn b ⟨0x13, f, value, 0, 0⟩ := by
  have hin : ¬ 0x8000 ≤ 8 * f := by omega
  simp only [State.fenceWrite, hin, if_false, ne_eq, not_true_eq_false, Nat.mul_mod_right, or_self, Nat.mul_div_cancel_left f (Nat.succ_pos 7),
    Nat.mod_eq_of_lt hvalue]

/- Copies. -/

/-- An active COPY whose ranges wait for nothing, in a function that is served, ends where it waits for its reads only, and moves its bytes first
otherwise. -/
theorem copyFinish_free {fn q slot : Nat} {it : Item} (hitem : s.itemAt fn q slot = some it) (htype : enType it.entry = 2)
    (hactive : it.active = true) (hserves : s.serves fn = true) (hfree : s.copyWaits fn it.entry = false) :
    s.copyFinish fn q slot = if it.st == .waiting then s.copyEnd fn q slot else
      let r := s.itemRace it (fun v => v.copyMove fn q it)
      ((s.raced r.1).updItem fn q slot (fun x =>
        { x with moved := r.2.1, endAs := match x.endAs with | some e => some e | none => r.2.2 })).copyEnd fn q slot := by
  have hgoes : ¬ (enType it.entry ≠ 2 ∨ it.active = false ∨ s.serves fn = false ∨ s.copyWaits fn it.entry = true) := by
    simp [htype, hactive, hserves, hfree]
  unfold State.copyFinish
  rw [hitem]
  exact if_neg hgoes

/- ADMIN operations whose bay exists. -/

/-- An ADMIN item in front that passes its check and whose bay exists acts on the state that has served it. -/
theorem adminRun_needBay {q op : Nat} {check : List Byte → Chk Unit} {act : State → Item → State → State} {it : Item}
    (hitem : s.adminItem q op = some it) (hcheck : check it.entry = .ok ())
    (hbay : adBay it.entry = 12 ∨ (s.served pfFn q).bayExists (adBay it.entry) = true) :
    s.adminRun q op check (fun t it => t.needBay q it (act t it)) = (act (s.served pfFn q) it (s.served pfFn q)).settle := by
  rw [adminRun_ok hitem hcheck, needBay_ok hbay]

end Sys2Proof.Machine

open Sys2Proof Sys2Proof.Machine

/-- Settles O22: a write of an open BAR acts at once in its function's slot, and a fetch in turn submits what it reads. -/
theorem doorbellsAndEntryFetch : Obligations.DoorbellsAndEntryFetch := by
  unfold Obligations.DoorbellsAndEntryFetch
  refine ⟨?writes, ?fetch⟩
  case writes =>
    intro s fn q value hopen hfatal hnow v s1
    have acts (src : Nat) (e : RidgeEvent) {u : State} (hu : (s.pend src).applyEvent fn e = u) :
        s.barWrite fn src false e = u.settle := hu ▸ barWrite_now src e hopen hfatal hnow
    refine ⟨fun hst hfence hvalue => ?tail, fun hst hvalue hdone => ?head, fun width hst => ⟨?disabledTail, ?disabledHead⟩,
      fun f hf hvalue => ?fence⟩
    case tail => exact next_eq (acts _ _ (doorbell_tail (s := s1) hst hfence hvalue))
    case head => exact next_eq (acts _ _ (doorbell_head (s := s1) hst hvalue hdone))
    case disabledTail => exact next_eq (acts _ _ (doorbell_disabled (s := s1) 0 width value hst))
    case disabledHead => exact next_eq (acts _ _ (doorbell_disabled (s := s1) 8 width value hst))
    case fence => exact next_eq (acts _ _ (fenceWrite_word (s := s.pend (176 + fn)) hf hvalue))
  case fetch =>
    intro s fn q e hturn hfetch v s0 hread s1 s2
    refine next_eq ?_
    unfold State.fetchEntry
    simp only [hturn, hfetch, Bool.and_self, Bool.not_true, Bool.false_eq_true, if_false]
    rw [show s0.readAt _ _ 64 = _ from hread]

/-- Settles O23: the item next to start, of the command's type, starts where its checks pass. -/
theorem itemsStart : Obligations.ItemsStart := by
  unfold Obligations.ItemsStart
  intro s fn q it s1 waits
  refine ⟨fun hnext hgood => ?launch, fun hnext hgood => ?copy, fun hnext => ?wait, fun hnext => ?signal, fun hnext => ?barrier,
    fun hnext hgood => ?cancel⟩
  case launch => exact next_eq (by simp only [State.launchStart, hnext, hgood, s1])
  case copy => exact next_eq (by simp only [State.copyStart, hnext, hgood, s1])
  case wait => exact next_eq (by simp only [State.fenceWait, hnext, waits, s1])
  case signal => exact next_eq (by simp only [State.fenceSignal, hnext, waits, s1])
  case barrier => exact next_eq (by simp only [State.barrierStart, hnext, waits, s1])
  case cancel => exact next_eq (by simp only [State.cancelStart, hnext, hgood, waits, s1])

/-- Settles O24: a launch that goes, of a function that the ridge serves, takes its next step. -/
theorem launchesAdvance : Obligations.LaunchesAdvance := by
  unfold Obligations.LaunchesAdvance
  intro s fn q slot it l hitem hlaunch hserves hactive hgoes a
  refine ⟨fun h bt ps hready hreads hchecked => ?reads, ?node, fun node v hhalted hnext hv => ?dispatch⟩
  case reads =>
    exact next_eq (by simp only [State.launchChecks, hitem, hlaunch, hserves, hactive, hready, hgoes, hreads, hchecked, a, Bool.not_true,
      Bool.or_self, Bool.false_eq_true, if_false])
  case node =>
    intro hready hmore s0 v hgood
    have hfail : v.fail.isSome = false := Option.isSome_eq_false_iff.mpr (Option.isNone_iff_eq_none.mpr hgood)
    refine next_eq ?_
    simp only [State.nodeRead, hitem, hlaunch, hserves, hactive, hready, hgoes, Nat.not_le.mpr hmore, decide_false, Bool.not_true,
      Bool.or_self, Bool.false_eq_true, if_false]
    rw [if_neg (Bool.not_eq_true _ ▸ hfail)]
  case dispatch =>
    exact next_eq (by simp only [State.nodeSend, hitem, hlaunch, hserves, hactive, hgoes, hhalted, hnext, hv, bne_self_eq_false, Bool.not_true,
      Bool.or_self, Bool.false_eq_true, if_false])

/-- Settles O25: a copy that waits for nothing goes on, and a lost path is a refused translation. -/
theorem itemsEnd : Obligations.ItemsEnd := by
  unfold Obligations.ItemsEnd
  intro s fn q slot it
  refine ⟨fun hitem htype hst hserves hfree => ?moves, fun hitem htype hst hserves hfree => ?ends, ?lost⟩
  case moves =>
    exact next_eq ((copyFinish_free hitem htype (by simp [Item.active, hst]) hserves hfree).trans (if_neg (by simp [hst])))
  case ends =>
    exact next_eq ((copyFinish_free hitem htype (by simp [Item.active, hst]) hserves hfree).trans (if_pos (by simp [hst])))
  case lost =>
    intro v hring hats hon hpath
    have hgoes : ¬ (v.cqBase.toNat / 2 ^ 60 ≠ 4 ∨ (s.fnAt fn).ats = false ∨ (v.st == .disabled) = true ∨ (v.st == .pathLost) = true) := by
      simp only [hring, hats, beq_iff_eq, hon, hpath, ne_eq, not_true_eq_false, Bool.true_eq_false, or_self, not_false_eq_true]
    exact next_eq (if_neg hgoes)

/-- Settles O60: a wait whose counter is below its value expires. -/
theorem waitsTimeOut : Obligations.WaitsTimeOut := by
  unfold Obligations.WaitsTimeOut
  intro s fn q slot it hitem hserves hhalted
  refine ⟨fun hst htype htime hlow => ?item, fun l n v hactive hlaunch hv hst hwait htime hlow => ?node⟩
  case item =>
    exact next_eq (by simp only [State.waitExpires, hitem, hserves, hhalted, hst, htype, bne_iff_ne.mpr htime, hlow, decide_true,
      beq_self_eq_true, Bool.and_self, Bool.not_true, Bool.or_self, Bool.false_eq_true, if_false, if_true])
  case node =>
    exact next_eq (by simp only [State.waitExpires, hitem, hserves, hhalted, hactive, hlaunch, hv, Option.any_some, hst, hwait,
      bne_iff_ne.mpr htime, hlow, decide_true, beq_self_eq_true, Bool.and_self, Bool.not_true, Bool.or_self, Bool.false_eq_true, if_false, if_true])

/-- Settles O26: each operation acts where its fields pass and its function exists. -/
theorem adminQueueCommandsRun : Obligations.AdminQueueCommandsRun := by
  unfold Obligations.AdminQueueCommandsRun
  intro s q it
  dsimp only
  intro hbay
  refine ⟨fun u hitem hcheck hrange hwrite => ?readRetained, fun hitem hcheck hmay => ?resetQueue, fun hitem hcheck => ?queueState⟩
  case readRetained =>
    refine next_eq ((adminRun_needBay hitem hcheck hbay).trans ?_)
    simp only [hrange, hwrite]
  case resetQueue =>
    refine next_eq ((adminRun_needBay hitem hcheck hbay).trans ?_)
    rw [if_neg (Bool.not_eq_true _ ▸ hmay)]
  case queueState => exact next_eq (adminRun_needBay hitem hcheck hbay)
end

section
/-! SUPPORT. Work-order queues, syncs and end notices (R105 to R112, R278, R533), collectives (R351 to R364), and the statements about them. -/

namespace Sys2Proof.Machine

variable {s : State} {b n : Nat}

/-- A waiting collective of the command's operation, in its turn and with no failed tile in its way, whose checks of R360 pass, begins. -/
theorem collStart_passes {op : Nat} {c0 : Coll} (hop : clOp c0.rcd = op) (hother : op ≠ 6)
    (hwait : (s.bayAt b).coll.waiting[n]? = some c0) (hturn : s.collTurnOf b n = true) (hup : s.collDown b c0 = false) :
    let waiting := (s.bayAt b).coll.waiting
    let c := { c0 with started := true, startTime := s.stamp }
    let s1 := (s.setWaiting b (waiting.take n ++ waiting.drop (n + 1))).setColls b ((s.bayAt b).coll.running ++ [c])
    ∀ tbl, let s2 := s1.touchAt b (clTab c.rcd) (16 + 8 * min (gtP ((s1.readAt (collAgent b) (clTab c.rcd) 16).toOption.getD [])) 64)
      s2.collRead b c.rcd = .ok tbl →
      let c1 := { c with table := tbl }
      let s3 := s2.putColl b c1
      let cx := (s3.bayAt b).coll
      s3.collTable b c.rcd tbl = .ok () → seqNewer (tabFind cx.lastSeq (gtGroup tbl)) (clSeq c.rcd) = true →
      let s4 := s3.setBay b { s3.bayAt b with coll := { cx with lastSeq := tabSet cx.lastSeq (gtGroup tbl) (clSeq c.rcd) } }
      s4.collRanges b c1 = .ok () → s.collStart b n op = s.raced (s4.collBegin b c1) := by
  dsimp only
  intro tbl hread htable hnewer hranges
  have hgoes : ¬ (clOp c0.rcd ≠ op ∨ s.collTurnOf b n = false ∨ s.collDown b c0 = true) := by simp [hop, hturn, hup]
  unfold State.collStart
  simp only [hwait, hgoes, hother, hread, htable, hnewer, hranges, Bool.true_eq_false, if_false]

/-- A collective message of the command's KIND for this device, which a window takes at a bay without a failed tile in the way, is applied. -/
theorem collTakeMsg_taken {t : State} {p kind : Nat} {m : List Byte} (hhead : s.headMsg p 2 = some m) (hid : s.fabric.id ≠ 0xFF)
    (hdst : mgDst m = s.fabric.id) (hwindow : (s.popMsg p 2).collWindow m = (t, some b))
    (hup : (s.bayAt b).coll.running.any (fun d => s.collDown b d) = false) (hkind : fieldAt (bytesAt (mgData m) 0 32) 0 1 = kind) :
    s.collTakeMsg p kind = s.raced (t.collApply b (bytesAt (mgData m) 0 32) ((mgData m).drop 32)) := by
  simp only [State.collTakeMsg, hhead, hid, hdst, hwindow, hup, hkind, ne_eq, not_true_eq_false, false_and, or_self, Bool.false_eq_true, if_false,
    if_true]

end Sys2Proof.Machine

open Sys2Proof Sys2Proof.Machine

/-- Settles O27: each command of a core's queue or of an eave engine's queue, at a queue whose head it may serve, has its effect. -/
theorem coreAndEaveQueuesRun : Obligations.CoreAndEaveQueuesRun := by
  unfold Obligations.CoreAndEaveQueuesRun
  refine ⟨?core, ?eave⟩
  case core =>
    intro s c w rest k
    refine ⟨fun htree hroom hawake => ?arrive, fun hhead hmay => ?start, fun st mask exit_ hfind hst hacked hgoes => ?complete,
      fun hhead htime hwaits hruns => ?timeout, fun n r hreport => ?report⟩
    case arrive => exact next_eq (by simp only [State.woArriveCore, htree, hroom, hawake, k, and_self, Bool.false_eq_true, if_false, if_true])
    case start => exact next_eq (by simp only [State.woStart, hhead, hmay, k, if_true])
    case complete =>
      exact next_eq (by simp only [State.woCompleteCore, hfind, hst, hacked, hgoes, k, Bool.not_false, Bool.and_self, Bool.false_eq_true,
        if_false, if_true])
    case timeout =>
      have hgoes : ¬ (w.timeout = 0 ∨ waitsMet (s.coreAt c) w.rcd ∨ (s.bayAt w.bay).halted) := by simp [htime, hwaits, hruns, k]
      intro s0 s1
      refine next_eq ?_
      unfold State.counterExpires
      simp only [hhead, k]
      exact if_neg hgoes
    case report => exact next_eq (by simp only [State.woReport, hreport])
  case eave =>
    intro s k w rest v
    refine ⟨fun htree hup hgoes hroom => ?arrive, fun htree hfailed => ?failed, fun st mask exit_ heave hst hsigs => ?complete⟩
    case arrive => exact next_eq (by simp only [State.woArriveEave, htree, hup, hgoes, hroom, v, Bool.false_eq_true, if_false, if_true])
    case failed => exact next_eq (by simp only [State.woArriveEave, htree, hfailed, v, if_true])
    case complete => exact next_eq (by simp only [State.woCompleteEave, heave, hst, hsigs, v, and_self, if_true])

/-- Settles O28: a sync packet or a report that is due moves on, and a notice goes to the unit it names. -/
theorem syncsAndEndNotices : Obligations.SyncsAndEndNotices := by
  unfold Obligations.SyncsAndEndNotices
  refine ⟨?syncs, ?notices⟩
  case syncs =>
    intro s c b lid node r rest k
    refine ⟨fun htree hawake => ?arrive, fun hdue => ?report,
      fun fn q slot n it l v hitem hlaunch hnode hserves hactive hgoes hst htype => ?release⟩
    case arrive => exact next_eq (by simp only [State.syncArrive, htree, hawake, k, Bool.false_eq_true, if_false])
    case report => exact next_eq (by simp only [State.syncReport, hdue, k])
    case release =>
      exact next_eq (by simp only [State.syncRelease, hitem, hlaunch, hnode, hserves, hactive, hgoes, hst, htype, beq_self_eq_true,
        Bool.and_self, if_true])
  case notices =>
    intro s n m hnotice s1
    refine ⟨fun c hdest => ?core, fun k hdest => ?eave, fun hdest => ?coll⟩
    case core => exact next_eq (by simp only [State.noticeArrives, hnotice, hdest, s1])
    case eave => exact next_eq (by simp only [State.noticeArrives, hnotice, hdest, s1])
    case coll => exact next_eq (by simp only [State.noticeArrives, hnotice, hdest, s1])

/-- Settles O29: a collective whose checks pass begins, a message that is taken is applied, a frame that is due is reduced, and a member that
is waited for in vain fails its collective. -/
theorem collectivesStartAndTakeMessages : Obligations.CollectivesStartAndTakeMessages := by
  unfold Obligations.CollectivesStartAndTakeMessages
  refine ⟨?starts, ?others⟩
  case starts =>
    intro s b n c0 hwait hturn hup
    dsimp only
    refine ⟨fun hop => ?remoteAdd, fun tbl hread htable hnewer hranges => ?group⟩
    case remoteAdd =>
      have hgoes : ¬ (clOp c0.rcd ≠ 6 ∨ s.collTurnOf b n = false ∨ s.collDown b c0 = true) := by simp [hop, hturn, hup]
      refine next_eq ?_
      unfold State.collStart
      simp only [hwait, hgoes, if_false, if_true]
    case group =>
      have passes (op : Nat) (hop : clOp c0.rcd = op) (hother : op ≠ 6) := collStart_passes hop hother hwait hturn hup tbl
      dsimp only at passes
      have starts (op : Nat) (hop : clOp c0.rcd = op) (hother : op ≠ 6) := passes op hop hother hread htable hnewer hranges
      exact ⟨fun h => next_eq (starts 1 h (by decide)), fun h => next_eq (starts 2 h (by decide)), fun h => next_eq (starts 3 h (by decide)),
        fun h => next_eq (starts 4 h (by decide)), fun h => next_eq (starts 5 h (by decide))⟩
  case others =>
    intro s t p b n piece m c
    refine ⟨fun hhead hid hdst hwindow hup => ?messages, fun hrun hup hreduces hpiece hmore hframes => ?frame,
      fun member hrun hop hother hwaits => ?timeout⟩
    case messages =>
      have taken {kind : Nat} := collTakeMsg_taken (kind := kind) hhead hid hdst hwindow hup
      exact ⟨fun h => next_eq (taken h), fun h => next_eq (taken h), fun h => next_eq (taken h)⟩
    case frame =>
      exact next_eq (by simp only [State.frameDue, hrun, hup, hreduces, hpiece, hpiece ▸ hmore, List.all_eq_true.mpr (hpiece ▸ hframes),
        beq_self_eq_true, decide_true, Bool.not_false, Bool.and_self, if_true])
    case timeout =>
      exact next_eq (by simp only [State.collExpires, hrun, hother, hwaits, bne_iff_ne.mpr hop, Bool.and_self, if_true])

end

section
/-! SUPPORT. Management messages, forwarding (R338, R345 to R347, R474), ports (R326 to R335), and the statements about them. -/

namespace Sys2Proof.Machine

section
variable {s s2 : State} {p : Nat} {m : List Byte} (hhead : s.mgmtHead p 0x21 = some m)
  (hs2 : ((s.popMsg p 3).pend 192).applyTable (topoTable (mgData m)) = s2)
include hhead hs2

/-- A TOPOLOGY whose table gives this device's ID to another device takes the ID away, and goes on while it has hops. -/
theorem topologyArrives_losesId {e : Nat × Nat} (he : tabFind (topoTable (mgData m)) s2.fabric.id = some e) (hother : e.2 ≠ deviceNat) :
    s.topologyArrives p = if mgHops m = 0 then s2.takeId 0xFF else (s2.takeId 0xFF).onTree (some p) 0x21 (mgHops m - 1) (mgData m) := by
  simp only [State.topologyArrives, hhead, hs2, he, bne_iff_ne.mpr hother, if_true]

/-- One whose table leaves this device its ID applies the table, and goes on while it has hops. -/
theorem topologyArrives_keepsId (hown : ∀ e, tabFind (topoTable (mgData m)) s2.fabric.id = some e → e.2 = deviceNat) :
    s.topologyArrives p = if mgHops m = 0 then s2 else s2.onTree (some p) 0x21 (mgHops m - 1) (mgData m) := by
  simp only [State.topologyArrives, hhead, hs2]
  cases he : tabFind (topoTable (mgData m)) s2.fabric.id with
  | none => simp only
  | some e =>
    have hkeeps : ¬ (e.2 != deviceNat) = true := fun h => bne_iff_ne.mp h (hown e he)
    simp only [hkeeps, Bool.false_eq_true, if_false]

end

/- Ports. -/

/-- A flit that arrives at a port that is UP is taken where its words are corrected and its code is good, and is answered by a NAK otherwise. -/
theorem rxFlit_up {s : State} {p ftype : Nat} {f : List Byte} {errs : List (Nat × Nat)} {take : State → State} (hup : (s.portAt p).st = .up) :
    s.rxFlit p ftype f errs take =
      if ((s.portAt p).fec errs).2 = false ∧ flitGood f = true then
        if fieldAt f 0 1 / 16 = ftype then take (s.setPort p ((s.portAt p).fec errs).1) else s.setPort p ((s.portAt p).fec errs).1
      else (s.setPort p ((s.portAt p).fec errs).1).rxBad p := by
  have hst : ¬ ((s.portAt p).st != .up) = true := by simp [hup]
  simp only [State.rxFlit, hst, Bool.false_eq_true, if_false]
  by_cases hgood : ((s.portAt p).fec errs).2 = false ∧ flitGood f = true
  · simp only [hgood, Bool.not_true, Bool.or_self, Bool.false_eq_true, if_false, and_self, if_true]
  · have hbad : (((s.portAt p).fec errs).2 || !flitGood f) = true := by
      cases hfixed : ((s.portAt p).fec errs).2 with
      | true => exact Bool.true_or _
      | false => rw [eq_false_of_ne_true fun hcode : flitGood f = true => hgood ⟨hfixed, hcode⟩]; rfl
    rw [if_neg hgood, if_pos hbad]

end Sys2Proof.Machine

open Sys2Proof Sys2Proof.Machine

/-- Settles O30: a management message at the head acts and goes on as its hops allow, and a message for another device is forwarded, answered
or discarded. -/
theorem managementAndForwardedMessages : Obligations.ManagementAndForwardedMessages := by
  unfold Obligations.ManagementAndForwardedMessages
  refine ⟨?management, ?forwarded⟩
  case management =>
    intro s p m s1
    refine ⟨fun hhead => ?enum, fun hhead hhops => ?passedOn, fun hhead hhops => ?lastHop, fun hhead => ?snapshot,
      fun hlost hroot hctrl hid hparent hchildren => ?takeover⟩
    case enum => exact next_eq (by simp only [State.enumArrives, hhead, s1])
    case passedOn =>
      intro s2
      exact ⟨fun e he hother => next_eq ((topologyArrives_losesId (s2 := s2) hhead rfl he hother).trans (if_neg hhops)),
        fun hown => next_eq ((topologyArrives_keepsId (s2 := s2) hhead rfl hown).trans (if_neg hhops))⟩
    case lastHop =>
      intro s2
      exact ⟨fun e he hother => next_eq ((topologyArrives_losesId (s2 := s2) hhead rfl he hother).trans (if_pos hhops)),
        fun hown => next_eq ((topologyArrives_keepsId (s2 := s2) hhead rfl hown).trans (if_pos hhops))⟩
    case snapshot =>
      intro accepts s2
      refine ⟨fun hhops => ?lastHop, fun hhops htaken => ?passedOn, fun haccepts hrefused => ?refused⟩
      case lastHop =>
        exact next_eq (by simp only [State.snapshotArrives, hhead, hhops, beq_self_eq_true, Bool.or_true, if_true, s2, accepts, s1])
      case passedOn =>
        have hgoes : ¬ ((accepts && !s1.strobeTakes 0) || mgHops m == 0) = true := by
          rcases htaken with h | h <;> simp [h, hhops]
        refine next_eq ?_
        simp only [State.snapshotArrives, hhead]
        exact if_neg hgoes
      case refused =>
        have hstays : ((accepts && !s1.strobeTakes 0) || mgHops m == 0) = true := by simp [haccepts, hrefused]
        refine next_eq ?_
        simp only [State.snapshotArrives, hhead]
        exact if_pos hstays
    case takeover =>
      exact next_eq (by simp only [State.takeOver, hlost, hroot, hctrl, bne_iff_ne.mpr hid, hparent, hchildren, Bool.not_false, Bool.and_self,
        Option.isSome_none, List.flatMap_nil, List.any_nil, Bool.or_self, Bool.false_and, Bool.false_eq_true, if_true, if_false])
  case forwarded =>
    intro s p v m hhead hother s1 goes
    have forwards : s.forwards p v = s1.forward p v m := by simp only [State.forwards, hhead, hother, if_true, s1]
    have passes : goes → ¬ (s1.fabric.id = 0xFF ∧ v ≠ 3) := fun h ⟨hid, hv⟩ => h.elim (fun h => h hid) hv
    refine ⟨fun hid hv => ?discarded, fun q hgoes hhops hroute hcarries => ?sent, fun hgoes hhops hv => ?noHops, fun hgoes hhops hroute hv => ?noRoute⟩
    case discarded => exact next_eq (forwards.trans (if_pos ⟨hid, hv⟩))
    case sent =>
      refine next_eq (forwards.trans ((if_neg (passes hgoes)).trans ?_))
      simp only [hhops, hroute, hcarries, if_true, if_false]
    case noHops =>
      refine next_eq (forwards.trans ((if_neg (passes hgoes)).trans ?_))
      simp only [hhops, hv, if_true]
    case noRoute =>
      refine next_eq (forwards.trans ((if_neg (passes hgoes)).trans ?_))
      simp only [hhops, hroute, hv, if_true, if_false]

/-- Settles O31: a port in the state that the command asks for trains, spares a lane, retrains, or takes a flit. -/
theorem portsTrainSpareLanesAndTakeFlits : Obligations.PortsTrainSpareLanesAndTakeFlits := by
  unfold Obligations.PortsTrainSpareLanesAndTakeFlits
  refine ⟨?training, ?lanes, ?flits⟩
  case training =>
    intro s p device fabricId prevId root partnerPort mask localMask precode x q s0 train again
    have trains (hst : q.st = .training) : ¬ ((s.portAt p).st != .training) = true := by simp [show (s.portAt p).st = .training from hst]
    have retrains (hst : q.st = .retraining) : ¬ ((s.portAt p).st != .retraining) = true := by
      simp [show (s.portAt p).st = .retraining from hst]
    refine ⟨fun hst hself => ?self, fun hst hother hwidth => ?noWidth, fun w g f hst hother hwidth => ?trained, ?retrained,
      fun hdown href => ?retry, fun hmain => ?reference, fun hmain => ?noReference, fun present hmain => ?off⟩
    case self => exact next_eq ((if_neg (trains hst)).trans (if_pos hself))
    case noWidth =>
      refine next_eq ((if_neg (trains hst)).trans ((if_neg hother).trans ?_))
      rw [show pickWidth _ _ = none from hwidth]
    case trained =>
      refine next_eq ((if_neg (trains hst)).trans ((if_neg hother).trans ?_))
      rw [show pickWidth _ _ = some (w, g, f) from hwidth]
    case retrained =>
      intro clean
      refine ⟨fun hst hself => ?self, fun hst hother hwidth => ?noWidth, fun w g f hst hother hwidth => ?up⟩
      case self => exact next_eq ((if_neg (retrains hst)).trans (if_pos hself))
      case noWidth =>
        refine next_eq ((if_neg (retrains hst)).trans ((if_neg hother).trans ?_))
        rw [show pickWidth _ _ = none from hwidth]
      case up =>
        intro q1 s1 s2
        refine next_eq ((if_neg (retrains hst)).trans ((if_neg hother).trans ?_))
        rw [show pickWidth _ _ = some (w, g, f) from hwidth] <;> rfl
    case retry =>
      have hst : ((s.portAt p).st == .down) = true := by simp [show (s.portAt p).st = .down from hdown]
      exact next_eq ((if_pos hst).trans (by simp only [State.startTraining, href, if_true]))
    case reference => exact next_eq (by simp only [State.frefChange, hmain, Bool.not_true, Bool.false_eq_true, if_true, if_false])
    case noReference => exact next_eq (by simp only [State.frefChange, hmain, Bool.not_true, Bool.false_eq_true, if_false])
    case off => exact next_eq (by simp only [State.frefChange, hmain, Bool.not_false, if_true])
  case lanes =>
    intro s p lane q bad
    have known (hst : q.st = .up) {l : Nat} (hl : l ≤ 16) : ¬ (q.st != .up || decide (16 < l)) = true := by
      simp [hst, hl]
    refine ⟨fun hst hidle hlane => ⟨?marginalSpared, ?lostSpared⟩, fun hst hidle hlane => ?marginalCounted, fun hst hidle hlane => ?lostRetrains,
      fun hst hspared => ?spareLost, fun hst => ?hold⟩
    case marginalSpared =>
      exact next_eq ((if_neg (known hst (Nat.le_of_lt hlane))).trans ((if_pos hidle).trans (if_neg (Nat.ne_of_lt hlane))))
    case lostSpared =>
      exact next_eq ((if_neg (known hst (Nat.le_of_lt hlane))).trans ((if_neg fun h => Nat.ne_of_lt hlane h.1).trans (if_pos hidle)))
    case marginalCounted =>
      exact next_eq ((if_neg (known hst hlane)).trans (if_neg (Bool.not_eq_true _ ▸ hidle)))
    case lostRetrains =>
      exact next_eq ((if_neg (known hst (Nat.le_of_lt hlane))).trans ((if_neg fun h => Nat.ne_of_lt hlane h.1).trans (if_neg (Bool.not_eq_true _ ▸ hidle))))
    case spareLost =>
      exact next_eq ((if_neg (known hst (Nat.le_refl 16))).trans (if_pos ⟨rfl, by simp [show (s.portAt p).spared = none from hspared]⟩))
    case hold => exact next_eq (by simp only [show (s.portAt p).st = .retraining from hst, beq_self_eq_true, if_true])
  case flits =>
    intro s p f errs hup ftype r s1 good
    refine ⟨fun hbad => ⟨?badData, ?badIdle, ?badNak⟩, fun hgood htype => ?data, fun hgood htype => ?idle, fun hgood htype => ?nak,
      fun n rest hreplay => ?sender, fun hnak => ?receiver⟩
    case badData => exact next_eq ((rxFlit_up hup).trans (if_neg hbad))
    case badIdle => exact next_eq ((rxFlit_up hup).trans (if_neg hbad))
    case badNak => exact next_eq ((rxFlit_up hup).trans (if_neg hbad))
    case data => exact next_eq ((rxFlit_up hup).trans ((if_pos hgood).trans (if_pos htype)))
    case idle => exact next_eq ((rxFlit_up hup).trans ((if_pos hgood).trans (if_pos htype)))
    case nak => exact next_eq ((rxFlit_up hup).trans ((if_pos hgood).trans (if_pos htype)))
    case sender => exact next_eq (by simp only [State.replayTimeout, hreplay, hup, beq_self_eq_true, if_true])
    case receiver => exact next_eq (by simp only [State.replayTimeout, hnak, hup, beq_self_eq_true, Bool.and_self, if_true])

end

section
/-! SUPPORT. Faref requests and responses (R336 to R343, R349), approved changes (R396), and the statements about them. -/

namespace Sys2Proof.Machine

variable {s : State} {p kind : Nat} {m : List Byte}

/-- The oldest request of a port, of the command's TYPE, for this device and with no failed tile in its way, is taken. -/
theorem reqArrives_taken (hhead : s.headMsg p 0 = some m) (hme : s.forMe m = true) (hwaits : s.reqWaits m = false) (hkind : mgType m = kind) :
    s.reqArrives p kind = s.raced ((s.popMsg p 0).drawn.reqTake p m) := by
  simp only [State.reqArrives, hhead, hkind, hme, hwaits, and_self, if_true]

/-- A request that fails its checks is answered with the status of the failure. -/
theorem reqTake_refused {e : Nat} (hcheck : s.reqCheck m = .error e) : s.reqTake p m = s.answer (s.windowBay (mgWindow m)) p m e [] := by
  simp only [State.reqTake, hcheck]

/-- A request that passes its checks acts on the DATA window that it names. -/
theorem reqTake_data {b : Nat} {d : List Byte} (hcheck : s.reqCheck m = .ok (b, d)) (hkind : iwKind d = 0) :
    s.reqTake p m = s.reqData p b d m := by
  simp only [State.reqTake, hcheck, hkind]

end Sys2Proof.Machine

open Sys2Proof Sys2Proof.Machine

/-- Settles O32: a request for this device is taken, and answered by what its checks and its window give. -/
theorem farRequestsAct : Obligations.FarRequestsAct := by
  unfold Obligations.FarRequestsAct
  intro s p m hhead hme hwaits t w
  have taken {kind : Nat} {u : State} (hkind : mgType m = kind) (hu : t.reqTake p m = u) : s.reqArrives p kind = s.raced u :=
    hu ▸ reqArrives_taken hhead hme hwaits hkind
  refine ⟨fun e hcheck => ?refused, fun b d hcheck => ?passed⟩
  case refused =>
    have refuses {kind : Nat} (hkind : mgType m = kind) := taken hkind (reqTake_refused (p := p) hcheck)
    exact ⟨fun h => next_eq (refuses h), fun h => next_eq (refuses h), fun h => next_eq (refuses h), fun h => next_eq (refuses h)⟩
  case passed =>
    intro addr
    refine ⟨fun u hkind htype hwrite => ?write, fun bs hkind htype hread => ?read, fun old u hkind htype hread hwrite => ?add,
      fun hkind htype => ?valley⟩
    case write =>
      refine next_eq (taken htype ((reqTake_data hcheck hkind).trans ?_))
      unfold State.reqData
      simp only [htype]
      rw [show t.writeAt _ _ _ = (u, none) from hwrite]
    case read =>
      refine next_eq (taken htype ((reqTake_data hcheck hkind).trans ?_))
      unfold State.reqData
      simp only [htype]
      rw [show (t.touchAt b _ _).readAt _ _ _ = .ok bs from hread]
    case add =>
      refine next_eq (taken htype ((reqTake_data hcheck hkind).trans ?_))
      unfold State.reqData
      simp only [htype]
      rw [show (t.touchAt b _ _).readAt _ _ _ = .ok old from hread]
      simp only
      rw [show (t.touchAt b _ _).writeAt _ _ _ = (u, none) from hwrite]
    case valley => exact next_eq (taken htype (by simp only [State.reqTake, hcheck, hkind]))

/-- Settles O33: a response ends the request that it answers, and a request whose time runs out fails its owner. -/
theorem farRequestsEnd : Obligations.FarRequestsEnd := by
  unfold Obligations.FarRequestsEnd
  refine ⟨?answered, ?expired⟩
  case answered =>
    intro s p q m r hhead hme hfind hwaits s1 s2 after
    have ends {kind : Nat} (hkind : mgType m = kind) : s.respArrives p kind = after.farNext q := by
      have hgoes : ¬ (mgType m ≠ kind ∨ s.forMe m = false) := by simp [hkind, hme]
      simp only [State.respArrives, hhead, hgoes, hfind, hwaits, Bool.false_eq_true, if_false, after, s2, s1]
    exact ⟨fun h => next_eq (ends h), fun h => next_eq (ends h), fun h => next_eq (ends h), fun h => next_eq (ends h)⟩
  case expired =>
    intro s p tag r hfind
    exact next_eq (by simp only [State.respExpires, hfind])

/-- Settles O34: an approval block of the command's operation that answers the live nonce uses it up, and is refused or begins. -/
theorem approvedChangesStart : Obligations.ApprovedChangesStart := by
  unfold Obligations.ApprovedChangesStart
  intro s q it x hitem hblock hcheck t hread hok hfree hnonce s1 stops s2 after
  have hgoes : t.approved q it x = match s1.approvalRefusal x with
      | some r => s1.adminEnd q it.slot .adminRefused r
      | none => (stops.foldl (fun (t : State) b => t.securityStop b false) s2).tail :=
    (if_neg (by simp [hfree])).trans (if_neg (by simp [hnonce]))
  have starts (op : Nat) (hop : apOp x = op) : s.approve q op = after := by
    have hmine : blockIs op x = true := by simp [blockIs, hop]
    simp only [State.approve, hblock, hmine, if_true]
    rw [adminRun_ok hitem hcheck]
    simp only [hread, hok, if_true]
    exact congrArg State.settle hgoes
  exact ⟨fun h => next_eq (starts _ h), fun h => next_eq (starts _ h), fun h => next_eq (starts _ h), fun h => next_eq (starts _ h),
    fun h => next_eq (starts _ h), fun h => next_eq (starts _ h), fun h => next_eq (starts _ h), fun h => next_eq (starts _ h),
    fun h => next_eq (starts _ h), fun h => next_eq (starts _ h), fun h => next_eq (starts _ h)⟩

end

section
/-! SUPPORT. Nonces, the bay map and scrubs (R393, R394, R401, R437), slip repairs (R426 to R431), failures and spares (R425, R432, R433), and
the statements about them. -/

namespace Sys2Proof.Machine

variable {s : State}

/-- An ADMIN item that is first in its queue and passes its check is served, and what it does then follows the ridge's rules. -/
theorem adminRun_acts {q op : Nat} {check : List Byte → Chk Unit} {act : State → Item → State} {it : Item} {u : State}
    (hitem : s.adminItem q op = some it) (hcheck : check it.entry = .ok ()) (hact : act (s.served pfFn q) it = u) :
    s.adminRun q op check act = u.settle := hact ▸ adminRun_ok hitem hcheck

/-- Bytes whose range passes and whose write succeeds are written, and the operation goes on. -/
theorem adminWrite_ok {q : Nat} {it : Item} {bytes : List Byte} {act : State → State} {u : State}
    (hrange : s.checkAt pfFn (adAddr it.entry) bytes.length = none)
    (hwrite : s.writeAt ((s.queueAt pfFn q).agent pfFn) (adAddr it.entry) bytes = (u, none)) : s.adminWrite q it bytes act = act u := by
  simp only [State.adminWrite, hrange, hwrite]

/-- A strip can return when none of its columns has more than four dead tiles and neither of its stacks fails (R437). -/
theorem restoreDone_ends {k q slot : Nat} (hrestore : s.dev.restore = some (k, q, slot, true)) (hgoes : s.dev.fatal = none) :
    s.restoreDone =
      if ((List.range 6).any (fun i => decide (4 < (s.columnAt (6 * k + i)).dead.length)) || (s.stackAt k).failing || (s.stackAt (12 + k)).failing) = true
      then s.dropRestore.adminEnd q slot .adminRefused 1
      else
        let s1 := ((s.rebuildStrip k).scrubStrip k).releaseHolds
        let s2 := ({ s1 with dev := { s1.dev with restore := none, outOfService := setDel s1.dev.outOfService k } }.gate (tileDoms k)).lifeLog 4
          (natLE 1 k ++ natLE 1 2)
        (s2.raiseIn pfFn ⟨0x26, k, 0, 0, 0⟩).adminEnd q slot .ok 0 := by
  simp only [State.restoreDone, hrestore, hgoes, Bool.not_true, Option.isSome_none, Bool.or_self, Bool.false_eq_true, if_false]

/-- A restore whose strip is tested gives up: the maps are rebuilt as they are, and the strip's domains are gated again. -/
theorem dropRestore_tested {k q slot : Nat} (hrestore : s.dev.restore = some (k, q, slot, true)) :
    s.dropRestore = ((({ s with dev := { s.dev with restore := none } }.releaseHolds).rebuildStrip k).gate
      (tileDoms k ++ stackDoms k ++ eaveDoms k)) := by
  simp only [State.dropRestore, hrestore, if_true]

/- Repairs. -/

/-- A spare of a repair that is still to be checked, and passes, is checked, and the repair goes on. -/
theorem spareCheckEnd_chosen {col row : Nat} {r : Repair} (hrepair : tabFind s.repairs (s.repairKey (col / 6)) = some r) (hstep : r.step = 5)
    (hchosen : (col, row) ∈ s.chosen r) (hnew : (col, row) ∉ r.checked) :
    s.spareCheckEnd col row true = ((s.spareChecked col row).setRepair (s.repairKey (col / 6))
      { r with checked := r.checked ++ [(col, row)] }).repairAdvance (s.repairKey (col / 6)) := by
  have hdue : (r.step == 5 && (s.chosen r).contains (col, row) && !r.checked.contains (col, row)) = true := by
    simp [hstep, hchosen, hnew]
  simp only [State.spareCheckEnd, hrepair]
  exact if_pos hdue

/- Rehanging. -/

/-- A rehung tile is dead no longer. -/
theorem rehung_not_dead (c : Column) (row : Nat) : row ∉ (c.rehung row).dead := by
  unfold Column.rehung
  split <;> simp

/-- A rehung hole of a column in use has the highest rank among its spares. -/
theorem rehung_rank {c : Column} {row : Nat} (hused : c.retired = false)
    (hhole : (c.rehung row).holes.contains row = true) : (c.rehung row).rank.getLast? = some row := by
  have hholes : (c.rehung row).holes = c.holes := by unfold Column.rehung; split <;> rfl
  have hspare : ¬ (c.retired || !c.holes.contains row) = true := by rw [hused, ← hholes, hhole]; decide
  rw [Column.rehung, if_neg hspare, List.getLast?_concat]

end Sys2Proof.Machine

open Sys2Proof Sys2Proof.Machine

/-- Settles O35: a nonce and the bay map are written where they fit, an expiry clears what has expired, and a scrub that ends frees what waited. -/
theorem noncesMapsAndScrubs : Obligations.NoncesMapsAndScrubs := by
  unfold Obligations.NoncesMapsAndScrubs
  refine ⟨?nonces, ?scrubs⟩
  case nonces =>
    intro s u q it hcounts t n
    refine ⟨fun hitem hcheck hrange hwrite => ?nonce, fun hitem hcheck hrange hwrite => ?map, fun n hlive => ?expiry, rfl⟩
    case nonce => exact next_eq (adminRun_acts hitem hcheck (adminWrite_ok hrange hwrite))
    case map => exact next_eq (adminRun_acts hitem hcheck (adminWrite_ok hrange hwrite))
    case expiry => exact next_eq (if_pos (by rw [hlive]; rfl))
  case scrubs =>
    intro s b k rest v s1
    refine ⟨fun hbay hscrub hgoes hresets hrepairs => ?bay, fun q slot hrestore hgoes => ⟨fun hbad => ?refused, fun hcols hnorth hsouth => ?restored⟩⟩
    case bay =>
      have hfree : ¬ (s.dev.fatal.isSome || (s.bayAt b).resets != [] || s.repairs.any (fun r => r.1 == b || r.1 == 16 + k)) = true := by
        have hnone : s.repairs.any (fun r => r.1 == b || r.1 == 16 + k) = false :=
          List.any_eq_false.mpr fun r hr => by simp [hrepairs r hr]
        simp [hgoes, show (s.bayAt b).resets = [] from hresets, hnone]
      refine next_eq ((if_neg hbay).trans ?_)
      simp only [State.scrubStep, show (s.bayAt b).scrub = k :: rest from hscrub]
      exact if_neg hfree
    case refused =>
      refine next_eq ((if_pos rfl).trans ((restoreDone_ends hrestore hgoes).trans ((if_pos ?_).trans ?_)))
      · rcases hbad with ⟨i, hi, hdead⟩ | hfails | hfails
        · simp only [Bool.or_eq_true, List.any_eq_true, List.mem_range, decide_eq_true_eq]
          exact .inl (.inl ⟨i, hi, hdead⟩)
        · simp [hfails]
        · simp [hfails]
      · rw [dropRestore_tested hrestore]
    case restored =>
      have hgood : ((List.range 6).any fun i => decide (4 < (s.columnAt (6 * k + i)).dead.length)) = false :=
        List.any_eq_false.mpr fun i hi => by simpa using hcols i (List.mem_range.mp hi)
      exact next_eq ((if_pos rfl).trans ((restoreDone_ends hrestore hgoes).trans (if_neg (by simp [hgood, hnorth, hsouth]))))

/-- Settles O36: a repair at the step that the command takes up takes it. -/
theorem slipRepairsTakeTheirSteps : Obligations.SlipRepairsTakeTheirSteps := by
  unfold Obligations.SlipRepairsTakeTheirSteps
  intro s key r hrepair
  refine ⟨fun hstep => ?planned, fun hstep => ?unplanned, fun hstep => ?waited, fun hstep => ?drained, fun hstep hidle => ?idle,
    fun col row hkey hstep hchosen hnew => ?checked, fun losses hstep => ?migrated⟩
  case planned => exact next_eq (by simp only [State.repairBegin, hrepair, hstep, if_true])
  case unplanned => exact next_eq (by simp only [State.repairBegin, hrepair, hstep, (by decide : 2 ≠ 1), if_true, if_false])
  case waited => exact next_eq (by simp only [State.planWaitEnds, hrepair, hstep, if_true])
  case drained => exact next_eq (by simp only [State.meshDrained, hrepair, hstep, if_true])
  case idle =>
    exact next_eq (by simp only [State.meshDrained, hrepair, hstep, hidle, (by decide : 0 ≠ 3), decide_true, Bool.and_self, if_true, if_false])
  case checked =>
    subst hkey
    exact next_eq (spareCheckEnd_chosen hrepair hstep hchosen hnew)
  case migrated =>
    refine next_eq ?_
    unfold State.migrate
    rw [hrepair]
    exact if_neg (not_not_intro hstep)

/-- Settles O37: a failure at an existing place is taken up, and a check that ends has the outcome that its kind asks for. -/
theorem failuresAndSpares : Obligations.FailuresAndSpares := by
  unfold Obligations.FailuresAndSpares
  refine ⟨?failures, ?spares⟩
  case failures =>
    intro s col row k cause
    have place (hcol : col < 72) (hrow : row < 60) : tilePlace col row = true := by simp [tilePlace, hcol, hrow]
    refine ⟨fun hcol hrow => ?selfCheck, fun hcol hrow hhalted answered => ?paused, fun hcol hrow hruns => ⟨?answered, fun hfew => ?missed,
      fun hmany => ?third⟩, fun hk => ?eave, fun hk hcause => ?controller, rfl, rfl⟩
    case selfCheck => exact next_eq (if_pos (place hcol hrow))
    case paused => exact next_eq ((if_pos (place hcol hrow)).trans (if_pos hhalted))
    case answered => exact next_eq ((if_pos (place hcol hrow)).trans ((if_neg (Bool.not_eq_true _ ▸ hruns)).trans (if_pos rfl)))
    case missed =>
      exact next_eq ((if_pos (place hcol hrow)).trans ((if_neg (Bool.not_eq_true _ ▸ hruns)).trans ((if_neg Bool.false_ne_true).trans
        (if_neg (Nat.not_le.mpr hfew)))))
    case third =>
      exact next_eq ((if_pos (place hcol hrow)).trans ((if_neg (Bool.not_eq_true _ ▸ hruns)).trans ((if_neg Bool.false_ne_true).trans
        (if_pos hmany))))
    case eave => exact next_eq (if_pos hk)
    case controller => exact next_eq (if_pos ⟨hk, hcause⟩)
  case spares =>
    intro s col row pass
    refine ⟨fun r hidle hnext => ?begins, fun hrepair hhourly => ?ends, fun q it hchecking => ?rehang, ⟨rehung_not_dead _ _, fun hused hhole =>
      rehung_rank hused hhole⟩⟩
    case begins =>
      have hnone : (s.columnAt col).rank.any (fun x => (s.tileAt col x).checking == 1) = false :=
        List.any_eq_false.mpr fun x hx => by simp [hidle x hx]
      exact next_eq (by simp only [State.fullCheck, hnone, hnext, Bool.false_eq_true, if_false])
    case ends => exact next_eq (by simp only [State.spareCheckEnd, hrepair, hhourly, ne_eq, not_true_eq_false, if_false])
    case rehang =>
      intro s0 s1 c e s2 hwaiting
      refine ⟨next_eq ?_, next_eq ?_⟩
      · simp only [State.rehangEnd, hchecking, hwaiting, ne_eq, not_true_eq_false, Bool.false_eq_true, if_false, s1, s0]
      · simp only [State.rehangEnd, hchecking, hwaiting, ne_eq, not_true_eq_false, if_false, if_true, s2, s1, s0, c, e]

end

section
/-! SUPPORT. Repair commands (R426, R433 to R437, R441, R442), stack controllers (R243 to R247), power, droop and temperature (R445 to R459), and
the statements about them. -/

open Sys2Proof Sys2Proof.Machine

/-- Settles O38: a repair command whose fields pass and whose conditions hold acts, and a restore that waits goes on or gives up. -/
theorem repairCommandsAndRestores : Obligations.RepairCommandsAndRestores := by
  unfold Obligations.RepairCommandsAndRestores
  refine ⟨?commands, ?restores⟩
  case commands =>
    intro s u q it t col row states
    have slips (hlive : row ∉ (t.columnAt col).dead) (hspares : (t.columnAt col).rank ≠ []) (hused : (t.columnAt col).retired = false) :
        ¬ ((t.columnAt col).dead.contains row || (t.columnAt col).rank == [] || (t.columnAt col).retired) = true := by
      simp [hlive, hspares, hused]
    refine ⟨fun hitem hcheck hrange hwrite => ?states, fun hitem hcheck hdead hfew hquiet hfree hidle => ?rehang,
      fun hitem hcheck hlive hspares hused hfree => ⟨fun htest => ?retested, fun htest hhole => ?spare, fun htest hcore => ?planned⟩,
      fun hitem hcheck hfails hfree => ?retire, fun hitem hcheck hout howner hcols hnorth hsouth hquiet hfree => ?restore,
      fun hitem hcheck hbay => ?errors⟩
    case states => exact next_eq (adminRun_acts hitem hcheck (adminWrite_ok hrange hwrite))
    case rehang =>
      have hdead' : ¬ (!(t.columnAt col).dead.contains row || decide (3 ≤ (t.tileAt col row).failures) || t.scrubbing (col / 6)) = true := by
        simp [hdead, hfew, hquiet]
      have hfree' : ¬ (tabHas t.repairs (t.repairKey (col / 6)) || (t.tileAt col row).checking == 2) = true := by simp [hfree, hidle]
      exact next_eq (adminRun_acts hitem hcheck ((if_neg hdead').trans (if_neg hfree')))
    case retested =>
      exact next_eq (adminRun_acts hitem hcheck ((if_neg (slips hlive hspares hused)).trans
        ((if_neg (Bool.not_eq_true _ ▸ hfree)).trans (if_pos htest))))
    case spare =>
      exact next_eq (adminRun_acts hitem hcheck ((if_neg (slips hlive hspares hused)).trans
        ((if_neg (Bool.not_eq_true _ ▸ hfree)).trans ((if_neg (Bool.not_eq_true _ ▸ htest)).trans (if_pos (by simpa using hhole))))))
    case planned =>
      exact next_eq (adminRun_acts hitem hcheck ((if_neg (slips hlive hspares hused)).trans
        ((if_neg (Bool.not_eq_true _ ▸ hfree)).trans ((if_neg (Bool.not_eq_true _ ▸ htest)).trans (if_neg (by simpa using hcore))))))
    case retire =>
      have hfails' : ¬ (!((t.stackAt col).failing || (t.stackAt (12 + col)).failing)) = true := by
        rcases hfails with h | h <;> simp [h]
      exact next_eq (adminRun_acts hitem hcheck ((if_neg hfails').trans (if_neg (Bool.not_eq_true _ ▸ hfree))))
    case restore =>
      have hcols' : ((List.range 6).map (fun i => 6 * col + i)).any (fun c => decide (4 < (t.columnAt c).dead.length)) = false := by
        simpa using hcols
      have hgoes : ¬ (!t.dev.outOfService.contains col || (t.stripOwner col).isSome ||
          ((List.range 6).map (fun i => 6 * col + i)).any (fun c => decide (4 < (t.columnAt c).dead.length)) ||
          (t.stackAt col).failing || (t.stackAt (12 + col)).failing || t.scrubbing col) = true := by
        simp [hout, howner, hcols', hnorth, hsouth, hquiet]
      exact next_eq (adminRun_acts hitem hcheck ((if_neg hgoes).trans (if_neg
        (by simp [show (s.served pfFn q).dev.restore = none from hfree]))))
    case errors =>
      intro recs hrange hfits hwrite
      refine next_eq ((adminRun_needBay hitem hcheck hbay).trans (congrArg State.settle ?_))
      dsimp only
      rw [show (s.served pfFn q).checkAt pfFn (adAddr it.entry) (64 * adCount it.entry) = none from hrange]
      exact adminWrite_ok hfits hwrite
  case restores =>
    intro s k q slot hrestore
    refine ⟨fun hquiesced hfree => ?goes, ?expires⟩
    case goes =>
      exact next_eq (by simp only [State.restoreGo, hrestore, hquiesced, hfree, Bool.not_true, Bool.or_self, Bool.false_eq_true, if_false])
    case expires => exact next_eq (by simp only [State.restoreExpires, hrestore, Bool.false_eq_true, if_false])

/-- Settles O39: the controller of a stack that runs does its work. -/
theorem stackControllersScrubRefreshAndRepair : Obligations.StackControllersScrubRefreshAndRepair := by
  unfold Obligations.StackControllersScrubRefreshAndRepair
  intro s k hruns v
  refine ⟨fun syms lanes inner tag => ?scrub, fun pc bank acts flaws hpc hbank => ?refresh, fun key hidle hcandidate => ?repair,
    fun key lost hrepairing => ?done⟩
  case scrub => exact next_eq (if_pos hruns)
  case refresh => exact next_eq (if_pos (by simp [hruns, hpc, hbank]))
  case repair => exact next_eq ((if_pos hruns).trans (by simp only [State.rowRepair, show (s.stackAt k).repairing = none from hidle,
    show (s.stackAt k).repairable = some key from hcandidate, v]))
  case done => exact next_eq ((if_pos hruns).trans (by simp only [State.rowRepairDone, show (s.stackAt k).repairing = some key from hrepairing]))

/-- Settles O40: an event of power or temperature whose conditions hold acts, and a record with a destination is written there. -/
theorem powerDroopsAndRecords : Obligations.PowerDroopsAndRecords := by
  unfold Obligations.PowerDroopsAndRecords
  refine ⟨?power, ?droops, ?records⟩
  case power =>
    intro s
    refine ⟨fun total bays stretched hmain => ?tick, fun b point hmain hfree htarget => ?settled, fun cause hlow hhigh hnew => ?emergency,
      fun hnew => ?alert, fun hcauses hcleared => ?released, fun high hmain => ?shutdown, fun high hmain => ?off,
      fun tiles stk reg hmain htrip => ?trip, fun d hmain => ?regulator⟩
    case tick => exact next_eq (if_pos hmain)
    case settled =>
      exact next_eq (by simp only [hmain, hfree, State.settleAclk, htarget, Bool.not_false, Bool.and_self, if_true])
    case emergency =>
      have hother : cause ≠ 4 := by omega
      have hin : 1 ≤ cause ∧ cause ≤ 4 := ⟨hlow, by omega⟩
      exact next_eq (by simp only [hin, hother, State.powerEmergency, State.emergency, hnew, and_self, Bool.false_eq_true, if_true, if_false])
    case alert =>
      refine next_eq ((if_pos ⟨by decide, Nat.le_refl _⟩).trans ?_)
      simp only [State.powerEmergency, State.emergency, hnew, Bool.false_eq_true, if_true, if_false]
    case released =>
      have hgoes : ¬ (s.power.causes = [] || !s.power.causes.all s.causeCleared) = true := by simp [hcauses, hcleared]
      exact next_eq (if_neg hgoes)
    case shutdown => exact next_eq (if_pos hmain)
    case off => exact next_eq (if_neg (Bool.not_eq_true _ ▸ hmain))
    case trip =>
      intro heated
      exact next_eq (by simp only [State.temperatures, hmain, htrip, heated, Bool.not_true, Bool.false_eq_true, if_false, if_true])
    case regulator => exact next_eq (if_pos (by simp [hmain]))
  case droops =>
    intro s unit cycles b d low
    refine ⟨fun hunit howner => ?droop, rfl, fun hon hmay => ?gate, fun hgated hmay => ?wake⟩
    case droop =>
      intro s1
      have hgoes : ¬ ((0 : Nat) ≠ 0 ∨ 12 ≤ unit) := by omega
      refine next_eq ((if_neg hgoes).trans ?_)
      have howner' : s1.stripOwner unit = some b := howner
      simp only [s1] at howner'
      simp only [howner', s1]
    case gate => exact next_eq (if_pos (by simp only [hon, hmay, Bool.and_self]))
    case wake => exact next_eq (if_pos (by simp only [hgated, hmay, Bool.and_self]))
  case records =>
    intro s b d hruns
    refine ⟨fun hdest => ?memory, fun hdest => ?link, fun hdest hbay => ?power⟩
    case memory => exact next_eq ((if_pos hruns).trans (by simp only [State.memHealth, hdest]))
    case link => exact next_eq ((if_pos hruns).trans (by simp only [State.linkHealth, hdest]))
    case power =>
      intro w
      exact next_eq (by simp only [hbay, if_false, hruns, if_true, State.powerRecord, hdest, w])

/-- Settles O41: the range that holds the domain decides what its fault does. -/
theorem regulatorFaultsFollowTheirDomain : Obligations.RegulatorFaultsFollowTheirDomain := by
  unfold Obligations.RegulatorFaultsFollowTheirDomain
  intro s d hsupplied s1 goes
  have fault {t : State} (h : s.regulatorFault d = t) : goes t := next_eq ((if_pos hsupplied).trans h)
  refine ⟨fun htile => fault ?tile, fun hlow hhigh => fault ?controller, fun hlow hhigh => fault ?eave, fun hlow hhigh => fault ?port,
    fun hlow hhigh => fault ?device⟩
  case tile => exact if_pos htile
  case controller => exact (if_neg (by omega)).trans (if_pos hhigh)
  case eave => exact (if_neg (by omega)).trans ((if_neg (by omega)).trans (if_pos hhigh))
  case port => exact (if_neg (by omega)).trans ((if_neg (by omega)).trans ((if_neg (by omega)).trans (if_pos hhigh)))
  case device =>
    exact (if_neg (by omega)).trans ((if_neg (by omega)).trans ((if_neg (by omega)).trans ((if_neg (by omega)).trans (if_pos hhigh))))

end

section
/-! SUPPORT. The interrupt controller's registers and MSI-X (R462 to R466, R469), debug and snapshots (R470 to R480), firmware (R491 to R493), and
the statements about them. -/

namespace Sys2Proof.Machine

variable {s : State}

/-- What a debug command asks of its bay (R417, R470): it exists, its level is high enough, and it is not locked. -/
structure BayDebuggable (s : State) (b level : Nat) : Prop where
  exists_ : s.bayExists b = true
  level : level ≤ (s.bayAt b).debugLevel
  unlocked : s.locked b = false

/-- The three tests of a bay that permits debug fall through. -/
theorem BayDebuggable.goes {b level : Nat} (h : BayDebuggable s b level) (r1 r2 r3 u : State) :
    (if (!s.bayExists b) = true then r1 else if (s.bayAt b).debugLevel < level then r2 else if s.locked b = true then r3 else u) = u := by
  rw [if_neg (by simp [h.exists_]), if_neg (Nat.not_lt.mpr h.level), if_neg (by simp [h.unlocked])]

/- Firmware images. -/

/-- A staged image is in the slot that does not run, valid where it verifies and is not below the floor; the security controller's is then selected
for the next boot. -/
theorem stageImage_eq (s : State) (kind : Nat) (image : List Byte) :
    let k := s.fwAt kind
    let ver := Config.imageVersion image % 2 ^ 16
    let fits := Config.imageVerifies image && decide (s.versionFloor kind ≤ ver)
    let k1 := k.setSlot (1 - k.running) ⟨Config.sha384 image, ver, fits⟩
    let t1 := s.setFw kind (if fits = true ∧ kind = 0 then { k1 with selector := 1 - k.running } else k1)
    s.stageImage kind image = (if fits then { t1 with sec := { t1.sec with staged := tabSet t1.sec.staged kind (Config.sha384 image) } }
      else { t1 with sec := { t1.sec with staged := tabDel t1.sec.staged kind } }, fits) := by
  dsimp only
  unfold State.stageImage
  cases hfits : Config.imageVerifies image && decide (s.versionFloor kind ≤ Config.imageVersion image % 2 ^ 16) with
  | true => simp only [hfits, if_true, true_and]
  | false => simp only [hfits, Bool.false_eq_true, if_false, false_and]

end Sys2Proof.Machine

open Sys2Proof Sys2Proof.Machine

/-- Settles O43: a register or a table entry in range takes what is written to it. -/
theorem interruptsAndMsixAct : Obligations.InterruptsAndMsixAct := by
  unfold Obligations.InterruptsAndMsixAct
  refine ⟨?controller, ?msix⟩
  case controller =>
    intro s t n value
    refine ⟨fun hmask hactive ht hnext => ?delivery, fun ht => ⟨?done, ?mask, ?wait⟩, fun hwaiting hnext => ?wake, fun hlow hhigh => ?soft,
      fun hn hlisted => ?source⟩
    case delivery =>
      have hready : s.tgtReady t = true := by simp [State.tgtReady, hmask, hactive, ht]
      exact next_eq (by simp only [State.deliver, hready, hnext, if_true])
    case done => exact next_eq (if_pos ht)
    case mask => exact next_eq (if_pos ht)
    case wait => exact next_eq (if_pos ht)
    case wake => exact next_eq (if_pos (by simp only [hwaiting, hnext, Option.isSome_some, Bool.and_self]))
    case soft =>
      have hmod : value % 512 = value := Nat.mod_eq_of_lt hhigh
      exact next_eq (by rw [hmod, if_pos hlow])
    case source => exact next_eq (by simp only [State.srcWrite, Nat.not_le.mpr hn, hlisted, if_false, if_true])
  case msix =>
    intro s fn w hfn
    have hin : ¬ 13 ≤ fn := Nat.not_le.mpr hfn
    refine ⟨fun hentry => ?entry, ?opens⟩
    case entry => exact next_eq ((if_neg hin).trans (if_pos hentry))
    case opens =>
      intro t
      exact next_eq (if_neg hin)

/-- Settles O44: a snapshot, trace or debug command whose fields pass and whose conditions hold acts. -/
theorem snapshotsAndDebugCommandsRun : Obligations.SnapshotsAndDebugCommandsRun := by
  unfold Obligations.SnapshotsAndDebugCommandsRun
  refine ⟨?snapshots, ?debug⟩
  case snapshots =>
    intro s u q it t
    refine ⟨fun hitem hcheck hfree => ?strobe, fun h hitem hcheck hheld => ?read, fun h hitem hcheck hheld => ?release,
      fun h hheld htrigger => ?expiry, fun ns hlong haux => ?contact⟩
    case strobe =>
      intro t1
      exact next_eq (adminRun_acts hitem hcheck (if_neg (by simp [show (s.served pfFn q).dbg.held = none from hfree])))
    case read =>
      intro part hrange hfits hwrite
      refine next_eq (adminRun_acts hitem hcheck ?_)
      simp only [show (s.served pfFn q).dbg.held = some h from hheld, show (s.served pfFn q).checkAt _ _ _ = none from hrange]
      exact adminWrite_ok hfits hwrite
    case release =>
      exact next_eq (adminRun_acts hitem hcheck (if_pos (by simp [show (s.served pfFn q).dbg.held = some h from hheld])))
    case expiry => exact next_eq (by simp only [hheld, htrigger, if_false])
    case contact => exact next_eq (if_pos ⟨hlong, haux⟩)
  case debug =>
    intro s u q it t e b
    refine ⟨fun hitem hcheck hopen => ?trace, fun hitem hcheck hbay hlevel hunlocked hruns => ?halt,
      fun hitem hcheck hbay hlevel hunlocked hhalted => ?step, fun bay hhalted hleft => ?stepEnds,
      fun hitem hcheck hbay hlevel hunlocked hhalted => ?resume, fun hitem hcheck hreach hbay hspace hlevel hunlocked => ?access⟩
    case trace =>
      intro es hrange hfits hwrite
      refine next_eq (adminRun_acts hitem hcheck ((if_neg (Nat.not_lt.mpr hopen)).trans ?_))
      rw [show (s.served pfFn q).checkAt _ _ _ = none from hrange]
      exact adminWrite_ok hfits hwrite
    case halt =>
      refine next_eq (adminRun_acts hitem hcheck ((BayDebuggable.goes ⟨hbay, hlevel, hunlocked⟩ _ _ _ _).trans ?_))
      rw [if_neg (Bool.not_eq_true _ ▸ hruns)]
    case step =>
      have hstops : ¬ (!t.bayExists b || !(t.bayAt b).halted) = true := by simp [hbay, hhalted]
      refine next_eq (adminRun_acts hitem hcheck ((if_neg hstops).trans ((if_neg (Nat.not_lt.mpr hlevel)).trans
        (if_neg (Bool.not_eq_true _ ▸ hunlocked)))))
    case stepEnds => exact next_eq (if_pos (by simp [hhalted, hleft]))
    case resume =>
      refine next_eq (adminRun_acts hitem hcheck ((BayDebuggable.goes ⟨hbay, hlevel, hunlocked⟩ _ _ _ _).trans ?_))
      rw [if_pos hhalted]
    case access =>
      refine next_eq ((if_neg ?_).trans (adminRun_acts hitem hcheck ((if_neg (by simp [show (s.served pfFn q).bayExists (adBay it.entry) = true from hbay])).trans
        ((if_neg (Bool.not_eq_true _ ▸ hspace)).trans ((if_neg (Nat.not_lt.mpr hlevel)).trans (if_neg (Bool.not_eq_true _ ▸ hunlocked)))))))
      rw [hitem]
      exact Bool.not_eq_true _ ▸ hreach

/-- Settles O45: an image that is read is written to the slot that does not run, and an activation takes its steps. -/
theorem firmwareIsStagedAndActivated : Obligations.FirmwareIsStagedAndActivated := by
  unfold Obligations.FirmwareIsStagedAndActivated
  intro s q it t kind
  refine ⟨fun image hitem hcheck hfree hread => ?stage, fun hitem hcheck hallowed => ?activate, fun k e hdrains => ?limit,
    fun k e stage pass hdrains hdone => ?ends⟩
  case stage =>
    intro k ver fits k1 t1
    refine next_eq (adminRun_acts hitem hcheck ((if_neg (by simp [State.updating, show (s.served pfFn q).sec.activation = none from hfree])).trans ?_))
    rw [show (s.served pfFn q).readAt _ _ _ = .ok image from hread]
    have hstage : (s.served pfFn q).drawn.stageImage (fieldAt it.entry 28 1) image = (if fits
        then { t1 with sec := { t1.sec with staged := tabSet t1.sec.staged kind (Config.sha384 image) } }
        else { t1 with sec := { t1.sec with staged := tabDel t1.sec.staged kind } }, fits) := stageImage_eq _ _ _
    simp only [hstage]
    by_cases hfits : fits = true
    · simp only [if_pos hfits]
      rfl
    · simp only [if_neg hfits]
  case activate =>
    refine next_eq (adminRun_acts hitem hcheck ?_)
    dsimp only
    rw [show (s.served pfFn q).activateRefused _ = none from hallowed]
  case limit => exact next_eq (by simp only [State.drainLimit, hdrains])
  case ends =>
    have hgoes : (decide (k = 2) || s.drained) = true := by simpa using hdone
    exact next_eq (by simp only [State.drainComplete, hdrains, hgoes, if_true])

end

section
/-! SUPPORT. Resets, boot and functions (R371, R373, R389, R481 to R490), and the statements about them. -/

namespace Sys2Proof.Machine

variable {s : State}

/-- A device warm reset that is triggered while the device runs, and none is pending, ends every item and waits for the records (R481, R483). -/
theorem startWarm_running (hmain : s.dev.mainOn = true) (hnew : s.dev.warmPending = false) (hready : s.dev.ready = true)
    (hgood : s.dev.fatal = none) : s.startWarm = ({ s with dev := { s.dev with warmPending := true } }.endAll).settle := by
  simp only [State.startWarm, hmain, hnew, hready, hgood, Bool.not_true, Bool.or_self, Bool.false_eq_true, Option.isSome_none, if_false]

end Sys2Proof.Machine

open Sys2Proof Sys2Proof.Machine

/-- Settles O46: a reset that is triggered, or due, begins, and boot takes its next step. -/
theorem resetsOfTheDeviceRun : Obligations.ResetsOfTheDeviceRun := by
  unfold Obligations.ResetsOfTheDeviceRun
  refine ⟨?warm, ?cold⟩
  case warm =>
    intro s q it idle begins
    have warms {t : State} (h : idle t) : t.startWarm = begins t := by
      obtain ⟨hmain, hnew, hready, hgood⟩ := h
      exact startWarm_running hmain hnew hready hgood
    refine ⟨fun side hidle => ⟨?hot, ?pf, ?perst⟩, fun hitem hcheck hstill hidle => ?entry, fun pass hpending hdone => ?effect, rfl⟩
    case hot =>
      cases side with
      | false => exact next_eq (warms hidle)
      | true => exact next_eq (warms hidle)
    case pf => exact next_eq (warms hidle)
    case perst => exact next_eq (warms hidle)
    case entry =>
      exact next_eq ((if_neg (Bool.not_eq_true _ ▸ hstill)).trans (adminRun_acts hitem hcheck (warms hidle)))
    case effect => exact next_eq (if_pos (by simp [hpending, hdone]))
  case cold =>
    intro s q it
    refine ⟨fun hrails hmain hgood hnormal => ?inRange, fun hshut => ?returns, fun pulse hlong haux => ⟨fun htrip hhot => ?held, fun hcool => ?module⟩,
      fun hitem hcheck hstill => ?entry, fun e hopen hbare => ⟨fun hupdate => ?waits, fun hstill hnew => ?side⟩, fun release hdue => ?released,
      fun haux => ?aux, fun dead bad channels ms htesting hgood => ?boots⟩
    case inRange => exact next_eq (if_pos (by simp [hrails, hmain, hgood, hnormal]))
    case returns => exact next_eq (if_pos (by simp [hshut]))
    case held =>
      refine next_eq ((if_neg (by simp [hlong, haux])).trans (if_pos ?_))
      simp [htrip, hhot]
    case module =>
      refine next_eq ((if_neg (by simp [hlong, haux])).trans (if_neg ?_))
      rcases hcool with h | h <;> simp [h]
    case entry => exact next_eq ((if_neg (Bool.not_eq_true _ ▸ hstill)).trans (adminRun_acts hitem hcheck rfl))
    case waits => exact next_eq (by simp only [State.sideColdReset, hopen, hbare, hupdate, Bool.not_true, Bool.false_eq_true, if_false, if_true])
    case side =>
      have hnew' : ¬ (s.dev.coldCause == some 3) = true := by simpa using hnew
      refine next_eq ?_
      simp only [State.sideColdReset, hopen, hbare, hstill, hnew', Bool.not_true, Bool.false_eq_true, if_false]
      rfl
    case released => exact next_eq (if_pos hdue)
    case aux => exact next_eq (if_pos haux)
    case boots => exact next_eq (if_pos (by simp [htesting, hgood]))

/-- Settles O47: a reset entry whose conditions hold acts, and a function in range comes, goes or changes. -/
theorem resetEntriesAndFunctions : Obligations.ResetEntriesAndFunctions := by
  unfold Obligations.ResetEntriesAndFunctions
  refine ⟨?entries, ?functions⟩
  case entries =>
    intro s q it t b
    refine ⟨fun hitem hcheck hbay => ?bay, fun hitem hcheck hbay hcol hrow hidle => ?core, fun hitem hcheck => ?link⟩
    case bay => exact next_eq (adminRun_acts hitem hcheck (if_neg (by simp [show (s.served pfFn q).bayExists (adBay it.entry) = true from hbay])))
    case core =>
      have hin : ¬ (6 * (t.bayAt b).count ≤ fieldAt it.entry 28 1 ∨ 55 < fieldAt it.entry 29 1) := by omega
      refine next_eq (adminRun_acts hitem hcheck ((if_neg ?_).trans ((if_neg hin).trans (if_neg ?_))))
      · simp [show (s.served pfFn q).bayExists (adBay it.entry) = true from hbay]
      · exact fun h => bne_iff_ne.mp h hidle
    case link =>
      intro p u
      exact next_eq (adminRun_acts hitem hcheck rfl)
  case functions =>
    intro s b n
    refine ⟨fun hb hfn hbay => ?flr, fun hb hfn hbay => ?flrNoBay, fun hn => ?lower, fun hn hmost hmain => ?raise,
      fun bars mem master ats pasid msix fmask hb hfn hmain => ?config⟩
    case flr => exact next_eq ((if_neg (by simp [hb, hfn])).trans (if_pos hbay))
    case flrNoBay => exact next_eq ((if_neg (by simp [hb, hfn])).trans (if_neg (Bool.not_eq_true _ ▸ hbay)))
    case lower => exact next_eq (if_neg (Nat.not_le.mpr hn))
    case raise => exact next_eq (if_neg (by simp [hn, hmost, hmain]))
    case config =>
      intro stop s1
      have hfn' : (b != pfFn) = true := bne_iff_ne.mpr (Nat.ne_of_lt hb)
      have hin : ¬ (decide (12 < b) || !(b == pfFn || (s.fnAt b).exists_) || !s.dev.mainOn) = true := by simp [Nat.le_of_lt hb, hfn, hmain]
      refine next_eq ((if_neg hin).trans ?_)
      simp only [hfn', Bool.true_and]
      rfl

end

section
/-! SUPPORT. Lifetime records and the sideband (R494 to R499), and the statement about them. -/

open Sys2Proof Sys2Proof.Machine

/-- Settles O48: a lifetime command from a queue, or a request over the open sideband, whose fields pass acts and is answered. -/
theorem lifetimeAndSidebandRun : Obligations.LifetimeAndSidebandRun := by
  unfold Obligations.LifetimeAndSidebandRun
  refine ⟨?lifetime, ?sideband⟩
  case lifetime =>
    intro s u q it e t bytes
    refine ⟨fun hitem hcheck hrange hfits hwrite => ?read, fun hopen hselect => ?sideRead, fun hitem hcheck hvalue => ?epoch,
      fun hopen hoperands hvalue => ?sideEpoch, fun v hopen => ?date, fun tb sb haux => ?commit⟩
    case read =>
      refine next_eq (adminRun_acts hitem hcheck ?_)
      rw [show (s.served pfFn q).checkAt _ _ _ = none from hrange]
      exact adminWrite_ok hfits hwrite
    case sideRead => exact next_eq (by simp only [State.sideLifeRead, hopen, hselect, Bool.not_true, Bool.false_eq_true, if_false])
    case epoch => exact next_eq (adminRun_acts hitem hcheck (if_neg hvalue))
    case sideEpoch => exact next_eq (by simp only [State.sideEpoch, hopen, hoperands, hvalue, Bool.not_true, Bool.false_eq_true, if_false])
    case date => exact next_eq (by simp only [State.sideEpoch, hopen, Bool.not_true, Bool.false_eq_true, if_false])
    case commit => exact next_eq (if_pos haux)
  case sideband =>
    intro s
    refine ⟨fun a haux hon hnew hin => ?address, fun hreach hnormal eid => ?endpoint, fun hreach c => ?discovery, fun hopen n hn => ?sensor,
      fun hreach kind image hkind hstill => ?staged, fun hreach kind image hlow hhigh hallowed => ?activated⟩
    case address => exact next_eq (if_pos (by simp [haux, hon, hnew, hin]))
    case endpoint => exact next_eq (if_pos (by simp [hreach, hnormal]))
    case discovery => exact next_eq (if_pos hreach)
    case sensor => exact next_eq ((if_pos hopen).trans (by simp only [hn, if_true]))
    case staged =>
      have hstill' : ¬ (s.pend 200).updating = true := Bool.not_eq_true _ ▸ hstill
      intro r
      exact next_eq ((if_pos (by simp [hreach, hkind])).trans (if_neg hstill'))
    case activated =>
      have hother : kind ≠ 0 := by omega
      refine next_eq ((if_pos (by simp [hreach, hhigh])).trans ?_)
      simp only [State.pldmUpdate, hother, hallowed, if_true, if_false]

end

section
/-! SUPPORT. Set-up writes and slots (R406, R500 to R518), the host's side of the link (R370 to R387), and the statements about them. -/

namespace Sys2Proof.Machine

variable {s : State} {fn off width value : Nat}

/-- A set-up write that the BAR takes, in a slot of its function, acts at once. -/
theorem setupGets_now (hopen : s.barOpen fn = true) (hgood : s.dev.fatal = none) (hnow : s.takesNow fn = true) :
    s.setupGets fn off width value = (s.setupWrite fn off width value).settle := by
  simp only [State.setupGets, State.ridgeActs, hopen, hgood, hnow, Bool.true_eq_false, Option.isSome_none, decide_false, Bool.or_self, Bool.false_eq_true, if_false,
    if_true]

/-- Outside a slot of its function it is held. -/
theorem setupGets_later (hopen : s.barOpen fn = true) (hgood : s.dev.fatal = none) (hlater : s.takesNow fn = false) :
    s.setupGets fn off width value = s.hold fn (.setup off width value) := by
  simp only [State.setupGets, hopen, hgood, hlater, Bool.true_eq_false, Option.isSome_none, decide_false, Bool.or_self, Bool.false_eq_true, if_false]

end Sys2Proof.Machine

open Sys2Proof Sys2Proof.Machine

/-- Settles O49: a boundary begins the next slot, and a set-up write acts in its slot and is held outside it. -/
theorem slotsAndSetUpWritesAct : Obligations.SlotsAndSetUpWritesAct := by
  unfold Obligations.SlotsAndSetUpWritesAct
  intro s fn off width value q hgood acts
  refine ⟨rfl, fun hopen hnow => ?now, fun hopen hlater => ?later⟩
  case now =>
    have takes {off width value : Nat} : s.setupGets fn off width value = (s.setupWrite fn off width value).settle :=
      setupGets_now hopen hgood hnow
    refine ⟨next_eq takes, fun hq => ⟨?enable, ?disable, ?restart⟩, fun hfn hq inbound word => ⟨?opens, ?closes⟩, fun hfn => ?evidence⟩
    case enable => exact next_eq ((if_pos hq).trans takes)
    case disable => exact next_eq ((if_pos hq).trans takes)
    case restart => exact next_eq ((if_pos hq).trans takes)
    case opens => exact next_eq ((if_pos ⟨hq, hfn⟩).trans takes)
    case closes => exact next_eq ((if_pos ⟨hq, hfn⟩).trans takes)
    case evidence => exact next_eq ((if_pos hfn).trans takes)
  case later => exact next_eq (setupGets_later hopen hgood hlater)

/-- Settles O50: what the host's link delivers is laid over host memory, its failures and its translations, or stops the bays of a stream. -/
theorem hostLinkEventsAreTaken : Obligations.HostLinkEventsAreTaken := by
  unfold Obligations.HostLinkEventsAreTaken
  intro s fn iova pasid data key
  refine ⟨rfl, fun status hstatus => ?failed, fun len => rfl, fun len hats => ?invalidated, fun b write hrun hspace => ?rejected, fun n hsecure => ?ide⟩
  case failed => exact next_eq (if_neg hstatus)
  case invalidated =>
    intro t rest
    refine ⟨fun noRead noWrite hlacks => ?refused, ?given⟩
    case refused => exact next_eq ((if_pos hats).trans (by simp only [hlacks, if_true, t, rest, key]))
    case given => exact next_eq (if_pos hats)
  case rejected => exact next_eq (if_pos (by simp [hrun, hspace]))
  case ide =>
    intro s1
    exact next_eq (if_pos hsecure)

end

section
/-! SUPPORT. The SPDM responder (R380 to R383, R390), IDE keys (R384) and TDISP (R386 to R389), and the statements about them. -/

namespace Sys2Proof.Machine

variable {s : State} {sid : Nat} {x : Session}

/-- A TDISP request inside an established session, for a virtual function whose bay exists, acts, and the session has missed no heartbeat. -/
theorem tdisp_ok {b : Nat} {act : State → State} (hsession : s.sessionAt sid = some x) (hreach : s.spdmReached x.sideband = true)
    (hstill : s.updating = false) (hlife : s.sec.lifecycle ≠ 3) (hopen : x.established = true) (hbay : s.bayExists b = true)
    (hfn : (s.fnAt b).exists_ = true) : s.tdisp sid b act =
      s.announce (act ((s.pend (if x.sideband then 200 else 24)).setSession sid (fun y => { y with misses := 0 }))) x.sideband := by
  refine (inSession_ok hsession hreach hstill (.inl hlife) hopen).trans (congrArg (s.announce · x.sideband) (if_pos ?_))
  exact Bool.and_eq_true_iff.mpr ⟨hbay, hfn⟩

/-- FINISH of a session whose handshake is under way establishes it, or drops it where the handshake or the anchor fails. -/
theorem spdmFinish_handshake {pass : Bool} {root : Option (BitVec 384)} (hsession : s.sessionAt sid = some x)
    (hreach : s.spdmReached x.sideband = true) (hstill : s.updating = false) (hlife : s.sec.lifecycle ≠ 3) (hopen : x.established = false) :
    let t := s.pend (if x.sideband then 200 else 24)
    s.spdmFinish sid pass root = s.announce (if (pass && t.anchorOk root) = true
      then (t.setSession sid (fun y => { y with established := true, peer := root })).respond (natLE 1 0x65)
      else (t.dropSession sid).spdmError 0x06) x.sideband := by
  intro t
  have hside : s.sessionSide sid = x.sideband := by simp [State.sessionSide, hsession]
  have hsession' : t.sessionAt sid = some x := hsession
  rw [State.spdmFinish, hside, spdmRun_ok hreach hstill (.inl hlife)]
  simp only [show (s.pend (if x.sideband then 200 else 24)).sessionAt sid = some x from hsession', hopen, Bool.false_eq_true, if_false, t]

end Sys2Proof.Machine

open Sys2Proof Sys2Proof.Machine

/-- Settles O51: a request that its connection has got to is answered, and so is one for a certificate or measurement that exists. -/
theorem spdmConnectionsAndAnswers : Obligations.SpdmConnectionsAndAnswers := by
  unfold Obligations.SpdmConnectionsAndAnswers
  refine ⟨?connections, ?answers⟩
  case connections =>
    intro s side hreach hstill t ans
    have always (act : State → State) : s.spdmRun side true act = s.announce (act t) side := spdmRun_ok hreach hstill (.inr rfl)
    refine ⟨next_eq (always _), fun version hversions hknown => ?capabilities, fun asym hash dhe aead hversion => ?algorithms,
      fun certSlot share hlife hkeyed hchain hroom => ?exchange⟩
    case capabilities =>
      have hgoes : ¬ (t.connAt side).versions = false := by simp [hversions]
      exact next_eq ((always _).trans (congrArg (s.announce · side) ((if_neg hgoes).trans (if_pos hknown))))
    case algorithms =>
      intro sel ok
      exact next_eq ((always _).trans (congrArg (s.announce · side) (if_neg hversion)))
    case exchange =>
      intro sid x
      have hgoes : ¬ (t.connAt side).keyed = false := by simp [hkeyed]
      have hinstalled : ¬ (t.chainOf certSlot).isNone = true := by simpa [Option.isSome_iff_ne_none] using hchain
      exact next_eq ((spdmRun_ok hreach hstill (.inl hlife)).trans (congrArg (s.announce · side) ((if_neg hgoes).trans ((if_neg hinstalled).trans
        (if_neg (Nat.not_le.mpr hroom))))))
  case answers =>
    intro s t path side hstill hlife hreach hpath ans
    have either (always : Bool) (act : State → State) : s.inEither path always act = s.announce (act t) side :=
      inEither_ok hstill hlife hreach hpath
    refine ⟨next_eq (either _ _), fun slot off len c hchain hoff => ?certificate, fun slot nonce c hchain => ?challenge,
      fun index nonce m hone hnotAll hmeasured => ?measured, fun nonce => ?count, fun chain hlen hauth => ?install⟩
    case certificate =>
      refine next_eq ((either _ _).trans (congrArg (s.announce · side) ?_))
      simp only [hchain, Nat.not_le.mpr hoff, if_false]
    case challenge =>
      refine next_eq ((either _ _).trans (congrArg (s.announce · side) ?_))
      simp only [hchain]
    case measured =>
      intro body
      have hall : [index].all (fun i => (t.measurement i).isSome) = true := by simp [hmeasured]
      refine ⟨next_eq ((either _ _).trans (congrArg (s.announce · side) ?_)), next_eq ((either _ _).trans (congrArg (s.announce · side) ?_))⟩
      · simp only [hone, hnotAll, if_false, hall, if_true, List.length_singleton, List.flatMap_cons, List.flatMap_nil, List.append_nil, hmeasured, body]
      · simp only [hone, hnotAll, if_false, hall, if_true, List.length_singleton, List.flatMap_cons, List.flatMap_nil, List.append_nil, hmeasured, body,
          Bool.false_eq_true]
    case count =>
      refine next_eq ((either _ _).trans (congrArg (s.announce · side) ?_))
      simp only [if_true, List.all_nil, Bool.false_eq_true, if_false, List.flatMap_nil, List.length_nil, List.append_nil]
    case install =>
      exact next_eq ((if_neg (Nat.not_lt.mpr hlen)).trans ((either _ _).trans (congrArg (s.announce · side) (if_pos ⟨rfl, hauth⟩))))

/-- Settles O52: a request of a session acts on it, a missed heartbeat counts or ends it, and a key is loaded or brought into use. -/
theorem spdmSessionsAndIdeKeys : Obligations.SpdmSessionsAndIdeKeys := by
  unfold Obligations.SpdmSessionsAndIdeKeys
  refine ⟨?sessions, ?keys⟩
  case sessions =>
    intro s sid x hstill hlife hsession hreach ans t0 t
    refine ⟨fun root hopening => ⟨fun hanchor => ?finish, fun hanchor => ?wrongAnchor, ?failed⟩, fun hopen => ?established,
      next_eq (spdmRun_ok hreach hstill (.inl hlife)), next_eq (spdmRun_ok hreach hstill (.inl hlife)), fun hmissed => ?ends, fun hnone => ?misses⟩
    case finish =>
      exact next_eq ((spdmFinish_handshake hsession hreach hstill hlife hopening).trans (congrArg (s.announce · x.sideband) (if_pos hanchor)))
    case wrongAnchor =>
      exact next_eq ((spdmFinish_handshake hsession hreach hstill hlife hopening).trans (congrArg (s.announce · x.sideband)
        (if_neg (Bool.not_eq_true _ ▸ hanchor))))
    case failed =>
      exact next_eq ((spdmFinish_handshake hsession hreach hstill hlife hopening).trans (congrArg (s.announce · x.sideband)
        (if_neg Bool.false_ne_true)))
    case established =>
      have inside (act : State → State) : s.inSession sid false act = s.announce (act t) x.sideband :=
        inSession_ok hsession hreach hstill (.inl hlife) hopen
      exact ⟨next_eq (inside _), next_eq (inside _), next_eq (inside _), fun sub hversion =>
        next_eq ((inside _).trans (congrArg (s.announce · x.sideband) (if_pos hversion)))⟩
    case ends => exact next_eq (by simp only [State.spdmMiss, hsession, hmissed, if_true])
    case misses =>
      have hfew : ¬ 1 ≤ x.misses := by omega
      exact next_eq (by simp only [State.spdmMiss, hsession, hfew, if_false])
  case keys =>
    intro s sid stream keySet sub dir x hstill hlife hsession hreach hopen hstream hset hsub hdir ans t k
    have inside (act : State → State) : s.inSession sid false act = s.announce (act t) x.sideband :=
      inSession_ok hsession hreach hstill (.inl hlife) hopen
    have hkey : ideKey stream keySet sub dir = some k := if_pos ⟨hstream, hset, hsub, hdir⟩
    refine ⟨fun rid addrs hfew hunused => ?program, fun hloaded => ?go⟩
    case program =>
      have hunused' : ¬ (t.ideAt stream).going.contains k = true := Bool.not_eq_true _ ▸ hunused
      refine next_eq ((inside _).trans (congrArg (s.announce · x.sideband) ?_))
      simp only [hkey, Nat.not_lt.mpr hfew, hunused', Bool.false_eq_true, if_false]
    case go =>
      have hloaded' : (t.ideAt stream).keys.contains k = true := hloaded
      refine next_eq ((inside _).trans (congrArg (s.announce · x.sideband) ?_))
      simp only [hkey, hloaded', if_true]

/-- Settles O53: a TDISP request whose conditions hold is answered, or changes the state of the interface. -/
theorem tdispRequestsRun : Obligations.TdispRequestsRun := by
  unfold Obligations.TdispRequestsRun
  intro s sid b x hstill hlife hsession hreach hopen hbay hfn ans t
  have answers {act : State → State} {u : State} (hact : act t = u) : s.tdisp sid b act = s.announce u x.sideband :=
    hact ▸ tdisp_ok hsession hreach hstill hlife hopen hbay hfn
  refine ⟨next_eq (answers rfl), next_eq (answers rfl), fun stream hlockable => ?lock, fun off len hlocked hoff => ?report, next_eq (answers rfl),
    fun nonce hlocked hquiet hnonce => ?start, fun hused hquiet => ?stop, fun hunlocked hquiet => ?stopped⟩
  case lock => exact next_eq (answers (if_pos hlockable))
  case report =>
    have hlocked' : ¬ t.locked b = false := by simp [hlocked]
    exact next_eq (answers ((if_neg hlocked').trans (if_neg (Nat.not_le.mpr hoff))))
  case start =>
    have hready : ¬ ((t.bayAt b).tdi ≠ .locked ∨ t.bayBusy b = true) := by simp [hlocked, hquiet]
    exact next_eq (answers ((if_neg hready).trans (if_neg (not_not_intro hnonce))))
  case stop => exact next_eq (answers ((if_neg hused).trans (if_neg (Bool.not_eq_true _ ▸ hquiet))))
  case stopped => exact next_eq (answers ((if_pos hunlocked).trans (if_neg (Bool.not_eq_true _ ▸ hquiet))))

end
